-- ==== Sys2Proof/Word.lean ====
section
/-! DEFINITION. The word types of the model: bytes, registers, lines. -/

namespace Sys2Proof

/-- One byte (Table SCOPE-1). -/
abbrev Byte := BitVec 8
/-- A 32-bit register (R6). -/
abbrev W32 := BitVec 32
/-- A 64-bit register, a work register of a context (R6, R156). -/
abbrev W64 := BitVec 64
/-- The 64 bytes of a line, byte i at bits [8i+7:8i] (R3, R5). -/
abbrev LineBits := BitVec 512
/-- A symbol found wrong: its index and the error pattern it carries (R111, R253). -/
abbrev SymErr := Nat × Byte

end Sys2Proof
end

