-- ==== Sys2Proof/Syntax.lean ====
section
/-! DEFINITION. The commands of the block: one constructor of `Instr` for each row of spec/opcode_table.json,
and the records of operands they carry. -/

namespace Sys2Proof

/-- The header of a REQ message (Table LINE-4), with its sender. The opcode is the command's. -/
structure Req where
  agent    : Nat
  txid     : BitVec 12
  stream   : BitVec 8
  size     : BitVec 4
  pgc      : Bool
  laddr    : BitVec 46
  offs     : BitVec 6
  deadline : BitVec 32
  deriving DecidableEq, Repr

/-- A WBK message: its header (Table LINE-4 as changed for WBK), mask and data slots (Table LINE-5). -/
structure Wbk where
  agent    : Nat
  txid     : BitVec 12
  laddr    : BitVec 46
  deadline : BitVec 32
  ptl      : Bool
  fog      : Bool
  bmask    : BitVec 64
  data     : LineBits
  deriving DecidableEq, Repr

/-- A DAT message from an agent (Table LINE-8): DatH to the home, or DatS, DatE or DatM forwarded to `dest`. -/
structure Dat where
  agent    : Nat
  htid     : BitVec 13
  txid     : BitVec 12
  dest     : BitVec 5
  fog      : Bool
  deadline : BitVec 32
  data     : LineBits
  deriving DecidableEq, Repr

/-- MetaValue of a CXL request in Meta0-State (R46). -/
inductive MetaValue where
  | invalid | anyV | shared
  deriving DecidableEq, Repr

/-- SnpType of a CXL request with MetaField No-Op (R46). -/
inductive SnpType where
  | noOp | snpData | snpCur | snpInv
  deriving DecidableEq, Repr

/-- A CXL M2S Req message (Table LINE-12). `meta0` is 1 when MetaField is Meta0-State. -/
structure M2SReq where
  agent : Nat
  tag   : BitVec 12
  laddr : BitVec 46
  meta0 : Bool
  metaV : MetaValue
  snp   : SnpType
  deriving DecidableEq, Repr

/-- A CXL M2S RwD message (R47): data, byte enables (MemWrPtl), poison. -/
structure M2SRwD where
  agent  : Nat
  tag    : BitVec 12
  laddr  : BitVec 46
  metaV  : MetaValue
  be     : BitVec 64
  poison : Bool
  data   : LineBits
  deriving DecidableEq, Repr

/-- A row that failed a self-test or a spare test (R135): bank, row (16,384 + i for spare row i) and step. -/
structure BistFail where
  bank : Nat
  row  : Nat
  step : Nat
  deriving DecidableEq, Repr

/-- An upset of a control structure: symbols of one stored sheet way that it has made wrong (R111); or, with `bank` 32 + n, bits
of structure n of Table FAULT-10 (3 latent table, 4 blank map, 5 fill bitmap, 6 remap table, 7 header, 8 configuration, 9
collector) at the index `set`, where the patterns of `errs` hold as many ones as bits are wrong (R334, R335). -/
structure Upset where
  bank : Nat
  set  : Nat
  way  : Nat
  errs : List SymErr
  deriving DecidableEq, Repr

/-- The OPER field of a rule (Table RULE-1, R179): I, D, A and bits [17:0]. -/
structure Oper where
  imm : Bool
  d   : BitVec 4
  a   : BitVec 4
  b   : BitVec 18
  deriving DecidableEq, Repr

/-- What a rank reports at an MR4 poll (R239): its code, and what the DDR5 standard makes of the code. -/
structure RankRate where
  code : BitVec 3
  hot  : Bool
  crit : Bool
  deriving DecidableEq, Repr

/-- What the DRAM side adds to a training primitive (Table MEM-7): `burst` is the register that MRR reads, or the bits that the
transfer turns in a read of RDCMP or RDCAP; `lanes` the pins whose level CALOOP gets back wrong, or the feedback of WLVL and
RCVEN; `errs` in how many repetitions of CALOOP or RDCMP that happens. -/
structure TrnResult where
  burst : List W32
  lanes : BitVec 40
  errs  : Nat
  deriving DecidableEq, Repr

/-- An island that `ISL_OFF` and `ISL_ON` speak of (R377). -/
inductive Island where
  | port (n : Nat)
  | chan (m : Nat)
  deriving DecidableEq, Repr

/-- The answer of the agents to the recall of a line while a warm reset drains the sheet (Table PWR-5, step 3): the data of
a DatH with its mark, where there is one. A line without an answer meets T_SNOOP. -/
structure Recalled where
  line : Nat
  dat  : Option (Bool × LineBits)
  deriving DecidableEq, Repr

/-- What wakes the block (R354 to R356): a comparator, WRST_N, a message of an agent, or a RUN command. -/
inductive WakeSrc where
  | comparator (i : Nat)
  | wrst
  | message
  | runCmd
  deriving DecidableEq, Repr

/-- One operation of FUSEPROG (R397). -/
inductive FuseOp where
  | key (k : Nat) (digest : BitVec 384)
  | revoke (k : Nat)
  | mfr (v : BitVec 11)
  | testLock
  deriving DecidableEq, Repr

/-- The commands: one constructor per row of spec/opcode_table.json. -/
inductive Instr where
  -- CAP
  | registerWrite (off : BitVec 24) (w64 : Bool) (v : W64)
  | capMisaligned (off : BitVec 24) (w64 we : Bool) (v : W64)
  | capDecode (off : BitVec 24) (w64 we : Bool) (v : W64)
  | shadowWrite (off : BitVec 24) (w64 : Bool) (v : W64)
  | commit
  | commitApply
  | ftLoad
  -- Contact Sheet
  | sheetBistGo
  | sheetBistDone (fails : List BistFail)
  | sheetPeek (bank set way : Nat)
  | sheetPeekDone (errs : List SymErr)
  | softRepairWrite (bank r : Nat) (v : W32)
  | drain (bank : Nat)
  | offline (bank : Nat)
  | online (bank : Nat)
  | cancel (bank : Nat)
  | quiesceComplete (bank : Nat)
  | spareTestDone (bank : Nat) (fails : List BistFail)
  | sheetScrubVisit (ups : List Upset)
  | sheetScrubRecheck (bank set way : Nat) (errs : List SymErr)
  | allocRetry (c : Nat)
  -- requests
  | rds (r : Req)
  | rdx (r : Req)
  | upg (r : Req)
  | rdc (r : Req)
  | wrl (r : Req) (data : LineBits)
  | wrp (r : Req) (bmask : BitVec 64) (data : LineBits)
  | atr (r : Req)
  | atc (r : Req) (value : W64)
  | flush (r : Req)
  | stbV (r : Req)
  | stbD (r : Req)
  | detn (r : Req)
  | detnDispatch (agent : Nat)
  | streamRelease (agent : Nat) (stream : BitVec 8)
  | reqTakeEntry (agent : Nat) (txid : BitVec 12)
  | chainHeadDispatch (line : Nat)
  -- writebacks
  | wbMI (w : Wbk)
  | wbMS (w : Wbk)
  | wbME (w : Wbk)
  | wbOI (w : Wbk)
  | wbOS (w : Wbk)
  -- responses
  | rspI (agent : Nat) (htid : BitVec 13)
  | rspS (agent : Nat) (htid : BitVec 13)
  | rspE (agent : Nat) (htid : BitVec 13)
  | rspMiss (agent : Nat) (htid : BitVec 13)
  | rspFwdI (agent : Nat) (htid : BitVec 13)
  | rspFwdS (agent : Nat) (htid : BitVec 13)
  | rspFwdO (agent : Nat) (htid : BitVec 13)
  | rspDataI (agent : Nat) (htid : BitVec 13)
  | rspDataK (agent : Nat) (htid : BitVec 13)
  | rspWbPending (agent : Nat) (htid : BitVec 13)
  | cmp (agent : Nat) (htid : BitVec 13)
  -- data
  | datH (d : Dat)
  | datS (d : Dat)
  | datE (d : Dat)
  | datM (d : Dat)
  -- CXL
  | memRd (q : M2SReq)
  | memRdData (q : M2SReq)
  | memInv (q : M2SReq)
  | memInvNT (q : M2SReq)
  | memClnEvct (q : M2SReq)
  | memSpecRd (q : M2SReq)
  | memRdFwd (q : M2SReq)
  | memWrFwd (q : M2SReq)
  | memWr (w : M2SRwD)
  | memWrPtl (w : M2SRwD)
  | biRspI (agent : Nat) (htid : BitVec 13)
  | biRspS (agent : Nat) (htid : BitVec 13)
  | biRspE (agent : Nat) (htid : BitVec 13)
  | biConflict (agent : Nat) (tag : BitVec 12)
  | cxlCmpEvent (agent : Nat) (htid : BitVec 13)
  | biDisable (agent : Nat)
  | hdmDecoderWrite (agent dec : Nat) (v : W64)
  | identify (agent : Nat) (opc : BitVec 16)
  | backgroundOperationStatus (agent : Nat) (opc : BitVec 16)
  | getEventRecords (agent : Nat) (opc : BitVec 16)
  | clearEventRecords (agent : Nat) (opc : BitVec 16)
  | getSupportedLogs (agent : Nat) (opc : BitVec 16)
  | getLog (agent : Nat) (opc : BitVec 16)
  | identifyMemoryDevice (agent : Nat) (opc : BitVec 16)
  | getPartitionInfo (agent : Nat) (opc : BitVec 16)
  | getHealthInfo (agent : Nat) (opc : BitVec 16)
  -- the Developer
  | eventDispatch (ts : Nat) (flip : Option SymErr)
  | sheetOpResult (c : Nat)
  | nop (c : Nat) (opc : BitVec 6)
  | add (c : Nat) (o : Oper)
  | sub (c : Nat) (o : Oper)
  | and (c : Nat) (o : Oper)
  | or (c : Nat) (o : Oper)
  | xor (c : Nat) (o : Oper)
  | shl (c : Nat) (o : Oper)
  | shr (c : Nat) (o : Oper)
  | mov (c : Nat) (o : Oper)
  | ldi (c : Nat) (o : Oper)
  | operCmp (c : Nat) (o : Oper)
  | popc (c : Nat) (o : Oper)
  | ffs (c : Nat) (o : Oper)
  | msk (c : Nat) (o : Oper)
  | lds (c : Nat) (o : Oper) (bits : Nat)
  | sts (c : Nat) (o : Oper)
  | slk (c : Nat) (o : Oper)
  | sup (c : Nat) (o : Oper)
  | sall (c : Nat) (o : Oper)
  | sevt (c : Nat) (o : Oper)
  | ltb (c : Nat) (o : Oper)
  | ltw (c : Nat) (o : Oper)
  | ltwHead (line : Nat)
  | lte (c : Nat) (o : Oper)
  | send (c : Nat) (sop : BitVec 6) (args : BitVec 34)
  | snpv (c : Nat) (args : BitVec 34)
  | mrd (c : Nat) (args : BitVec 34)
  | mwr (c : Nat) (args : BitVec 34)
  | mwrd (c : Nat) (args : BitVec 34)
  | fog (c : Nat) (args : BitVec 34)
  | ctr (c : Nat) (args : BitVec 34)
  | stpb (c : Nat) (args : BitVec 34)
  | chain (c : Nat) (tt ft : BitVec 15)
  | await (c : Nat) (ft : BitVec 15)
  | retire (c : Nat) (ft : BitVec 15)
  | trap (c : Nat) (code ft : BitVec 15)
  | stopBathComplete (c : Nat)
  -- memory events and timers
  | mrdc (c : Nat) (errs : List SymErr)
  | mwrc (c : Nat)
  | ldwc (c : Nat) (errs : List (Nat × List SymErr))
  | postedWriteDone (line : Nat)
  | postedWriteResume
  | tSnoop (c agent : Nat)
  | tCmp (c : Nat)
  | parkLong (c : Nat)
  | htidStuck (c : Nat)
  | trapStorm
  | sweep (i : Nat) (ups : List Upset)
  | engEnable
  | engineStart (byRule : Bool)
  | scratchWrite (off : BitVec 24) (w64 : Bool) (v : W64)
  | reelWrite (off : BitVec 24) (w64 : Bool) (v : W64)
  | verify (slotB : Bool)
  | verifyDone (slotB : Bool)
  | switch (slotB : Bool)
  | clear (slotB : Bool)
  | refetchDone
  | refillGo
  | fetchTimeout
  | mreqGo
  | starve (input output : Nat)
  -- memory channels
  | start (m : Nat)
  | pause (m : Nat)
  | resume (m : Nat)
  | pauseTimeout (m : Nat)
  | sref (m : Nat)
  | srefDone (m : Nat)
  | exit (m : Nat)
  | exitInit (m : Nat)
  | darken (m : Nat)
  | batchRecoverEnd (m : Nat)
  | refresh (m rank : Nat)
  | refreshPoll (m : Nat) (rates : List RankRate)
  | alertN (m sc : Nat)
  | caReplayEnd (m sc : Nat) (failed : Bool)
  | mrw (m : Nat) (v : W32)
  | mrr (m : Nat) (v : W32)
  | caloop (m : Nat) (v : W32)
  | wlvl (m : Nat) (v : W32)
  | rcven (m : Nat) (v : W32)
  | wrpat (m : Nat) (v : W32)
  | rdcmp (m : Nat) (v : W32)
  | rdcap (m : Nat) (v : W32)
  | trnDone (m : Nat) (res : TrnResult)
  | delayWrite (m : Nat) (off : BitVec 16) (v : W32)
  | driftWrite (m : Nat) (off : BitVec 16) (v : W32)
  | erasureDeclare (m sc rank : Nat) (v : W32)
  | devThresh (m sc rank dev : Nat)
  | blank (region : BitVec 22)
  | query (region : BitVec 22)
  | fillLine (slot : Nat)
  | patrolScrubRead (m sc : Nat) (errs : List SymErr)
  | scrubRewrite (line : Nat) (errs : List SymErr)
  | copy
  | remapCopySector (errs : List (Nat × List SymErr))
  | load
  -- links
  | linkEnable (n : Nat) (sub : Bool)
  | retrain (n : Nat) (sub : Bool)
  | linkDisable (n : Nat) (sub : Bool)
  | linkRetire (n : Nat) (sub : Bool)
  | linkUp (agent : Nat) (lanes : BitVec 8)
  | trainingTimeout (agent : Nat)
  | recoveryLock (agent : Nat) (lanes : BitVec 8)
  | recoveryTimeout (agent : Nat)
  | flitReceive (agent : Nat) (bytes : List Byte)
  | wedgeReceive (agent : Nat) (bytes : List Byte)
  | lockTimeout (agent : Nat)
  | replay (agent : Nat) (fromSeq : BitVec 12)
  | replayTimeout (agent : Nat)
  | wedgeSend (agent : Nat) (eyes : List (Byte × Byte))
  -- counters and the Light Meter
  | counterWindow
  | ovf (c : Nat)
  | sample (ts c : Nat) (rule : BitVec 15)
  | lmRecord
  -- faults and Safelight state
  | swi
  | safeDone
  | safelightWbk
  -- power, clocks, resets
  | standby
  | standbyEnter
  | standbyTimeout
  | run
  | retain (ans : List Recalled)
  | off (ans : List Recalled)
  | wake (src : WakeSrc)
  | tempHi
  | tempLo
  | vcoreLo
  | vddqLo
  | laneWake
  | timeAlarm
  | thrOn (sensor : Nat) (reading : BitVec 16)
  | thrOff (readings : List (BitVec 16))
  | tjCrit (sensor : Nat) (reading : BitVec 16)
  | droop (detector : Nat)
  | coldReset
  | porstRelease (testen : Bool)
  | warmReset (ans : List Recalled)
  | islandOff (m : Nat)
  | islandOn (m : Nat)
  | islOff (i : Island)
  | islOn (i : Island)
  -- JTAG
  | idcode
  | samplePreload (pins : BitVec 1212)
  | extest (cells : BitVec 1212)
  | extestPulse
  | extestTrain
  | fuseread
  | fuseprog (op : FuseOp)
  | bypass (code : BitVec 8) (tdi : Bool)
  | biEnable (agent : Nat)
  | birspBlockForm (agent : Nat)
  deriving DecidableEq, Repr

end Sys2Proof
end

