-- ==== Sys2Proof/Config.lean ====
section
/-! DEFINITION. What the spec fixes as sizes, and the free values it leaves open. -/

namespace Sys2Proof.Config

/-- Latent-table entries, one context each (Table POOL-1, R155). -/
def latentEntries : Nat := 8192
/-- Writeback slots of each agent (Table LINE-2). -/
def wbSlotsPerAgent : Nat := 16
/-- Contexts in all: transaction contexts, then writeback contexts (R155). -/
def contexts : Nat := 8704
/-- Lines of the posted write buffer (Table POOL-1). -/
def pwbLines : Nat := 2048
/-- Eviction slots (R121). -/
def evictSlots : Nat := 16
/-- Fill slots (R264). -/
def fillSlots : Nat := 16
/-- Reservations of one agent (R76). -/
def resvPerAgent : Nat := 128
/-- The source of the block's own memory operations: a number past those of the contexts (R232). -/
def blockSource : Nat := 8704
/-- Lines a channel TS40 spill may hold in all: 16 sectors of four lines (R103). -/
def ts40Entries : Nat := 64

/-- FREE VALUE. The data bytes and LDW that a decode of seven or more wrong symbols delivers when it lands
on another codeword (R256). Applied to `State.draws`; nothing constrains it. -/
opaque freeLine : Nat → LineBits
/-- FREE VALUE. The LDW of such a decode (R256). -/
opaque freeLdw : Nat → W32
/-- FREE VALUE. The 96 data bits that a decode of four or more wrong sheet symbols delivers when it lands on
another codeword (R112). -/
opaque freeEntry : Nat → BitVec 96
/-- FREE VALUE. Is the activity governor acting at an instant of Fabric Time (R348)? The change of VDD_CORE current that decides it
is no state of the block. Log entry 58. -/
opaque governing : BitVec 64 → Bool

end Sys2Proof.Config
end

