-- ==== Sys2Proof/Machine/State.lean ====
section
/-! DEFINITION. The state of the block as plain data, the ways a step can stop, and the state after reset. -/

namespace Sys2Proof.Machine

/-- A sparse map: keys strictly rising, one value a key. -/
abbrev Sparse (α : Type) := List (Nat × α)

/-- Why a step stops with a fault. -/
inductive Fault where
  /-- Raised by any command whose operand names a unit the block does not have (a bank above 31, a channel
  above 7, an agent above 31 ...): no such command can reach the block. Safe. -/
  | noSuchUnit
  deriving DecidableEq, Repr

/-- Why a step is refused. -/
inductive Refusal where
  /-- Raised by `exec` for a row that has no meaning yet. Safe. -/
  | notModelled (mnemonic : String)
  /-- Raised by a CAP access to the TEST range while factory test mode opens it: the spec gives its registers in
  'Factory test documentation only' (R21, R23, R345). Safe. -/
  | factoryTestUndocumented
  deriving DecidableEq, Repr

/-! ### Names of the protocol -/

/-- Home line-state codes (Table LINE-1). -/
inductive Code where
  | i | s | e | o | m | spilled | blank | fogged | dark
  deriving DecidableEq, Repr

/-- The state a sheet entry records for a line (Table SHEET-3). -/
inductive Lst where
  | i | s | e | o | m | fogged
  deriving DecidableEq, Repr

/-- REQ opcodes (Table LINE-3). -/
inductive ReqOp where
  | rds | rdx | upg | rdc | wrl | wrp | atr | atc | flush | stbV | stbD | detn
  deriving DecidableEq, Repr

/-- WBK opcodes (Table LINE-3). -/
inductive WbOp where
  | mi | ms | me | oi | os
  deriving DecidableEq, Repr

/-- Snoop answers (Table LINE-3). -/
inductive RspOp where
  | rspI | rspS | rspE | miss | fwdI | fwdS | fwdO | dataI | dataK | wbPending
  deriving DecidableEq, Repr

/-- Snoops (Table LINE-3). -/
inductive SnpOp where
  | i | fs | fx | h | c
  deriving DecidableEq, Repr

/-- Completions without data (Table LINE-3). -/
inductive CplOp where
  | cmpO | cmpW | cmpWb | cmpB
  deriving DecidableEq, Repr

/-- DAT opcodes (Table LINE-3). -/
inductive DatOp where
  | s | e | m | i
  deriving DecidableEq, Repr

/-- Completion status (Table LINE-9). -/
inductive Status where
  | ok | zero | fogged | errAddr | errOpc | errField | scFail
  deriving DecidableEq, Repr

/-- Line data with its poison mark. -/
structure LineData where
  data : LineBits
  fog  : Bool
  deriving DecidableEq, Repr

/-- Four like things, one for each line of a sector. -/
structure Quad (α : Type) where
  q0 : α
  q1 : α
  q2 : α
  q3 : α
  deriving DecidableEq, Repr

/-- A valid Contact Sheet entry (Table SHEET-2). -/
structure Entry where
  tag   : Nat
  lst   : Quad Lst
  own   : Quad Nat
  sv    : BitVec 32
  tray  : Nat
  age   : Nat
  spill : Bool
  deriving DecidableEq, Repr

/-! ### Requests, writebacks and messages sent -/

/-- How a CXL host's request is to be completed (Table LINE-12, R50). -/
structure CxlForm where
  tag   : BitVec 12
  meta0 : Bool
  write : Bool
  deriving DecidableEq, Repr

/-- Where a REQ stands that a port has taken (R53, R83, R142, R207, R212, R406). -/
inductive Place where
  | stream             -- held for the order of its stream
  | entry              -- held for want of a free latent-table entry
  | bank               -- held because its sheet bank is in QUIESCE, OFFLINE or FAILED
  | engine             -- held because the block does not dispatch yet
  | bath               -- a fifth stop bath, held until one completes
  | detn               -- a DetN waiting for its dispatch conditions
  | chain              -- a waiter in its line's wait chain
  | window             -- served by a tray's window; its CMP is awaited (R313, R44)
  | begun (c : Nat)    -- its transaction runs in context c
  deriving DecidableEq, Repr

/-- A REQ in a request buffer, from its arrival until its TXID is free again. -/
structure Pend where
  seq       : Nat
  op        : ReqOp
  req       : Req
  bmask     : BitVec 64
  data      : LineBits
  value     : W64
  line      : Nat
  tray      : Option Nat
  deadline  : BitVec 32
  place     : Place
  /-- The status of a REQ that the port completes itself when its turn in the stream comes (R207). -/
  portCpl   : Option Status
  /-- Its completion has been sent (R213). -/
  processed : Bool
  cxl       : Option CxlForm
  /-- The written data is poisoned: an RwD, or a CXL-G5 write, with its poison bit (R47, R302). -/
  fog       : Bool
  /-- A commit has taken away the places it resolved at arrival while it waited in its chain (R87). -/
  lost      : Bool
  deriving DecidableEq, Repr

/-- What a writeback slot's WBK is doing (R54, R82, R88, R142, R340). -/
inductive WbPlace where
  | txn                -- it holds the line in its own writeback transaction
  | absorbed (c : Nat) -- applied to the transaction in context c (R88)
  | joined (c : Nat)   -- among the pending events of context c, not applied yet (R82, R405)
  | waiting            -- waits for its bank, for the handover of its line, or for SAFE_DONE
  | full               -- a write-through that finds all 16 posted lines of its host in use (R47)
  deriving DecidableEq, Repr

/-- A writeback slot in use. -/
structure WSlot where
  agent    : Nat
  txid     : BitVec 12
  op       : WbOp
  ptl      : Bool
  fog      : Bool
  bmask    : BitVec 64
  data     : LineBits
  line     : Nat
  tray     : Nat
  deadline : BitVec 32
  seq      : Nat
  place    : WbPlace
  /-- The memory write of this writeback has completed under R70. -/
  written  : Bool
  /-- Its CmpWb has been sent; the slot still keeps the data for the absorbing transaction (R89). -/
  acked    : Bool
  /-- Its CmpWb went out before the writer was snooped again: the slot is held until the RETIRE (R89). -/
  hold     : Bool
  /-- The status its CmpWb will carry. -/
  status   : Status
  cxl      : Option CxlForm
  deriving DecidableEq, Repr

/-- Back-Invalidate snoops of a CXL host (Table LINE-13). -/
inductive BiOp where
  | inv | data | cur
  deriving DecidableEq, Repr

/-- The load that a CXL port reports in its S2M messages (R306). -/
inductive DevLoad where
  | light | optimal | moderate | severe
  deriving DecidableEq, Repr

/-- Messages the block sends: ZCL messages by class, CXL S2M messages, link-layer units, mailbox answers. -/
inductive TxMsg where
  | snp (agent : Nat) (op : SnpOp) (htid : Nat) (rqa : Nat) (rqtx : BitVec 12) (fgr : Nat) (laddr : BitVec 46)
      (deadline : BitVec 32)
  | rsp (agent : Nat) (op : CplOp) (htid : Nat) (txid : BitVec 12) (status : Status)
  | dat (agent : Nat) (op : DatOp) (htid : Nat) (txid : BitVec 12) (fog : Bool) (status : Status)
      (deadline : BitVec 32) (data : LineBits)
  | memData (agent : Nat) (tag : BitVec 12) (poison nxm : Bool) (load : DevLoad) (data : LineBits)
  | ndr (agent : Nat) (tag : BitVec 12) (grant : Option DatOp) (load : DevLoad)
  | biConflictAck (agent : Nat) (tag : BitVec 12) (load : DevLoad)
  | biSnp (agent : Nat) (op : BiOp) (htid : Nat) (laddr : BitVec 46)
  | mailbox (agent : Nat) (opc : BitVec 16) (supported : Bool) (payload : List Nat)
  | wedge (agent : Nat) (bytes : List Byte)
  | flit (agent : Nat) (bytes : List Byte)
  deriving DecidableEq, Repr

/-! ### Contexts -/

/-- What a transaction still awaits (R177, R101). `covered` is R177's mark; `timer` says T_SNOOP runs (R97). -/
inductive Owed where
  | ans (agent : Nat) (op : SnpOp) (covered : Bool) (timer : Bool)
  | wbk (agent : Nat) (timer : Bool)
  | dath (agent : Nat)
  | fwd (agent : Nat)
  | cmp
  | mrdc
  | mwrc
  | ldwc
  deriving DecidableEq, Repr

/-- Table DEV-5, STATE; a FREE context is not listed. -/
inductive CtxState where
  | run | parked | quarantined
  deriving DecidableEq, Repr

/-- What a context was bound for. -/
inductive CtxKind where
  | req (op : ReqOp)
  | wb (slot : Nat)
  | evict (slot line : Nat)
  | mgmt (hasLine : Bool)
  /-- A sweep has reached the entry of a way, named by its key (Table DEV-2). -/
  | sweep (key : Nat)
  /-- An agent has detached (Table DEV-2). -/
  | detach
  | back
  deriving DecidableEq, Repr

/-- Where the tables of chapters 02 to 04 have brought a transaction. -/
inductive Phase where
  | begin     -- bound, not acted on yet
  | snoops    -- snoop answers are awaited
  | owner     -- the second snoop of R61 or R88 is awaited
  | memory    -- memory data is awaited
  | ldw       -- the LDW read of R28 is awaited
  | alloc     -- an allocation waits (R121)
  | space     -- a write waits for a posted-write-buffer line or a fill slot (R70, R264)
  | write     -- a memory write is awaited
  | cmp       -- the completion has been sent, the CMP or an answer is awaited
  | bath      -- a stop bath handed to the block (R191)
  | detach    -- a DetN whose sweep runs (R95)
  deriving DecidableEq, Repr

/-- An event that waits for its context (R153) or its issue slot (R149): Table DEV-6. -/
structure Event where
  ts   : Nat
  ctx  : Nat
  typ  : BitVec 6
  ea   : W64
  es   : BitVec 5
  ed   : BitVec 32
  ex   : W64
  /-- The code an LDWC carries (R150). -/
  code : Option (BitVec 4)
  deriving DecidableEq, Repr

/-- The rule a context has in flight: its address, its word as fetched (R171), its GUARD, what it read at OPR, and how far it has
come: 0 its OPER comes next, 1 its SEND, 2 its STEER (R172). -/
structure InFlight where
  addr  : BitVec 15
  word  : BitVec 128
  guard : Bool
  stage : Nat
  sv    : BitVec 32
  so    : BitVec 20
  ss    : BitVec 22
  code  : BitVec 4
  deriving DecidableEq, Repr

/-- What a stalled context goes on with once its fetch line is repaired (R162): its dispatch, a rule, or a constant. -/
inductive Fetch where
  | dispatch (index : Nat)
  | rule (addr : Nat)
  | const
  deriving DecidableEq, Repr

/-- A result on its way to a context (R173): where it goes, what SV, SO, SS become, and the CODE. -/
structure OpRes where
  d     : BitVec 4
  val   : W64
  sheet : Option (BitVec 32 × BitVec 20 × BitVec 22)
  code  : Option (BitVec 4)
  deriving DecidableEq, Repr

/-- A sheet operation of a rule that waits for an entry (R121, R183, R190). -/
inductive AllocJob where
  | fog (line : Nat) (cause : Nat)
  | sall (bits sv : BitVec 32) (spill : Bool)
  | sup (l : Lst) (own : Nat) (extra : BitVec 32)
  deriving DecidableEq, Repr

/-- Data of the transaction's most recent memory read (R188); `early` marks a speculative read (R66). -/
structure MemBuf where
  line  : Nat
  /-- The place of the read in the order of memory operations, by which its completion is known (R232). -/
  seq   : Nat
  early : Bool
  got   : Option LineData
  uncor : Bool
  ldw   : W32
  used  : Bool
  deriving DecidableEq, Repr

/-- A transaction context or writeback context that is not FREE: Table DEV-5 and the record of R177. -/
structure Ctx where
  kind     : CtxKind
  st       : CtxState
  w        : List W64
  ea       : W64
  es       : BitVec 5
  ed       : BitVec 32
  ex       : W64
  sv       : BitVec 32
  so       : BitVec 20
  ss       : BitVec 22
  code     : BitVec 4
  variant  : BitVec 3
  reelB    : Bool
  /-- The time-slice channel of the event last dispatched (Table DEV-1). -/
  ts       : Nat
  chain    : Nat
  parkedAt : W64
  inFlight : Option InFlight
  /-- The last rule entered: the one that parked the context, while it is parked. -/
  lastRule : BitVec 15
  stall    : Option Fetch
  opRes    : Option OpRes
  job      : Option AllocJob
  events   : List Event
  -- the transaction record
  agent    : Option Nat
  txid     : BitVec 12
  reqOpc   : BitVec 6
  deadline : BitVec 32
  cmpIn    : Bool
  cplSent  : Bool
  owed     : List Owed
  -- fixed per transaction (R310), and the request's payload
  tray     : Option Nat
  early    : Bool
  req      : Option Pend
  -- lines held
  line     : Option Nat
  lines    : List Nat
  -- buffers
  hbuf     : Option LineData
  /-- The agent whose snoop has claimed the DatH buffer and whose data has not come (R187). -/
  hclaim   : Option Nat
  mem      : Option MemBuf
  wbd      : Option Nat
  /-- The data of the writeback last absorbed, and its writer's agent number and TXID (R88, R175, R188). -/
  wbData   : Option LineData
  writer   : Option (Nat × BitVec 12)
  /-- An absorbed writeback with PTL 1 whose merge waits for the line's current data (R72, R88). -/
  mergeWb  : Option Nat
  fwdPass  : Bool
  /-- Agents whose DatH, or whose forwarded DAT, has come ahead of the response that announces it (R42, R43). -/
  dathIn   : List Nat
  fwdIn    : List Nat
  /-- The port at which crossbar staging space is reserved for a forwarded line (R33). -/
  staging  : Option Nat
  cmpTimer : Bool
  /-- Where STPB sends the CmpB: agent and TXID (R191). -/
  bathTo   : Option (Nat × BitVec 12)
  -- the tables' progress
  byRule   : Bool
  phase    : Phase
  ansOp    : Option RspOp
  snooped  : List Nat
  status   : Status
  /-- A timer has expired: the transaction ends without what is still owed (R99, R101). -/
  expired  : Bool
  /-- The AtC has consumed its reservation (R77). -/
  resvOk   : Bool
  /-- Wrong symbols of an LDW read that waits for its entry to be allocated (R121, R130). -/
  ldwErrs  : List (Nat × List SymErr)
  deriving DecidableEq, Repr

/-- Who holds a line latent. -/
inductive Holder where
  | ctx (c : Nat)
  /-- Between a RETIRE and the dispatch of the chain's head (R85, R86): the entry handed over, if any, and the
  code the retiring transaction recorded. -/
  | handover (htid : Option Nat) (code : Code)
  deriving DecidableEq, Repr

/-- A waiter of a wait chain: a REQ of the request buffers, a context queued by LTW, or the management request. -/
inductive Who where
  | req (seq : Nat)
  | ctx (c : Nat)
  | mreq
  deriving DecidableEq, Repr

/-- One place in a wait chain; `passed` counts later arrivals placed ahead of it (R84). -/
structure Waiter where
  who      : Who
  agent    : Option Nat
  stream   : BitVec 8
  deadline : BitVec 32
  passed   : Nat
  deriving DecidableEq, Repr

/-! ### Memory side -/

/-- Who placed a line in the posted write buffer, for R215. -/
inductive Placer where
  | req (agent seq : Nat)
  | wbk (agent seq : Nat)
  | block
  deriving DecidableEq, Repr

/-- A line of the posted write buffer (R70, R71). -/
structure PwbLine where
  line     : Nat
  data     : LineBits
  fog      : Bool
  ldw      : W32
  close    : Bool
  src      : Nat
  placer   : Placer
  deadline : BitVec 32
  /-- It was acknowledged as it entered (R70, R210). -/
  acked    : Bool
  /-- As it enters it clears the reservations of its granule: it places bytes of a store (R78). -/
  clears   : Bool
  /-- Its place in the order in which operations reached the memory side (R232). -/
  seq      : Nat
  deriving DecidableEq, Repr

/-- A memory write that waits for a posted-write-buffer line or a fill slot. With `keep` it is an MWRD: it takes the line's
current data and its mark as it enters, which waits for the channel to serve the read (R123, R226). -/
structure PwbReq where
  ctx  : Nat
  ent  : PwbLine
  keep : Bool
  deriving DecidableEq, Repr

/-- A memory read under way (R232). -/
structure MemOp where
  ctx    : Nat
  line   : Nat
  early  : Bool
  sector : Bool
  close  : Bool
  /-- An early read whose transaction has RETIREd: it is discarded when it completes (R66, R189). -/
  orphan : Bool
  /-- Its place in the order in which operations reached the memory side (R232). -/
  seq    : Nat
  deriving DecidableEq, Repr

/-- A reservation (R76), by granule base and size in lines. -/
structure Resv where
  agent : Nat
  tray  : Nat
  base  : Nat
  size  : Nat
  deriving DecidableEq, Repr

/-- A fill slot: its region, the lines its bitmap marks filled, and the next line of the walk (R264, R265). -/
structure Fill where
  region : Nat
  filled : List Nat
  walk   : Nat
  deriving DecidableEq, Repr

/-- An eviction slot (R121): what it evicts, how (a recall, empty LDWs for an idle entry, or a spill with its SEQ),
and how many of the sector's four lines are still to do. -/
structure EvSlot where
  sector  : Nat
  entry   : Entry
  recalls : Bool
  idle    : Bool
  seq     : BitVec 4
  left    : Nat
  deriving DecidableEq, Repr

/-- What a sweep on TS42 does (R94, R141, R300). -/
inductive SweepKind where
  | detach (agent : Nat) (vol : Bool) (detn : Option Nat)
  | tray (agent tray : Nat)
  | window (agent : Nat)
  | drain (bank : Nat)
  deriving DecidableEq, Repr

/-- A sweep in progress: the next set it visits, whether a line has been fogged under Table RACE-6 (R95), whether its DETACH
event has been posted, and whether the SWEEP events of that set have been (Table DEV-2). -/
structure Sweep where
  kind   : SweepKind
  next   : Nat
  fogged : Bool
  posted : Bool
  raised : Bool
  deriving DecidableEq, Repr

/-- A removal of an agent from a tray that R410 still guards. -/
structure Removal where
  tray    : Nat
  agent   : Nat
  swept   : Bool
  /-- 0: no pool lap has started since; 1: one has started; 2: one that started since has completed. -/
  lap     : Nat
  deriving DecidableEq, Repr

/-- Both conditions of R410 hold. -/
def Removal.over (r : Removal) : Bool := r.swept && decide (r.lap = 2)

/-- Commands a controller issues to its DRAM (R234, R238). -/
inductive DramOp where
  | act | pre | rd | rda | wr | wra | ref
  deriving DecidableEq, Repr

/-- A command in the retry buffer of a subchannel: when it was issued, and where (R248). -/
structure DramCmd where
  ft   : W64
  op   : DramOp
  rank : Nat
  bank : Nat
  row  : Nat
  col  : Nat
  deriving DecidableEq, Repr

/-- The scheduler of a subchannel: the bank that its rotation looks at first, whether a batch of writes drains, the last 64
commands it issued, oldest first, and whether they are being issued again (R234, R235, R248, R249). -/
structure Sched where
  ptr    : Nat
  drain  : Bool
  retry  : List DramCmd
  replay : Bool
  deriving DecidableEq, Repr

/-- What a memory channel holds beyond its registers. -/
structure Chan where
  /-- The primitive that runs: its OP and the MC_TRN_CTRL value that started it (R240). -/
  trn      : Option (Nat × W32)
  recover  : Bool
  sched0   : Sched
  sched1   : Sched
  cool     : Nat
  tcrit    : Bool
  /-- The drift offsets in effect, by subchannel, rank and register (R243). -/
  drift    : Sparse W32
  /-- Mode registers that MRW and partial self-refresh have written, by subchannel, rank, device and address. -/
  mode     : Sparse Byte
  openRow  : Sparse Nat
  pos0     : Nat
  pos1     : Nat
  lap0     : Bool
  lap1     : Bool
  lapStart : W64
  lapInPool : Bool
  thresh   : List Nat
  deriving DecidableEq, Repr

/-! ### Links -/

/-- The equalisation of one lane toward the far side (R293): the eye height at the last request, that request, the
direction that last raised the height, and the wedges sent since. A direction is its tap (true: post-cursor) and
whether it increases. -/
structure LaneEq where
  height : Nat
  last   : Option (Bool × Bool)
  raised : Option (Bool × Bool)
  since  : Nat
  deriving DecidableEq, Repr

/-- What a link's sender still owes a flit position: a CTRL REPLAY, or a flit to send again (R283, R296). -/
inductive FlitJob where
  | replay (fromSeq : BitVec 12)
  | again (seq : BitVec 12) (slots : List (BitVec 128))
  deriving DecidableEq, Repr

/-- What a link and its agent hold beyond the port's registers. -/
structure Link where
  attached  : Bool
  vol       : Bool
  epoch     : BitVec 8
  /-- Advances of the epoch since the start of the last patrol-scrub lap that has completed, and since the start of
  the current one (R96). -/
  adv       : Nat
  advCur    : Nat
  /-- The receiver: locked, the last SEQ delivered, its ACK, the SEQ it discards up to, misses and CRC failures in a
  row, positions since each candidate wedge, and REPLAY requests for one FROM (R290, R291, R295, R296). -/
  lock      : Bool
  rxSeq     : BitVec 12
  rxAck     : BitVec 12
  want      : Option (BitVec 12)
  misses    : Nat
  crcRun    : Nat
  candidates : List Nat
  tries     : Nat
  /-- Slots received of a message that is not whole yet (R284). -/
  slots     : List (BitVec 128)
  /-- The sender: the next SEQ, the flits not acknowledged, and the messages whole in the port's egress staging that have not
  left it yet (R218, R284, R295, R306). -/
  txSeq     : BitVec 12
  replayBuf : List (BitVec 12 × List (BitVec 128))
  txq       : List TxMsg
  /-- Flit positions used since the last wedge, and what waits for one (R289, R296). -/
  pos       : Nat
  jobs      : List FlitJob
  /-- The transmitter's scramblers by logical lane, and the PAM4 symbols of the last position by port lane (R286). -/
  scr       : Sparse (BitVec 23)
  wire      : Sparse (List (BitVec 2))
  /-- Credits, counted modulo 2^16 (R287, R288, R306): REQs and WBKs received, credits granted for each, snoop credits granted
  by the agent, and snoops sent; of a CXL host M2S Req and RwD messages, and BISnps. -/
  rxReqs    : Nat
  rxWbks    : Nat
  cumReq    : Nat
  cumWbk    : Nat
  cumSnp    : Nat
  sentSnp   : Nat
  /-- Wedges sent, and FT and arrival of the last good wedge received (R289, R292). -/
  wnum      : BitVec 16
  echoFt    : W64
  echoAt    : W64
  /-- Transmitter taps by lane, requests to apply at the next wedge, and the block's own requests (R293, R400). -/
  taps      : Sparse (Nat × Nat)
  eqIn      : List (Nat × Byte)
  laneEq    : Sparse LaneEq
  /-- Bytes corrected by lane since the last wedge sent (Table LINK-5). -/
  laneErrs  : Sparse Nat
  /-- The next telemetry fragment (R322). -/
  lmFrag    : Nat
  /-- The recovery under way follows a RETRAIN, which may widen the link (R298). -/
  widen     : Bool
  deriving DecidableEq, Repr

/-! ### The rest -/

/-- The CAP's answer to the last access (Table INTG-7). -/
structure CapResp where
  ack   : Bool
  err   : Bool
  rdata : W64
  deriving DecidableEq, Repr

/-- A fused key slot (Table INTG-10). -/
structure KeySlot where
  digest : BitVec 384
  prog   : Bool
  revoke : Bool
  deriving DecidableEq, Repr

/-- The fuse map (Table INTG-10): the main rows each bank's spares replace from index 0 upward. -/
structure Fuses where
  rows     : Sparse (List Nat)
  keys     : Quad KeySlot
  mfr      : BitVec 11
  testLock : Bool
  deriving DecidableEq, Repr

/-- The test access port (R395). -/
structure Tap where
  ir  : BitVec 8
  bsr : BitVec 1212
  byp : Bool
  tdo : List Bool
  deriving DecidableEq, Repr

/-- The in-band window of a tray (R313, R314). -/
structure Window where
  word1 : W64
  snapFt : W64
  snap  : Sparse W64
  deriving DecidableEq, Repr

/-- The Light Meter (R319 to R322): the RECNUM of the next record, the last record, and the lines of one that are still
to be written to the ring. -/
structure LightMeter where
  recnum  : BitVec 32
  record  : List Host.Cell
  hasRec  : Bool
  writing : List (Nat × LineBits)
  deriving DecidableEq, Repr

/-- Safelight bookkeeping (R339, R344). -/
structure Safe where
  /-- The contexts bound at entry, each with the row of Table FAULT-7 its state at entry selects. -/
  bound    : List (Nat × Nat)
  answered : Nat
  fogged   : Nat
  entrySeq : BitVec 32
  deriving DecidableEq, Repr

/-- The CAP and the registers' configuration side (R6 to R15, R391 to R394, R410). -/
structure CapSide where
  resp       : CapResp
  commitBusy : Bool
  heldShadow : List (Nat × Bool × W64)
  removals   : List Removal
  parity     : List Nat
  /-- The channel island command that runs: its channel, and whether it powers the island up (R378). -/
  islCmd     : Option (Nat × Bool)
  deriving DecidableEq, Repr

/-- Fabric time, pins, fuses and the test port: the always-on side (R202, R345, R358, R395, R396). -/
structure AonSide where
  ft          : W64
  /-- The fraction of a unit of FT, in units of 1/1,600,000,000. -/
  ftFrac      : Nat
  alarmArmed  : Bool
  porstLow    : Bool
  /-- AON causes that trip while the core is stopped, by bit (R358). -/
  latched     : Nat
  /-- The current steps that islands still have to take, one element a step, oldest first, each with the number of its
  operation; and the FT units that must pass before the next (R347). -/
  stepQ       : List Nat
  stepWait    : Nat
  pgate       : Bool
  standbyWait : Bool
  /-- Channels that STANDBY has put into SREF (R354). -/
  standbyChans : List Nat
  testMode    : Bool
  fuses       : Fuses
  fuseCopy    : Fuses
  tap         : Tap
  deriving DecidableEq, Repr

/-- The Contact Sheet and what works on it (R107 to R143). -/
structure SheetSide where
  ways      : Sparse Entry
  errs      : Sparse (List SymErr)
  seqCtr    : BitVec 4
  evSlots   : Sparse EvSlot
  scrubSet  : Nat
  scrubLapStart : W64
  /-- Sets ahead of the scrubber that a sweep has visited in this lap, by bank; bank 32 stands for every bank (R136). -/
  scrubSeen : List (Nat × Nat)
  recheck   : List (Nat × Nat)
  overQuota : List Nat
  bistRun   : Bool
  spareTest : List Nat
  sweeps    : List Sweep
  /-- Lines a block event has made FOGGED whose entry could not be allocated yet (R121), with their trays. -/
  fogWait   : List (Nat × Nat)
  /-- A peek that SHEET_PEEK.GO asked for is awaited. -/
  peek      : Bool
  deriving DecidableEq, Repr

/-- The Developer: its contexts, issue slots, scratch and reel (R145 to R201). -/
structure DevSide where
  running    : Bool
  dispatched : Bool
  byRule     : Bool
  ctxs       : Sparse Ctx
  ready      : List Event
  slotBase   : Nat
  scratch    : Sparse W64
  reelA      : List Host.Cell
  reelB      : List Host.Cell
  lineCrc    : Sparse W32
  misMatch   : Sparse Nat
  /-- Contexts that wait for a fetch line, with the line's key (R162). -/
  stalled    : List (Nat × Nat)
  /-- Fetch lines whose refetch is under way, oldest first. -/
  refetch    : List Nat
  trapWin    : Nat
  trapCount  : Nat
  /-- When the management request in hand was posted: its deadline. -/
  mreqAt     : BitVec 32
  deriving DecidableEq, Repr

/-- What the home keeps of requests, writebacks and lines (R29, R53, R54, R76, R83, R213). -/
structure HomeSide where
  latent  : Sparse Holder
  chains  : Sparse (List Waiter)
  reqs    : List Pend
  wslots  : Sparse WSlot
  seqNo   : Nat
  bathFog : List (Nat × Nat)
  resv    : List Resv
  deriving DecidableEq, Repr

/-- The memory side (R70, R229, R253, R262 to R275). -/
structure MemSide where
  dram      : List Host.Cell
  ldws      : Sparse W32
  burstErr  : Sparse (List SymErr)
  pwb       : List PwbLine
  pwbWait   : List PwbReq
  memq      : List MemOp
  written   : List Nat
  fills     : Sparse Fill
  chans     : Sparse Chan
  /-- Lines that a scrub read asks to rewrite, with the data and the LDW it found (R269). -/
  rewrites  : Sparse (LineBits × W32)
  poolStart : W64
  poolLaps  : Nat
  /-- How many operations have reached the memory side (R232). -/
  opSeq     : Nat
  deriving DecidableEq, Repr

/-- A rule execution that SAMPLE may record (R318): its time-slice channel, its context, its reel slot and rule, FT and EA. -/
structure RuleRun where
  ts    : Nat
  ctx   : Nat
  reelB : Bool
  rule  : BitVec 15
  ft    : W64
  ea    : W64
  deriving DecidableEq, Repr

/-- Counters, windows and the Light Meter (R313 to R322). -/
structure MeterSide where
  ctrAcc    : Sparse W64
  stats     : Sparse Nat
  /-- The counter that a capture is asked for, and the rule executions since it wrapped, at most 64 (R318). -/
  sampleReq : Option Nat
  runs      : List RuleRun
  windows   : Sparse Window
  lm        : LightMeter
  deriving DecidableEq, Repr

/-- A packet that requests an output of the crossbar (R216): its input and output, its deadline, how many slots it has and has
sent (R218), and what it carries: a message for a port, or a line toward a memory channel. -/
structure Packet where
  input    : Nat
  output   : Nat
  deadline : BitVec 32
  slots    : Nat
  sent     : Nat
  msg      : Option TxMsg
  line     : Option Nat
  deriving DecidableEq, Repr

/-- The crossbar: the packets that request outputs, in the order in which they were raised; the input that holds the grant of
each output (R217); outputs that carry nothing for the rest of the core cycle (R219); the slot of the current core cycle; and
the half slot that time has left over. -/
structure Xbar where
  packets : List Packet
  grants  : Sparse Nat
  mute    : List Nat
  slot    : Nat
  half    : Nat
  deriving DecidableEq, Repr

/-- The whole block. -/
structure State where
  /-- Commands waiting, first in first out (the block form of this model). -/
  pending : List Instr
  /-- Active values of the registers by CAP offset; an unlisted one holds its reset value (R6, R7). -/
  regs    : Sparse W64
  /-- Shadow copies by CAP offset of the active register; an unlisted one holds its reset value (R22). -/
  shadow  : Sparse W64
  cap     : CapSide
  aon     : AonSide
  sheet   : SheetSide
  dev     : DevSide
  home    : HomeSide
  mem     : MemSide
  links   : Sparse Link
  meter   : MeterSide
  safe    : Safe
  xbar    : Xbar
  /-- The messages sent, oldest first; nothing takes them out (log entry 14). -/
  tx      : List TxMsg
  /-- The MODEL's own: choices the spec leaves open, taken from the front (log entry 6). -/
  picks   : List Nat
  /-- The MODEL's own: how many free values have been taken (log entry 7). -/
  draws   : Nat
  deriving DecidableEq, Repr

/-! ### Reset -/

/-- A link after a cold reset: never attached, epoch 0, nothing received (R360, R363, R372). -/
def Link.reset : Link :=
  { attached := false, vol := false, epoch := 0, adv := 0, advCur := 0, lock := false, rxSeq := 0xFFF#12,
    rxAck := 0xFFF#12, want := none, misses := 0, crcRun := 0, candidates := [], tries := 0, slots := [], txSeq := 0,
    replayBuf := [], txq := [], pos := 0, jobs := [], scr := [], wire := [], rxReqs := 0, rxWbks := 0, cumReq := 0, cumWbk := 0, cumSnp := 0,
    sentSnp := 0, wnum := 0, echoFt := 0, echoAt := 0, taps := [], eqIn := [], laneEq := [], laneErrs := [],
    lmFrag := 0, widen := false }

/-- A scheduler with nothing issued. The bank its rotation begins with is bank 0: DESIGN CHOICE, log entry 19. -/
def Sched.reset : Sched := { ptr := 0, drain := false, retry := [], replay := false }

/-- A memory channel after a cold reset. -/
def Chan.reset : Chan :=
  { trn := none, recover := false, sched0 := Sched.reset, sched1 := Sched.reset, cool := 0, tcrit := false, drift := [],
    mode := [], openRow := [], pos0 := 0, pos1 := 0, lap0 := false, lap1 := false, lapStart := 0,
    lapInPool := false, thresh := [] }

/-- A key slot whose fuses are not programmed. DESIGN CHOICE, log entry 3. -/
def KeySlot.blank : KeySlot := { digest := 0, prog := false, revoke := false }

/-- A fuse map with no fuse programmed. DESIGN CHOICE, log entry 3. -/
def Fuses.blank : Fuses :=
  { rows := [], keys := ⟨KeySlot.blank, KeySlot.blank, KeySlot.blank, KeySlot.blank⟩, mfr := 0, testLock := false }

/-- A window in live mode (R314). -/
def Window.live : Window := { word1 := 0, snapFt := 0, snap := [] }

/-- The block right after a cold reset, PORST_N released and the CAP answering: step 5 of Table PWR-6 (R360, R366).
Every register reads its reset value, every array is clear, every region is blank. What the spec leaves open at
reset is named in log entries 2 to 10. -/
def State.reset : State :=
  { pending := [], regs := [], shadow := [],
    cap := { resp := { ack := false, err := false, rdata := 0 }, commitBusy := false, heldShadow := [],
             removals := [], parity := [], islCmd := none },
    aon := { ft := 0, ftFrac := 0, alarmArmed := false, porstLow := false, latched := 0, stepQ := [], stepWait := 0, pgate := false,
             standbyWait := false, standbyChans := [], testMode := false, fuses := Fuses.blank, fuseCopy := Fuses.blank,
             tap := { ir := 0xFF#8, bsr := 0, byp := false, tdo := [] } },
    sheet := { ways := [], errs := [], seqCtr := 0, evSlots := [], scrubSet := 0, scrubLapStart := 0, scrubSeen := [],
               recheck := [], overQuota := [], bistRun := false, spareTest := [], sweeps := [], fogWait := [],
               peek := false },
    dev := { running := false, dispatched := false, byRule := false, ctxs := [], ready := [], slotBase := 0,
             scratch := [], reelA := [], reelB := [], lineCrc := [], misMatch := [],
             stalled := [], refetch := [], trapWin := 0, trapCount := 0, mreqAt := 0 },
    home := { latent := [], chains := [], reqs := [], wslots := [], seqNo := 0, bathFog := [], resv := [] },
    mem := { dram := [], ldws := [], burstErr := [], pwb := [], pwbWait := [], memq := [], written := [],
             fills := [], chans := [], rewrites := [], poolStart := 0, poolLaps := 0,
             opSeq := 0 },
    links := [],
    meter := { ctrAcc := [], stats := [], sampleReq := none, runs := [], windows := [],
               lm := { recnum := 0, record := [], hasRec := false, writing := [] } },
    safe := { bound := [], answered := 0, fogged := 0, entrySeq := 0 },
    xbar := { packets := [], grants := [], mute := [], slot := 0, half := 0 },
    tx := [], picks := [], draws := 0 }

end Sys2Proof.Machine
end

