-- ==== Sys2Proof/Machine/Sparse.lean ====
section
/-! DEFINITION. The operations on sparse maps: keys strictly rising, and no entry equal to what an unlisted key
reads as. Memory (`Host.Cell`s), the register file and the home's tables are such maps. -/

namespace Sys2Proof.Machine

/-- The value listed at a key. -/
def sFind {α : Type} : Sparse α → Nat → Option α
  | [], _ => none
  | (k', v) :: m, k => if k = k' then some v else sFind m k

/-- The value at a key, `d` where none is listed. -/
def sGet {α : Type} (d : α) (m : Sparse α) (k : Nat) : α := (sFind m k).getD d

/-- List a value at a key, in order. -/
def sSet {α : Type} : Sparse α → Nat → α → Sparse α
  | [], k, v => [(k, v)]
  | (k', v') :: m, k, v =>
    if k < k' then (k, v) :: (k', v') :: m
    else if k = k' then (k, v) :: m
    else (k', v') :: sSet m k v

/-- Take a key off the list. -/
def sDel {α : Type} : Sparse α → Nat → Sparse α
  | [], _ => []
  | (k', v') :: m, k => if k = k' then sDel m k else (k', v') :: sDel m k

/-- Write a value over the default `d`: a key that holds `d` is not listed. -/
def sPut {α : Type} [DecidableEq α] (d : α) (m : Sparse α) (k : Nat) (v : α) : Sparse α :=
  if v = d then sDel m k else sSet m k v

/-- Change the value at a key, where one is listed. -/
def sMod {α : Type} (m : Sparse α) (k : Nat) (f : α → α) : Sparse α :=
  match sFind m k with
  | some v => sSet m k (f v)
  | none => m

/-- Change the value at a key, starting from `d` where none is listed. -/
def sUpd {α : Type} [DecidableEq α] (d : α) (m : Sparse α) (k : Nat) (f : α → α) : Sparse α :=
  sPut d m k (f (sGet d m k))

/-- The keys rise strictly. -/
def sOrdered {α : Type} : Sparse α → Bool
  | [] => true
  | [_] => true
  | (k, _) :: (k', v') :: m => decide (k < k') && sOrdered ((k', v') :: m)

/-- The canonical form: keys strictly rising and no entry equal to the default. -/
def sWf {α : Type} [DecidableEq α] (d : α) (m : Sparse α) : Bool :=
  sOrdered m && m.all (fun p => !decide (p.2 = d))

/-- What a byte of memory, or of a reel slot, that nothing has written reads as. DESIGN CHOICE, log entries 8
and 9. -/
def memDefault : Byte := 0

/-- The canonical form of a byte memory. -/
def Memory.wf (m : List Host.Cell) : Bool := sWf memDefault m

/-- Read one byte. -/
def memGet (m : List Host.Cell) (a : Nat) : Byte := sGet memDefault m a

/-- Write one byte. -/
def memPut (m : List Host.Cell) (a : Nat) (b : Byte) : List Host.Cell := sPut memDefault m a b

/-- Read `n` bytes, lowest address first. -/
def memRead (m : List Host.Cell) (a n : Nat) : List Byte := (List.range n).map (fun i => memGet m (a + i))

/-- Write bytes, lowest address first. -/
def memWrite (m : List Host.Cell) : Nat → List Byte → List Host.Cell
  | _, [] => m
  | a, b :: bs => memWrite (memPut m a b) (a + 1) bs

end Sys2Proof.Machine
end

