-- ==== Sys2Proof/Machine/Bits.lean ====
section
/-! DEFINITION. Bit fields, byte order and small list helpers. Bit 0 is the least significant bit of every field,
and multi-byte values are little-endian (R5). -/

namespace Sys2Proof.Machine

/-- The field of `w` bits at bit `lo`, as a number. -/
def fld {n : Nat} (v : BitVec n) (lo w : Nat) : Nat := (v.toNat >>> lo) % 2 ^ w

/-- Bit `i`. -/
def bitOf {n : Nat} (v : BitVec n) (i : Nat) : Bool := v.getLsbD i

/-- A mask of `w` ones at bit `lo`. -/
def maskAt (lo w : Nat) : W64 := BitVec.ofNat 64 ((2 ^ w - 1) <<< lo)

/-- Replace the field of `w` bits at bit `lo`. -/
def setFld (v : W64) (lo w x : Nat) : W64 :=
  (v &&& ~~~(maskAt lo w)) ||| BitVec.ofNat 64 ((x % 2 ^ w) <<< lo)

/-- Replace one bit. -/
def setBit (v : W64) (i : Nat) (b : Bool) : W64 := setFld v i 1 (if b then 1 else 0)

/-- A Bool as a number. -/
def b2n (b : Bool) : Nat := if b then 1 else 0

/-- A number as a 64-bit word. -/
def w64 (n : Nat) : W64 := BitVec.ofNat 64 n

/-- The low 32 bits. -/
def lo32 (v : W64) : W32 := v.setWidth 32

/-- The high 32 bits. -/
def hi32 (v : W64) : W32 := (v >>> 32).setWidth 32

/-- One added, saturating at the largest 32-bit value. -/
def satInc32 (v : W64) : W64 := if v.toNat % 2 ^ 32 = 0xFFFFFFFF then v else v + 1

/-- How many ones. -/
def popCount {n : Nat} (v : BitVec n) : Nat := ((List.range n).filter (fun i => v.getLsbD i)).length

/-- The index of the lowest one. -/
def lowestOne {n : Nat} (v : BitVec n) : Option Nat := (List.range n).find? (fun i => v.getLsbD i)

/-- The indexes of the ones, in rising order. -/
def onesOf {n : Nat} (v : BitVec n) : List Nat := (List.range n).filter (fun i => v.getLsbD i)

/-- A signed field of `w` bits as an integer. -/
def signedOf (x w : Nat) : Int := if x < 2 ^ (w - 1) then (x : Int) else (x : Int) - 2 ^ w

/-- Byte `i` of a value, little-endian. -/
def byteAt {n : Nat} (v : BitVec n) (i : Nat) : Byte := BitVec.ofNat 8 (v.toNat >>> (8 * i))

/-- The first `k` bytes of a value, little-endian. -/
def bytesOf {n : Nat} (v : BitVec n) (k : Nat) : List Byte := (List.range k).map (byteAt v)

/-- The number that bytes spell, little-endian. -/
def natOfBytes : List Byte → Nat
  | [] => 0
  | b :: bs => b.toNat + 256 * natOfBytes bs

/-- The 64 bytes of a line. -/
def lineBytes (d : LineBits) : List Byte := bytesOf d 64

/-- A line from its bytes. -/
def lineOf (bs : List Byte) : LineBits := BitVec.ofNat 512 (natOfBytes bs)

/-- The bytes that `new` writes under a byte mask, the others from `old` (R68). -/
def mergeBytes (mask : BitVec 64) (old new : LineBits) : LineBits :=
  lineOf ((List.range 64).map (fun i => if mask.getLsbD i then byteAt new i else byteAt old i))

/-- A 64-bit doubleword of a line at a byte offset. -/
def lineWord (d : LineBits) (off : Nat) : W64 := BitVec.ofNat 64 (d.toNat >>> (8 * off))

/-- Replace the 64-bit doubleword of a line at a byte offset. -/
def setLineWord (d : LineBits) (off : Nat) (v : W64) : LineBits :=
  lineOf ((List.range 64).map (fun i =>
    if off ≤ i && decide (i < off + 8) then byteAt v (i - off) else byteAt d i))

/-- Split off the first element that meets a condition. -/
def takeFirst {α : Type} (p : α → Bool) : List α → Option (α × List α)
  | [] => none
  | x :: xs => if p x then some (x, xs) else
    match takeFirst p xs with
    | some (y, ys) => some (y, x :: ys)
    | none => none

/-- Take the `i`-th element out of a list. -/
def pluck {α : Type} : List α → Nat → Option (α × List α)
  | [], _ => none
  | x :: xs, 0 => some (x, xs)
  | x :: xs, i + 1 =>
    match pluck xs i with
    | some (y, ys) => some (y, x :: ys)
    | none => none

/-- Replace the first element that meets a condition. -/
def modFirst {α : Type} (p : α → Bool) (f : α → α) : List α → List α
  | [] => []
  | x :: xs => if p x then f x :: xs else x :: modFirst p f xs

end Sys2Proof.Machine
end

