-- ==== Sys2Proof/Machine/RegMap.lean ====
section
/-! DEFINITION. The register window: for each CAP offset, the access types of a register's bits and its reset
value, from the register maps of every chapter (R6, R7, R21, R22). -/

namespace Sys2Proof.Machine

/-- The bits of a register by access type (Table SCOPE-3). Bits in no mask are WO or RSV: they read 0. -/
structure RegDesc where
  wide  : Bool
  reset : Nat
  rw    : Nat
  rwc   : Nat
  w1c   : Nat
  w1s   : Nat
  ro    : Nat
  deriving DecidableEq, Repr

/-- A 32-bit register whose bits are all RO, RSV or WO. -/
def rRo (m : Nat) : Option RegDesc := some ⟨false, 0, 0, 0, 0, 0, m⟩
/-- A 32-bit register with RW bits. -/
def rRw (m : Nat) : Option RegDesc := some ⟨false, 0, m, 0, 0, 0, 0⟩
/-- A 32-bit register with RWC bits and a reset value. -/
def rRwc (m reset : Nat) : Option RegDesc := some ⟨false, reset, 0, m, 0, 0, 0⟩
/-- A 32-bit register with RW and RO bits and a reset value. -/
def rMix (reset rw ro w1c : Nat) : Option RegDesc := some ⟨false, reset, rw, 0, w1c, 0, ro⟩
/-- A 64-bit register. -/
def rWide (rw rwc ro : Nat) : Option RegDesc := some ⟨true, 0, rw, rwc, 0, 0, ro⟩

/-- Is `x` one of `n` offsets that start at `b` and lie `st` apart? -/
def inRow (x b st n : Nat) : Bool := decide (b ≤ x) && decide (x < b + st * n) && decide ((x - b) % st = 0)

/-- The bits of a domain's cause and enable registers that Table FAULT-3 assigns (R332). -/
def causeMask (domain : Nat) : Nat :=
  match domain with
  | 0 => 0x7FFF
  | 1 => 0x1FFF
  | 2 => 0x3FFFF
  | 3 => 0x3FFF
  | 4 => 0x7FFF
  | 5 => 0xF
  | 6 => 0x3
  | 7 => 0x7
  | 8 => 0x3F
  | 9 => 0x3F
  | 10 => 0xF
  | _ => 0

/-- GLOBAL (chapters 01, 08, 14, 15). -/
def regGlobal (x : Nat) : Option RegDesc :=
  if x = 0x000 then rMix 0x00C11280 0 0xFFFFFFFF 0            -- GLB_ID
  else if x = 0x004 then rMix 0x00000B2E 0 0xFFFF 0           -- GLB_VENDOR
  else if x = 0x010 then rRo 0                                -- GLB_COMMIT
  else if x = 0x014 then rRo 0xFFFFFFFF                       -- GLB_COMMIT_STS
  else if x = 0x018 then rRo 0xFFFFFFFF                       -- GLB_COMMIT_SEQ
  else if x = 0x100 then rWide 0 0 0xFFFFFFFFFFFFFFFF         -- GLB_FT
  else if x = 0x108 then rWide 0xFFFFFFFFFFFFFFFF 0 0         -- GLB_FT_LOAD
  else if x = 0x110 then rMix 0 0 0 0x2                       -- GLB_FT_CTRL
  else if x = 0x114 then rRwc 0xFFFF 0                        -- GLB_FT_TRIM
  else if x = 0x200 then rRo 0                                -- PWR_CTRL
  else if x = 0x204 then rRo 0x3777                           -- PWR_STATUS
  else if x = 0x208 then rRwc 0xFFFFF 0xC8                    -- PWR_QUIESCE
  else if x = 0x20C then rRwc 0x3F 0xC                        -- PWR_SLEW
  else if x = 0x210 then rRwc 0xFFFFFFFF 0x02F80320           -- PWR_THR
  else if x = 0x214 then rRwc 0x3F 0x8                        -- PWR_ADMIT
  else if inRow x 0x220 4 8 then rRo 0xFFFFFFFF               -- PWR_TEMP
  else if x = 0x240 then rMix 0x8000 0xFFFF 0xF0000 0         -- PWR_TMAX
  else if x = 0x244 then rRw 0xFFFFFFFF                       -- PWR_DROOP
  else if x = 0x280 then rRw 0x7                              -- SVC_ISL_CTRL
  else if x = 0x284 then rMix 0xFFFF 0 0xF0FFFFFF 0           -- SVC_ISL_STS
  else if x = 0x300 then rRw 0x3F                             -- AON_WAKE
  else if x = 0x304 then rRo 0x13F3F                          -- AON_STS
  else if x = 0x308 then rMix 0xFFB00348 0xFFFFFFFF 0 0       -- AON_TEMP
  else if x = 0x30C then rMix 0x041002BC 0xFFFFFFFF 0 0       -- AON_VTH
  else if x = 0x310 then rRw 0xFFFFFFFF                       -- AON_LANES
  else if x = 0x318 then rWide 0xFFFFFFFFFFFFFFFF 0 0         -- AON_ALARM
  else if x = 0x320 then rWide 0 0 0xFFFFFFFFFFFFFFFF         -- AON_FT
  else none

/-- IRQ and FAULT (Table FAULT-11), relative to 0x01_0000. -/
def regFault (x : Nat) : Option RegDesc :=
  if x = 0x000 then rRo 0x7FF                                 -- IRQ_SUM
  else if x = 0x004 then rRo 0xFFFF                           -- IRQ_LINK_SUM
  else if x = 0x008 then rRo 0xFF                             -- IRQ_MEM_SUM
  else if x = 0x010 then rMix 0 0 0xFF800017 0x8              -- FLT_STATUS
  else if x = 0x014 then rRo 0xFFFFFFFF                       -- FLT_SUSPECT
  else if x = 0x018 then rRo 0                                -- FLT_SWI
  else if inRow x 0x020 4 4 then rRw 0xFFFFFFFF               -- FLT_CNT_CE, DE, LF, GF
  else if inRow x 0x030 4 2 then rRwc 0xFFFFF 0x32            -- FLT_TSNOOP, FLT_TCMP
  else if x = 0x040 then rRo 0xFFFFFFFF                       -- FLT_PS_SEQ
  else if inRow x 0x100 8 11 && x ≠ 0x108 && x ≠ 0x110 then
    rMix 0 0 0 (causeMask ((x - 0x100) / 8))                  -- IRQ_CAUSE_d
  else if inRow x 0x104 8 11 && x ≠ 0x10C && x ≠ 0x114 then
    rRw (causeMask ((x - 0x104) / 8))                         -- IRQ_EN_d
  else if inRow x 0x200 8 16 then rMix 0 0 0 (causeMask 1)    -- IRQ_CAUSE_LINK
  else if inRow x 0x204 8 16 then rRw (causeMask 1)           -- IRQ_EN_LINK
  else if inRow x 0x300 8 8 then rMix 0 0 0 (causeMask 2)     -- IRQ_CAUSE_MEM
  else if inRow x 0x304 8 8 then rRw (causeMask 2)            -- IRQ_EN_MEM
  else if inRow x 0x400 4 256 then rRo 0xFFFFFFFF             -- FLT_PS
  else none

/-- ENGINE (Table DEV-11), relative to 0x02_0000. -/
def regEngine (x : Nat) : Option RegDesc :=
  if x = 0x000 then some ⟨false, 0, 0, 0, 0, 0x1, 0⟩          -- ENG_CTRL
  else if x = 0x004 then rRo 0x3FFF0007                       -- ENG_STATUS
  else if x = 0x008 then rRw 0x3FFF                           -- ENG_CTX_HWM
  else if x = 0x010 then rRo 0x37700                          -- ENG_REEL
  else if x = 0x014 then rRo 0x3FFF00FF                       -- ENG_REEL_STS
  else if x = 0x018 then rRwc 0xFFFF 0x40                     -- ENG_TRAP_LIMIT
  else if x = 0x01C then rRwc 0xFFFFF 0x3E8                   -- ENG_PARK_LIMIT
  else if inRow x 0x020 8 2 then rWide 0 0x3FFFFF00003 0      -- ENG_BACKING_A, B
  else if x = 0x030 then rRo 0xC0003FFF                       -- ENG_REFILL_REQ
  else if x = 0x034 then rRo 0                                -- ENG_REFILL_GO
  else if inRow x 0x040 4 16 then rRw 0xFFFFFFFF              -- ENG_REFILL_DATA
  else if x = 0x100 then rMix 0 0 0x403F7FFF 0x80000000       -- ENG_TRAP_LO
  else if x = 0x104 then rRo 0x3FFF7FFF                       -- ENG_TRAP_HI
  else if x = 0x108 then rRw 0xFFFFFFFF                       -- ENG_TRAP_CNT
  else if x = 0x200 then rWide 0x3FFFFFFFFC1 0 0              -- ENG_MREQ_ADDR
  else if x = 0x208 then rRw 0x7FFFF                          -- ENG_MREQ_CTRL
  else if x = 0x20C then rRo 0x8000000F                       -- ENG_MREQ_STS
  else none

/-- SHEET (Table SHEET-14), relative to 0x03_0000. -/
def regSheet (x : Nat) : Option RegDesc :=
  if x = 0x000 then rRo 0x6                                   -- SHEET_BIST
  else if x = 0x004 then rRo 0xFFFFFFFF                       -- SHEET_BIST_FAIL
  else if x = 0x008 then rRo 0x83FFFF1F                       -- SHEET_BIST_ROW
  else if x = 0x010 then rRwc 0x8001FFFF 0x80001000           -- SHEET_SCRUB
  else if x = 0x014 then rRo 0xFFFFFFFF                       -- SHEET_SCRUB_LAP
  else if x = 0x018 then rRw 0xFFFFFFFF                       -- SHEET_CE_CNT
  else if x = 0x01C then rMix 0 0 0x0FFFFFFF 0x80000000       -- SHEET_ROWLOG
  else if x = 0x020 then rRo 0x7FFFFF                         -- SHEET_OCC_ALL
  else if x = 0x028 then rMix 0 0x3FFFFF 0x40000000 0         -- SHEET_PEEK
  else if inRow x 0x030 4 3 then rRo 0xFFFFFFFF               -- SHEET_PEEK_D0 to D2
  else if x = 0x040 then rRo 0x8000007F                       -- SHEET_BIST_LOGCNT
  else if inRow x 0x100 4 32 then rMix 3 0 0x3F7F07 0         -- SHEET_BANK
  else if inRow x 0x200 4 64 then rRo 0x7FFFFF                -- SHEET_OCC
  else if inRow x 0x400 4 64 then rRo 0xC3FFFF1F              -- SHEET_BIST_LOG
  else if inRow x 0x1000 4 512 || inRow x 0x2000 4 512 then rRw 0x803F3FFF  -- SHEET_SR
  else none

/-- ORDER and ARBITRATION (Table ORD-7), relative to 0x04_0000. -/
def regOrder (x : Nat) : Option RegDesc :=
  if inRow x 0x000 8 8 then rRwc 0x3FFFFFFF 100               -- ORD_BC_MIN
  else if inRow x 0x004 8 8 then rRwc 0x3FFFFFFF 1000000      -- ORD_BC_MAX
  else if inRow x 0x040 4 16 then rRwc 0x3FFFFFFF 10000       -- ORD_CXL_BUDGET
  else if inRow x 0x100 8 64 then rRwc 0x803FFFFF 0           -- ORD_ATTR_LO
  else if inRow x 0x104 8 64 then rRwc 0x803FFFFF 0           -- ORD_ATTR_HI
  else if x = 0x300 then rRwc 0xFFFFFF 0x10000                -- ORD_STARVE_LIMIT
  else if x = 0x304 then rMix 0 0 0x1F1F 0x80000000           -- ORD_STARVE_LOG
  else if x = 0x308 then rRw 0xFFFFFFFF                       -- ORD_CLAMP_CNT
  else none

/-- A port's block (Table LINK-11), relative to 0x10_0000 + n × 0x1_0000. -/
def regPort (x : Nat) : Option RegDesc :=
  if x = 0x000 then rRo 0                                     -- PT_CTRL
  else if x = 0x004 then rRo 0xFF0773FF                       -- PT_STATUS
  else if x = 0x010 then rRwc 0x3133F 0x1000                  -- PT_CFG
  else if x = 0x014 then rRwc 0xFFFFFFFF 0x00640014           -- PT_RETRAIN
  else if x = 0x018 then rRwc 0xFFFFF 0x00040200              -- PT_REPLAY
  else if inRow x 0x030 4 2 then rRo 0xFFFFFFFF               -- PT_DELAY
  else if inRow x 0x040 4 4 then rRw 0xFFFFFFFF               -- PT_FEC_CNT, CRC, REPLAY, SYNC
  else if inRow x 0x050 8 2 then rWide 0xFFFFFFFFFFFFFFFF 0 0 -- PT_SERIAL
  else if inRow x 0x100 4 8 then rMix 0 0xFFFF0000 0xFFFF 0   -- PT_MARGIN
  else if inRow x 0x120 4 8 then rRo 0xFFFFFFFF               -- PT_FMARGIN
  else if inRow x 0x200 16 16 then rRwc 0x803FFFFF 0          -- PT_MAP_P
  else if inRow x 0x204 16 16 then rRwc 0xFFFFFFFF 0          -- PT_MAP_A
  else if inRow x 0x208 16 16 then rRwc 0x7FFFFF 0            -- PT_MAP_S
  else none

/-- One delay set (the map 'Delay set of subchannel s, rank r'), relative to its own start. -/
def regDelaySet (x : Nat) : Option RegDesc :=
  if inRow x 0x00 4 5 then rRw 0x0FFF0FFF                     -- MC_RDQS
  else if inRow x 0x20 4 5 then rRw 0x0FFF0FFF                -- MC_WDQS
  else if inRow x 0x40 4 10 then rRw 0x3F3F3F3F               -- MC_RDQ
  else if inRow x 0x80 4 10 then rRw 0x3F3F3F3F               -- MC_WDQ
  else if inRow x 0xC0 4 5 then rMix 0x00400040 0x007F007F 0 0  -- MC_RVREF
  else if inRow x 0xE0 4 5 then rRw 0x0FFF0FFF                -- MC_RCVEN
  else if inRow x 0xF4 4 2 then rRw 0x3F3F3F3F                -- MC_DRIFT 0, 1
  else if x = 0xFC then rRw 0x00003F3F                        -- MC_DRIFT 2
  else none

/-- A memory channel's block (Tables MEM-11 and CODE-5), relative to 0x20_0000 + m × 0x1_0000; `m0` is true for
M0, which alone has the registers marked M0. -/
def regChan (m0 : Bool) (x : Nat) : Option RegDesc :=
  if x = 0x0000 then rRo 0                                    -- MC_CTRL
  else if x = 0x0004 then rRo 0x7777                          -- MC_STATUS
  else if x = 0x0010 then rRwc 0x1FF 0                        -- MC_CFG
  else if x = 0x0014 then rRo 0x3FF                           -- MC_CAP
  else if x = 0x0020 then (if m0 then rRwc 0x3 0 else none)   -- MC_MAP
  else if x = 0x0024 then (if m0 then rRo 0x1FFF else none)   -- MC_POOL
  else if x = 0x0028 then rRo 0x1FFF                          -- MC_BASE
  else if x = 0x0030 then rRwc 0x0FF1FFFF 0x01402060          -- MC_SCHED
  else if x = 0x0040 then rRwc 0xFFFF1FFF 0x03E80F3C          -- MC_REF
  else if x = 0x0044 then rRo 0x7701                          -- MC_REF_STS
  else if x = 0x0050 then rRwc 0xFF 0xC8                      -- MC_PAUSE
  else if x = 0x0060 then rRwc 0xFFFFFFFF 0xFF                -- MC_PASR
  else if x = 0x0070 then rRwc 0x3FF 0x100                    -- MC_CAPAR
  else if x = 0x0074 then rRw 0xFFFFFFFF                      -- MC_CAPAR_CNT
  else if x = 0x1000 then rRwc 0xFFFFFFFF 0x28282628          -- MC_TIM0
  else if x = 0x1004 then rRwc 0xFFFFFFFF 0x1248754D          -- MC_TIM1
  else if x = 0x1008 then rRwc 0xFFFFFFFF 0x06200C08          -- MC_TIM2
  else if x = 0x100C then rRwc 0xFFFFFFFF 0x0E300C18          -- MC_TIM3
  else if x = 0x1010 then rRwc 0x0FFF0FFF 0x03F003D8          -- MC_TIM4
  else if x = 0x1014 then rRwc 0x0000FFFF 0x00000202          -- MC_TIM5
  else if x = 0x2000 then rRw 0x3FFFFE0F                      -- MC_TRN_CTRL
  else if x = 0x2004 then rRw 0x1FFFFFFF                      -- MC_TRN_ADDR
  else if x = 0x2008 then rRw 0xFFFF                          -- MC_TRN_MR
  else if x = 0x200C then rRo 0xF000FFFF                      -- MC_TRN_STS
  else if x = 0x2010 then rRo 0xFFFFFFFF                      -- MC_TRN_LANE_LO
  else if x = 0x2014 then rRo 0xFF                            -- MC_TRN_LANE_HI
  else if inRow x 0x2020 4 20 then rRw 0xFFFFFFFF             -- MC_TRN_PAT
  else if inRow x 0x2080 4 20 then rRo 0xFFFFFFFF             -- MC_TRN_CAP
  else if inRow x 0x2100 4 5 || inRow x 0x2120 4 5 then rRw 0x0FFF0FFF  -- MC_CA_DLY
  else if (x / 0x800 = 6 || x / 0x800 = 8) then regDelaySet (x % 0x100)
  else if x = 0x8000 then rRwc 0x8000FFFF 0x80000400          -- CD_SCRUB
  else if x = 0x8004 then rRo 0xFFFFFFFF                      -- CD_SCRUB_LAP
  else if inRow x 0x8010 4 2 then rRw 0xFFFFFFFF              -- CD_CE_CNT, CD_UE_CNT
  else if x = 0x8018 then rRwc 0xFFFF 0x100                   -- CD_THRESH
  else if inRow x 0x8020 4 16 then rRw 0x8000000F             -- CD_ERASE
  else if decide (0x8100 ≤ x) && decide (x < 0x8300) && decide (x % 4 = 0) && decide (x % 0x20 < 0x14) then
    rRw 0xFFFFFFFF                                            -- CD_DEVCNT
  else if x = 0x8400 then rMix 0 0x1F 0xFF00 0                -- CD_ELOG_CTRL
  else if inRow x 0x8410 16 16 then rWide 0 0 0x3FFFFFFFFC0   -- CD_ELOG_ADDR
  else if inRow x 0x8418 16 16 then rRo 0x8FFF0007            -- CD_ELOG_INFO
  else if !m0 then none
  else if x = 0x9000 then rRw 0x3FFFFF                        -- CD_BLANK_CMD
  else if x = 0x9004 then rRo 0x33                            -- CD_BLANK_STS
  else if x = 0x9008 then rRo 0x1F                            -- CD_FILL_STS
  else if x = 0x9010 then rRwc 0x3FFFFFFF 0                   -- CD_SPARE
  else if inRow x 0x9020 4 2 then rRw 0x3FFFFFFF              -- CD_RMP_OLD, CD_RMP_NEW
  else if x = 0x9028 then rRo 0                               -- CD_RMP_CTRL
  else if x = 0x902C then rRo 0xF7FF7FFF                      -- CD_RMP_STS
  else if x = 0x9030 then rRo 0xFFFFFFFF                      -- CD_POOL_LAP
  else if inRow x 0xA000 8 256 || inRow x 0xB000 8 256 || inRow x 0xC000 8 256 || inRow x 0xD000 8 256 then
    rWide 0 0 0xFFFFFFFF3FFFFFFF                              -- CD_RMP
  else none

/-- A tray's block (Table TRAY-8), relative to 0x30_0000 + t × 0x1000. -/
def regTray (x : Nat) : Option RegDesc :=
  if inRow x 0x000 8 16 then rRwc 0x803FFFFF 0                -- TR_RBASE
  else if inRow x 0x004 8 16 then rRwc 0x7FFFFF 0             -- TR_RLIM
  else if x = 0x080 then rRwc 0xFFFFFFFF 0                    -- TR_MEMB
  else if x = 0x084 then rRwc 0x7FFFFF 0x10000                -- TR_QUOTA
  else if x = 0x088 then rRwc 0x11377 0x10000                 -- TR_CFG
  else if x = 0x090 then rRwc 0xBFFFFFFF 0                    -- TR_WIN
  else none

/-- COUNTERS (Table TRAY-9), relative to 0x34_0000. -/
def regCounters (x : Nat) : Option RegDesc :=
  if inRow x 0x0000 8 256 then rWide 0xFFFFFFFFFFFFFFFF 0 0   -- CTR_VAL
  else if inRow x 0x1000 4 256 then rRwc 0x033F07FF 0         -- CTR_CFG
  else if x = 0x2000 then rRwc 0xFFFFF 0x3E8                  -- CTR_WIN
  else if x = 0x2010 then rMix 0 0 0xFF003F 0x80000000        -- CTR_SMP0
  else if x = 0x2014 then rRo 0xBFFF7FFF                      -- CTR_SMP1
  else if inRow x 0x2018 8 2 then rWide 0 0 0xFFFFFFFFFFFFFFFF  -- CTR_SMP_FT, CTR_SMP_EA
  else if inRow x 0x2040 4 8 then rMix 0 0 0 0xFFFFFFFF       -- CTR_OVF
  else if x = 0x2100 then rRwc 0x1 0                          -- LM_CTRL
  else if x = 0x2104 then rRwc 0xFFFF 0                       -- LM_COUNT
  else if x = 0x2108 then rWide 0 0x7FFFFFFF 0                -- LM_BASE
  else if x = 0x2110 then rMix 0 0xFFFF0000 0xFFFF 0          -- LM_STS
  else none

/-- The register that starts at an active CAP offset (R21). -/
def regDesc (off : Nat) : Option RegDesc :=
  if off < 0x010000 then regGlobal off
  else if off < 0x020000 then regFault (off - 0x010000)
  else if off < 0x030000 then regEngine (off - 0x020000)
  else if off < 0x040000 then regSheet (off - 0x030000)
  else if off < 0x050000 then regOrder (off - 0x040000)
  else if off < 0x100000 then none
  else if off < 0x200000 then regPort (off % 0x10000)
  else if off < 0x280000 then regChan (decide (off < 0x210000)) (off % 0x10000)
  else if off < 0x300000 then none
  else if off < 0x340000 then regTray (off % 0x1000)
  else if off < 0x350000 then regCounters (off - 0x340000)
  else none

/-! ### Offsets used by name -/

/-- Port n's block. -/
def portBase (n : Nat) : Nat := 0x100000 + n * 0x10000
/-- Channel m's block. -/
def chanBase (m : Nat) : Nat := 0x200000 + m * 0x10000
/-- Tray t's block. -/
def trayBase (t : Nat) : Nat := 0x300000 + t * 0x1000

/-- GLB_COMMIT_STS. -/
def oCommitSts : Nat := 0x14
/-- GLB_COMMIT_SEQ. -/
def oCommitSeq : Nat := 0x18
/-- GLB_FT_TRIM. -/
def oFtTrim : Nat := 0x114
/-- PWR_STATUS. -/
def oPwrStatus : Nat := 0x204
/-- SVC_ISL_STS. -/
def oIslSts : Nat := 0x284
/-- AON_STS. -/
def oAonSts : Nat := 0x304
/-- FLT_STATUS. -/
def oFltStatus : Nat := 0x010010
/-- FLT_SUSPECT. -/
def oSuspect : Nat := 0x010014
/-- FLT_PS_SEQ. -/
def oPsSeq : Nat := 0x010040
/-- Word w of Proof Strip slot r. -/
def oPs (r w : Nat) : Nat := 0x010400 + 32 * r + 4 * w
/-- ENG_REEL. -/
def oReel : Nat := 0x020010
/-- ENG_REEL_STS. -/
def oReelSts : Nat := 0x020014
/-- SHEET_BANK of bank b. -/
def oBank (b : Nat) : Nat := 0x030100 + 4 * b
/-- SHEET_SR of bank b, register r. -/
def oSr (b r : Nat) : Nat := 0x031000 + (b / 16) * 0x1000 + (b % 16) * 0x80 + 4 * r
/-- PT_STATUS of port n. -/
def oPtStatus (n : Nat) : Nat := portBase n + 4
/-- PT_CFG of port n. -/
def oPtCfg (n : Nat) : Nat := portBase n + 0x10
/-- MC_STATUS of channel m. -/
def oMcStatus (m : Nat) : Nat := chanBase m + 4
/-- MC_CFG of channel m. -/
def oMcCfg (m : Nat) : Nat := chanBase m + 0x10
/-- MC_MAP. -/
def oMcMap : Nat := 0x200020
/-- MC_TRN_STS of channel m. -/
def oTrnSts (m : Nat) : Nat := chanBase m + 0x200C
/-- CD_RMP_STS. -/
def oRmpSts : Nat := 0x20902C
/-- Entry e of the page remap table. -/
def oRmp (e : Nat) : Nat := 0x20A000 + 0x1000 * (e / 256) + 8 * (e % 256)
/-- TR_MEMB of tray t. -/
def oMemb (t : Nat) : Nat := trayBase t + 0x80
/-- TR_CFG of tray t. -/
def oTrCfg (t : Nat) : Nat := trayBase t + 0x88
/-- CTR_VAL of counter c. -/
def oCtrVal (c : Nat) : Nat := 0x340000 + 8 * c
/-- CTR_CFG of counter c. -/
def oCtrCfg (c : Nat) : Nat := 0x341000 + 4 * c

/-! ### Reading and writing the stored value -/

/-- A register's reset value. -/
def regReset (off : Nat) : W64 :=
  match regDesc off with
  | some d => w64 d.reset
  | none => 0

/-- The active value of a register. -/
def rd (s : State) (off : Nat) : W64 := sGet (regReset off) s.regs off

/-- Write the active value of a register. -/
def wr (s : State) (off : Nat) (v : W64) : State := { s with regs := sPut (regReset off) s.regs off v }

/-- A field of a register. -/
def rdf (s : State) (off lo w : Nat) : Nat := fld (rd s off) lo w

/-- Write a field of a register. -/
def wrf (s : State) (off lo w x : Nat) : State := wr s off (setFld (rd s off) lo w x)

/-- The bits of a register that are RWC. -/
def rwcMask (off : Nat) : W64 :=
  match regDesc off with
  | some d => w64 d.rwc
  | none => 0

/-- A shadow word: the RWC fields only (R22). Its reset is that of the fields. -/
def rdShadow (s : State) (off : Nat) : W64 := sGet (regReset off &&& rwcMask off) s.shadow off

/-- Write a shadow word. -/
def wrShadow (s : State) (off : Nat) (v : W64) : State :=
  { s with shadow := sPut (regReset off &&& rwcMask off) s.shadow off v }

/-- The register file's canonical form: keys rising, no register listed at its reset value. -/
def Regs.wf (m : Sparse W64) : Bool := sOrdered m && m.all (fun p => !decide (p.2 = regReset p.1))

end Sys2Proof.Machine
end

