-- ==== Sys2Proof/Machine/Causes.lean ====
section
/-! DEFINITION. Causes, their classes, the Proof Strip, and the entry into Safelight state (R324 to R344). -/

namespace Sys2Proof.Machine

/-- Fault classes (Table FAULT-1). -/
inductive Class where
  | none | ce | de | lf | gf
  deriving DecidableEq, Repr

/-- Every cause of Table FAULT-3. -/
inductive Cause where
  | capDecode | selfOwner | ownerMiss | detachDirty | tSnoop | tCmp | reel | htidStuck | latCe | latUe | hdrPar
  | cfgPar | collPar | safeDone | swi
  | portDown | crcErr | syncMiss | degrade | linkUp | crdSync | proto | unsup | txidDup | detached | cxlStatus
  | biOff | portCmd
  | chDark | caFail | caParity | pauseTimeout | refHot | refCool | dramTcrit | srefDone | mcCmd | memCe | memUe
  | cdSramCe | cdSramUe | devThresh | fillDone | pscrubLap | rmpDone | cdCmd
  | sheetCe | rowHard | sheetUe | dup | bistFail | srFail | ldwMix | ldwBad | srConflict | bankCmd | drainDone
  | bankOnline | quota | scrubLap
  | trap | trapStorm | fetchCe | fetchDouble | fetchNoback | fetchTimeout | scrCe | scrUe | refillReq | stray
  | reelWr | reelCmd | verifyDone | reelDrained | mreqDone
  | wrDrop | starve | clamp | ftLoad
  | errAddr | winOp
  | ovf | sample | lmLost
  | thrOn | thrOff | droop | tjCrit | pstateDone | stepHold
  | tempHi | tempLo | vcoreLo | vddqLo | laneWake | timeAlarm
  | detachDone | epochWrap | islOff | islOn
  deriving DecidableEq, Repr

/-- The domain, the cause bit and the class of a cause (Tables FAULT-3, FAULT-4, SHEET-13, DEV-10, ORD-6, MEM-10,
CODE-4, LINK-10, TRAY-7). -/
def causeInfo : Cause → Nat × Nat × Class
  | .capDecode => (0, 0, .none)
  | .selfOwner => (0, 1, .de)
  | .ownerMiss => (0, 2, .de)
  | .detachDirty => (0, 3, .de)
  | .tSnoop => (0, 4, .de)
  | .tCmp => (0, 5, .de)
  | .reel => (0, 6, .de)
  | .htidStuck => (0, 7, .lf)
  | .latCe => (0, 8, .ce)
  | .latUe => (0, 9, .gf)
  | .hdrPar => (0, 10, .gf)
  | .cfgPar => (0, 11, .gf)
  | .collPar => (0, 12, .gf)
  | .safeDone => (0, 13, .none)
  | .swi => (0, 14, .none)
  | .portDown => (1, 0, .lf)
  | .crcErr => (1, 1, .ce)
  | .syncMiss => (1, 2, .ce)
  | .degrade => (1, 3, .ce)
  | .linkUp => (1, 4, .none)
  | .crdSync => (1, 5, .none)
  | .proto => (1, 6, .none)
  | .unsup => (1, 7, .none)
  | .txidDup => (1, 8, .none)
  | .detached => (1, 9, .none)
  | .cxlStatus => (1, 10, .none)
  | .biOff => (1, 11, .none)
  | .portCmd => (1, 12, .none)
  | .chDark => (2, 0, .lf)
  | .caFail => (2, 1, .lf)
  | .caParity => (2, 2, .ce)
  | .pauseTimeout => (2, 3, .none)
  | .refHot => (2, 4, .none)
  | .refCool => (2, 5, .none)
  | .dramTcrit => (2, 6, .none)
  | .srefDone => (2, 7, .none)
  | .mcCmd => (2, 8, .none)
  | .memCe => (2, 9, .ce)
  | .memUe => (2, 10, .de)
  | .cdSramCe => (2, 11, .ce)
  | .cdSramUe => (2, 12, .gf)
  | .devThresh => (2, 13, .none)
  | .fillDone => (2, 14, .none)
  | .pscrubLap => (2, 15, .none)
  | .rmpDone => (2, 16, .none)
  | .cdCmd => (2, 17, .none)
  | .sheetCe => (3, 0, .ce)
  | .rowHard => (3, 1, .ce)
  | .sheetUe => (3, 2, .gf)
  | .dup => (3, 3, .gf)
  | .bistFail => (3, 4, .gf)
  | .srFail => (3, 5, .lf)
  | .ldwMix => (3, 6, .de)
  | .ldwBad => (3, 7, .de)
  | .srConflict => (3, 8, .none)
  | .bankCmd => (3, 9, .none)
  | .drainDone => (3, 10, .none)
  | .bankOnline => (3, 11, .none)
  | .quota => (3, 12, .none)
  | .scrubLap => (3, 13, .none)
  | .trap => (4, 0, .de)
  | .trapStorm => (4, 1, .gf)
  | .fetchCe => (4, 2, .ce)
  | .fetchDouble => (4, 3, .gf)
  | .fetchNoback => (4, 4, .gf)
  | .fetchTimeout => (4, 5, .gf)
  | .scrCe => (4, 6, .ce)
  | .scrUe => (4, 7, .gf)
  | .refillReq => (4, 8, .none)
  | .stray => (4, 9, .none)
  | .reelWr => (4, 10, .none)
  | .reelCmd => (4, 11, .none)
  | .verifyDone => (4, 12, .none)
  | .reelDrained => (4, 13, .none)
  | .mreqDone => (4, 14, .none)
  | .wrDrop => (5, 0, .de)
  | .starve => (5, 1, .none)
  | .clamp => (5, 2, .none)
  | .ftLoad => (5, 3, .none)
  | .errAddr => (6, 0, .none)
  | .winOp => (6, 1, .none)
  | .ovf => (7, 0, .none)
  | .sample => (7, 1, .none)
  | .lmLost => (7, 2, .none)
  | .thrOn => (8, 0, .none)
  | .thrOff => (8, 1, .none)
  | .droop => (8, 2, .ce)
  | .tjCrit => (8, 3, .gf)
  | .pstateDone => (8, 4, .none)
  | .stepHold => (8, 5, .none)
  | .tempHi => (9, 0, .none)
  | .tempLo => (9, 1, .none)
  | .vcoreLo => (9, 2, .none)
  | .vddqLo => (9, 3, .none)
  | .laneWake => (9, 4, .none)
  | .timeAlarm => (9, 5, .none)
  | .detachDone => (10, 0, .none)
  | .epochWrap => (10, 1, .none)
  | .islOff => (10, 2, .none)
  | .islOn => (10, 3, .none)

/-- The domain of a cause. -/
def Cause.domain (c : Cause) : Nat := (causeInfo c).1
/-- The bit of a cause. -/
def Cause.bit (c : Cause) : Nat := (causeInfo c).2.1
/-- The class of a cause. -/
def Cause.cls (c : Cause) : Class := (causeInfo c).2.2

/-- The cause register of a cause raised at a port or channel `unit` (Table FAULT-11). -/
def causeReg (domain unit : Nat) : Nat :=
  if domain = 1 then 0x010200 + 8 * unit
  else if domain = 2 then 0x010300 + 8 * unit
  else 0x010100 + 8 * domain

/-- The fields of a Proof Strip record beside the common ones (Tables FAULT-9, FAULT-10). -/
structure PsRec where
  fmt  : Nat
  unit : Nat
  w3   : Nat
  w4   : Nat
  w5   : Nat
  w6   : Nat
  deriving DecidableEq, Repr

/-- No format fields. -/
def PsRec.none : PsRec := ⟨0, 0xFF, 0, 0, 0, 0⟩

/-- The code a class has in word 0 of a record (Table FAULT-9). -/
def classCode : Class → Nat
  | .none => 0
  | .ce => 0
  | .de => 1
  | .lf => 2
  | .gf => 3

/-- Write a Proof Strip record: SEQ one higher than the last, at slot SEQ mod 32, words 0 to 7 (R343, R344). -/
def psWrite (c : Cause) (cls : Class) (r : PsRec) (s : State) : State :=
  let q := (rd s oPsSeq + 1).toNat % 2 ^ 32
  let k := q % 32
  let w0 := r.fmt + 2 ^ 8 * c.domain + 2 ^ 12 * classCode cls + 2 ^ 16 * c.bit + 2 ^ 24 * r.unit
  let s := wr s (oPs k 0) (w64 w0)
  let s := wr s (oPs k 1) (w64 (s.aon.ft.toNat % 2 ^ 32))
  let s := wr s (oPs k 2) (w64 (s.aon.ft.toNat / 2 ^ 32))
  let s := wr s (oPs k 3) (w64 (r.w3 % 2 ^ 32))
  let s := wr s (oPs k 4) (w64 (r.w4 % 2 ^ 32))
  let s := wr s (oPs k 5) (w64 (r.w5 % 2 ^ 32))
  let s := wr s (oPs k 6) (w64 (r.w6 % 2 ^ 32))
  let s := wr s (oPs k 7) (w64 q)
  wr s oPsSeq (w64 q)

/-- Is the block in Safelight state? -/
def isSafe (s : State) : Bool := bitOf (rd s oFltStatus) 0

/-- The sheet bank a GF cause makes suspect (R337). -/
def suspectMark (c : Cause) (unit : Nat) (s : State) : State :=
  let s := if c = .sheetUe || c = .dup then wr s oSuspect (rd s oSuspect ||| w64 (2 ^ (unit % 32))) else s
  if c = .sheetUe || c = .dup || c = .latUe || c = .hdrPar || c = .cfgPar then wrf s oFltStatus 2 1 1 else s

/-- The row of Table FAULT-7 that a context's state selects (`waits`: its write has not entered the posted write buffer),
from 0: only the CMP owed; another message owed after the
completion; the data at the home; a write that has entered the posted write buffer; any other request; a stop bath;
a spill, recall, eviction or sweep; background work; a management request; a writeback transaction (R340). -/
def safeRow (waits : Bool) (x : Ctx) : Nat :=
  match x.kind with
  | .wb _ => 9
  | .mgmt _ => 8
  | .back => 7
  | .detach => 7
  | .sweep _ => 6
  | .evict _ _ => 6
  | .req .stbV => 5
  | .req .stbD => 5
  | .req .detn => 4
  | .req op =>
    if x.cplSent then (if x.owed.all (· = .cmp) then 0 else 1)
    else if !waits && (decide (x.phase = .write) || (x.byRule && x.owed.contains .mwrc &&
        !(op = .rds || op = .rdx || op = .upg || op = .rdc || op = .atr))) then 3
    else if (op = .rds || op = .rdx || op = .upg || op = .rdc || op = .atr) &&
        (x.hbuf.isSome || x.wbData.isSome || (match x.mem with
                                            | some b => b.got.isSome
                                            | none => false)) then 2
    else 4

/-- A GF cause: mark what it makes suspect, and enter Safelight state if the block is not in it (R337). The
contexts bound at entry are those the sequencer finishes (R339). -/
def gfEnter (c : Cause) (unit : Nat) (s : State) : State :=
  if isSafe s then suspectMark c unit s
  else
    let s := suspectMark c unit s
    let s := wrf (wrf (wrf s oFltStatus 0 1 1) oFltStatus 23 4 c.domain) oFltStatus 27 5 c.bit
    { s with safe := { bound := (s.dev.ctxs.filter (fun p => p.2.st ≠ .quarantined)).map (fun p =>
                         (p.1, safeRow (s.mem.pwbWait.any (fun q => decide (q.ctx = p.1))) p.2)),
                       answered := 0, fogged := 0,
                       entrySeq := BitVec.ofNat 32 (rd s oPsSeq).toNat } }

/-- The counter of a class (Table FAULT-11). -/
def classCounter : Class → Option Nat
  | .none => Option.none
  | .ce => some 0x010020
  | .de => some 0x010024
  | .lf => some 0x010028
  | .gf => some 0x01002C

/-- Set a cause bit. -/
def setCause (c : Cause) (unit : Nat) (s : State) : State :=
  let o := causeReg c.domain unit
  wr s o (rd s o ||| w64 (2 ^ c.bit))

/-- Raise a cause at a unit with its record: set the bit and take the action of its class (R324, R325). The
action is the same when the bit is set already. -/
def raise (c : Cause) (unit : Nat) (r : PsRec) (s : State) : State :=
  let s := setCause c unit s
  let s := match classCounter c.cls with
    | some o => wr s o (satInc32 (rd s o))
    | none => s
  match c.cls with
  | .none => s
  | .ce => s
  | .de => psWrite c .de r s
  | .lf => psWrite c .lf r s
  | .gf => gfEnter c unit (psWrite c .gf r s)

/-- Raise a cause that needs no record, at a unit. -/
def raiseAt (c : Cause) (unit : Nat) (s : State) : State := raise c unit PsRec.none s

/-- Raise a cause that needs neither unit nor record. -/
def raise0 (c : Cause) (s : State) : State := raise c 0 PsRec.none s

/-- A STORE record (Table FAULT-10, FMT 6). -/
def storeRec (structureNo : Nat) (slotB : Bool) (index : Nat) : PsRec :=
  ⟨6, 0xFF, structureNo + 16 * b2n slotB, index, 0, 0⟩

/-- A SHEET record (FMT 4): bank, row, way and self-test step. -/
def sheetRec (bank row way step : Nat) : PsRec := ⟨4, bank, row + 2 ^ 15 * way + 2 ^ 18 * step, 0, 0, 0⟩

/-- A UNIT record (FMT 5). -/
def unitRec (unit typ sub st : Nat) : PsRec := ⟨5, unit, typ + 16 * sub + 256 * st, 0, 0, 0⟩

/-! ### The interrupt tree (R329, R390) -/

/-- Has a cause register an enabled cause set? A register whose parity failed reads all ones (R335). -/
def causeOn (s : State) (reg : Nat) : Bool :=
  let v := if s.cap.parity.contains reg then 0xFFFFFFFF#64 else rd s reg
  (v &&& rd s (reg + 4)) != 0

/-- IRQ_LINK_SUM. -/
def irqLinkSum (s : State) : Nat :=
  (List.range 16).foldl (fun a n => a + 2 ^ n * b2n (causeOn s (0x010200 + 8 * n))) 0

/-- IRQ_MEM_SUM. -/
def irqMemSum (s : State) : Nat :=
  (List.range 8).foldl (fun a m => a + 2 ^ m * b2n (causeOn s (0x010300 + 8 * m))) 0

/-- IRQ_SUM: bit d is the OR over domain d's cause registers of CAUSE AND EN (R329). -/
def irqSum (s : State) : Nat :=
  (List.range 11).foldl (fun a d =>
    a + 2 ^ d * b2n (if d = 1 then irqLinkSum s != 0 else if d = 2 then irqMemSum s != 0
                     else causeOn s (0x010100 + 8 * d))) 0

/-- RETAIN or OFF: PWR_STATUS.STATE 2 or 3 (Table PWR-2). -/
def deepState (s : State) : Bool := decide (rdf s oPwrStatus 0 3 = 2) || decide (rdf s oPwrStatus 0 3 = 3)

/-- SHK_IRQ (R329, Table INTG-4). -/
def shkIrq (s : State) : Bool := !s.aon.porstLow && !deepState s && (irqSum s != 0 || isSafe s)

/-- SHK_SAFE (R337, Table INTG-4). -/
def shkSafe (s : State) : Bool := !s.aon.porstLow && !deepState s && isSafe s

/-- SHK_PGATE: high while PORST_N is low, and in RETAIN and OFF from the end of the discharge (R390, Table INTG-4). -/
def shkPgate (s : State) : Bool := s.aon.porstLow || s.aon.pgate

end Sys2Proof.Machine
end

