-- ==== Sys2Proof/Machine/Ops.lean ====
section
/-! DEFINITION. Operations every family uses: choices left open, counters, agents and ports, address resolution,
trays, deadlines, the memory map, and sending a message. A line is numbered by its pool address divided by 64. -/

namespace Sys2Proof.Machine

/-! ### Changing one side of the state -/

/-- Change the CAP side. -/
def updCap (f : CapSide → CapSide) (s : State) : State := { s with cap := f s.cap }
/-- Change the always-on side. -/
def updAon (f : AonSide → AonSide) (s : State) : State := { s with aon := f s.aon }
/-- Change the sheet side. -/
def updSheet (f : SheetSide → SheetSide) (s : State) : State := { s with sheet := f s.sheet }
/-- Change the Developer's side. -/
def updDev (f : DevSide → DevSide) (s : State) : State := { s with dev := f s.dev }
/-- Change the home's side. -/
def updHome (f : HomeSide → HomeSide) (s : State) : State := { s with home := f s.home }
/-- Change the memory side. -/
def updMem (f : MemSide → MemSide) (s : State) : State := { s with mem := f s.mem }
/-- Change the counters' side. -/
def updMeter (f : MeterSide → MeterSide) (s : State) : State := { s with meter := f s.meter }

/-! ### Meanings -/

/-- What a command's meaning answers. -/
abbrev Out := Host.Outcome State Fault Refusal

/-- Does nothing but the always-on island and the test port work: PORST_N is low, or RETAIN or OFF holds (R355, R356,
R360)? -/
def asleep (s : State) : Bool := s.aon.porstLow || deepState s

/-- An effect inside the block: the queue of commands, the fuses, the test port and the two pins it has sampled are beyond
its reach (R395, R397, R398). -/
def within (f : State → State) (s : State) : State :=
  let t := f s
  let aon := { t.aon with fuses := s.aon.fuses, tap := s.aon.tap, porstLow := s.aon.porstLow, testMode := s.aon.testMode }
  { t with pending := s.pending, aon := aon }

/-- An effect inside the block that is not FT's own: FT stands (R202, R206). -/
def untimed (f : State → State) (s : State) : State :=
  let t := within f s
  { t with aon := { t.aon with ft := s.aon.ft, ftFrac := s.aon.ftFrac } }

/-- An effect of the running block: with the block asleep its trigger cannot arise, and nothing happens (log entry
13). -/
def live (f : State → State) (s : State) : State := if asleep s then s else untimed f s

/-- A command acts where every unit it names exists. -/
def onUnit (ok : Bool) (f : State → State) (s : State) : Out := if ok then .next (f s) else .fault .noSuchUnit

/-- An agent that exists (R278). -/
def okAgent (a : Nat) : Bool := decide (a < 32)
/-- A memory channel that exists. -/
def okChan (m : Nat) : Bool := decide (m < 8)
/-- A sheet bank that exists. -/
def okBank (b : Nat) : Bool := decide (b < 32)
/-- A context that exists (R155). -/
def okCtx (c : Nat) : Bool := decide (c < 8704)
/-- A port that exists. -/
def okPort (n : Nat) : Bool := decide (n < 16)
/-- A pool line: within the 4 TiB that 36 bits of line number reach. -/
def okLine (l : Nat) : Bool := decide (l < 2 ^ 36)

/-! ### What the spec leaves open (log entries 6 and 7) -/

/-- One of `n` choices that the spec leaves open. -/
def choose (n : Nat) (s : State) : Nat × State :=
  match s.picks with
  | [] => (0, s)
  | p :: ps => (p % (if n = 0 then 1 else n), { s with picks := ps })

/-- The element that a choice takes from a list. -/
def chooseFrom {α : Type} (l : List α) (s : State) : Option α × State :=
  match choose l.length s with
  | (i, s') => (l[i]?, s')

/-- Count one free value taken. -/
def bumpDraws (s : State) : State := { s with draws := s.draws + 1 }

/-! ### Counters (R315 to R318) -/

/-- The units an event falls in. -/
structure Units where
  tray  : Option Nat
  agent : Option Nat
  chan  : Option Nat
  deriving DecidableEq, Repr

/-- No unit but the block. -/
def Units.block : Units := ⟨none, none, none⟩

/-- Does a counter configured as `cfg` count event `ev` of these units? -/
def ctrMatches (cfg : W64) (ev : Nat) (u : Units) : Bool :=
  decide (fld cfg 0 8 = ev) &&
  (match fld cfg 8 3 with
   | 0 => true
   | 1 => decide (u.tray = some (fld cfg 16 6))
   | 2 => decide (u.agent = some (fld cfg 16 6))
   | 3 => (match u.agent with
           | some a => decide (a / 2 = fld cfg 16 6)
           | none => false)
   | 4 => decide (u.chan = some (fld cfg 16 6))
   | _ => false)

/-- A SAMPLE counter wraps: its CTR_OVF bit, cause OVF, and a capture asked for when none is held (R317, R318). -/
def ctrWrap (c : Nat) (s : State) : State :=
  let o := 0x342040 + 4 * (c / 32)
  let s := wr s o (rd s o ||| w64 (2 ^ (c % 32)))
  let s := raise0 .ovf s
  if bitOf (rd s 0x342010) 31 || s.meter.sampleReq.isSome then s
  else { s with meter := { s.meter with sampleReq := some c, runs := [] } }

/-- Add to a counter as its MODE says (R317). -/
def ctrAdd (c n : Nat) (s : State) : State :=
  if n = 0 then s
  else
    match fld (rd s (oCtrCfg c)) 24 2 with
    | 1 => { s with meter := { s.meter with
               ctrAcc := sPut 0 s.meter.ctrAcc c (sGet 0 s.meter.ctrAcc c + w64 n) } }
    | 2 =>
      let v := rd s (oCtrVal c)
      let s' := wr s (oCtrVal c) (v + w64 n)
      if v.toNat + n ≥ 2 ^ 64 then ctrWrap c s' else s'
    | _ => wr s (oCtrVal c) (rd s (oCtrVal c) + w64 n)

/-- The configured counters: those whose CTR_CFG is not at its reset value, which is EVENT off. -/
def ctrConfigured (s : State) : List (Nat × W64) :=
  (s.regs.filter (fun p => inRow p.1 0x341000 4 256)).map (fun p => ((p.1 - 0x341000) / 4, p.2))

/-- The key under which the Light Meter keeps a count of its own (R319). -/
def statKey (ev scope unit : Nat) : Nat := ev * 1024 + scope * 128 + unit

/-- Add to one of the Light Meter's own counts. -/
def statAdd (ev scope unit n : Nat) (s : State) : State :=
  { s with meter := { s.meter with stats := sUpd 0 s.meter.stats (statKey ev scope unit) (· + n) } }

/-- An event of Table TRAY-4: every counter that selects it adds `n` (R315), and so do the Light Meter's counts. -/
def count (ev : Nat) (u : Units) (n : Nat) (s : State) : State :=
  let s := (ctrConfigured s).foldl (fun s p => if ctrMatches p.2 ev u then ctrAdd p.1 n s else s) s
  let s := statAdd ev 0 0 n s
  let s := match u.tray with
    | some t => statAdd ev 1 t n s
    | none => s
  let s := match u.agent with
    | some a => statAdd ev 3 (a / 2) n s
    | none => s
  match u.chan with
  | some m => statAdd ev 4 m n s
  | none => s

/-! ### Ports, links and agents (R278) -/

/-- PT_CFG.MODE of port n: 0 ZCL-112, 1 ZCL-56, 2 CXL-G6, 3 CXL-G5. -/
def portMode (s : State) (n : Nat) : Nat := rdf s (oPtCfg n) 0 2

/-- Does the sub-port of agent a exist? -/
def agentExists (s : State) (a : Nat) : Bool := decide (a % 2 = 0) || bitOf (rd s (oPtCfg (a / 2))) 2

/-- A CXL-G6 host. -/
def isG6 (s : State) (a : Nat) : Bool := decide (portMode s (a / 2) = 2)
/-- A CXL-G5 host. -/
def isG5 (s : State) (a : Nat) : Bool := decide (portMode s (a / 2) = 3)
/-- A ZCL agent. -/
def isZcl (s : State) (a : Nat) : Bool := decide (portMode s (a / 2) < 2)

/-- A caching ZCL agent (CLASS 0). -/
def isCachingZcl (s : State) (a : Nat) : Bool :=
  isZcl s a && !bitOf (rd s (oPtCfg (a / 2))) (4 + a % 2)

/-- A caching member other than a CXL-G5 host. -/
def isCaching (s : State) (a : Nat) : Bool := isCachingZcl s a || isG6 s a

/-- The link of agent a. -/
def linkOf (s : State) (a : Nat) : Link := sGet Link.reset s.links a

/-- Change the link of agent a. -/
def setLink (a : Nat) (f : Link → Link) (s : State) : State :=
  { s with links := sUpd Link.reset s.links a f }

/-- The state of agent a's link: STATE0 or STATE1 of its port. -/
def linkState (s : State) (a : Nat) : Nat := rdf s (oPtStatus (a / 2)) (4 * (a % 2)) 3

/-- Write the state of agent a's link. -/
def setLinkState (a st : Nat) (s : State) : State := wrf s (oPtStatus (a / 2)) (4 * (a % 2)) 3 st

/-- PT_STATUS.BI of agent a's link (R305). -/
def biOn (s : State) (a : Nat) : Bool := bitOf (rd s (oPtStatus (a / 2))) (3 + 4 * (a % 2))

/-- The slot of a REQ's address bits: region and line within it (R300). -/
def laddrRegion (l : BitVec 46) : Nat := l.toNat / 2 ^ 14

/-- Window w of agent a: VALID, PBASE, ABASE, SIZE. -/
def windowOf (s : State) (a w : Nat) : Bool × Nat × Nat × Nat :=
  let o := portBase (a / 2) + 0x200 + 0x80 * (a % 2) + 0x10 * w
  (bitOf (rd s o) 31, rdf s o 0 22, rdf s (o + 4) 0 32, rdf s (o + 8) 0 23)

/-- The pool line that an agent's address names: through its lowest-numbered valid window that holds it (R300). -/
def resolve (s : State) (a : Nat) (l : BitVec 46) : Option Nat :=
  let r := laddrRegion l
  ((List.range 8).find? (fun w =>
      match windowOf s a w with
      | (v, _, ab, sz) => v && decide (ab ≤ r) && decide (r < ab + sz))).map (fun w =>
    match windowOf s a w with
    | (_, pb, ab, _) => (pb + r - ab) * 2 ^ 14 + l.toNat % 2 ^ 14)

/-- The window of an agent that holds a pool line. -/
def holdingWindow (s : State) (a line : Nat) : Option Nat :=
  let r := line / 2 ^ 14
  (List.range 8).find? (fun w =>
    match windowOf s a w with
    | (v, pb, _, sz) => v && decide (pb ≤ r) && decide (r < pb + sz))

/-- A pool line in the address space of an agent, through the window that holds it (R300); 0 when none does. -/
def toAgentAddr (s : State) (a line : Nat) : BitVec 46 :=
  match holdingWindow s a line with
  | some w =>
    match windowOf s a w with
    | (_, pb, ab, _) => BitVec.ofNat 46 ((ab + line / 2 ^ 14 - pb) * 2 ^ 14 + line % 2 ^ 14)
  | none => 0

/-! ### Trays (R300, R309, R313) -/

/-- The valid tray ranges: tray, range, base, limit. -/
def trayRanges (s : State) : List (Nat × Nat × Nat × Nat) :=
  s.regs.filterMap (fun p =>
    let x := p.1 % 0x1000
    if 0x300000 ≤ p.1 ∧ p.1 < 0x340000 ∧ x < 0x80 ∧ x % 8 = 0 ∧ bitOf p.2 31 then
      let t := (p.1 - 0x300000) / 0x1000
      some (t, x / 8, fld p.2 0 22, rdf s (p.1 + 4) 0 23)
    else none)

/-- The tray whose valid range holds a region. -/
def trayOfRegion (s : State) (r : Nat) : Option Nat :=
  ((trayRanges s).find? (fun q => decide (q.2.2.1 ≤ r) && decide (r ≤ q.2.2.2))).map (·.1)

/-- The tray whose valid range holds a line. -/
def trayOf (s : State) (line : Nat) : Option Nat := trayOfRegion s (line / 2 ^ 14)

/-- Is agent a a member of tray t? -/
def isMember (s : State) (t a : Nat) : Bool := bitOf (rd s (oMemb t)) a

/-- The agents of a 32-bit vector that meet a condition. -/
def agentsOf (v : BitVec 32) : List Nat := onesOf v

/-- The members of a tray. -/
def membersOf (s : State) (t : Nat) : List Nat := agentsOf (lo32 (rd s (oMemb t)))

/-- The lowest-numbered tray that has an agent as a member (R212). -/
def lowestTray (s : State) (a : Nat) : Option Nat := (List.range 64).find? (fun t => isMember s t a)

/-- SPILL policy of a tray. -/
def traySpill (s : State) (t : Nat) : Bool := bitOf (rd s (oTrCfg t)) 16
/-- Early-read permission of a tray. -/
def trayEarly (s : State) (t : Nat) : Bool := bitOf (rd s (oTrCfg t)) 12
/-- Protocol variant of a tray. -/
def trayVariant (s : State) (t : Nat) : BitVec 3 := BitVec.ofNat 3 (rdf s (oTrCfg t) 4 3)
/-- Reservation granule of a tray in lines: 1, 4, 16 or 64 (R76). -/
def trayGran (s : State) (t : Nat) : Nat := 4 ^ (rdf s (oTrCfg t) 8 2)
/-- Quota of a tray. -/
def trayQuota (s : State) (t : Nat) : Nat := rdf s (trayBase t + 0x84) 0 23

/-- The tray whose window page holds a line (R313). -/
def windowTray (s : State) (line : Nat) : Option Nat :=
  (List.range 64).find? (fun t =>
    let v := rd s (trayBase t + 0x90)
    bitOf v 31 && decide (fld v 0 30 = line / 64))

/-! ### Fabric time and deadlines (R202 to R205) -/

/-- FT[33:2], the time scale of deadlines. -/
def nowNs (s : State) : Nat := (s.aon.ft.toNat / 4) % 2 ^ 32

/-- A deadline more than 2^30 ns behind counts as 2^30 ns behind (R203). R204 and R205 bound how far ahead a deadline may lie
by 2^30 − 1 ns, so a value farther ahead than 2^30 ns lies behind. -/
def normDeadline (now d : Nat) : Nat :=
  let behind := (now + 2 ^ 32 - d) % 2 ^ 32
  if 2 ^ 30 < behind ∧ behind < 2 ^ 32 - 2 ^ 30 then (now + 2 ^ 32 - 2 ^ 30) % 2 ^ 32 else d

/-- Is deadline d1 nearer than d2 (R203)? -/
def nearer (s : State) (d1 d2 : BitVec 32) : Bool :=
  let x := normDeadline (nowNs s) d1.toNat
  let y := normDeadline (nowNs s) d2.toNat
  let diff := (y + 2 ^ 32 - x) % 2 ^ 32
  decide (1 ≤ diff) && decide (diff < 2 ^ 31)

/-- The deadline R204 gives under budget class `bc`, and whether it was replaced. -/
def classDeadline (s : State) (bc : Nat) (d : BitVec 32) : BitVec 32 × Bool :=
  let arr := nowNs s
  let ahead := (d.toNat + 2 ^ 32 - arr) % 2 ^ 32
  let lo := rdf s (0x040000 + 8 * bc) 0 30
  let hi := rdf s (0x040004 + 8 * bc) 0 30
  if 2 ^ 31 ≤ ahead then (BitVec.ofNat 32 (arr + lo), true)
  else if ahead < lo then (BitVec.ofNat 32 (arr + lo), true)
  else if hi < ahead then (BitVec.ofNat 32 (arr + hi), true)
  else (d, false)

/-- Count a deadline replaced, and raise CLAMP when the count passes a multiple of 2^20 (Table ORD-6). -/
def countClamp (s : State) : State :=
  let v := satInc32 (rd s 0x040308)
  let s' := wr s 0x040308 v
  if v ≠ rd s 0x040308 ∧ v.toNat % 2 ^ 20 = 0 then raise0 .clamp s' else s'

/-- The deadline a port gives a message of agent a whose tray is `t` (R204, R205). -/
def portDeadline (a : Nat) (t : Option Nat) (d : BitVec 32) (s : State) : BitVec 32 × State :=
  let bc := match t with
    | some t => rdf s (oTrCfg t) 0 3
    | none => 0
  let d := if isZcl s a then d
    else BitVec.ofNat 32 (nowNs s + rdf s (0x040040 + 4 * (a / 2)) 0 30)
  match classDeadline s bc d with
  | (d', true) => (d', countClamp s)
  | (d', false) => (d', s)

/-- The deadline of a request completed with ERR_ADDR (R204). -/
def errDeadline (s : State) : BitVec 32 := BitVec.ofNat 32 (nowNs s + rdf s 0x040000 0 30)

/-- Early write acknowledgement for a line: the lowest-numbered valid attribute entry that holds its region (R210). -/
def ewa (s : State) (line : Nat) : Bool :=
  let r := line / 2 ^ 14
  match (List.range 64).find? (fun e =>
      let lo := rd s (0x040100 + 8 * e)
      bitOf lo 31 && decide (fld lo 0 22 ≤ r) && decide (r ≤ rdf s (0x040104 + 8 * e) 0 22)) with
  | some e => bitOf (rd s (0x040104 + 8 * e)) 31
  | none => false

/-! ### Memory channels and the pool map (R223, R229 to R231) -/

/-- MC_CFG.PRESENT. -/
def chanPresent (s : State) (m : Nat) : Bool := bitOf (rd s (oMcCfg m)) 0

/-- Ranks per subchannel (R223). -/
def chanRanks (s : State) (m : Nat) : Nat :=
  let c := rd s (oMcCfg m)
  (1 + fld c 6 1) * (1 + fld c 7 1) * (1 + fld c 8 1)

/-- Capacity in GiB (R223): 2 × ranks × (32 ÷ width) × density ÷ 8. -/
def chanGib (s : State) (m : Nat) : Nat :=
  if chanPresent s m then
    let c := rd s (oMcCfg m)
    let width := if bitOf c 4 then 8 else 4
    let density := if bitOf c 5 then 32 else 16
    2 * chanRanks s m * (32 / width) * density / 8
  else 0

/-- MC_MAP.MODE: 0 ILV_256, 1 ILV_4K, 2 LINEAR, 3 HASHED. -/
def mapMode (s : State) : Nat := rdf s oMcMap 0 2

/-- The installed pool in GiB (R230). -/
def poolGib (s : State) : Nat :=
  if mapMode s = 2 then (List.range 8).foldl (fun a m => a + chanGib s m) 0
  else 8 * chanGib s 0

/-- BASE(m) in GiB under LINEAR (R230); 0 under the other maps. -/
def chanBaseGib (s : State) (m : Nat) : Nat :=
  if mapMode s = 2 then (List.range m).foldl (fun a k => a + chanGib s k) 0 else 0

/-- The hash of HASHED: the exclusive OR of every three-bit group of PA[41:8] (Table MEM-3). -/
def hashGroups : Nat → Nat → Nat
  | 0, _ => 0
  | n + 1, x => Nat.xor (x % 8) (hashGroups n (x / 8))

/-- The channel and the channel offset of a pool byte address (Table MEM-3). -/
def mapAddr (s : State) (pa : Nat) : Option (Nat × Nat) :=
  match mapMode s with
  | 0 => some (pa / 2 ^ 8 % 8, pa / 2 ^ 11 * 2 ^ 8 + pa % 2 ^ 8)
  | 1 => some (pa / 2 ^ 12 % 8, pa / 2 ^ 15 * 2 ^ 12 + pa % 2 ^ 12)
  | 3 => some (hashGroups 12 (pa / 2 ^ 8), pa / 2 ^ 11 * 2 ^ 8 + pa % 2 ^ 8)
  | _ =>
    ((List.range 8).find? (fun m =>
        decide (chanBaseGib s m * 2 ^ 30 ≤ pa) && decide (pa < (chanBaseGib s m + chanGib s m) * 2 ^ 30))).map
      (fun m => (m, pa - chanBaseGib s m * 2 ^ 30))

/-- Coordinates of a channel offset in DRAM (Table MEM-4). -/
structure Coord where
  sc   : Nat
  bg   : Nat
  ba   : Nat
  col  : Nat
  rank : Nat
  row  : Nat
  deriving DecidableEq, Repr

/-- Decode a channel offset (Table MEM-4). -/
def coordOf (s : State) (m co : Nat) : Coord :=
  let colBits := if bitOf (rd s (oMcCfg m)) 4 then 6 else 7
  let ranks := chanRanks s m
  let hi := co / 2 ^ (12 + colBits)
  { sc := co / 2 ^ 6 % 2, bg := co / 2 ^ 7 % 8, ba := co / 2 ^ 10 % 4, col := co / 2 ^ 12 % 2 ^ colBits,
    rank := hi % ranks, row := hi / ranks }

/-- The page a page goes to through the remap table (R273): the NEW of a valid entry, or of a copying entry whose
sector has been copied; `sec` is the sector of the page. -/
def remapPage (s : State) (page sec : Nat) : Nat :=
  match s.regs.find? (fun p =>
      decide (0x20A000 ≤ p.1) && decide (p.1 < 0x20E000) && decide (fld p.2 0 30 = page) &&
      (bitOf p.2 63 || (bitOf p.2 62 && decide (sec < rdf s oRmpSts 0 5)))) with
  | some p => fld p.2 32 30
  | none => page

/-- The physical line of a pool line, after remap. -/
def physLine (s : State) (line : Nat) : Nat := remapPage s (line / 64) (line % 64 / 4) * 64 + line % 64

/-- The channel of a pool line, after remap. -/
def lineChan (s : State) (line : Nat) : Option (Nat × Nat) := mapAddr s (physLine s line * 64)

/-- The number of the channel of a line; channel 0 where the pool has none. -/
def chanNo (s : State) (line : Nat) : Nat := ((lineChan s line).map (·.1)).getD 0

/-- MC_STATUS.STATE: 0 INIT, 1 RUN, 2 PAUSED, 3 SREF, 4 DARK. -/
def chanState (s : State) (m : Nat) : Nat := rdf s (oMcStatus m) 0 3

/-- Does a channel serve memory operations: STATE RUN, and no self-refresh entry under way (R226, R245)? -/
def chanServes (s : State) (m : Nat) : Bool := decide (chanState s m = 1) && !bitOf (rd s (oMcStatus m)) 6

/-- Is the channel of a line DARK (R227)? -/
def isDark (s : State) (line : Nat) : Bool :=
  match lineChan s line with
  | some (m, _) => decide (chanState s m = 4)
  | none => false

/-- What a channel holds beside its registers. -/
def chanOf (s : State) (m : Nat) : Chan := sGet Chan.reset s.mem.chans m

/-- Change what a channel holds. -/
def setChan (m : Nat) (f : Chan → Chan) (s : State) : State :=
  { s with mem := { s.mem with chans := sUpd Chan.reset s.mem.chans m f } }

/-- Write MC_STATUS.STATE and end any self-refresh entry. -/
def setChanState (m st : Nat) (s : State) : State := wrf (wrf s (oMcStatus m) 0 3 st) (oMcStatus m) 6 1 0

/-- Every bank of the channel is precharged (R236). -/
def closeRows (m : Nat) (s : State) : State := setChan m (fun c => { c with openRow := [] }) s

/-- The batch policy for RECOVER_US, which 0 leaves out (R235). -/
def startRecover (m : Nat) (s : State) : State :=
  let on := decide (rdf s (chanBase m + 0x30) 20 8 ≠ 0)
  setChan m (fun c => { c with recover := on }) s

/-- The channel enters RUN by START, RESUME or EXIT: every bank is precharged, and the batch policy holds (R235, R236). -/
def enterRun (m : Nat) (s : State) : State := startRecover m (closeRows m (setChanState m 1 s))

/-- The key of a mode register: `dev` 0 for the devices of a rank, 1 for the register clock driver. -/
def modeKey (sc rank dev mra : Nat) : Nat := ((sc * 8 + rank) * 2 + dev) * 256 + mra

/-- Write a mode register. -/
def setMode (m sc rank dev mra : Nat) (v : Byte) (s : State) : State :=
  setChan m (fun c => { c with mode := sPut 0 c.mode (modeKey sc rank dev mra) v }) s

/-- With a partial self-refresh, write MRV_ENTER or MRV_EXIT to MRA of every device (R246). -/
def writePasr (m lo : Nat) (s : State) : State :=
  let v := rd s (chanBase m + 0x60)
  if fld v 0 8 = 0xFF then s
  else
    (List.range 2).foldl (fun s sc => (List.range (chanRanks s m)).foldl (fun s r =>
      setMode m sc r 0 (fld v 8 8) (BitVec.ofNat 8 (fld v lo 8)) s) s) s

/-- The causes of the always-on comparators, by bit (Table FAULT-3). -/
def aonCauses : List Cause := [.tempHi, .tempLo, .vcoreLo, .vddqLo, .laneWake, .timeAlarm]

/-- The causes the always-on island has latched while the core was stopped are reported at the restart (R358). -/
def reportLatched (s : State) : State :=
  let l := s.aon.latched
  let s := updAon (fun a => { a with latched := 0 }) s
  (aonCauses.filter (fun c => decide (l / 2 ^ c.bit % 2 = 1))).foldl (fun s c => raise0 c s) s

/-- Record what woke the block last: the comparators, and WRST_N (AON_STS). -/
def noteWake (woke : Nat) (wrst : Bool) (s : State) : State := wrf (wrf s oAonSts 8 6 woke) oAonSts 16 1 (b2n wrst)

/-- The block is back in RUN: RESULT DONE, PSTATE_DONE, and the causes latched meanwhile (R353, R358). -/
def backInRun (s : State) : State :=
  reportLatched (raise0 .pstateDone (wrf (wrf s oPwrStatus 0 3 0) oPwrStatus 8 3 1))

/-- The FT units between two steps: 250 ns (R347). -/
def stepSpacing : Nat := 1000

/-- The operations on islands: those of port n's island and of channel m's, and the clocks of the core and the sheet. -/
def portSteps (n : Nat) : Nat := n
def chanSteps (m : Nat) : Nat := 16 + m
def clockSteps : Nat := 24

/-- An operation of `n` steps begins: its first step is taken now, or deferred for the spacing, which raises STEP_HOLD once
(R347). The spacing between its own steps is no deferral: DESIGN CHOICE, log entry 49. -/
def beginSteps (who n : Nat) (s : State) : State :=
  if n = 0 then s
  else if s.aon.stepQ.isEmpty && decide (s.aon.stepWait = 0) then
    updAon (fun a => { a with stepQ := List.replicate (n - 1) who, stepWait := stepSpacing }) s
  else raise0 .stepHold (updAon (fun a => { a with stepQ := a.stepQ ++ List.replicate n who }) s)

/-- Has an operation still steps to take? -/
def stepsLeft (s : State) (who : Nat) : Bool := s.aon.stepQ.contains who

/-- The next step is taken once the spacing has passed. -/
def nextStep (a : AonSide) : AonSide :=
  match a.stepQ with
  | [] => a
  | _ :: q => if a.stepWait = 0 then { a with stepQ := q, stepWait := stepSpacing } else a

/-- Some units of FT pass for the steps that wait. -/
def stepTick (n : Nat) (a : AonSide) : AonSide := nextStep { a with stepWait := a.stepWait - n }

/-- No step is under way: the operations that end so last far longer than the spacing. -/
def stepsTaken (s : State) : State := updAon (fun a => { a with stepQ := [], stepWait := 0 }) s

/-- The channels that STANDBY put into SREF leave it for RUN, and the block is in RUN (R354). DEDUCED, log entry 22. -/
def wakeStandby (s : State) : State :=
  if rdf s oPwrStatus 0 3 ≠ 1 then s
  else
    let s := beginSteps clockSteps 2 s
    let s := s.aon.standbyChans.foldl (fun s m => if chanState s m = 3 then enterRun m (writePasr m 24 s) else s) s
    backInRun (noteWake 0 false (updAon (fun a => { a with standbyChans := [] }) s))

/-- An effect of a message that reaches the block: any message of an agent ends STANDBY (R354). -/
def heard (f : State → State) (s : State) : State := live (fun s => f (wakeStandby s)) s

/-! ### Request buffers (R83, R287, R306, Table LINK-4) -/

/-- Request-buffer entries of a link (Table LINK-4). -/
def reqEntries (s : State) (a : Nat) : Nat := if bitOf (rd s (oPtCfg (a / 2))) 2 then 128 else 256

/-- Does a REQ hold its entry: neither dispatched nor completed at the port (R83, Table LINK-4)? -/
def holdsEntry (a : Nat) (p : Pend) : Bool :=
  decide (p.req.agent = a) && (match p.place with
    | .begun _ => false
    | .window => false
    | _ => true)

/-- Did a REQ come as an RwD of a CXL host? -/
def Pend.isRwd (p : Pend) : Bool :=
  match p.cxl with
  | some f => f.write
  | none => false

/-- REQs of an agent that hold an entry, but for RwD messages. -/
def reqsHeld (s : State) (a : Nat) : Nat := (s.home.reqs.filter (fun p => holdsEntry a p && !p.isRwd)).length

/-- RwD messages of an agent that hold an entry. -/
def rwdsHeld (s : State) (a : Nat) : Nat := (s.home.reqs.filter (fun p => holdsEntry a p && p.isRwd)).length

/-- The load of a CXL link's request buffer, which a CXL-G5 host's writes share (R306). -/
def devLoad (s : State) (a : Nat) : DevLoad :=
  let n := reqsHeld s a + (if isG5 s a then rwdsHeld s a else 0)
  let e := reqEntries s a
  if 2 * n < e then .light else if 4 * n < 3 * e then .optimal else if n < e then .moderate else .severe

/-! ### Sending (R36, R48, R50, R315) -/

/-- The 16-byte slots of a message sent. -/
def slotsOf : TxMsg → Nat
  | .dat .. => 5
  | .memData .. => 5
  | .wedge .. => 0
  | .flit .. => 0
  | .mailbox .. => 0
  | _ => 1

/-- The agent a message goes to. -/
def destOf : TxMsg → Nat
  | .snp a .. => a
  | .rsp a .. => a
  | .dat a .. => a
  | .memData a .. => a
  | .ndr a .. => a
  | .biConflictAck a .. => a
  | .biSnp a .. => a
  | .mailbox a .. => a
  | .wedge a _ => a
  | .flit a _ => a

/-- The arbiters' input of a memory channel (R216). -/
def chanLane (m : Nat) : Nat := 16 + m
/-- The arbiters' input of the home's header-only messages (R216). -/
def homeLane : Nat := 24
/-- The output of a port (R216). -/
def portOutput (a : Nat) : Nat := a / 2
/-- The output of a memory channel. -/
def chanOutput (m : Nat) : Nat := 16 + m

/-- A packet requests an output (R216). -/
def request (p : Packet) (s : State) : State :=
  { s with xbar := { s.xbar with packets := s.xbar.packets ++ [p] } }

/-- A message joins the messages sent; the crossbar has no part in it: wedges, flits and mailbox answers. -/
def emit (m : TxMsg) (s : State) : State := { s with tx := s.tx ++ [m] }

/-- Send one message from an input of the crossbar, with the deadline of Table ORD-4: it joins the messages sent, its payload
is counted (Table TRAY-4, BYTES_OUT), and its packet requests the output of its port. -/
def sendFrom (input : Nat) (dl : BitVec 32) (m : TxMsg) (s : State) : State :=
  let s := count 0x11 ⟨none, some (destOf m), none⟩ (16 * slotsOf m) (emit m s)
  request { input := input, output := portOutput (destOf m), deadline := dl, slots := slotsOf m, sent := 0, msg := some m,
            line := none } s

/-- Send a header-only message of the home, on the home lane. -/
def send (dl : BitVec 32) (m : TxMsg) (s : State) : State := sendFrom homeLane dl m s

/-- The five slots of a line's data move toward a memory channel (Table ORD-4). -/
def moveLine (input : Nat) (m line : Nat) (dl : BitVec 32) (s : State) : State :=
  request { input := input, output := chanOutput m, deadline := dl, slots := 5, sent := 0, msg := none, line := some line } s

/-- A REQ or a WBK of a ZCL agent has used a credit of its class (R287). -/
def creditUsed (a : Nat) (wbk : Bool) (s : State) : State :=
  setLink a (fun l => if wbk then { l with rxWbks := (l.rxWbks + 1) % 2 ^ 16 }
    else { l with rxReqs := (l.rxReqs + 1) % 2 ^ 16 }) s

/-- A message received: its payload is counted (BYTES_IN). -/
def received (a slots : Nat) (s : State) : State := count 0x10 ⟨none, some a, none⟩ (16 * slots) s

end Sys2Proof.Machine
end

