-- ==== Sys2Proof/Machine/Xbar.lean ====
section
/-! DEFINITION. The crossbar: the arbiter of each output, preemption, withdrawal, and the egress staging of the ports (R33,
R203, R216 to R220), and the credits of the ports (R287, R306, R350). -/

namespace Sys2Proof.Machine

/-! ### The arbiters (R216 to R218) -/

/-- The packet that an input requests an output with: its oldest. DESIGN CHOICE, log entry 32. -/
def raisedBy (s : State) (i : Nat) : Option Packet := s.xbar.packets.find? (fun p => decide (p.input = i))

/-- The requests at an output, by input number. -/
def requests (s : State) (o : Nat) : List Packet :=
  ((List.range 25).filterMap (raisedBy s)).filter (fun p => decide (p.output = o))

/-- The request with the nearest deadline; of equals, the one of the lower input number (R217). -/
def nearestOf (s : State) : List Packet → Option Packet
  | [] => none
  | p :: ps =>
    match nearestOf s ps with
    | some q => if nearer s q.deadline p.deadline then some q else some p
    | none => some p

/-- Who sends the next slot of an output: the input that holds the grant, unless another has a strictly nearer deadline; with
no grant, the nearest (R217, R218). A muted output sends nothing (R219). -/
def arbitrate (s : State) (o : Nat) : Option Packet :=
  if s.xbar.mute.contains o then none
  else
    let l := requests s o
    match nearestOf s l, (sFind s.xbar.grants o).bind (fun i => l.find? (fun p => decide (p.input = i))) with
    | some q, some p => if nearer s q.deadline p.deadline then some q else some p
    | q, _ => q

/-! ### Slots -/

/-- A message is whole in the egress staging of its port: the link's sender takes it from there (R218, R284, R306). -/
def stage (p : Packet) (s : State) : State :=
  match p.msg with
  | some m => setLink (destOf m) (fun l => { l with txq := l.txq ++ [m] }) s
  | none => s

/-- A packet sends one slot: its progress counts it and its input holds the grant; with its last slot the packet ends and the
grant with it (R217, R218). -/
def sendSlot (p : Packet) (s : State) : State :=
  if p.sent + 1 < p.slots then
    { s with xbar := { s.xbar with
        packets := modFirst (fun q : Packet => decide (q = p)) (fun q => { q with sent := q.sent + 1 }) s.xbar.packets,
        grants := sSet s.xbar.grants p.output p.input } }
  else
    stage p { s with xbar := { s.xbar with packets := s.xbar.packets.erase p, grants := sDel s.xbar.grants p.output } }

/-- One slot time: every output decides on the requests raised, and each winner sends a slot. After the fourth slot a core
cycle ends, and with it the silence of R219. -/
def slotTime (s : State) : State :=
  let won := (List.range 24).filterMap (arbitrate s)
  let s := won.foldl (fun s p => sendSlot p s) s
  let x := s.xbar
  { s with xbar := if x.slot = 3 then { x with slot := 0, mute := [] } else { x with slot := x.slot + 1 } }

/-- Slot times in turn. -/
def slotTimes : Nat → State → State
  | 0, s => s
  | n + 1, s => slotTimes n (slotTime s)

/-- A unit of FT is 0.25 ns and a core cycle 0.4 ns: five slots in two units. The core's clock stands in STANDBY (R354). -/
def xbarTick (s : State) : State :=
  if asleep s || decide (rdf s oPwrStatus 0 3 = 1) then s
  else
    let n := 5 + s.xbar.half
    slotTimes (n / 2) { s with xbar := { s.xbar with half := n % 2 } }

/-! ### Withdrawal and starvation (R219, R220) -/

/-- Packets are withdrawn before they end. An output whose granted input withdraws carries nothing for the rest of the core
cycle (R219). -/
def withdraw (w : Packet → Bool) (s : State) : State :=
  let quiet := s.xbar.grants.filter (fun g => s.xbar.packets.any (fun p =>
    w p && decide (p.output = g.1) && decide (p.input = g.2) && decide (0 < p.sent)))
  { s with xbar := { s.xbar with packets := s.xbar.packets.filter (fun p => !w p),
                                 grants := s.xbar.grants.filter (fun g => !quiet.contains g),
                                 mute := s.xbar.mute ++ quiet.map (·.1) } }

/-- Is a packet one of an agent's messages? -/
def packetFor (a : Nat) (p : Packet) : Bool :=
  match p.msg with
  | some m => decide (destOf m = a)
  | none => false

/-- Does an input hold a request at an output? -/
def holdsRequest (s : State) (i o : Nat) : Bool := (requests s o).any (fun p => decide (p.input = i))

/-! ### Credits (R287, R288, R306, R338, R354) -/

/-- Writeback slots of an agent in use. -/
def slotsHeld (s : State) (a : Nat) : Nat := (s.home.wslots.filter (fun p => decide (p.2.agent = a))).length

/-- Credits of a class not returned yet, of `entries` sinks with `held` in use (R287, R288). -/
def owedCredits (entries held received given : Nat) : Nat :=
  let d := (entries + received + 2 ^ 17 - held - given) % 2 ^ 16
  if d < 2 ^ 15 then d else 0

/-- Does a port return no REQ credits: in Safelight state and while STANDBY is entered (R338, R354)? -/
def reqsBarred (s : State) : Bool := isSafe s || s.aon.standbyWait || decide (rdf s oPwrStatus 0 3 ≠ 0)

/-- The entries behind an agent's M2S Req or REQ credits: a CXL-G5 host's RwD credits have the other half of the request buffer
(R306). DESIGN CHOICE, log entry 29. -/
def reqPool (s : State) (a : Nat) : Nat := if isG5 s a then reqEntries s a / 2 else reqEntries s a

/-- REQ credits to return. -/
def reqCredits (s : State) (a : Nat) : Nat :=
  let l := linkOf s a
  if reqsBarred s then 0 else owedCredits (reqPool s a) (reqsHeld s a) l.rxReqs l.cumReq

/-- WBK credits to return; on a CXL-G5 link RwD credits, which are withheld together with the M2S Req credits (R306). -/
def wbkCredits (s : State) (a : Nat) : Nat :=
  let l := linkOf s a
  if isG5 s a then (if reqsBarred s then 0 else owedCredits (reqPool s a) (rwdsHeld s a) l.rxWbks l.cumWbk)
  else owedCredits Config.wbSlotsPerAgent (slotsHeld s a) l.rxWbks l.cumWbk

/-- The messages that leave a CXL port's staging with `cred` BISnp credits, and those that stay. -/
def cxlLeave : Nat → List TxMsg → List TxMsg × List TxMsg
  | _, [] => ([], [])
  | n, m :: ms =>
    match m with
    | .biSnp .. =>
      (match n with
       | 0 => (match cxlLeave 0 ms with
               | (t, r) => (t, m :: r))
       | k + 1 => (match cxlLeave k ms with
                   | (t, r) => (m :: t, r)))
    | _ =>
      (match cxlLeave n ms with
       | (t, r) => (m :: t, r))

/-- A Back-Invalidate snoop. -/
def isBiSnp : TxMsg → Bool
  | .biSnp .. => true
  | _ => false

/-- The stretch of four flit positions of a CXL link that a fabric time falls in: at x8 a position takes 4.000 ns on a CXL-G6 link
and 2.160 ns on a CXL-G5 link, and a narrower link takes longer in proportion (Table LINK-1). -/
def cxlStretch (s : State) (a ft : Nat) : Nat :=
  let w := 2 ^ (rdf s (oPtStatus (a / 2)) (12 + 4 * (a % 2)) 3 - 1)
  if isG5 s a then ft * 25 * w / 6912 else ft * w / 512

/-- The most REQ credits that a CXL port may return now, `before` being the fabric time of the last unit: while the block
throttles, LEVEL as a stretch of four positions begins (R350). -/
def cxlCap (before : W64) (s : State) (a : Nat) : Nat :=
  if !bitOf (rd s oPwrStatus) 12 then 2 ^ 16
  else if cxlStretch s a s.aon.ft.toNat = cxlStretch s a before.toNat then 0 else rdf s 0x214 0 6

/-- A CXL port in UP sends what its staging holds, a BISnp only with a credit of the host's, and returns the credits it owes
(R306), REQ-class ones no faster than throttling allows (R350). A snoop message leaves without waiting for its flit: log entry 29. -/
def cxlPort (before : W64) (a : Nat) (s : State) : State :=
  if isZcl s a || decide (linkState s a ≠ 2) then s
  else
    let l := linkOf s a
    let cred := (l.cumSnp + 2 ^ 16 - l.sentSnp) % 2 ^ 16
    let r := cxlLeave cred l.txq
    let cap := cxlCap before s a
    let rq := min cap (reqCredits s a)
    let wk := if isG5 s a then min (cap - rq) (wbkCredits s a) else wbkCredits s a
    setLink a (fun x => { x with txq := r.2, sentSnp := (x.sentSnp + (r.1.filter isBiSnp).length) % 2 ^ 16,
                                 cumReq := (x.cumReq + rq) % 2 ^ 16, cumWbk := (x.cumWbk + wk) % 2 ^ 16 }) s

/-- The CXL ports' part of a unit of FT, `before` being the fabric time of the last. -/
def cxlTick (before : W64) (s : State) : State :=
  if asleep s then s else s.links.foldl (fun s p => cxlPort before p.1 s) s

/-! ### Deadlines held (R203) -/

/-- A deadline that lies more than 2^30 ns behind is replaced. -/
def ageDeadline (s : State) (d : BitVec 32) : BitVec 32 := BitVec.ofNat 32 (normDeadline (nowNs s) d.toNat)

/-- Replace the deadlines that the block holds and may compare: REQs, writebacks, waiters, contexts, events, buffered lines and
packets. -/
def ageAll (s : State) : State :=
  let g := ageDeadline s
  let s := updHome (fun h => { h with
    reqs := h.reqs.map (fun p => { p with deadline := g p.deadline }),
    wslots := h.wslots.map (fun p => (p.1, { p.2 with deadline := g p.2.deadline })),
    chains := h.chains.map (fun q => (q.1, q.2.map (fun w => { w with deadline := g w.deadline }))) }) s
  let s := updDev (fun d => { d with
    ready := d.ready.map (fun e => { e with ed := g e.ed }),
    ctxs := d.ctxs.map (fun p => (p.1, { p.2 with deadline := g p.2.deadline,
                                                  events := p.2.events.map (fun e => { e with ed := g e.ed }) })) }) s
  let s := updMem (fun m => { m with pwb := m.pwb.map (fun p => { p with deadline := g p.deadline }) }) s
  { s with xbar := { s.xbar with packets := s.xbar.packets.map (fun p => { p with deadline := g p.deadline }) } }

end Sys2Proof.Machine
end

