-- ==== Sys2Proof/Machine/Clock.lean ====
section
/-! DEFINITION. Fabric time's advance: what the block does when no command waits (R202, R203, R206, R217, R319, R347, R357). DESIGN CHOICE,
log entry 1. -/

namespace Sys2Proof.Machine

/-- GLB_FT_TRIM.TRIM, in units of 10^-8. -/
def ftTrim (s : State) : Int := signedOf (rdf s oFtTrim 0 16) 16

/-- What one advance of FT adds before TRIM, in sixteenths of a unit: one unit while the core clock runs; 122,070.3125 units, an
edge of the always-on island's clock, while STANDBY, RETAIN or OFF has stopped it (R357). -/
def ftStep (s : State) : Nat :=
  let p := rdf s oPwrStatus 0 3
  if 1 ≤ p ∧ p ≤ 3 then 1953125 else 16

/-- FT advances by one step scaled by 1 + TRIM × 10^-8, the fraction carried (R202, R357); the steps of islands keep their spacing
by it (R347). -/
def ftTick (s : State) : State :=
  let n := s.aon.ftFrac + ftStep s * (100000000 + ftTrim s).toNat
  updAon (fun a => stepTick (n / 1600000000)
    { a with ft := a.ft + w64 (n / 1600000000), ftFrac := n % 1600000000 }) s

/-- While LM_CTRL.EN is 0 no record is due, and the counts of a millisecond go with it (R319). -/
def meterTick (before : W64) (s : State) : State :=
  if bitOf (rd s 0x342100) 0 || decide (s.aon.ft.toNat / 4000000 = before.toNat / 4000000) then s
  else updMeter (fun m => { m with stats := [] }) s

/-- The deadlines held are replaced each time FT[33:2] passes a multiple of 2^30, which keeps every one of them within reach of
R203's comparison. -/
def ageTick (before : Nat) (s : State) : State := if nowNs s / 2 ^ 30 = before / 2 ^ 30 then s else ageAll s

/-- One unit of FT passes, and with it the crossbar's slots and what the CXL ports send. FT stands at 0 while PORST_N is low. -/
def tick (s : State) : State :=
  if s.aon.porstLow then s else cxlTick s.aon.ft (xbarTick (meterTick s.aon.ft (ageTick (nowNs s) (ftTick s))))

end Sys2Proof.Machine
end

