-- ==== Sys2Proof/Machine/Sheet.lean ====
section
/-! DEFINITION. The Contact Sheet: placing a sector, the entry's bits and its code, reading a way, looking a sector
up, updating an entry, ages and victims (R107 to R122). -/

namespace Sys2Proof.Machine

/-! ### Placing a sector (R107) -/

/-- The bank of a sector: the exclusive OR of its seven five-bit groups. -/
def bankOf (sec : Nat) : Nat :=
  Nat.xor (sec % 32) (Nat.xor (sec / 2 ^ 5 % 32) (Nat.xor (sec / 2 ^ 10 % 32) (Nat.xor (sec / 2 ^ 15 % 32)
    (Nat.xor (sec / 2 ^ 20 % 32) (Nat.xor (sec / 2 ^ 25 % 32) (sec / 2 ^ 30 % 16))))))
/-- The set of a sector. -/
def setOf (sec : Nat) : Nat := sec / 2 ^ 5 % 2 ^ 14
/-- The tag of a sector. -/
def tagOf (sec : Nat) : Nat := sec / 2 ^ 19 % 2 ^ 15

/-- The sector that a bank, a set and a tag name. -/
def sectorOf (bank set tag : Nat) : Nat :=
  let hi := set * 2 ^ 5 + tag * 2 ^ 19
  hi + Nat.xor bank (bankOf hi)

/-- The key of a way. -/
def wayKey (bank set way : Nat) : Nat := bank * 131072 + set * 8 + way

/-! ### The entry (R109, R110) -/

/-- LSTk code (Table SHEET-3). -/
def lstCode : Lst → Nat
  | .i => 0
  | .s => 1
  | .e => 2
  | .o => 3
  | .m => 4
  | .fogged => 5

/-- The state of an LSTk code; none where the code is reserved. -/
def lstOfCode : Nat → Option Lst
  | 0 => some .i
  | 1 => some .s
  | 2 => some .e
  | 3 => some .o
  | 4 => some .m
  | 5 => some .fogged
  | _ => none

/-- Element k of four. -/
def Quad.get {α : Type} (q : Quad α) (k : Nat) : α :=
  match k % 4 with
  | 0 => q.q0
  | 1 => q.q1
  | 2 => q.q2
  | _ => q.q3

/-- Replace element k of four. -/
def Quad.set {α : Type} (q : Quad α) (k : Nat) (v : α) : Quad α :=
  match k % 4 with
  | 0 => { q with q0 := v }
  | 1 => { q with q1 := v }
  | 2 => { q with q2 := v }
  | _ => { q with q3 := v }

/-- The four elements. -/
def Quad.list {α : Type} (q : Quad α) : List α := [q.q0, q.q1, q.q2, q.q3]

/-- Does a state name an owner? -/
def Lst.owned : Lst → Bool
  | .e => true
  | .o => true
  | .m => true
  | _ => false

/-- LST0 to LST3 as 12 bits. -/
def lstBits (q : Quad Lst) : Nat :=
  lstCode q.q0 + 8 * lstCode q.q1 + 64 * lstCode q.q2 + 512 * lstCode q.q3

/-- OWN0 to OWN3 as 20 bits. -/
def ownBits (q : Quad Nat) : Nat := q.q0 % 32 + 32 * (q.q1 % 32) + 1024 * (q.q2 % 32) + 32768 * (q.q3 % 32)

/-- Four owners from 20 bits. -/
def ownOfBits (n : Nat) : Quad Nat := ⟨n % 32, n / 32 % 32, n / 1024 % 32, n / 32768 % 32⟩

/-- The 96 data bits of an entry (Table SHEET-2). -/
def entryBits (e : Entry) : BitVec 96 :=
  BitVec.ofNat 96 (1 + 2 * (e.tag % 2 ^ 15) + 2 ^ 16 * lstBits e.lst + 2 ^ 28 * ownBits e.own + 2 ^ 48 * e.sv.toNat +
    2 ^ 80 * (e.tray % 64) + 2 ^ 86 * (e.age % 8) + 2 ^ 89 * b2n e.spill)

/-- What 96 data bits hold: an entry, nothing (VALID 0), or a reserved LSTk code. -/
inductive Decoded where
  | empty
  | entry (e : Entry)
  | reserved
  deriving DecidableEq, Repr

/-- Read the 96 data bits of a way. -/
def entryOfBits (b : BitVec 96) : Decoded :=
  if !b.getLsbD 0 then .empty
  else
    match lstOfCode (fld b 16 3), lstOfCode (fld b 19 3), lstOfCode (fld b 22 3), lstOfCode (fld b 25 3) with
    | some l0, some l1, some l2, some l3 =>
      .entry { tag := fld b 1 15, lst := ⟨l0, l1, l2, l3⟩, own := ownOfBits (fld b 28 20),
               sv := BitVec.ofNat 32 (fld b 48 32), tray := fld b 80 6, age := fld b 86 3, spill := b.getLsbD 89 }
    | _, _, _, _ => .reserved

/-! ### The entry code RS(18,12) and the line code RS(80,68): check symbols (R111, R255) -/

/-- Multiply by x in GF(2^8) over x^8 + x^4 + x^3 + x^2 + 1. -/
def gfDouble (a : Nat) : Nat := if a < 128 then 2 * a else Nat.xor (2 * a % 256) 0x1D

/-- Multiply in the field, by the bits of the second factor. -/
def gfMulN : Nat → Nat → Nat → Nat
  | 0, _, _ => 0
  | n + 1, a, b => Nat.xor (if b % 2 = 1 then a else 0) (gfMulN n (gfDouble a) (b / 2))

/-- Multiply in the field. -/
def gfMul (a b : Nat) : Nat := gfMulN 8 a b

/-- α^n. -/
def gfPow : Nat → Nat
  | 0 => 1
  | n + 1 => gfDouble (gfPow n)

/-- Multiply a polynomial, highest coefficient first, by (x + r). -/
def polyTimes (p : List Nat) (r : Nat) : List Nat :=
  List.zipWith (fun a b => Nat.xor a b) (p ++ [0]) (0 :: p.map (gfMul r))

/-- The generator with roots α^0 to α^(n−1), highest coefficient first. -/
def rsGen : Nat → List Nat
  | 0 => [1]
  | n + 1 => polyTimes (rsGen n) (gfPow n)

/-- One step of the division: shift a symbol in and subtract the generator. -/
def rsStep (g : List Nat) (rem : List Nat) (sym : Nat) : List Nat :=
  match rem with
  | [] => []
  | r :: rs =>
    let f := Nat.xor r sym
    List.zipWith (fun a b => Nat.xor a b) (rs ++ [0]) ((g.drop 1).map (gfMul f))

/-- The `n` check symbols of an information word, highest power first (R111, R255). -/
def rsCheck (n : Nat) (info : List Nat) : List Nat :=
  info.foldl (rsStep (rsGen n)) (List.replicate n 0)

/-- The 18 stored symbols of an entry (R111). -/
def entrySymbols (b : BitVec 96) : List Nat :=
  let info := (bytesOf b 12).map (·.toNat)
  info ++ rsCheck 6 info

/-- The 80 symbols of a line's burst (R253, R255). -/
def burstSymbols (d : LineBits) (ldw : W32) : List Nat :=
  let info := (lineBytes d).map (·.toNat) ++ (bytesOf ldw 4).map (·.toNat)
  info ++ rsCheck 12 info

/-! ### Wrong symbols -/

/-- Add errors to errors: patterns on one symbol combine, and a symbol whose pattern becomes 0 is right again. -/
def addErrs (l m : List SymErr) : List SymErr :=
  m.foldl (fun acc p =>
    match acc.find? (fun q => q.1 = p.1) with
    | some q =>
      let x := q.2 ^^^ p.2
      if x = 0 then acc.filter (fun r => r.1 ≠ p.1) else acc.map (fun r => if r.1 = p.1 then (r.1, x) else r)
    | none => if p.2 = 0 then acc else acc ++ [p]) l

/-! ### Rows (R139) -/

/-- The row that serves a set of a bank: the spare row that a valid soft-repair register or else the fuse map puts in its
place, numbered 16,384 + i, or the main row itself. -/
def rowOf (s : State) (bank set : Nat) : Nat :=
  match (List.range 32).find? (fun r => bitOf (rd s (oSr bank r)) 31 && decide (rdf s (oSr bank r) 0 14 = set)) with
  | some r => 16384 + rdf s (oSr bank r) 16 6
  | none =>
    match (sGet [] s.aon.fuseCopy.rows bank).findIdx? (fun r => decide (r = set)) with
    | some i => 16384 + i
    | none => set

/-! ### Reading a way (R112, R113) -/

/-- The outcome of reading a way. -/
inductive WayRead where
  | clean (e : Option Entry)
  | fixed (e : Option Entry)
  | bad
  deriving DecidableEq, Repr

/-- The entry stored in a way, as written. -/
def storedWay (s : State) (key : Nat) : Option Entry := sFind s.sheet.ways key

/-- Put an entry, or nothing, into a way: a freshly encoded codeword (R111). -/
def putWay (key : Nat) (e : Option Entry) (s : State) : State :=
  let ways := match e with
    | some e => sSet s.sheet.ways key e
    | none => sDel s.sheet.ways key
  { s with sheet := { s.sheet with ways := ways, errs := sDel s.sheet.errs key } }

/-- A way with four or more wrong symbols: reported uncorrectable, or decoded as another codeword, with or without a
correction; which of these is open (R112). The other codeword's bits are free. -/
def miscorrect (key : Nat) (s : State) : WayRead × State :=
  match choose 3 s with
  | (0, s) => (.bad, s)
  | (k, s) =>
    match entryOfBits (Config.freeEntry s.draws) with
    | .reserved => (.bad, bumpDraws s)
    | .empty => (if k = 1 then .fixed none else .clean none, putWay key none (bumpDraws s))
    | .entry e => (if k = 1 then .fixed (some e) else .clean (some e), putWay key (some e) (bumpDraws s))

/-- Read and decode one way: CE and a write-back for one to three corrected symbols, UE and Safelight for an
uncorrectable one (Table SHEET-4). A corrected way is read again (R138). -/
def readWay (bank set way : Nat) (s : State) : WayRead × State :=
  let key := wayKey bank set way
  let errs := sGet [] s.sheet.errs key
  let r := if errs.length = 0 then (WayRead.clean (storedWay s key), s)
    else if errs.length ≤ 3 then (.fixed (storedWay s key), s)
    else miscorrect key s
  match r with
  | (.clean e, s) => (.clean e, s)
  | (.fixed e, s) =>
    let s := putWay key e s
    let s := { s with sheet := { s.sheet with
                recheck := s.sheet.recheck ++ errs.map (fun p => (key, p.1)) } }
    let s := wr s 0x030018 (satInc32 (rd s 0x030018))
    (.fixed e, raise0 .sheetCe s)
  | (.bad, s) => (.bad, raise .sheetUe bank (sheetRec bank (rowOf s bank set) way 0) s)

/-- The entry a read gives, where it gives one. -/
def WayRead.entry : WayRead → Option Entry
  | .clean e => e
  | .fixed e => e
  | .bad => none

/-- The outcome of a lookup. -/
inductive Look where
  | hit (way : Nat) (e : Entry)
  | miss
  | noResult
  deriving DecidableEq, Repr

/-- Read ways `w` and up of a set: whether any was bad, and the ways found. -/
def readSet (bank set : Nat) : List Nat → State → Bool × List (Nat × Entry) × State
  | [], s => (false, [], s)
  | w :: ws, s =>
    match readWay bank set w s with
    | (r, s) =>
      match readSet bank set ws s with
      | (b, l, s) =>
        (b || decide (r = .bad), (match r.entry with
                                  | some e => (w, e) :: l
                                  | none => l), s)

/-- Look a sector up: the whole set is read; UE gives no result, and two valid ways with one tag raise DUP
(R108, R114). -/
def lookup (sec : Nat) (s : State) : Look × State :=
  let bank := bankOf sec
  let s := count 0x05 Units.block 1 s
  match readSet bank (setOf sec) (List.range 8) s with
  | (true, _, s) => (.noResult, s)
  | (false, l, s) =>
    match l.filter (fun p => p.2.tag = tagOf sec) with
    | [] => (.miss, s)
    | [(w, e)] => (.hit w e, s)
    | (w, _) :: _ => (.noResult, raise .dup bank (sheetRec bank (rowOf s bank (setOf sec)) w 0) s)

/-- The way and entry that hold a sector, as stored: what an update works on (R115). -/
def findEntry (s : State) (sec : Nat) : Option (Nat × Entry) :=
  (List.range 8).findSome? (fun w =>
    match storedWay s (wayKey (bankOf sec) (setOf sec) w) with
    | some e => if e.tag = tagOf sec then some (w, e) else none
    | none => none)

/-! ### Occupancy (R120) -/

/-- A tray's valid entries, idle ones included. -/
def occupancy (s : State) (t : Nat) : Nat := (s.sheet.ways.filter (fun p => p.2.tray = t)).length

/-- Raise QUOTA once per crossing, and arm it again when the occupancy is back at or below the quota. -/
def quotaCheck (t : Nat) (s : State) : State :=
  if trayQuota s t < occupancy s t then
    if s.sheet.overQuota.contains t then s
    else raise0 .quota { s with sheet := { s.sheet with overQuota := t :: s.sheet.overQuota } }
  else { s with sheet := { s.sheet with overQuota := s.sheet.overQuota.filter (· ≠ t) } }

/-! ### The entry as a context sees it (Table DEV-5) -/

/-- SO as entry bits [47:28]. -/
def soOf (e : Entry) : BitVec 20 := BitVec.ofNat 20 (ownBits e.own)

/-- SS: LST0 to LST3, HIT, SPILL, TRAY and the line index (Table DEV-5). -/
def ssOf (e : Option Entry) (k : Nat) : BitVec 22 :=
  match e with
  | some e => BitVec.ofNat 22 (lstBits e.lst + 2 ^ 12 + 2 ^ 13 * b2n e.spill + 2 ^ 14 * (e.tray % 64) + 2 ^ 20 * (k % 4))
  | none => BitVec.ofNat 22 (2 ^ 20 * (k % 4))

/-! ### Updates (R115, R117, R118) -/

/-- The set of the owners of a sector's lines in E or M. -/
def ownersSv (e : Entry) : BitVec 32 :=
  (List.range 4).foldl (fun v k =>
    match e.lst.get k with
    | .e => v ||| (1#32 <<< (e.own.get k))
    | .m => v ||| (1#32 <<< (e.own.get k))
    | _ => v) 0#32

/-- Recompute SV: with no line in S, O or FOGGED it is the set of owners in E or M (R117). -/
def recomputeSv (e : Entry) : Entry :=
  if e.lst.list.any (fun l => l = .s || l = .o || l = .fogged) then e
  else { e with sv := ownersSv e }

/-- Four lines I and SV empty (R118). -/
def isIdle (e : Entry) : Bool := e.lst.list.all (· = .i) && decide (e.sv = 0)

/-- Replace LSTk and OWNk, add SV bits, recompute SV (R115). OWNk is 0 unless the state names an owner (R110). -/
def applyUpdate (e : Entry) (k : Nat) (l : Lst) (own : Nat) (extra : BitVec 32) : Entry :=
  recomputeSv { e with lst := e.lst.set k l, own := e.own.set k (if l.owned then own else 0), sv := (e.sv ||| extra) }

/-- Write an entry back into its way; one that became idle with SPILL 0 leaves the sheet (R118). -/
def storeEntry (sec way : Nat) (e : Entry) (s : State) : State :=
  let key := wayKey (bankOf sec) (setOf sec) way
  if isIdle e && !e.spill then quotaCheck e.tray (putWay key none s)
  else putWay key (some e) s

/-- An entry with one line's record and the rest I, for a sector that had none (R183). -/
def newEntry (sec tray : Nat) : Entry :=
  { tag := tagOf sec, lst := ⟨.i, .i, .i, .i⟩, own := ⟨0, 0, 0, 0⟩, sv := 0, tray := tray, age := 0, spill := false }

/-- Set the AGE of a sector's entry to 0: a lookup hit by a REQ (R119). -/
def touchAge (sec way : Nat) (s : State) : State :=
  let key := wayKey (bankOf sec) (setOf sec) way
  { s with sheet := { s.sheet with ways := sMod s.sheet.ways key (fun e => { e with age := 0 }) } }

/-- Add one to the AGE of every other valid way of a set, saturating at 7 (R119). -/
def ageOthers (bank set way : Nat) (s : State) : State :=
  let bump := fun (m : Sparse Entry) (w : Nat) =>
    if w = way then m
    else sMod m (wayKey bank set w) (fun e => { e with age := min 7 (e.age + 1) })
  { s with sheet := { s.sheet with ways := (List.range 8).foldl bump s.sheet.ways } }

/-! ### Victims (R120) -/

/-- Is any line of a sector latent? -/
def sectorLatent (s : State) (sec : Nat) : Bool :=
  (List.range 4).any (fun k => (sFind s.home.latent (4 * sec + k)).isSome)

/-- The valid ways of a set. -/
def setWays (s : State) (bank set : Nat) : List (Nat × Entry) :=
  (List.range 8).filterMap (fun w => (storedWay s (wayKey bank set w)).map (fun e => (w, e)))

/-- The highest AGE, the lowest way on a tie. -/
def oldest : List (Nat × Entry) → Option (Nat × Entry)
  | [] => none
  | p :: ps =>
    match oldest ps with
    | some q => if p.2.age < q.2.age then some q else some p
    | none => some p

/-- The victim of an allocation for tray t from the first class of Table SHEET-5 that is not empty; never an entry
with a latent line. -/
def victim (s : State) (bank set t : Nat) : Option (Nat × Entry) :=
  let cand := (setWays s bank set).filter (fun p => !sectorLatent s (sectorOf bank set p.2.tag))
  let c1 := cand.filter (fun p => isIdle p.2)
  let c2 := cand.filter (fun p => decide (trayQuota s p.2.tray < occupancy s p.2.tray))
  let c3 := cand.filter (fun p => decide (p.2.tray = t) && decide (trayQuota s t ≤ occupancy s t))
  oldest (if !c1.isEmpty then c1 else if !c2.isEmpty then c2 else if !c3.isEmpty then c3 else cand)

/-- SHEET_BANK.STATE: 0 ONLINE, 1 DRAIN, 2 QUIESCE, 3 OFFLINE, 4 FAILED. -/
def bankState (s : State) (b : Nat) : Nat := rdf s (oBank b) 0 3

/-- QUIESCE, OFFLINE and FAILED hold a bank's requests (R142). -/
def bankHeld (s : State) (b : Nat) : Bool := decide (2 ≤ bankState s b)

/-- May a bank report itself suspect in Safelight state (R339)? -/
def bankSuspect (s : State) (b : Nat) : Bool := bitOf (rd s oSuspect) b

end Sys2Proof.Machine
end

