-- ==== Sys2Proof/Machine/Memory.lean ====
section
/-! DEFINITION. The memory side: bursts and their decoding, the error log, the posted write buffer, the blank map and
development, directory words (R70, R71, R123, R127, R226 to R236, R253 to R267). -/

namespace Sys2Proof.Machine

/-! ### Bursts at rest -/

/-- Where a line's burst lies: channel m at bytes m × 2^39 of the DRAM space, then the channel offset. -/
def burstAddr (s : State) (line : Nat) : Option Nat := (lineChan s line).map (fun p => p.1 * 2 ^ 39 + p.2)

/-- The data bytes stored at a burst. -/
def burstData (s : State) (a : Nat) : LineBits := lineOf (memRead s.mem.dram a 64)

/-- Store a burst with valid check symbols (R255, R275). -/
def writeBurst (a : Nat) (d : LineBits) (ldw : W32) (s : State) : State :=
  { s with mem := { s.mem with dram := memWrite s.mem.dram a (lineBytes d),
                               ldws := sPut 0 s.mem.ldws (a / 64) ldw,
                               burstErr := sDel s.mem.burstErr (a / 64) } }

/-! ### The line directory word (R127, R128) -/

/-- KIND of an LDW. -/
def ldwKind (l : W32) : Nat := fld l 0 4
/-- EMPTY. -/
def ldwEmpty : W32 := 0
/-- FOG. -/
def ldwFog : W32 := 0x9#32
/-- The KIND of a lost page-copy line, which Table SHEET-8 leaves invalid (R272). -/
def ldwLost : W32 := 0xF#32

/-- Does an LDW carry tracking: KIND TRACK or TRACK_FOG (R127)? -/
def ldwTracks (l : W32) : Bool := decide (ldwKind l = 0x6) || decide (ldwKind l = 0xC)

/-- A KIND that Table SHEET-8 marks invalid. -/
def ldwInvalid (l : W32) : Bool :=
  !(ldwTracks l || decide (ldwKind l = 0) || decide (ldwKind l = 0x9))

/-- Fogged at rest: FOG, TRACK_FOG, or TRACK with LST FOGGED (R128). -/
def ldwFogged (l : W32) : Bool :=
  decide (ldwKind l = 0x9) || decide (ldwKind l = 0xC) ||
  (decide (ldwKind l = 0x6) && decide (fld l 8 3 = 5))

/-- A TRACK LDW (Table SHEET-7). -/
def ldwTrack (seq : BitVec 4) (l : Lst) (own epoch svb : Nat) : W32 :=
  BitVec.ofNat 32 (6 + 16 * seq.toNat + 256 * lstCode l +
    (if l.owned then 2 ^ 11 * (own % 32) + 2 ^ 16 * (epoch % 256) else 0) + 2 ^ 24 * (svb % 256))

/-- Keep the poison mark: EMPTY becomes FOG, TRACK becomes TRACK_FOG (R123). -/
def ldwMark (fog : Bool) (l : W32) : W32 :=
  if !fog then l
  else if ldwKind l = 0 then l ||| 0x9#32
  else if ldwKind l = 0x6 then (l &&& 0xFFFFFFF0#32) ||| 0xC#32
  else l

/-! ### Decoding (R256 to R260) -/

/-- What a read delivers. -/
structure ReadOut where
  data  : LineBits
  ldw   : W32
  uncor : Bool
  fog   : Bool
  /-- Whether any symbol beside erasures was corrected. -/
  fixed : Bool
  deriving DecidableEq, Repr

/-- Zero data with an EMPTY LDW and no mark (R263). -/
def ReadOut.zero : ReadOut := { data := 0, ldw := 0, uncor := false, fog := false, fixed := false }

/-- Sources of an error-log entry (CD_ELOG_INFO.SRC). -/
inductive ReadSrc where
  | txn | early | scrub | copy | ldw
  deriving DecidableEq, Repr

/-- The SRC code. -/
def ReadSrc.code : ReadSrc → Nat
  | .txn => 0
  | .early => 1
  | .scrub => 2
  | .copy => 3
  | .ldw => 4

/-- The device that holds a symbol (R254). -/
def deviceOf (s : State) (m sym : Nat) : Nat := if bitOf (rd s (oMcCfg m)) 4 then sym / 16 else sym / 8

/-- The erased device of a subchannel's rank (R260). -/
def erased (s : State) (m sc rank : Nat) : Option Nat :=
  let v := rd s (chanBase m + 0x8020 + 0x20 * sc + 4 * rank)
  if bitOf v 31 then some (fld v 0 4) else none

/-- CD_ELOG of a read: entry COUNT, or LOST when the log is full. SYMS is 0 to 6. -/
def elog (m line : Nat) (c : Coord) (ue : Bool) (dev syms : Nat) (src : ReadSrc) (s : State) : State :=
  let o := chanBase m + 0x8400
  let n := rdf s o 0 5
  if n < 16 then
    let s := wr s (o + 0x10 + 16 * n) (w64 (line * 64))
    let s := wr s (o + 0x18 + 16 * n)
      (w64 (src.code + 2 ^ 16 * min 6 syms + 2 ^ 20 * (dev % 16) + 2 ^ 24 * (c.rank % 8) + 2 ^ 27 * c.sc + 2 ^ 31 * b2n ue))
    wrf s o 0 5 (n + 1)
  else wrf s o 8 8 (min 255 (rdf s o 8 8 + 1))

/-- Add one to the counter of each device that held a corrected symbol, saturating. -/
def devCount (m : Nat) (c : Coord) (devs : List Nat) (s : State) : State :=
  devs.foldl (fun s d =>
    let o := chanBase m + 0x8100 + 0x100 * c.sc + 0x20 * c.rank + 4 * (d / 2)
    let lo := 16 * (d % 2)
    wrf s o lo 16 (min 0xFFFF (rdf s o lo 16 + 1))) s

/-- A corrected read (Table CODE-2, second row). -/
def readCorrected (m line : Nat) (c : Coord) (devs : List Nat) (syms : Nat) (src : ReadSrc) (s : State) : State :=
  let o := chanBase m + 0x8010
  let s := wr s o (satInc32 (rd s o))
  let s := devCount m c devs s
  let s := statAdd 0x102 4 m 1 s
  let s := raiseAt .memCe m s
  elog m line c false ((devs.min?).getD 0xF) syms src s

/-- An uncorrectable read (Table CODE-2, third row). -/
def readUncor (m line : Nat) (c : Coord) (dev : Nat) (src : ReadSrc) (s : State) : State :=
  let o := chanBase m + 0x8014
  let s := wr s o (satInc32 (rd s o))
  let s := statAdd 0x103 4 m 1 s
  let s := raise .memUe m ⟨3, m, line * 64 % 2 ^ 32, line * 64 / 2 ^ 32,
    c.sc + 2 * c.rank + 16 * (dev % 16) + 2 ^ 12 * src.code, 0⟩ s
  elog m line c true dev 0 src s

/-- A symbol as received: the stored byte with the pattern of a wrong symbol. -/
def receivedSym (errs : List SymErr) (i : Nat) (b : Byte) : Byte :=
  match errs.find? (fun p => p.1 = i) with
  | some p => b ^^^ p.2
  | none => b

/-- The line bytes as received: symbols S0 to S63. -/
def received64 (d : LineBits) (errs : List SymErr) : LineBits :=
  lineOf ((List.range 64).map (fun i => receivedSym errs i (byteAt d i)))

/-- The LDW as received: symbols S64 to S67. -/
def receivedLdw (l : W32) (errs : List SymErr) : W32 :=
  BitVec.ofNat 32 (natOfBytes ((bytesOf l 4).zipIdx.map (fun p => receivedSym errs (64 + p.2) p.1)))

/-- How a burst decodes: cleanly, corrected, uncorrectable, or as another codeword (with or without a correction),
where the last three are open (R256). -/
inductive BurstOut where
  | clean | corrected | bad | wrong (marked : Bool)
  deriving DecidableEq, Repr

/-- Classify the wrong symbols outside an erased device. -/
def classify (erasing : Bool) (n : Nat) (s : State) : BurstOut × State :=
  if n = 0 then (.clean, s)
  else if n ≤ (if erasing then 2 else 6) then (.corrected, s)
  else
    match choose 3 s with
    | (0, s) => (.bad, s)
    | (1, s) => (.wrong true, s)
    | (_, s) => (.wrong false, s)

/-- Decode the burst of a line with wrong symbols `extra` beside those at rest, log what Table CODE-2 says, and
deliver. An LDW with an invalid KIND makes the line uncorrectable (R258). -/
def decodeBurst (m co line : Nat) (src : ReadSrc) (extra : List SymErr) (s : State) : ReadOut × State :=
  let a := m * 2 ^ 39 + co
  let c := coordOf s m co
  let errs := addErrs (sGet [] s.mem.burstErr (a / 64)) extra
  let er := erased s m c.sc c.rank
  let live := errs.filter (fun p => some (deviceOf s m p.1) ≠ er)
  let devs := (live.map (fun p => deviceOf s m p.1)).dedup
  let d := burstData s a
  let l := sGet 0 s.mem.ldws (a / 64)
  match classify er.isSome live.length s with
  | (.clean, s) =>
    if ldwInvalid l then
      ({ data := d, ldw := l, uncor := true, fog := false, fixed := false }, readUncor m line c 0xF src s)
    else ({ data := d, ldw := l, uncor := false, fog := ldwFogged l, fixed := false }, s)
  | (.corrected, s) =>
    let s := readCorrected m line c devs live.length src s
    if ldwInvalid l then
      ({ data := d, ldw := l, uncor := true, fog := false, fixed := true }, readUncor m line c 0xF src s)
    else ({ data := d, ldw := l, uncor := false, fog := ldwFogged l, fixed := true }, s)
  | (.bad, s) =>
    ({ data := received64 d errs, ldw := receivedLdw l errs, uncor := true, fog := false, fixed := false },
     readUncor m line c ((devs.min?).getD 0xF) src s)
  | (.wrong marked, s) =>
    let d' := Config.freeLine s.draws
    let l' := Config.freeLdw s.draws
    let s := bumpDraws s
    let s := if marked then
        match choose 6 s with
        | (k, s) => readCorrected m line c devs (1 + k) src s
      else s
    if ldwInvalid l' then
      ({ data := d', ldw := l', uncor := true, fog := false, fixed := marked }, readUncor m line c 0xF src s)
    else ({ data := d', ldw := l', uncor := false, fog := ldwFogged l', fixed := marked }, s)

/-! ### The blank map (R262 to R266) -/

/-- The region of a line. -/
def regionOf (line : Nat) : Nat := line / 2 ^ 14

/-- The fill slot that a region holds. -/
def fillOf (s : State) (r : Nat) : Option (Nat × Fill) := s.mem.fills.find? (fun p => p.2.region = r)

/-- Is a region blank or developing: is its blank-map bit 1? -/
def regionBlank (s : State) (r : Nat) : Bool := !s.mem.written.contains r

/-- Does a line read BLANK: its region is blank, or developing with its fill bit 0 (R27)? -/
def lineBlank (s : State) (line : Nat) : Bool :=
  regionBlank s (regionOf line) &&
  (match fillOf s (regionOf line) with
   | some p => !p.2.filled.contains line
   | none => true)

/-- May a write of this line take place now: its region is written or developing, or a fill slot is free (R264)? -/
def fillReady (s : State) (line : Nat) : Bool :=
  !regionBlank s (regionOf line) || (fillOf s (regionOf line)).isSome ||
  decide (s.mem.fills.length < Config.fillSlots)

/-- A region whose every fill bit is 1: its blank bit clears, the slot frees, FILL_DONE (R266). -/
def fillFinish (slot : Nat) (s : State) : State :=
  match sFind s.mem.fills slot with
  | some f =>
    if f.filled.length < 16384 then s
    else raiseAt .fillDone 0 { s with mem := { s.mem with
           written := f.region :: s.mem.written, fills := sDel s.mem.fills slot } }
  | none => s

/-- A memory write of a line: take a fill slot for a blank region, mark the line filled (R264, R265). -/
def develop (line : Nat) (s : State) : State :=
  if !regionBlank s (regionOf line) then s
  else
    match fillOf s (regionOf line) with
    | some (slot, f) =>
      if f.filled.contains line then s
      else
        let f' := { f with filled := line :: f.filled }
        fillFinish slot (updMem (fun x => { x with fills := sSet x.fills slot f' }) s)
    | none =>
      match chooseFrom ((List.range 16).filter (fun k => (sFind s.mem.fills k).isNone)) s with
      | (some slot, s) =>
        let f : Fill := { region := regionOf line, filled := [line], walk := 0 }
        updMem (fun x => { x with fills := sSet x.fills slot f }) s
      | (none, s) => s

/-! ### DRAM commands (R236, R248) -/

/-- The scheduler of a subchannel. -/
def schedOf (s : State) (m sc : Nat) : Sched := if sc = 0 then (chanOf s m).sched0 else (chanOf s m).sched1

/-- Change the scheduler of a subchannel. -/
def setSched (m sc : Nat) (f : Sched → Sched) (s : State) : State :=
  setChan m (fun c => if sc = 0 then { c with sched0 := f c.sched0 } else { c with sched1 := f c.sched1 }) s

/-- The key of a bank within a channel: subchannel, rank, bank group and bank. -/
def bankKey (c : Coord) : Nat := ((c.sc * 8 + c.rank) * 8 + c.bg) * 4 + c.ba

/-- The bank queue of a coordinate: bank group and bank (R233). -/
def Coord.queue (c : Coord) : Nat := c.bg * 4 + c.ba

/-- The controller issues commands: the retry buffer of the subchannel keeps the last 64 (R248). -/
def issueCmds (m sc : Nat) (l : List DramCmd) (s : State) : State :=
  setSched m sc (fun x => { x with retry := (x.retry ++ l).drop (x.retry.length + l.length - 64) }) s

/-- One command to a bank at a coordinate, issued now. -/
def dramCmd (s : State) (op : DramOp) (c : Coord) : DramCmd :=
  { ft := s.aon.ft, op := op, rank := c.rank, bank := c.queue, row := c.row, col := c.col }

/-- The commands of an access: a precharge where another row is open, an activate where the row is not, and the column command,
with auto-precharge when the page hint is close (R236). -/
def rowCmds (s : State) (m : Nat) (c : Coord) (close write : Bool) : List DramCmd :=
  let cur := sFind (chanOf s m).openRow (bankKey c)
  let col := if write then (if close then DramOp.wra else .wr) else (if close then DramOp.rda else .rd)
  (if cur = some c.row then [] else (if cur.isSome then [dramCmd s .pre c] else []) ++ [dramCmd s .act c]) ++
    [dramCmd s col c]

/-- Access a row: an activate when another row, or none, is open; then the row stays open or closes by the hint. -/
def rowAccess (m : Nat) (c : Coord) (close write : Bool) (s : State) : State :=
  let cmds := rowCmds s m c close write
  let cur := sFind (chanOf s m).openRow (bankKey c)
  let s := if cur = some c.row then s else count 0x1A ⟨none, none, some m⟩ 1 s
  let after := fun (rows : Sparse Nat) =>
    if close then sDel rows (bankKey c) else sSet rows (bankKey c) c.row
  issueCmds m c.sc cmds (setChan m (fun ch => { ch with openRow := after ch.openRow }) s)

/-- The data rate of MC_CFG.SPEED in MT/s: tCK is 2,000 ns divided by it. -/
def dataRate (s : State) (m : Nat) : Nat := [4800, 5600, 6400, 7200, 8000, 8800].getD (rdf s (oMcCfg m) 1 3) 8800

/-- May `n` more commands issue now: no more than 64 within MC_CAPAR.WIN tCK (R248)? FT counts quarters of a nanosecond. -/
def windowRoom (s : State) (m sc n : Nat) : Bool :=
  let win := rdf s (chanBase m + 0x70) 0 10
  let recent := (schedOf s m sc).retry.filter (fun c =>
    decide ((s.aon.ft - c.ft).toNat * dataRate s m < win * 8000))
  decide (recent.length + n ≤ 64)

/-! ### Reading a line -/

/-- The newest posted-write-buffer line of a pool line (R71) among those that reached the memory side before an operation. -/
def pwbBefore (s : State) (line bound : Nat) : Option PwbLine :=
  (s.mem.pwb.filter (fun p => decide (p.line = line) && decide (p.seq < bound))).getLast?

/-- The newest posted-write-buffer line of a pool line (R71). -/
def pwbFind (s : State) (line : Nat) : Option PwbLine := (s.mem.pwb.filter (fun p => p.line = line)).getLast?

/-- What a buffered line delivers: fogged in the buffer, or under a LDW that is a fogged code (R71, R259). -/
def readBuffered (p : PwbLine) : ReadOut :=
  { data := p.data, ldw := p.ldw, uncor := false, fog := p.fog || ldwFogged p.ldw, fixed := false }

/-- Read a line: as uncorrectable from a DARK channel (R227), as zero where it is blank (R263), from a posted-write-buffer line
that came before `bound` (R71, R232), or from DRAM with decoding. -/
def memReadAt (bound line : Nat) (src : ReadSrc) (close : Bool) (extra : List SymErr) (s : State) : ReadOut × State :=
  if isDark s line then ({ ReadOut.zero with uncor := true }, s)
  else if lineBlank s line then (ReadOut.zero, s)
  else
    match pwbBefore s line bound with
    | some p => (readBuffered p, s)
    | none =>
      match lineChan s line with
      | some (m, co) =>
        let s := count 0x18 ⟨trayOf s line, none, some m⟩ 1 s
        let s := rowAccess m (coordOf s m co) close false s
        decodeBurst m co line src extra s
      | none => (ReadOut.zero, s)

/-- Read a line as the newest operation. -/
def memReadLine (line : Nat) (src : ReadSrc) (close : Bool) (extra : List SymErr) (s : State) : ReadOut × State :=
  memReadAt s.mem.opSeq line src close extra s

/-- Does a read of this line complete without a DRAM access? -/
def readAtOnce (s : State) (line : Nat) : Bool := isDark s line || lineBlank s line || (pwbFind s line).isSome

/-- The next place in the order in which operations reach the memory side (R232). -/
def nextOp (s : State) : Nat × State := (s.mem.opSeq, updMem (fun m => { m with opSeq := m.opSeq + 1 }) s)

/-! ### Bank queues and the choice of a command (R232 to R235, R249) -/

/-- An operation on its way to a bank: its order, its source, whether it writes, and its channel, subchannel and queue. -/
structure QEnt where
  seq   : Nat
  src   : Nat
  write : Bool
  chan  : Nat
  sc    : Nat
  queue : Nat
  deriving DecidableEq, Repr

/-- A line's operation. -/
def qent (s : State) (seq src : Nat) (write : Bool) (line : Nat) : Option QEnt :=
  (lineChan s line).map (fun p =>
    let c := coordOf s p.1 p.2
    { seq := seq, src := src, write := write, chan := p.1, sc := c.sc, queue := c.queue })

/-- The lines that a read reads: its own, or the four of its sector. -/
def MemOp.reads (q : MemOp) : List Nat :=
  if q.sector then (List.range 4).map (fun k => q.line / 4 * 4 + k) else [q.line]

/-- Every operation that waits for its column command: reads, the reads of waiting MWRDs, and the posted write buffer's lines. -/
def queued (s : State) : List QEnt :=
  s.mem.memq.flatMap (fun q => q.reads.filterMap (qent s q.seq q.ctx false)) ++
  s.mem.pwbWait.filterMap (fun p => if p.keep then qent s p.ent.seq p.ent.src false p.ent.line else none) ++
  s.mem.pwb.filterMap (fun p => qent s p.seq p.src true p.line)

/-- Are two operations of one subchannel? -/
def QEnt.near (e f : QEnt) : Bool := decide (e.chan = f.chan) && decide (e.sc = f.sc)

/-- Does an operation hold one of the 32 places of its bank queue (R233)? -/
def placed (q : List QEnt) (e : QEnt) : Bool :=
  decide ((q.filter (fun f => e.near f && decide (f.queue = e.queue) && decide (f.seq < e.seq))).length < 32)

/-- Is the batch policy in force (R235)? -/
def batching (s : State) (m : Nat) : Bool := bitOf (rd s (chanBase m + 0x30)) 16 || (chanOf s m).recover

/-- The batch policy's draining after one look at the queues (R234). -/
def drainNext (s : State) (q : List QEnt) (m sc : Nat) (d : Bool) : Bool :=
  let here := q.filter (fun e => decide (e.chan = m) && decide (e.sc = sc) && placed q e)
  let writes := (here.filter (fun e => e.write)).length
  let reads := (here.filter (fun e => !e.write)).length
  let d := d && !decide (writes ≤ rdf s (chanBase m + 0x30) 8 8)
  d || decide (rdf s (chanBase m + 0x30) 0 8 ≤ writes) || decide (reads = 0)

/-- The batch policy looks at a subchannel's queues. -/
def batchLook (m sc : Nat) (s : State) : State :=
  if batching s m then setSched m sc (fun x => { x with drain := drainNext s (queued s) m sc x.drain }) s else s

/-- The batch policy looks at the queues of a line's subchannel, which have just changed. -/
def lookLine (line : Nat) (s : State) : State :=
  match lineChan s line with
  | some (m, co) => batchLook m (coordOf s m co).sc s
  | none => s

/-- May an operation be chosen: it holds a place, its kind is served, and its source has no older one here (R234)? -/
def choosable (s : State) (q : List QEnt) (e : QEnt) : Bool :=
  placed q e && (!batching s e.chan || decide (e.write = drainNext s q e.chan e.sc (schedOf s e.chan e.sc).drain)) &&
  !q.any (fun f => e.near f && decide (f.src = e.src) && decide (f.seq < e.seq))

/-- Is an operation the one its queue offers: choosable, with none older choosable in the queue (R234)? -/
def offered (s : State) (q : List QEnt) (e : QEnt) : Bool :=
  choosable s q e &&
  !q.any (fun f => e.near f && decide (f.queue = e.queue) && decide (f.seq < e.seq) && choosable s q f)

/-- Does a subchannel issue commands for a line: the channel serves, and no replay holds the subchannel (R226, R249)? -/
def issues (s : State) (line : Nat) : Bool :=
  match lineChan s line with
  | some (m, co) => chanServes s m && !(schedOf s m (coordOf s m co).sc).replay
  | none => true

/-- May the column command of an operation issue now: its subchannel issues, its queue offers it, and R248 leaves room for the
commands it takes? Which of the banks that offer one goes first, by the rotation and the timing parameters, is the sender's:
log entry 19. -/
def mayIssue (s : State) (seq src : Nat) (write close : Bool) (line : Nat) : Bool :=
  match qent s seq src write line, lineChan s line with
  | some e, some (m, co) =>
    issues s line && offered s (queued s) e && windowRoom s m e.sc (rowCmds s m (coordOf s m co) close write).length
  | _, _ => true

/-- A column command of a line has issued: the next bank takes the lead (R234). -/
def leadNext (line : Nat) (s : State) : State :=
  match lineChan s line with
  | some (m, co) =>
    let c := coordOf s m co
    setSched m c.sc (fun x => { x with ptr := (c.queue + 1) % 32 }) (batchLook m c.sc s)
  | none => s

/-! ### The posted write buffer (R70, R71, R264) -/

/-- Does a REQ hold a line of the posted write buffer: it is a write-through that waits in a chain (R47)? -/
def throughHeld (s : State) (p : Pend) : Bool :=
  decide (p.place = .chain) && isG6 s p.req.agent && (match p.cxl with
                                | some f => f.write
                                | none => false)

/-- Is a line of the posted write buffer free? Write-throughs that wait in chains hold theirs (R47). -/
def pwbFree (s : State) : Bool :=
  decide (s.mem.pwb.length + (s.home.reqs.filter (throughHeld s)).length < Config.pwbLines)

/-- May a write enter now: a line is free, and its region can develop? A DARK channel takes no line. -/
def pwbReady (s : State) (line : Nat) : Bool := pwbFree s && fillReady s line

/-! ### Reservations (R76 to R79) -/

/-- The base line of the granule of a line. -/
def granBase (size line : Nat) : Nat := line / size * size

/-- Record a reservation: newest last; refresh one already held; replace the agent's oldest of 128 (R76). -/
def reserve (a t size line : Nat) (s : State) : State :=
  let r : Resv := { agent := a, tray := t, base := granBase size line, size := size }
  let l := s.home.resv.filter (fun q => q ≠ r)
  let l := if (l.filter (fun q => q.agent = a)).length < Config.resvPerAgent then l
    else match takeFirst (fun q : Resv => decide (q.agent = a)) l with
      | some (_, l') => l'
      | none => l
  { s with home := { s.home with resv := l ++ [r] } }

/-- Does an agent hold a reservation on the granule of a line? -/
def reserved (s : State) (a size line : Nat) : Bool :=
  s.home.resv.any (fun q => q.agent = a && q.base = granBase size line && q.size = size)

/-- Remove an agent's reservation on the granule of a line (R77). -/
def unreserve (a size line : Nat) (s : State) : State :=
  { s with home := { s.home with resv := s.home.resv.filter (fun q =>
      !(q.agent = a && q.base = granBase size line && q.size = size)) } }

/-- Clear every reservation whose granule holds a line (R78); `keep` is the AtR's own agent when its DatH data is
written. -/
def clearResv (line : Nat) (s : State) : State :=
  { s with home := { s.home with resv := s.home.resv.filter (fun q =>
      !(decide (q.base ≤ line) && decide (line < q.base + q.size))) } }

/-- Clear the reservations that meet a condition (R79). -/
def clearResvIf (p : Resv → Bool) (s : State) : State :=
  { s with home := { s.home with resv := s.home.resv.filter (fun q => !p q) } }

/-! ### Buffered lines -/

/-- A write enters the posted write buffer, its region developing as it does; a line that places bytes of a store clears the
reservations of its granule as it enters (R78). -/
def pwbEnter (p : PwbLine) (s : State) : State :=
  match nextOp (develop p.line s) with
  | (n, s) =>
    let s := if p.clears then clearResv p.line s else s
    lookLine p.line (updMem (fun m => { m with pwb := m.pwb ++ [{ p with seq := n }] }) s)

/-- The DRAM write of a buffered line completes: its data moves to the channel, the burst is stored and the line leaves the
buffer. A line of a region that has been blanked since is written where nothing reads it (R267). -/
def pwbDrain (p : PwbLine) (s : State) : State :=
  let s := match lineChan s p.line with
    | some (m, co) =>
      let s := count 0x19 ⟨trayOf s p.line, none, some m⟩ 1 s
      let s := rowAccess m (coordOf s m co) p.close true (moveLine (chanLane m) m p.line p.deadline s)
      writeBurst (m * 2 ^ 39 + co) p.data p.ldw s
    | none => s
  leadNext p.line (updMem (fun m => { m with pwb := m.pwb.erase p }) s)

/-- Write every buffered line to DRAM, oldest first (Table ORD-2). -/
def pwbDrainAll (s : State) : State := s.mem.pwb.foldl (fun s p => pwbDrain p s) s

/-- The current data of a line with its mark, for an MWRD (R123): fogged at rest or in the buffer, or uncorrectable. -/
def currentData (line : Nat) (s : State) : LineData × State :=
  match memReadLine line .txn false [] s with
  | (o, s) => ({ data := o.data, fog := o.fog || o.uncor }, s)

end Sys2Proof.Machine
end

