-- ==== Sys2Proof/Machine/Home.lean ====
section
/-! DEFINITION. What the home keeps: contexts, latent lines, wait chains, line records and their updates, allocation
and the start of an eviction, writes toward memory, snoops and completions (R26 to R59, R80 to R90, R115 to R125). -/

namespace Sys2Proof.Machine

/-! ### Contexts (R53, R155, R156) -/

/-- The context numbered `c`, unless it is FREE. -/
def ctxOf (s : State) (c : Nat) : Option Ctx := sFind s.dev.ctxs c

/-- Store a context. -/
def setCtx (c : Nat) (x : Ctx) (s : State) : State := updDev (fun d => { d with ctxs := sSet d.ctxs c x }) s

/-- Change a context that is not FREE. -/
def modCtx (c : Nat) (f : Ctx → Ctx) (s : State) : State := updDev (fun d => { d with ctxs := sMod d.ctxs c f }) s

/-- Free a context. -/
def delCtx (c : Nat) (s : State) : State := updDev (fun d => { d with ctxs := sDel d.ctxs c }) s

/-- The reel slot that new contexts bind to: the ACTIVE one (R166). -/
def activeReel (s : State) : Bool := bitOf (rd s oReel) 16

/-- Contexts that are not FREE: ENG_STATUS.CTX_USED. -/
def ctxUsed (s : State) : Nat := s.dev.ctxs.length

/-- A context as it binds: work registers zero (R156). -/
def Ctx.blank (k : CtxKind) : Ctx :=
  { kind := k, st := .run, w := List.replicate 8 0, ea := 0, es := 0, ed := 0, ex := 0, sv := 0, so := 0, ss := 0,
    code := 0, variant := 0, reelB := false, ts := 0, chain := 0, parkedAt := 0, inFlight := none, lastRule := 0, stall := none, opRes := none,
    job := none, events := [],
    agent := none, txid := 0, reqOpc := 0x3F#6, deadline := 0, cmpIn := false, cplSent := false, owed := [],
    tray := none, early := false, req := none, line := none, lines := [], hbuf := none, hclaim := none, mem := none,
    wbd := none, wbData := none, writer := none, mergeWb := none, fwdPass := false, dathIn := [], fwdIn := [], staging := none,
    cmpTimer := false, bathTo := none, byRule := false, phase := .begin, ansOp := none, snooped := [],
    status := .ok, expired := false, resvOk := false, ldwErrs := [] }

/-- Bind a context: it takes the ACTIVE reel slot and the layer the engine was started with (log entry 5), and the
high-water mark follows. -/
def bindCtx (c : Nat) (x : Ctx) (s : State) : State :=
  let s := setCtx c { x with reelB := activeReel s, byRule := s.dev.byRule } s
  if (rd s 0x020008).toNat < ctxUsed s then wr s 0x020008 (w64 (ctxUsed s)) else s

/-- Is a latent-table entry kept for the head of a chain (R86)? -/
def entryHeld (s : State) (c : Nat) : Bool :=
  s.home.latent.any (fun p =>
    match p.2 with
    | .handover (some h) _ => decide (h = c)
    | _ => false)

/-- Is a latent-table entry free? -/
def entryFree (s : State) (c : Nat) : Bool := (ctxOf s c).isNone && !entryHeld s c

/-- The first free entry at or after `i`, wrapping. -/
def scanFree : Nat → Nat → State → Option Nat
  | 0, _, _ => none
  | n + 1, i, s =>
    if entryFree s (i % Config.latentEntries) then some (i % Config.latentEntries) else scanFree n (i + 1) s

/-- A free latent-table entry, where there is one. Which one is open: log entry 6. -/
def takeEntry (s : State) : Option (Nat × State) :=
  match choose Config.latentEntries s with
  | (i, s') => (scanFree Config.latentEntries i s).map (fun c => (c, s'))

/-- How many latent-table entries are in use. -/
def entriesUsed (s : State) : Nat :=
  (s.dev.ctxs.filter (fun p => decide (p.1 < Config.latentEntries))).length +
  (s.home.latent.filter (fun p =>
    match p.2 with
    | .handover (some _) _ => true
    | _ => false)).length

/-! ### Latent lines and wait chains (R29, R80 to R87) -/

/-- Who holds a line latent. -/
def holderOf (s : State) (line : Nat) : Option Holder := sFind s.home.latent line

/-- Make a line latent. -/
def setHolder (line : Nat) (h : Holder) (s : State) : State :=
  updHome (fun x => { x with latent := sSet x.latent line h }) s

/-- End a line's latency. -/
def delHolder (line : Nat) (s : State) : State := updHome (fun x => { x with latent := sDel x.latent line }) s

/-- The wait chain of a line, head first. -/
def chainOf (s : State) (line : Nat) : List Waiter := sGet [] s.home.chains line

/-- Replace a wait chain. -/
def setChain (line : Nat) (l : List Waiter) (s : State) : State :=
  updHome (fun x => { x with chains := sPut [] x.chains line l }) s

/-- The latent line a context holds: the one its transaction began on. -/
def Ctx.held (x : Ctx) : List Nat :=
  match x.line with
  | some l => l :: x.lines
  | none => x.lines

/-- The place behind which a newcomer must stay: after the last waiter that is pinned or of its own stream (R84). -/
def chainFloor (w : Waiter) : List Waiter → Nat → Nat → Nat
  | [], _, floor => floor
  | v :: vs, i, floor =>
    let stop := decide (64 ≤ v.passed) || (v.agent.isSome && v.agent = w.agent && v.stream = w.stream)
    chainFloor w vs (i + 1) (if stop then i + 1 else floor)

/-- Place a waiter ahead of the first one whose deadline is farther; those behind it count one more (R84). -/
def chainPlace (s : State) (w : Waiter) : List Waiter → List Waiter
  | [] => [w]
  | v :: vs =>
    if nearer s w.deadline v.deadline then
      w :: (v :: vs).map (fun u => { u with passed := u.passed + 1 })
    else v :: chainPlace s w vs

/-- Enter a wait chain (R84). -/
def chainInsert (s : State) (w : Waiter) (l : List Waiter) : List Waiter :=
  let k := chainFloor w l 0 0
  l.take k ++ chainPlace s w (l.drop k)

/-! ### Request buffers and writeback slots -/

/-- The REQ with a sequence number. -/
def pendOf (s : State) (seq : Nat) : Option Pend := s.home.reqs.find? (fun p => p.seq = seq)

/-- Change a REQ in its buffer. -/
def modPend (seq : Nat) (f : Pend → Pend) (s : State) : State :=
  updHome (fun x => { x with reqs := modFirst (fun p : Pend => decide (p.seq = seq)) f x.reqs }) s

/-- A REQ leaves its buffer. -/
def delPend (seq : Nat) (s : State) : State :=
  updHome (fun x => { x with reqs := x.reqs.filter (fun p => p.seq ≠ seq) }) s

/-- A writeback slot. -/
def slotOf (s : State) (w : Nat) : Option WSlot := sFind s.home.wslots w

/-- Change a writeback slot. -/
def modSlot (w : Nat) (f : WSlot → WSlot) (s : State) : State :=
  updHome (fun x => { x with wslots := sMod x.wslots w f }) s

/-- Free a writeback slot. -/
def delSlot (w : Nat) (s : State) : State := updHome (fun x => { x with wslots := sDel x.wslots w }) s

/-- A free writeback slot among an agent's 16. -/
def freeSlot (s : State) (a : Nat) : Option Nat :=
  ((List.range Config.wbSlotsPerAgent).map (fun k => a * Config.wbSlotsPerAgent + k)).find?
    (fun w => (slotOf s w).isNone)

/-- Has an agent's TXID a request or writeback outstanding (R34, R74)? -/
def txidBusy (s : State) (a : Nat) (t : BitVec 12) : Bool :=
  s.home.reqs.any (fun p => decide (p.req.agent = a) && decide (p.req.txid = t)) ||
  s.home.wslots.any (fun p => decide (p.2.agent = a) && decide (p.2.txid = t) && !p.2.acked)

/-! ### Who may be snooped (R92, R300, Table RACE-6) -/

/-- Is an agent detached? -/
def detached (s : State) (a : Nat) : Bool := !(linkOf s a).attached

/-- Does an agent serve a tray's line: attached, a member of the tray, and with a window that holds the line? -/
def serves (s : State) (a : Nat) (tray : Option Nat) (line : Nat) : Bool :=
  !detached s a && (match tray with
                    | some t => isMember s t a
                    | none => false) && (holdingWindow s a line).isSome

/-- Does Table RACE-6's voluntary column apply to a record of this agent? -/
def leftByItself (s : State) (a : Nat) (tray : Option Nat) (line : Nat) : Bool :=
  detached s a && (linkOf s a).vol && (match tray with
                                       | some t => isMember s t a
                                       | none => false) && (holdingWindow s a line).isSome

/-! ### Line records (R27, R110, R115) -/

/-- What the home records for a line. -/
structure Rec where
  lst  : Lst
  own  : Nat
  sv   : BitVec 32
  tray : Option Nat
  hit  : Bool
  deriving DecidableEq, Repr

/-- The eviction slot that holds a sector. -/
def evictOf (s : State) (sec : Nat) : Option (Nat × EvSlot) := s.sheet.evSlots.find? (fun p => p.2.sector = sec)

/-- A line of an entry as a record. -/
def recOfEntry (e : Entry) (k : Nat) (hit : Bool) : Rec :=
  { lst := e.lst.get k, own := e.own.get k, sv := e.sv, tray := some e.tray, hit := hit }

/-- The record of a line: its sheet entry, the entry of an eviction under way, or nothing, which is I. -/
def recOf (s : State) (line : Nat) : Rec :=
  match findEntry s (line / 4) with
  | some (_, e) => recOfEntry e (line % 4) true
  | none =>
    match evictOf s (line / 4) with
    | some (_, v) => recOfEntry v.entry (line % 4) false
    | none => { lst := .i, own := 0, sv := 0, tray := none, hit := false }

/-- Is an agent the recorded owner of a line? -/
def isOwner (s : State) (a line : Nat) : Bool := (recOf s line).lst.owned && decide ((recOf s line).own = a)

/-- The line-state code of a record in a tray (R27). -/
def codeOf (s : State) (line : Nat) (r : Rec) (tray : Option Nat) : Code :=
  if isDark s line then .dark
  else
    match r.lst with
    | .s => .s
    | .e => .e
    | .o => .o
    | .m => .m
    | .fogged => .fogged
    | .i =>
      if lineBlank s line then .blank
      else if r.hit then .i
      else match tray with
        | some t => if traySpill s t then .spilled else .i
        | none => .i

/-- The number of a code (Table LINE-1). -/
def Code.num : Code → BitVec 4
  | .i => 0
  | .s => 1
  | .e => 2
  | .o => 3
  | .m => 4
  | .spilled => 5
  | .blank => 6
  | .fogged => 7
  | .dark => 8

/-- Count a line that becomes FOGGED (Table TRAY-4). -/
def countFog (old new : Lst) (tray : Option Nat) (s : State) : State :=
  if new = .fogged ∧ old ≠ .fogged then count 0x0B ⟨tray, none, none⟩ 1 s else s

/-- Update the record of a line that has one, and add sharers (R115). A line without an entry is left as it is. -/
def setRec (line : Nat) (l : Lst) (own : Nat) (extra : BitVec 32) (s : State) : State :=
  let sec := line / 4
  match findEntry s sec with
  | some (w, e) =>
    countFog (e.lst.get (line % 4)) l (some e.tray) (storeEntry sec w (applyUpdate e (line % 4) l own extra) s)
  | none =>
    match evictOf s sec with
    | some (k, v) =>
      let v' := { v with entry := applyUpdate v.entry (line % 4) l own extra }
      countFog (v.entry.lst.get (line % 4)) l (some v.entry.tray)
        (updSheet (fun x => { x with evSlots := sSet x.evSlots k v' }) s)
    | none => s

/-- Clear an agent's bit in the sharer vector of a sector (R93). -/
def clearSv (sec a : Nat) (s : State) : State :=
  match findEntry s sec with
  | some (w, e) => storeEntry sec w { e with sv := e.sv &&& ~~~(1#32 <<< a) } s
  | none =>
    match evictOf s sec with
    | some (k, v) =>
      let v' := { v with entry := { v.entry with sv := v.entry.sv &&& ~~~(1#32 <<< a) } }
      updSheet (fun x => { x with evSlots := sSet x.evSlots k v' }) s
    | none => s

/-- A LINE record (Table FAULT-10, FMT 1): the line, the context that raised it where there is one, and another
agent with its epoch. -/
def lineRec (s : State) (line : Nat) (c : Option Nat) (other : Option Nat) : PsRec :=
  let cw := match c with
    | some c =>
      (match ctxOf s c with
       | some x => c % 2 ^ 14 + (match x.agent with
                                 | some a => 2 ^ 14 * (a % 32) + 2 ^ 19
                                 | none => 0) + 2 ^ 20 * x.code.toNat + 2 ^ 24 * b2n x.reelB
       | none => c % 2 ^ 14)
    | none => 0
  let ow := match other with
    | some a => a % 32 + 2 ^ 5 + 2 ^ 8 * (linkOf s a).epoch.toNat
    | none => 0
  ⟨1, 0xFF, line * 64 % 2 ^ 32, line * 64 / 2 ^ 32, cw, ow⟩

/-- Table RACE-6 has fogged a line of an agent: the status of its DetN will say so (R95). -/
def noteFogged (a : Nat) (s : State) : State :=
  updSheet (fun x => { x with sweeps := x.sweeps.map (fun w => match w.kind with
    | .detach b _ _ => if b = a then { w with fogged := true } else w
    | _ => w) }) s

/-- Apply Table RACE-6 to the records of one agent that a line has. -/
def race6 (line a : Nat) (vol : Bool) (c : Option Nat) (s : State) : State :=
  let r := recOf s line
  if r.lst.owned && decide (r.own = a) then
    if r.lst = .e && vol then clearSv (line / 4) a (setRec line .i 0 0 s)
    else
      clearSv (line / 4) a (noteFogged a
        (raise .detachDirty 0 (lineRec s line c (some a)) (setRec line .fogged 0 0 s)))
  else clearSv (line / 4) a s

/-- R116: an entry found by a request of another tray. Records of agents that are not members of that tray are
resolved under the involuntary column; the entry then counts for the request's tray. -/
def switchTray (sec tray : Nat) (s : State) : State :=
  match findEntry s sec with
  | some (_, e) =>
    if e.tray = tray then s
    else
      let out := (List.range 32).filter (fun a => !isMember s tray a)
      let s := out.foldl (fun s a => (List.range 4).foldl (fun s k => race6 (4 * sec + k) a false none s) s) s
      match findEntry s sec with
      | some (w, e') =>
        let s := putWay (wayKey (bankOf sec) (setOf sec) w) (some { e' with tray := tray }) s
        quotaCheck tray (quotaCheck e.tray s)
      | none => s
  | none => s

/-! ### Events of the Developer (R149, R150, R153) -/

/-- Load SV, SO and SS of a context from its sector's entry. -/
def loadSheet (line : Nat) (s : State) (x : Ctx) : Ctx :=
  match findEntry s (line / 4) with
  | some (_, e) => { x with sv := e.sv, so := soOf e, ss := ssOf (some e) (line % 4) }
  | none => { x with sv := 0, so := 0, ss := ssOf none (line % 4) }

/-- The opcode of a WBK (Table LINE-3). -/
def WbOp.num : WbOp → BitVec 6
  | .mi => 0x18#6
  | .ms => 0x19#6
  | .me => 0x1A#6
  | .oi => 0x1B#6
  | .os => 0x1C#6

/-- EX of a WBK event (Table DEV-6). -/
def wbkEx (p : WSlot) : W64 :=
  w64 (p.op.num.toNat + 2 ^ 6 * b2n p.ptl + 2 ^ 7 * b2n p.fog + 2 ^ 8 * p.txid.toNat)

/-- May an event for a context become ready now: the context is parked or has not begun, and no other event of it is
ready or stalled (R153)? -/
def idles (s : State) (c : Nat) (x : Ctx) : Bool :=
  (decide (x.st = .parked) || (x.inFlight.isNone && decide (x.chain = 0))) && x.stall.isNone &&
  !s.dev.ready.any (fun r => decide (r.ctx = c))

/-- Post an event to a context: ready at once when the context idles, pending while it has a rule in flight or is
mid-chain (R153). -/
def postEvent (e : Event) (s : State) : State :=
  match ctxOf s e.ctx with
  | some x =>
    if idles s e.ctx x then updDev (fun d => { d with ready := d.ready ++ [e] }) s
    else setCtx e.ctx { x with events := x.events ++ [e] } s
  | none => s

/-- An event for a context, with the context's line and deadline. -/
def eventFor (x : Ctx) (c ts : Nat) (typ : BitVec 6) (es : Nat) (ex : W64) : Event :=
  { ts := ts, ctx := c, typ := typ, ea := x.ea, es := BitVec.ofNat 5 es, ed := x.deadline, ex := ex, code := none }

/-- The event of a WBK for a context. -/
def wbkEvent (x : Ctx) (c : Nat) (p : WSlot) : Event :=
  { eventFor x c p.agent p.op.num p.agent (wbkEx p) with ed := p.deadline }

/-! ### Evictions and allocation (R118 to R124) -/

/-- A free eviction slot. -/
def freeEvSlot (s : State) : Option Nat :=
  (List.range Config.evictSlots).find? (fun k => (sFind s.sheet.evSlots k).isNone)

/-- May a sector's entry move into an eviction slot now (R121)? -/
def evictReady (s : State) : Bool :=
  (freeEvSlot s).isSome && decide (entriesUsed s + 4 ≤ Config.latentEntries)

/-- Bind a context for one line of an eviction: the line becomes latent (R103). -/
def evictBind (k line : Nat) (e : Entry) (s : State) : List Nat × State :=
  match takeEntry s with
  | some (c, s) =>
    let x := { Ctx.blank (.evict k line) with
                 tray := some e.tray, line := some line, variant := trayVariant s e.tray,
                 ea := w64 (64 * line), deadline := BitVec.ofNat 32 (nowNs s), ed := BitVec.ofNat 32 (nowNs s),
                 sv := e.sv, so := soOf e, ss := ssOf (some e) (line % 4),
                 code := (codeOf s line (recOfEntry e (line % 4) true) (some e.tray)).num }
    ([c], setHolder line (.ctx c) (bindCtx c x s))
  | none => ([], s)

/-- The EVICT event of one line's context, carrying bank, set and way (Table DEV-6). Each of the four contexts gets
one, since a rule's snoops and updates reach the line of EA only. DEDUCED, log entry 5. -/
def evictPost (sec way j : Nat) (l : List Nat) (s : State) : State :=
  match l with
  | c :: _ =>
    if s.dev.byRule then
      let ex := w64 (0x3B + 2 ^ 6 * bankOf sec + 2 ^ 11 * setOf sec + 2 ^ 25 * way)
      postEvent { ts := 40, ctx := c, typ := 0x3B#6, ea := w64 (64 * (4 * sec + j)), es := 0,
                  ed := BitVec.ofNat 32 (nowNs s), ex := ex, code := none } s
    else s
  | [] => s

/-- Move an entry that has left its way into an eviction slot; its four lines become latent. The contexts bound are
returned, for the eviction to run (R121). -/
def evictStart (sec way : Nat) (e : Entry) (s : State) : List Nat × State :=
  match freeEvSlot s with
  | none => ([], s)
  | some k =>
    let idle := isIdle e
    let recalls := !traySpill s e.tray
    let slot : EvSlot := { sector := sec, entry := e, recalls := recalls && !idle, idle := idle,
                           seq := s.sheet.seqCtr, left := 4 }
    let s := updSheet (fun x => { x with evSlots := sSet x.evSlots k slot }) s
    let s := if !idle && !recalls then updSheet (fun x => { x with seqCtr := x.seqCtr + 1 }) s else s
    let s := count 0x07 ⟨some e.tray, none, none⟩ 1 s
    (List.range 4).foldl (fun (acc : List Nat × State) j =>
      match evictBind k (4 * sec + j) e acc.2 with
      | (l, s) => (acc.1 ++ l, evictPost sec way j l s)) ([], s)

/-- Put a new entry into a way of its set and account for it (R119, R120). -/
def placeEntry (sec way : Nat) (e : Entry) (s : State) : State :=
  let s := putWay (wayKey (bankOf sec) (setOf sec) way) (some e) s
  let s := ageOthers (bankOf sec) (setOf sec) way s
  quotaCheck e.tray (count 0x06 ⟨some e.tray, none, none⟩ 1 s)

/-- Allocate an entry for a sector that has none: a free way, or a victim's way (R120, R121). None: the allocation
waits. The contexts of an eviction it starts are returned. -/
def allocate (sec : Nat) (e : Entry) (s : State) : Option (List Nat × State) :=
  let bank := bankOf sec
  let set := setOf sec
  match (List.range 8).find? (fun w => (storedWay s (wayKey bank set w)).isNone) with
  | some w => some ([], placeEntry sec w e s)
  | none =>
    match victim s bank set e.tray with
    | none => none
    | some (w, v) =>
      let vsec := sectorOf bank set v.tag
      if isIdle v && !v.spill then
        let s := count 0x07 ⟨some v.tray, none, none⟩ 1 (putWay (wayKey bank set w) none s)
        some ([], placeEntry sec w e (quotaCheck v.tray s))
      else if evictReady s then
        let s := putWay (wayKey bank set w) none s
        match evictStart vsec w v (quotaCheck v.tray s) with
        | (l, s) => some (l, placeEntry sec w e s)
      else none

/-- Have an entry for a line's sector: nothing to do where it has one or its eviction is under way. -/
def ensureEntry (line tray : Nat) (s : State) : Option (List Nat × State) :=
  let sec := line / 4
  if (findEntry s sec).isSome || (evictOf s sec).isSome then some ([], s)
  else allocate sec (newEntry sec tray) s

/-- Record a line FOGGED. Where no entry can be allocated the mark waits for one (R121). -/
def fogMark (line tray : Nat) (s : State) : List Nat × State :=
  match ensureEntry line tray s with
  | some (l, s) => (l, setRec line .fogged 0 0 s)
  | none => ([], updSheet (fun x => { x with fogWait := x.fogWait ++ [(line, tray)] }) s)

/-- Make a line FOGGED under a cause (R327): nothing where it is FOGGED already. -/
def fogLine (line tray : Nat) (cause : Cause) (c : Option Nat) (other : Option Nat) (s : State) : List Nat × State :=
  if (recOf s line).lst = .fogged then ([], s)
  else fogMark line tray (raise cause 0 (lineRec s line c other) s)

/-- Record the fogged lines that waited for an entry, as far as entries can be allocated. -/
def fogRetry (s : State) : List Nat × State :=
  s.sheet.fogWait.foldl (fun (acc : List Nat × State) p =>
    match ensureEntry p.1 p.2 acc.2 with
    | some (l, s) =>
      (acc.1 ++ l, setRec p.1 .fogged 0 0
        (updSheet (fun x => { x with fogWait := x.fogWait.filter (fun q => q ≠ p) }) s))
    | none => acc) ([], s)

/-! ### Owed messages (R177) -/

/-- Take one owed item out of a context. -/
def payOwed (c : Nat) (p : Owed → Bool) (s : State) : State :=
  modCtx c (fun x => match takeFirst p x.owed with
    | some (_, l) => { x with owed := l }
    | none => x) s

/-- Add an owed item. -/
def oweMore (c : Nat) (o : Owed) (s : State) : State := modCtx c (fun x => { x with owed := x.owed ++ [o] }) s

/-- Is a snoop answer, a WBK or a DatH owed: ANSIN's inverse (Table RULE-4)? -/
def owesAnswer (x : Ctx) : Bool :=
  x.owed.any (fun o => match o with
    | .ans .. => true
    | .wbk .. => true
    | .dath _ => true
    | _ => false)

/-- Is a memory completion owed: MEMIN's inverse? -/
def owesMem (x : Ctx) : Bool :=
  x.owed.any (fun o => match o with
    | .mrdc => true
    | .mwrc => true
    | .ldwc => true
    | _ => false)

/-- Does the context owe a snoop answer from an agent? -/
def owesFrom (x : Ctx) (a : Nat) : Option (SnpOp × Bool) :=
  x.owed.findSome? (fun o => match o with
    | .ans b op cov _ => if b = a then some (op, cov) else none
    | _ => none)

/-- Does the context owe a WBK from an agent? -/
def owesWbk (x : Ctx) (a : Nat) : Bool :=
  x.owed.any (fun o => match o with
    | .wbk b _ => decide (b = a)
    | _ => false)

/-- The owed answer of an agent. -/
def isAns (a : Nat) (o : Owed) : Bool :=
  match o with
  | .ans b .. => decide (b = a)
  | _ => false

/-- The owed WBK of an agent. -/
def isWbk (a : Nat) (o : Owed) : Bool :=
  match o with
  | .wbk b _ => decide (b = a)
  | _ => false

/-- A writeback of an agent reaches the transaction: the WBK owed is paid, or the answer owed is covered (R177). -/
def coverOwed (a : Nat) (x : Ctx) : List Owed :=
  if owesWbk x a then
    (match takeFirst (isWbk a) x.owed with
     | some (_, l) => l
     | none => x.owed)
  else x.owed.map (fun o => match o with
    | .ans b op cov t => if b = a then .ans b op true t else .ans b op cov t
    | _ => o)

/-! ### Sending snoops (R33, R92, R97, R186) -/

/-- The Back-Invalidate snoop that a CXL host sees (Table LINE-13). -/
def biOf : SnpOp → BiOp
  | .fs => .data
  | .c => .cur
  | _ => .inv

/-- The grant code FGR of Table LINE-6. -/
def fgrOf (op : SnpOp) : Nat :=
  match op with
  | .fx => 2
  | _ => 0

/-- Send one snoop of a transaction, or answer it with RspI at once when the agent no longer serves the line (R92):
then Table RACE-6 is applied. A snoop that can bring data to the home claims the DatH buffer, and a forwarding snoop
reserves staging space at the requester's port (R33, R187). -/
def sendSnoop (c a : Nat) (op : SnpOp) (fgr : Nat) (s : State) : State :=
  match ctxOf s c with
  | none => s
  | some x =>
    let line := x.line.getD 0
    let s := setCtx c { x with snooped := a :: x.snooped } s
    if !serves s a x.tray line then race6 line a (leftByItself s a x.tray line) (some c) s
    else
      let s := oweMore c (.ans a op false true) s
      let s := if op = .h ∨ op = .c then modCtx c (fun y => { y with hclaim := some a, hbuf := none }) s else s
      if isG6 s a then send x.deadline (.biSnp a (biOf op) c (toAgentAddr s a line)) s
      else
        let fwd := op = .fs ∨ op = .fx
        let s := if fwd then modCtx c (fun y => { y with staging := x.agent.map portOutput }) s else s
        send x.deadline (.snp a op c (if fwd then x.agent.getD 0 else 0) (if fwd then x.txid else 0) (if fwd then fgr else 0)
          (toAgentAddr s a line) x.deadline) s

/-! ### Completions (R36, R50, R56, R213) -/

/-- The port records a CXL status that S2M cannot carry (R50). -/
def cxlStatus (a : Nat) (st : Status) (s : State) : State :=
  if st = .ok ∨ st = .zero ∨ st = .errAddr then s else raiseAt .cxlStatus (a / 2) s

/-- Count a completion with ERR_ADDR and raise its cause (Tables TRAY-4, TRAY-7). -/
def countErrAddr (st : Status) (a : Nat) (tray : Option Nat) (s : State) : State :=
  if st = .errAddr then raise0 .errAddr (count 0x0E ⟨tray, some a, none⟩ 1 s) else s

/-- Is an agent sent nothing of a transaction: it is detached, or no longer a member of the transaction's tray (R92)?
A transaction that names no line is not of any tray. -/
def muted (s : State) (a : Nat) (tray : Option Nat) (hasLine : Bool) : Bool :=
  detached s a || (hasLine && (match tray with
                               | some t => !isMember s t a
                               | none => false))

/-- Send a completion without data: RSP to a ZCL agent, Cmp or MemData-NXM to a CXL host (R44, R50). -/
def sendCpl (a : Nat) (op : CplOp) (htid : Nat) (txid : BitVec 12) (st : Status) (form : Option CxlForm)
    (isRead : Bool) (tray : Option Nat) (dl : BitVec 32) (s : State) : State :=
  let s := countErrAddr st a tray s
  match form with
  | none => send dl (.rsp a op htid txid st) s
  | some f =>
    if isRead && !f.write then
      send dl (.memData a f.tag (decide (st ≠ .errAddr)) (decide (st = .errAddr)) (devLoad s a) 0) (cxlStatus a st s)
    else
      send dl (.ndr a f.tag (if op = .cmpO then some .e else none) (devLoad s a)) (cxlStatus a st s)

/-- Send a completion with data from an input of the crossbar: DAT to a ZCL agent; MemData, with a Cmp where the host set
Meta0-State, to a CXL host (Table LINE-12, R50). `noData` says that the host's request draws no data (MemInv). -/
def sendDat (input a : Nat) (op : DatOp) (htid : Nat) (txid : BitVec 12) (fog : Bool) (st : Status) (dl : BitVec 32)
    (d : LineBits) (form : Option CxlForm) (noData : Bool) (s : State) : State :=
  match form with
  | none => sendFrom input dl (.dat a op htid txid fog st dl d) s
  | some f =>
    let grant := match op with
      | .s => some .s
      | .e => some .e
      | .m => some .e
      | .i => none
    let s := cxlStatus a st s
    let s := if noData then s else sendFrom input dl (.memData a f.tag fog false (devLoad s a) d) s
    if noData || f.meta0 then send dl (.ndr a f.tag grant (devLoad s a)) s else s

/-- Is a REQ a read: it completes with a DAT message or CmpO? -/
def ReqOp.isRead : ReqOp → Bool
  | .rds => true
  | .rdx => true
  | .upg => true
  | .rdc => true
  | .atr => true
  | _ => false

/-- Mark a transaction's completion as sent: its REQ has been processed at the home (R213). -/
def markSent (c : Nat) (s : State) : State :=
  match ctxOf s c with
  | some x =>
    let s := setCtx c { x with cplSent := true, cmpTimer := !owesAnswer x } s
    (match x.req with
     | some p => modPend p.seq (fun q => { q with processed := true }) s
     | none => s)
  | none => s

/-- The form of a context's requester. -/
def Ctx.form (x : Ctx) : Option CxlForm :=
  match x.req with
  | some p => p.cxl
  | none => none

/-- Was the context's request an Upg, which a CXL host issues as MemInv (Table LINE-12)? -/
def Ctx.isUpg (x : Ctx) : Bool :=
  match x.req with
  | some p => decide (p.op = .upg)
  | none => false

/-- A transaction's DAT completion. -/
def completeDat (c : Nat) (op : DatOp) (d : LineData) (st : Status) (s : State) : State :=
  match ctxOf s c with
  | some x =>
    (match x.agent with
     | some a =>
       if muted s a x.tray x.line.isSome then markSent c s
       else
         let input := chanLane (chanNo s (x.line.getD 0))
         markSent c (sendDat input a op c x.txid d.fog st x.deadline d.data x.form x.isUpg s)
     | none => s)
  | none => s

/-- A transaction's completion without data. A detached requester is sent nothing, but for the DetN's (R92). -/
def completeCpl (c : Nat) (op : CplOp) (st : Status) (s : State) : State :=
  match ctxOf s c with
  | some x =>
    (match x.agent with
     | some a =>
       let isRd := match x.req with
         | some p => p.op.isRead && !x.isUpg
         | none => false
       if muted s a x.tray x.line.isSome && !decide (x.kind = .req .detn) then markSent c s
       else markSent c (sendCpl a op c x.txid st x.form isRd x.tray x.deadline s)
     | none => s)
  | none => s

/-- Send the CmpWb of a writeback slot, with HTID 0 (R74); a detached writer is sent nothing (R92). -/
def sendCmpWb (w : Nat) (s : State) : State :=
  match slotOf s w with
  | some p =>
    let s := modSlot w (fun q => { q with acked := true }) s
    if muted s p.agent (some p.tray) true then s
    else sendCpl p.agent .cmpWb 0 p.txid p.status p.cxl false (some p.tray) p.deadline s
  | none => s

/-! ### Writes toward memory (R70, R210, R211, R226, R227) -/

/-- Mark the writeback that a completed write belongs to. -/
def markWritten (placer : Placer) (s : State) : State :=
  match placer with
  | .wbk _ q =>
    updHome (fun x => { x with wslots := x.wslots.map (fun p => if p.2.seq = q then (p.1, { p.2 with written := true })
                                                                else p) }) s
  | _ => s

/-- A memory write of a context has completed under R70, or was dropped on a DARK channel. A rule-run context gets an
MWRC event, whose dispatch pays what is owed (R177, Table DEV-6). -/
def writeDone (c line : Nat) (dropped : Bool) (placer : Placer) (s : State) : State :=
  let s := markWritten placer s
  match ctxOf s c with
  | some x =>
    if x.byRule && decide (x.st ≠ .quarantined) then
      postEvent (eventFor x c (32 + chanNo s line) 0x39#6 0 (w64 (0x39 + 64 * b2n dropped))) s
    else payOwed c (fun o => decide (o = .mwrc)) s
  | none => s

/-- The LDW of a write of line data: no tracking, and KIND FOG when the data is fogged (R104, R189). -/
def dataLdw (fog : Bool) : W32 := if fog then ldwFog else ldwEmpty

/-- A write acknowledged early counts as processed at the home from here on (R213). -/
def markAcked (placer : Placer) (s : State) : State :=
  match placer with
  | .req _ q => modPend q (fun p => if p.op.isRead then p else { p with processed := true }) s
  | _ => s

/-- A write enters the posted write buffer: it completes there where the range permits early acknowledgement
(R210), else at its MWRC. The MWRC event goes to a context that runs rules. -/
def writeEnter (c : Nat) (e : PwbLine) (s : State) : State :=
  let early := ewa s e.line
  let s := pwbEnter { e with acked := early } s
  if early then writeDone c e.line false e.placer (markAcked e.placer s) else s

/-- The crossbar input that written data comes from: its agent's port, or the channel for the block's own (Table ORD-4). -/
def placerInput (s : State) (e : PwbLine) : Nat :=
  match e.placer with
  | .req a _ => portOutput a
  | .wbk a _ => portOutput a
  | .block => chanLane (chanNo s e.line)

/-- Issue a memory write for a context: dropped on a DARK channel, entered where there is room, else waiting
(R70, R227, R264). It owes an MWRC until it completes, and its data moves toward its channel (Table ORD-4). -/
def issueWrite (c : Nat) (e : PwbLine) (s : State) : State :=
  let s := oweMore c .mwrc s
  if isDark s e.line then writeDone c e.line true e.placer s
  else
    let s := moveLine (placerInput s e) (chanNo s e.line) e.line e.deadline s
    if pwbReady s e.line then writeEnter c e s
    else updMem (fun m => { m with pwbWait := m.pwbWait ++ [{ ctx := c, ent := e, keep := false }] }) s

/-- A line of data on its way to memory; its place in the order is given as it enters. -/
def pwbLine (c line : Nat) (d : LineData) (ldw : W32) (close : Bool) (pl : Placer) (dl : BitVec 32) (clears : Bool) : PwbLine :=
  { line := line, data := d.data, fog := d.fog, ldw := ldw, close := close, src := c, placer := pl, deadline := dl,
    acked := false, clears := clears, seq := 0 }

/-- May the read of an MWRD take place now: it needs no DRAM access, or its command may issue (R123, R226, R232)? -/
def keepReads (s : State) (e : PwbLine) : Bool := readAtOnce s e.line || mayIssue s e.seq e.src false false e.line

/-- An MWRD takes the line's current data and its mark, as it enters the posted write buffer (R123). -/
def takeCurrent (e : PwbLine) (s : State) : PwbLine × State :=
  let dram := !readAtOnce s e.line
  match currentData e.line s with
  | (d, s) => ({ e with data := d.data, fog := d.fog, ldw := ldwMark d.fog e.ldw }, if dram then leadNext e.line s else s)

/-- Issue an MWRD: it enters at once where its read may take place and there is room, else it waits. `f` enters it. -/
def issueKeep (c : Nat) (e : PwbLine) (f : PwbLine → State → State) (s : State) : State :=
  match nextOp s with
  | (n, s) =>
    let e := { e with seq := n }
    if pwbReady s e.line && keepReads s e then
      match takeCurrent e s with
      | (e, s) => f e s
    else updMem (fun m => { m with pwbWait := m.pwbWait ++ [{ ctx := c, ent := e, keep := true }] }) s

/-- The page hint of a context's request. -/
def Ctx.pgc (x : Ctx) : Bool :=
  match x.req with
  | some p => p.req.pgc
  | none => false

/-- Who a REQ's transaction names as the writing agent of its lines (R215). -/
def Ctx.placer (x : Ctx) : Placer :=
  match x.req, x.agent with
  | some p, some a => .req a p.seq
  | _, _ => .block

end Sys2Proof.Machine
end

