-- ==== Sys2Proof/Machine/Txn.lean ====
section
/-! DEFINITION. What the tables of chapters 03 and 04 do with a transaction: its snoops, its memory read, its verdict,
its completion and its RETIRE (R53 to R90, R103, R125, R405, R407, R408). Each step of `stepTxn` is one handler of the
reel in table form (log entry 5). -/

namespace Sys2Proof.Machine

/-! ### RETIRE (R57, R85, R86, R101, R141, R166, R193, R405) -/

/-- Count an early read that was not used, and let its completion be discarded (R66, R189). -/
def discardEarly (c : Nat) (x : Ctx) (s : State) : State :=
  match x.mem with
  | some b =>
    if b.early && !b.used then
      let s := count 0x08 ⟨x.tray, none, some (chanNo s b.line)⟩ 1 s
      updMem (fun m => { m with memq := m.memq.map (fun q => if q.ctx = c ∧ q.early then { q with orphan := true }
                                                             else q) }) s
    else s
  | none => s

/-- The writeback slots that wait for a line: joined to a transaction of it, or waiting (R405). -/
def waitingSlots (s : State) (line : Nat) : List (Nat × WSlot) :=
  s.home.wslots.filter (fun p => decide (p.2.line = line) &&
    (match p.2.place with
     | .joined _ => true
     | .waiting => true
     | _ => false))

/-- The slot that arrived first. -/
def firstSlot : List (Nat × WSlot) → Option (Nat × WSlot)
  | [] => none
  | p :: ps =>
    match firstSlot ps with
    | some q => if p.2.seq ≤ q.2.seq then some p else some q
    | none => some p

/-- Begin a writeback transaction in a slot (R54, R155): its context binds and the line becomes latent for it. -/
def bindWb (w : Nat) (p : WSlot) (s : State) : Nat × State :=
  let c := Config.latentEntries + w
  let x := { Ctx.blank (.wb w) with
               agent := some p.agent, txid := p.txid, deadline := p.deadline, ed := p.deadline,
               es := BitVec.ofNat 5 p.agent, line := some p.line, tray := some p.tray,
               variant := trayVariant s p.tray, ea := w64 (64 * p.line), early := trayEarly s p.tray, wbd := some w,
               writer := some (p.agent, p.txid) }
  let s := modSlot w (fun q => { q with place := .txn }) s
  (c, setHolder p.line (.ctx c) (bindCtx c x s))

/-- The code that a line has now: of its record, or, with no record, of the tray that holds it (R27). -/
def codeNow (s : State) (line : Nat) : Code :=
  codeOf s line (recOf s line) (match (recOf s line).tray with
                                | some t => some t
                                | none => trayOf s line)

/-- End a line's latency at a RETIRE: a writeback that still waits begins its transaction; else the chain's head is
handed the line, with the entry when it may take it over; else a write-through kept in its slot begins (R47); else the line
is not latent any more. -/
def releaseLine (line : Nat) (entry : Option Nat) (s : State) : List Nat × State :=
  match firstSlot (waitingSlots s line) with
  | some (w, p) => (match bindWb w p s with
                    | (c, s) => ([c], s))
  | none =>
    if (chainOf s line).isEmpty then
      match firstSlot (s.home.wslots.filter (fun p => decide (p.2.line = line) && decide (p.2.place = .full))) with
      | some (w, p) => (match bindWb w p s with
                        | (c, s) => ([c], s))
      | none => ([], delHolder line s)
    else ([], setHolder line (.handover entry (codeNow s line)) s)

/-- In DRAIN and QUIESCE an entry leaves at the RETIRE after which no line of it is latent (R141, R142). -/
def drainSector (sec : Nat) (s : State) : List Nat × State :=
  let b := bankOf sec
  if (bankState s b = 1 ∨ bankState s b = 2) ∧ !sectorLatent s sec then
    match findEntry s sec with
    | some (w, e) =>
      let key := wayKey b (setOf sec) w
      if isIdle e && !e.spill then ([], quotaCheck e.tray (count 0x07 ⟨some e.tray, none, none⟩ 1 (putWay key none s)))
      else if evictReady s then evictStart sec w e (quotaCheck e.tray (putWay key none s))
      else ([], s)
    | none => ([], s)
  else ([], s)

/-- Does a context hold a reel slot (R166)? -/
def reelHeld (s : State) (slotB : Bool) : Bool :=
  s.dev.ctxs.any (fun p => decide (p.2.reelB = slotB) && decide (p.2.st ≠ .quarantined))

/-- The state of a reel slot in ENG_REEL. -/
def reelState (s : State) (slotB : Bool) : Nat := rdf s oReel (if slotB then 12 else 8) 3

/-- Write the state of a reel slot. -/
def setReelState (slotB : Bool) (st : Nat) (s : State) : State := wrf s oReel (if slotB then 12 else 8) 3 st

/-- A slot becomes READY: its lines have had no mismatch since (R162). -/
def clearMisses (slotB : Bool) (s : State) : State :=
  updDev (fun d => { d with misMatch := d.misMatch.filter (fun p => decide (8512 ≤ p.1) != slotB) }) s

/-- A DRAINING slot that no context holds becomes READY, with cause REEL_DRAINED (R166). -/
def reelDrain (slotB : Bool) (s : State) : State :=
  if reelState s slotB = 5 ∧ !reelHeld s slotB then
    raise0 .reelDrained (setReelState slotB 3 (clearMisses slotB s))
  else s

/-- The writebacks a context absorbed: send the CmpWb of each whose write is done once the context's completion no
longer holds it back, and free the slots of those acknowledged, where the rule does not hold them to the RETIRE (R89). -/
def ackSlots (c : Nat) (s : State) : State :=
  let live := match ctxOf s c with
    | some x => decide (x.st ≠ .quarantined)
    | none => false
  let free := match ctxOf s c with
    | some x => x.cplSent || decide (x.st = .quarantined)
    | none => true
  let open' := free || (match ctxOf s c with
    | some x => (match x.kind with
                 | .req op => !op.isRead
                 | _ => true)
    | none => true)
  let mine := s.home.wslots.filter (fun p => decide (p.2.place = .absorbed c))
  mine.foldl (fun s p =>
    let s := if p.2.written && !p.2.acked && open' then sendCmpWb p.1 s else s
    match slotOf s p.1 with
    | some q => if q.acked && free && !(q.hold && live) then delSlot p.1 s else s
    | none => s) s

/-- A rule-run context's slots end with it: its rules have sent what CmpWb they send (R89, R193). -/
def dropAbsorbed (c : Nat) (s : State) : State :=
  updHome (fun h => { h with wslots := h.wslots.filter (fun p => decide (p.2.place ≠ .absorbed c)) }) s

/-- The entry lent to a context for one of its further lines (R184). -/
def lentEntry (s : State) (line : Nat) : Option Nat :=
  (s.dev.ctxs.find? (fun p => decide (p.2.kind = .back) && decide (p.2.line = some line))).map (·.1)

/-- A management request ends: ENG_MREQ_STS (R167, chapter 06). -/
def mreqEnd (status : Nat) (s : State) : State :=
  raise0 .mreqDone (wr s 0x02020C (w64 status))

/-- A record of an agent that serves the line no longer is resolved as its transaction RETIREs: the sweep has skipped the
line because it was latent (R93, R94). -/
def resolveGone (c line : Nat) (s : State) : State :=
  let r := recOf s line
  let l := (agentsOf r.sv ++ (if r.lst.owned then [r.own] else [])).dedup
  (l.filter (fun a => !serves s a r.tray line)).foldl (fun s a =>
    race6 line a (leftByItself s a r.tray line) (some c) s) s

/-- Take back the entry lent for a line. -/
def freeLent (line : Nat) (s : State) : Option Nat × State :=
  match lentEntry s line with
  | some e => (some e, delCtx e s)
  | none => (none, s)

/-- RETIRE one context: discard an unused early read, free its buffers, free or quarantine the context, release its
lines. The contexts that begin by it are returned. -/
def retireCore (c : Nat) (s : State) : List Nat × State :=
  match ctxOf s c with
  | none => ([], s)
  | some x =>
    let s := discardEarly c x s
    let s := if x.byRule then s
      else x.held.foldl (fun s l => if holderOf s l = some (.ctx c) then resolveGone c l s else s) s
    let s := match x.req with
      | some p => if x.owed.contains .cmp then s else delPend p.seq s
      | none => s
    let s := match x.kind with
      | .wb w => delSlot w s
      | .mgmt _ => mreqEnd (if x.status = .ok then 1 else 2) s
      | _ => s
    let s := updDev (fun d => { d with ready := d.ready.filter (fun e => decide (e.ctx ≠ c)),
                                       stalled := d.stalled.filter (fun p => decide (p.1 ≠ c)) }) s
    let s := if x.owed.isEmpty then delCtx c s
      else setCtx c { x with st := .quarantined, inFlight := none, stall := none, opRes := none,
                                job := none, events := [], parkedAt := s.aon.ft } s
    let s := if x.byRule then dropAbsorbed c s else ackSlots c s
    let s := updHome (fun h => { h with chains := (h.chains.map (fun q =>
        (q.1, q.2.filter (fun w => decide (w.who ≠ .ctx c))))).filter (fun q => !q.2.isEmpty) }) s
    let entry := if c < Config.latentEntries ∧ x.owed.isEmpty then some c else none
    let mine := x.held.filter (fun l => decide (holderOf s l = some (.ctx c)))
    let r := mine.foldl (fun (acc : List Nat × State) l =>
      match (if x.line = some l then (entry, acc.2) else freeLent l acc.2) with
      | (e, s) =>
        match releaseLine l e s with
        | (t, s) => (acc.1 ++ t, s)) ([], s)
    let r := (mine.map (· / 4)).dedup.foldl (fun (acc : List Nat × State) sec =>
      match drainSector sec acc.2 with
      | (t, s) => (acc.1 ++ t, s)) r
    (r.1, reelDrain x.reelB r.2)

/-- A quarantined entry that owes nothing any more is released (R101); its REQ's TXID was kept while a CMP was owed. -/
def releaseQuarantine (c : Nat) (s : State) : State :=
  match ctxOf s c with
  | some x =>
    if x.st = .quarantined ∧ x.owed.isEmpty then
      let s := match x.req with
        | some p => delPend p.seq s
        | none => s
      ackSlots c (delCtx c s)
    else s
  | none => s

/-! ### Memory reads of a transaction (R60, R65, R71, R129) -/

/-- Put a read's result into the context, where it is still the most recent read (R188). -/
def memGot (c seq : Nat) (o : ReadOut) (s : State) : State :=
  modCtx c (fun x => match x.mem with
    | some b =>
      if b.seq = seq then
        { x with mem := some { b with got := some { data := o.data, fog := o.fog || o.uncor }, uncor := o.uncor, ldw := o.ldw } }
      else x
    | none => x) s

/-- A read joins those under way. -/
def queueRead (q : MemOp) (s : State) : State := lookLine q.line (updMem (fun m => { m with memq := m.memq ++ [q] }) s)

/-- Issue a memory read of the transaction's line: it completes at once where no DRAM access is needed, and is owed
otherwise unless it is an early read. -/
def issueRead (c line : Nat) (early close : Bool) (s : State) : State :=
  match nextOp s with
  | (n, s) =>
    let buf : MemBuf := { line := line, seq := n, early := early, got := none, uncor := false, ldw := 0, used := false }
    let s := modCtx c (fun x => { x with mem := some buf }) s
    if readAtOnce s line then
      match memReadLine line (if early then .early else .txn) close [] s with
      | (o, s) => memGot c n o s
    else
      let s := if early then s else oweMore c .mrdc s
      queueRead { ctx := c, line := line, early := early, sector := false, close := close, orphan := false, seq := n } s

/-- Issue the four-line LDW read of R28 and R129. -/
def issueSector (c line : Nat) (close : Bool) (s : State) : State :=
  match nextOp s with
  | (n, s) =>
    let buf : MemBuf := { line := line, seq := n, early := false, got := none, uncor := false, ldw := 0, used := false }
    let s := oweMore c .ldwc (modCtx c (fun x => { x with mem := some buf }) s)
    queueRead { ctx := c, line := line, early := false, sector := true, close := close, orphan := false, seq := n } s

/-! ### Snoops of a transaction (Tables TXN-2, TXN-4, TXN-6, SHEET-6) -/

/-- All bytes of a line. -/
def fullMask : BitVec 64 := BitVec.allOnes 64

/-- The snoop that goes to an owner. -/
def ownerSnoop : ReqOp → SnpOp
  | .rds => .fs
  | .rdx => .fx
  | .upg => .fx
  | .rdc => .c
  | _ => .h

/-- Does the request invalidate sharers in S and O? -/
def invalidates : ReqOp → Bool
  | .rdx => true
  | .upg => true
  | .wrl => true
  | .wrp => true
  | .atc => true
  | .flush => true
  | _ => false

/-- The operation whose snoops a context sends; an eviction recalls as a Flush does (Table SHEET-6). -/
def Ctx.op (x : Ctx) : ReqOp :=
  match x.kind with
  | .req op => op
  | _ => .flush

/-- Does the request write a whole line (Table TXN-6, FOGGED)? -/
def Ctx.fullWrite (x : Ctx) : Bool :=
  match x.kind, x.req with
  | .req .wrl, _ => true
  | .req .wrp, some p => decide (p.bmask = fullMask)
  | _, _ => false

/-- SV′: the sharers other than the requester and the owner, and not snooped yet (R60). -/
def sharersLeft (x : Ctx) (r : Rec) : List Nat :=
  (agentsOf x.sv).filter (fun b => decide (x.agent ≠ some b) && !(r.lst.owned && decide (r.own = b)) &&
    !x.snooped.contains b)

/-- The owner to snoop, where there is one that is not the requester (R58). -/
def ownerLeft (x : Ctx) (r : Rec) : Option Nat :=
  if r.lst.owned && decide (x.agent ≠ some r.own) && !x.snooped.contains r.own then some r.own else none

/-- The snoops the recorded state still calls for. Under RdX in O the owner comes after the sharers (R61). In DARK a
read without an owner sends none (Table TXN-6). -/
def snoopPlan (x : Ctx) (r : Rec) (dark : Bool) : List (Nat × SnpOp) :=
  let op := x.op
  let inv := (sharersLeft x r).map (fun b => (b, SnpOp.i))
  let own := match ownerLeft x r with
    | some b => [(b, ownerSnoop op)]
    | none => []
  match r.lst with
  | .i => []
  | .e => own
  | .m => own
  | .s => if invalidates op && !(dark && op.isRead) then inv else []
  | .o =>
    if !invalidates op then own
    else if op.isRead then (if inv.isEmpty then own else inv)
    else inv ++ own
  | .fogged =>
    if op = .flush || x.fullWrite || (dark && !op.isRead && invalidates op) then inv else []

/-! ### The verdict -/

/-- What a transaction does once every answer is in. -/
structure Verdict where
  dat   : Option (DatOp × LineData)
  fwd   : Bool
  cmpO  : Bool
  st    : Status
  upd   : Option (Lst × Nat × BitVec 32)
  write : Option LineData
  miss  : Bool
  clear : Bool
  resv  : Bool
  deriving DecidableEq, Repr

/-- Completion without data, status OK, nothing recorded. -/
def Verdict.none : Verdict :=
  { dat := Option.none, fwd := false, cmpO := false, st := .ok, upd := Option.none, write := Option.none,
    miss := false, clear := false, resv := false }

/-- Zero data with the poison mark. DESIGN CHOICE, log entry 16: the spec leaves the data of a fogged answer to the
reel and recommends ZERO. -/
def fogZero : LineData := { data := 0, fog := true }

/-- DatI with FOG 1 and status FOGGED, the state unchanged. -/
def Verdict.fogI : Verdict := { Verdict.none with dat := some (.i, fogZero), st := .fogged }

/-- OWNER_MISS (R63). -/
def Verdict.lost (read : Bool) : Verdict :=
  { Verdict.none with dat := if read then some (.i, fogZero) else Option.none, st := .fogged, miss := true }

/-- The bit of an agent. -/
def abit (a : Nat) : BitVec 32 := 1#32 <<< a

/-- OK, or FOGGED for fogged data. -/
def stOf (d : LineData) : Status := if d.fog then .fogged else .ok

/-- DatI with data and no grant. -/
def Verdict.plain (d : LineData) : Verdict := { Verdict.none with dat := some (.i, d), st := stOf d }

/-- E to the requester with data from the home, or, for fogged data, DatI and I (R60, R407). -/
def Verdict.grantE (a : Nat) (m : LineData) : Verdict :=
  if m.fog then { Verdict.plain m with upd := some (.i, 0, 0) }
  else { Verdict.none with dat := some (.e, m), upd := some (.e, a, abit a), clear := true }

/-- DatS with data from the home; `also` are the sharers that keep a copy. -/
def Verdict.shareS (a : Nat) (also : BitVec 32) (m : LineData) : Verdict :=
  if m.fog then { Verdict.plain m with upd := some (.s, 0, also) }
  else { Verdict.none with dat := some (.s, m), upd := some (.s, 0, abit a ||| also) }

/-- The owner forwarded the line. -/
def Verdict.forward (l : Lst) (own : Nat) (bits : BitVec 32) (clear : Bool) : Verdict :=
  { Verdict.none with fwd := true, upd := some (l, own, bits), clear := clear }

/-- What a line record looks like to the verdict: a requester recorded as E owner counts as I (R58). -/
def seenLst (a : Nat) (r : Rec) : Lst := if r.lst = .e ∧ r.own = a then .i else r.lst

/-- RdS (Table TXN-2, R64). -/
def verdictRdS (a : Nat) (r : Rec) (dark : Bool) (ans : Option RspOp) (m : LineData) : Verdict :=
  match seenLst a r with
  | .fogged => .fogI
  | .i => if dark then .fogI else .grantE a m
  | .s => if dark then .fogI else .shareS a 0 m
  | .e =>
    match ans with
    | some .fwdS => .forward .s 0 (abit a ||| abit r.own) false
    | some .fwdO => .forward .o r.own (abit a ||| abit r.own) false
    | some .rspS => if dark then .fogI else .shareS a (abit r.own) m
    | _ => if dark then .fogI else .grantE a m
  | _ =>
    match ans with
    | some .fwdS => .forward .o r.own (abit a ||| abit r.own) false
    | some .fwdO => .forward .o r.own (abit a ||| abit r.own) false
    | _ => .lost true

/-- RdX, and Upg run as RdX. -/
def verdictRdX (a : Nat) (r : Rec) (dark : Bool) (ans : Option RspOp) (m : LineData) : Verdict :=
  match seenLst a r with
  | .fogged => .fogI
  | .i => if dark then .fogI else .grantE a m
  | .s => if dark then .fogI else .grantE a m
  | .e =>
    (match ans with
     | some .fwdI => .forward .m a (abit a) true
     | _ => if dark then .fogI else .grantE a m)
  | _ =>
    (match ans with
     | some .fwdI => .forward .m a (abit a) true
     | _ => .lost true)

/-- Upg of a line held S: ownership without data. -/
def verdictUpg (a : Nat) (r : Rec) (dark : Bool) : Verdict :=
  if r.lst = .fogged ∨ dark then .fogI
  else { Verdict.none with cmpO := true, upd := some (.m, a, abit a), clear := true }

/-- RdC: no caching right; the owner keeps what it answered. -/
def verdictRdC (a : Nat) (r : Rec) (dark : Bool) (ans : Option RspOp) (hb : Option LineData) (m : LineData) : Verdict :=
  match seenLst a r with
  | .fogged => .fogI
  | .i => if dark then .fogI else .plain m
  | .s => if dark then .fogI else .plain m
  | .e =>
    (match hb with
     | some h => { Verdict.plain h with upd := some (.m, r.own, 0) }
     | none =>
       if dark then .fogI
       else match ans with
         | some .rspE => .plain m
         | some .rspS => { Verdict.plain m with upd := some (.s, 0, abit r.own) }
         | _ => { Verdict.plain m with upd := some (.i, 0, 0) })
  | _ =>
    (match hb with
     | some h => .plain h
     | none => .lost true)

/-- AtR: DatH data is written to memory and delivered; a reservation only with status OK (R68, R76, R78, R408). -/
def verdictAtR (a : Nat) (r : Rec) (dark : Bool) (hb : Option LineData) (m : LineData) : Verdict :=
  let fromOwner := fun (h : LineData) (l : Lst) =>
    { Verdict.plain h with upd := some (if h.fog then .fogged else l, 0, 0), write := some h, clear := h.fog,
                           resv := !h.fog }
  match seenLst a r with
  | .fogged => .fogI
  | .i => if dark then .fogI else { Verdict.plain m with resv := !m.fog }
  | .s => if dark then .fogI else { Verdict.plain m with resv := !m.fog }
  | .e =>
    (match hb with
     | some h => fromOwner h .i
     | none => if dark then .fogI else { Verdict.plain m with upd := some (.i, 0, 0), resv := !m.fog })
  | .o =>
    (match hb with
     | some h => fromOwner h .s
     | none => .lost true)
  | .m =>
    (match hb with
     | some h => fromOwner h .i
     | none => .lost true)

/-- A write dropped on a DARK channel (Table TXN-6). -/
def Verdict.dropped : Verdict := { Verdict.none with st := .fogged, upd := some (.i, 0, 0) }

/-- A line written whole: good again. -/
def Verdict.store (d : LineBits) : Verdict :=
  { Verdict.none with write := some { data := d, fog := false }, upd := some (.i, 0, 0), clear := true }

/-- A merge written: fogged where the base was and the mask is not all ones (R69). -/
def Verdict.merged (full : Bool) (base : LineData) (merge : LineBits → LineBits) : Verdict :=
  if base.fog && !full then
    { Verdict.none with st := .fogged, write := some { data := merge base.data, fog := true },
                        upd := some (.fogged, 0, 0), clear := true }
  else .store (merge base.data)

/-- WrP and AtC. -/
def verdictMerge (a : Nat) (r : Rec) (dark full : Bool) (hb : Option LineData) (m : LineData)
    (merge : LineBits → LineBits) : Verdict :=
  if dark then .dropped
  else
    match seenLst a r with
    | .fogged => if full then .store (merge 0) else { Verdict.none with st := .fogged }
    | .i => .merged full m merge
    | .s => .merged full m merge
    | .e => .merged full (hb.getD m) merge
    | _ =>
      (match hb with
       | some h => .merged full h merge
       | none => if full then .store (merge 0) else .lost false)

/-- Flush: dirty data goes to memory (R68, R408). -/
def verdictFlush (a : Nat) (r : Rec) (dark : Bool) (hb : Option LineData) : Verdict :=
  let out := fun (h : LineData) =>
    { Verdict.none with st := stOf h, write := some h, upd := some (if h.fog then .fogged else .i, 0, 0), clear := true }
  if dark then .dropped
  else
    match seenLst a r with
    | .fogged => { Verdict.none with st := .fogged }
    | .i => { Verdict.none with upd := some (.i, 0, 0) }
    | .s => { Verdict.none with upd := some (.i, 0, 0) }
    | .e =>
      (match hb with
       | some h => out h
       | none => { Verdict.none with upd := some (.i, 0, 0) })
    | _ =>
      (match hb with
       | some h => out h
       | none => .lost false)

/-- The byte mask of an AtC: SIZE bytes from OFFS (R69). -/
def atcMask (r : Req) : BitVec 64 := BitVec.ofNat 64 ((2 ^ r.size.toNat - 1) <<< r.offs.toNat)

/-- The new bytes of an AtC, placed at OFFS. -/
def atcData (r : Req) (v : W64) : LineBits := BitVec.ofNat 512 (v.toNat <<< (8 * r.offs.toNat))

/-- The merge a REQ's payload makes onto a line (R69). -/
def payload (p : Pend) (old : LineBits) : LineBits :=
  match p.op with
  | .wrl => p.data
  | .wrp => mergeBytes p.bmask old p.data
  | .atc => mergeBytes (atcMask p.req) old (atcData p.req p.value)
  | _ => old

/-- A write-through whose data is poisoned writes the fogged code and leaves the line FOGGED (R47, R69, R72). -/
def Verdict.poison (p : Pend) (v : Verdict) : Verdict :=
  match v.write with
  | some d =>
    if p.fog && (decide (p.op = .wrl) || decide (p.op = .wrp)) then
      { v with write := some { d with fog := true }, st := .fogged, upd := some (.fogged, 0, 0) }
    else v
  | Option.none => v

/-- The verdict of a request. -/
def verdict (x : Ctx) (p : Pend) (a : Nat) (r : Rec) (dark : Bool) (m : LineData) : Verdict :=
  match x.op with
  | .rds => verdictRdS a r dark x.ansOp m
  | .rdx => verdictRdX a r dark x.ansOp m
  | .upg => verdictUpg a r dark
  | .rdc => verdictRdC a r dark x.ansOp x.hbuf m
  | .atr => verdictAtR a r dark x.hbuf m
  | .wrl => if dark then .dropped else Verdict.poison p (.store p.data)
  | .wrp => Verdict.poison p (verdictMerge a r dark x.fullWrite x.hbuf m (payload p))
  | .atc => verdictMerge a r dark false x.hbuf m (payload p)
  | .flush => verdictFlush a r dark x.hbuf
  | _ => Verdict.none

/-- Does the verdict need data that memory, or an absorbed writeback, supplies? -/
def needsData (x : Ctx) (a : Nat) (r : Rec) (dark : Bool) : Bool :=
  if dark then false
  else
    match x.op, seenLst a r with
    | .upg, _ => false
    | .wrl, _ => false
    | .flush, _ => false
    | _, .fogged => false
    | _, .i => true
    | _, .s => true
    | .rds, .e => decide (x.ansOp ≠ some .fwdS) && decide (x.ansOp ≠ some .fwdO)
    | .rdx, .e => decide (x.ansOp ≠ some .fwdI)
    | _, .e => x.hbuf.isNone
    | _, _ => false

/-- Data at the home for a transaction: an absorbed writeback's, else what its read brought (R88, R188). -/
def homeData (x : Ctx) : Option LineData :=
  match x.wbData with
  | some d => some d
  | none => x.mem.bind (·.got)

/-! ### Writebacks applied (R72, R73, R75, R88, Table TXN-5) -/

/-- Does the opcode leave the writer S or E? -/
def WbOp.keeps : WbOp → Bool
  | .ms => true
  | .os => true
  | .me => true
  | _ => false

/-- Table TXN-5: the next state after the recorded owner's writeback; `others` says whether SV′ holds anyone. -/
def wbNext (l : Lst) (op : WbOp) (others : Bool) : Lst :=
  match l with
  | .o =>
    (match op with
     | .mi => if others then .s else .i
     | .oi => if others then .s else .i
     | _ => .s)
  | _ =>
    (match op with
     | .mi => .i
     | .oi => .i
     | .ms => .s
     | .os => .s
     | .me => .e)

/-- Set the status of a slot and mark its write complete. -/
def slotDone (w : Nat) (st : Status) (s : State) : State :=
  modSlot w (fun p => { p with status := st, written := true }) s

/-- Record the state a writeback leaves (R72): the writer's SV bit stays when it is left S or E. -/
def wbRecord (p : WSlot) (l : Lst) (s : State) : State :=
  setRec p.line l (if l = .e then p.agent else 0) (if p.op.keeps && decide (l ≠ .i) then abit p.agent else 0) s

/-- Write a writeback's data for context `c`, and record the state: FOGGED when the data is (R69, R72); the write clears
reservations as it enters (R78). -/
def wbWrite (c w : Nat) (p : WSlot) (d : LineData) (l : Lst) (s : State) : State :=
  let st : Status := if d.fog then .fogged else .ok
  let s := modSlot w (fun q => { q with data := d.data, fog := d.fog, status := st }) s
  let s := wbRecord p (if d.fog then .fogged else l) s
  issueWrite c (pwbLine c p.line d (dataLdw d.fog) false (.wbk p.agent p.seq) p.deadline true) s

/-- The data a WBK with PTL 1 makes of the line's current data (R69, R72). -/
def wbMerge (p : WSlot) (base : LineData) : LineData :=
  { data := mergeBytes p.bmask base.data p.data, fog := p.fog || (base.fog && decide (p.bmask ≠ fullMask)) }

/-- How a WBK meets the record of its line. -/
inductive WbCase where
  | fogged | stale | through | dark | empty | merge | whole
  deriving DecidableEq, Repr

/-- Has a WBK an empty mask (R41)? -/
def WSlot.empty (p : WSlot) : Bool := p.ptl && decide (p.bmask = 0)

/-- The case of a WBK (R41, R72, R73, Table TXN-6). An RwD of a host that is not the recorded owner is a write-through,
whatever the record (R47). -/
def wbCase (s : State) (p : WSlot) : WbCase :=
  let r := recOf s p.line
  if r.lst.owned && decide (r.own = p.agent) then
    if isDark s p.line then .dark
    else if p.empty then .empty
    else if p.ptl then .merge
    else .whole
  else if p.cxl.isSome then .through
  else if r.lst = .fogged then .fogged
  else .stale

/-- The status of a WBK: ZERO with an empty mask, whatever else R41's own text leaves to Table TXN-6 and R73. DESIGN CHOICE,
log entry 51. -/
def wbStatus (p : WSlot) (st : Status) : Status := if p.empty then .zero else st

/-- The state Table TXN-5 gives; `rq` is the requester of the transaction that absorbs the WBK. -/
def wbNextOf (s : State) (p : WSlot) (rq : Option Nat) : Lst :=
  let r := recOf s p.line
  let others := (agentsOf r.sv).any (fun b => decide (b ≠ p.agent) && decide (rq ≠ some b))
  wbNext r.lst p.op others

/-- Apply a WBK in the cases that read no memory. -/
def wbApply (c w : Nat) (p : WSlot) (rq : Option Nat) (s : State) : State :=
  match wbCase s p with
  | .fogged => slotDone w (wbStatus p .fogged) (wbRecord p .fogged s)
  | .stale => slotDone w (wbStatus p .ok) (count 0x09 ⟨some p.tray, some p.agent, none⟩ 1 s)
  | .dark => slotDone w (wbStatus p .fogged) (wbRecord p (wbNextOf s p rq) s)
  | .empty => slotDone w .zero (wbRecord p (wbNextOf s p rq) s)
  | .whole => wbWrite c w p { data := p.data, fog := p.fog } (wbNextOf s p rq) s
  | .merge => s
  | .through => s

/-- Change a context's phase. -/
def setPhase (c : Nat) (p : Phase) (s : State) : State := modCtx c (fun x => { x with phase := p }) s

/-- Where a transaction goes on after it has absorbed a WBK: one that still decides does so anew; one that has decided awaits
what it awaited; an eviction writes its LDW again (R88, R103). -/
def phaseAfter (x : Ctx) : Phase :=
  match x.kind, x.phase with
  | .evict _ _, _ => .snoops
  | _, .cmp => .cmp
  | _, .write => .write
  | _, _ => .snoops

/-- An eviction that has written, or waits to write, the LDW of a line takes the line up again: the state a WBK has set is
what its LDW records (R103). -/
def reopenEvict (c : Nat) (x : Ctx) (s : State) : State :=
  match x.kind with
  | .evict k _ =>
    let s := updMem (fun m => { m with pwbWait := m.pwbWait.filter (fun q => !(decide (q.ctx = c) && q.keep)) }) s
    if x.phase = .cmp then
      updSheet (fun y => { y with evSlots := sMod y.evSlots k (fun v => { v with left := v.left + 1 }) }) s
    else s
  | _ => s

/-- The transaction goes on in the state that a WBK has set (R88): `d` is the WBK's data, where it gives any. -/
def absorbed (c w : Nat) (p : WSlot) (d : Option LineData) (s : State) : State :=
  let sv := (recOf s p.line).sv
  modCtx c (fun y =>
    { y with snooped := y.snooped.filter (· ≠ p.agent), ansOp := none, wbd := if d.isSome then some w else y.wbd,
             wbData := if d.isSome then d else y.wbData, writer := some (p.agent, p.txid), mergeWb := none, sv := sv,
             phase := phaseAfter y }) s

/-- The line's current data for a WBK with PTL 1 has come: merge, write, and go on (R69, R72, R88). -/
def absorbMerge (c w : Nat) (p : WSlot) (base : LineData) (s : State) : State :=
  match ctxOf s c with
  | some x =>
    let d := wbMerge p base
    let s := modSlot w (fun q => { q with place := .absorbed c }) s
    absorbed c w p (some d) (wbWrite c w p d (wbNextOf s p x.agent) s)
  | none => s

/-- R88: apply the recorded owner's writeback to the transaction in context `c`, which then goes on in the state it
left. Its data serves the transaction; the writer's owed answer is covered, or its owed WBK paid (R90, R177). With PTL 1
the home reads the line first (R72): the transaction's own read serves where it has one. -/
def absorb (c w : Nat) (p : WSlot) (x : Ctx) (s : State) : State :=
  let s := modCtx c (fun y => { y with owed := coverOwed p.agent y }) (reopenEvict c x s)
  if wbCase s p = .merge then
    match homeData x with
    | some b => absorbMerge c w p b s
    | none =>
      let s := modSlot w (fun q => { q with place := .joined c }) (modCtx c (fun y => { y with mergeWb := some w }) s)
      let s := if x.mem.isSome then s else issueRead c p.line false false s
      match (ctxOf s c).bind (fun y => homeData y) with
      | some b => absorbMerge c w p b s
      | none => s
  else
    let d := if wbCase s p = .whole then some ({ data := p.data, fog := p.fog } : LineData) else none
    let s := modSlot w (fun q => { q with place := .absorbed c }) s
    absorbed c w p d (wbApply c w p x.agent s)

/-- Is the record of the line still to be read, or a WBK being merged: a further WBK waits for that (R28)? -/
def unready (x : Ctx) : Bool :=
  decide (x.phase = .begin) || decide (x.phase = .ldw) || x.mergeWb.isSome ||
  (match x.kind with
   | .wb _ => decide (x.phase = .memory)
   | _ => false)

/-- The write-throughs of a host that wait in chains with their data in the posted write buffer (R47). -/
def throughWaiting (s : State) (a : Nat) : Nat :=
  (s.home.reqs.filter (fun p => throughHeld s p && decide (p.req.agent = a))).length

/-- The REQ that an RwD of a host that is not the recorded owner becomes: WrL, or WrP for MemWrPtl (R47). -/
def throughPend (p : WSlot) (place : Place) : Pend :=
  { seq := p.seq, op := if p.ptl then .wrp else .wrl,
    req := { agent := p.agent, txid := p.txid, stream := BitVec.ofNat 8 p.line, size := 0, pgc := false,
             laddr := 0, offs := 0, deadline := p.deadline },
    bmask := p.bmask, data := p.data, value := 0, line := p.line, tray := some p.tray, deadline := p.deadline,
    place := place, portCpl := none, processed := false, cxl := p.cxl, fog := p.fog, lost := false }

/-- A write-through to a latent line: its header enters the wait chain, its data takes a line of the posted write buffer, and
its slot frees. With 16 lines of its host in use, or none free, it stays in its slot (R47). -/
def throughChain (w : Nat) (p : WSlot) (s : State) : State :=
  if 16 ≤ throughWaiting s p.agent || !pwbFree s then modSlot w (fun q => { q with place := .full }) s
  else
    let q := throughPend p .chain
    let wt : Waiter := { who := .req q.seq, agent := some p.agent, stream := q.req.stream, deadline := p.deadline,
                         passed := 0 }
    let s := count 0x0D ⟨some p.tray, some p.agent, none⟩ 1 (delSlot w s)
    let s := updHome (fun h => { h with reqs := h.reqs ++ [q] }) s
    setChain p.line (chainInsert s wt (chainOf s p.line)) s

/-- A WBK that concerns the transaction in context `c`: applied on arrival, stale, a write-through, or kept until the record
of its line has been read (R28, R35, R47, R73, R88). -/
def wbkMeet (c w : Nat) (s : State) : State :=
  match ctxOf s c, slotOf s w with
  | some x, some p =>
    if unready x then modSlot w (fun q => { q with place := .joined c }) s
    else
      match wbCase s p with
      | .through => throughChain w p s
      | .stale =>
        let s := payOwed c (isWbk p.agent) (wbApply c w p x.agent s)
        delSlot w (sendCmpWb w s)
      | _ => absorb c w p x s
  | _, _ => s

/-- Apply the WBKs that waited for a transaction's record. -/
def meetJoined (c : Nat) (s : State) : State :=
  let mine := s.home.wslots.filter (fun p => decide (p.2.place = .joined c))
  mine.foldl (fun s p => wbkMeet c p.1 s) s

/-! ### Steps of a transaction -/

/-- Complete a request without data and RETIRE it (R57). -/
def endCpl (c : Nat) (op : CplOp) (st : Status) (s : State) : List Nat × State :=
  retireCore c (completeCpl c op st s)

/-- Does an operation with no effect complete at once: SIZE 0, or an empty mask (R41)? -/
def emptyReq (p : Pend) : Bool :=
  match p.op with
  | .wrp => decide (p.bmask = 0)
  | .atr => decide (p.req.size = 0)
  | .atc => decide (p.req.size = 0)
  | _ => false

/-- Does a request read memory in I and S as its data source? -/
def readsMemory : ReqOp → Bool
  | .rds => true
  | .rdx => true
  | .rdc => true
  | .atr => true
  | .wrp => true
  | .atc => true
  | _ => false

/-- The granule of the context's tray. -/
def Ctx.gran (s : State) (x : Ctx) : Nat := trayGran s (x.tray.getD 0)

/-- Start the memory read a state calls for: the data source in I and S, an early read in E (R60, R65). After an LDW read
the data that it brought serves in I and S, and in no other state (Table TXN-6). -/
def startRead (c : Nat) (x : Ctx) (r : Rec) (dark : Bool) (s : State) : State :=
  let line := x.line.getD 0
  let l := seenLst (x.agent.getD 32) r
  let source := decide (l = .i) || decide (l = .s)
  let s := if source then s else modCtx c (fun y => { y with mem := none }) s
  if dark || x.wbData.isSome || !readsMemory x.op then s
  else if source then (if x.mem.isSome then s else issueRead c line false x.pgc s)
  else if l = .e ∧ x.early then issueRead c line true x.pgc s
  else s

/-- R62: an Upg whose requester does not share the line in S runs as RdX. -/
def upgAsRdX (x : Ctx) (r : Rec) : Ctx :=
  match x.kind, x.agent with
  | .req .upg, some a => if r.lst = .s ∧ r.sv.getLsbD a then x else { x with kind := .req .rdx }
  | _, _ => x

/-- A request's handler at its dispatch. -/
def beginReq (c : Nat) (x : Ctx) (p : Pend) (s : State) : List Nat × State :=
  let line := x.line.getD 0
  let a := x.agent.getD 0
  if emptyReq p then endCpl c .cmpW .zero s
  else if x.op = .atc && !x.resvOk && !reserved s a (x.gran s) line then endCpl c .cmpW .scFail s
  else
    let s := if x.op = .atc && !x.resvOk then
        modCtx c (fun y => { y with resvOk := true }) (unreserve a (x.gran s) line s)
      else s
    if x.code = Code.spilled.num then ([], setPhase c .ldw (issueSector c line x.pgc s))
    else
      let s := meetJoined c s
      match ctxOf s c with
      | none => ([], s)
      | some x =>
        let r := recOf s line
        let q := if (r.lst = .o ∨ r.lst = .m) ∧ r.own = a then
            fogLine line (x.tray.getD 0) .selfOwner (some c) (some a) s
          else ([], s)
        let s := q.2
        let r := recOf s line
        let x := upgAsRdX { x with sv := r.sv, phase := .snoops } r
        let s := setCtx c x s
        (c :: q.1, startRead c x r (isDark s line) s)

/-- Send the snoops the recorded state still calls for; a ZCL writer that must be snooped again is snooped only after
its CmpWb, which goes out once its write has completed (R88, R89). -/
def sendWave (c : Nat) (plan : List (Nat × SnpOp)) (s : State) : Bool × State :=
  let mine := s.home.wslots.filter (fun p => decide (p.2.place = .absorbed c) &&
    plan.any (fun q => decide (q.1 = p.2.agent)))
  let s := mine.foldl (fun s p => if p.2.written && !p.2.acked then
      modSlot p.1 (fun q => { q with hold := true }) (sendCmpWb p.1 s) else s) s
  let held := mine.any (fun p => !p.2.written && !isG6 s p.2.agent)
  if held then (false, s)
  else (true, plan.foldl (fun s q => sendSnoop c q.1 q.2 (fgrOf q.2) s) s)

/-- The state a grant records: a CXL-G6 host is recorded E where another agent would be M (R46). -/
def grantLst (s : State) (a : Nat) (l : Lst) (o : Nat) : Lst := if l = .m ∧ o = a ∧ isG6 s a then .e else l

/-- Put a verdict into effect: a grant clears reservations as it is recorded, a write as it enters the posted write buffer
(R78). -/
def enact (c : Nat) (x : Ctx) (a line : Nat) (v : Verdict) (s : State) : List Nat × State :=
  let t := x.tray.getD 0
  let q := if v.miss then fogLine line t .ownerMiss (some c) (some (recOf s line).own) s else ([], s)
  let s := q.2
  let s := match v.upd with
    | some (l, o, bits) => setRec line (grantLst s a l o) o bits s
    | none => s
  let s := if v.clear && v.write.isNone then clearResv line s else s
  let s := if v.resv then reserve a t (x.gran s) line s else s
  let s := match v.write with
    | some d => issueWrite c (pwbLine c line d (dataLdw d.fog) x.pgc x.placer x.deadline v.clear) s
    | none => s
  let s := modCtx c (fun y => { y with status := v.st, phase := .cmp }) s
  match v.dat with
  | some (op, d) => (q.1 ++ [c], completeDat c op d v.st s)
  | none =>
    if v.fwd then (q.1 ++ [c], markSent c s)
    else if v.cmpO then (q.1 ++ [c], completeCpl c .cmpO .ok s)
    else (q.1 ++ [c], setPhase c .write s)

/-- Every answer is in: fetch the data the verdict needs, have an entry to record it in, and put it into effect. -/
def finishReq (c : Nat) (x : Ctx) (p : Pend) (s : State) : List Nat × State :=
  let line := x.line.getD 0
  let a := x.agent.getD 0
  let dark := isDark s line
  let r := recOf s line
  let need := needsData x a r dark
  if need && (homeData x).isNone then
    if x.mem.isSome then ([], setPhase c .memory s)
    else
      let s := setPhase c .memory (issueRead c line false x.pgc s)
      (if readAtOnce s line then [c] else [], s)
  else
    let d := (homeData x).getD fogZero
    let v := verdict x p a r dark d
    let s := if need then modCtx c (fun y => { y with mem := y.mem.map (fun b =>
        { b with used := b.used || y.wbData.isNone }) }) s else s
    match v.upd with
    | some (.i, _, _) => enact c x a line v s
    | none => enact c x a line v s
    | some _ =>
      match ensureEntry line (x.tray.getD 0) s with
      | some (l, s) => (match enact c x a line v s with
                        | (t, s) => (l ++ t, s))
      | none => ([], setPhase c .alloc s)

/-- A request's step. -/
def stepReq (c : Nat) (x : Ctx) (p : Pend) (s : State) : List Nat × State :=
  let line := x.line.getD 0
  if x.mergeWb.isSome then ([], s)
  else match x.phase with
  | .begin => beginReq c x p s
  | .cmp =>
    if x.cmpIn && (x.owed.isEmpty || x.expired) then retireCore c s else ([], s)
  | .write =>
    if x.owed.isEmpty then
      let s := completeCpl c .cmpW x.status s
      retireCore c s
    else ([], s)
  | .ldw => ([], s)
  | .bath => ([], s)
  | .detach => ([], s)
  | _ =>
    if owesAnswer x then ([], s)
    else
      let plan := snoopPlan x (recOf s line) (isDark s line)
      if plan.isEmpty then finishReq c x p s
      else
        match sendWave c plan s with
        | (true, s) => ([c], setPhase c .snoops s)
        | (false, s) => ([], s)

/-- The opcode of a REQ (Table LINE-3). -/
def ReqOp.num : ReqOp → BitVec 6
  | .rds => 0x00#6
  | .rdx => 0x01#6
  | .upg => 0x02#6
  | .rdc => 0x03#6
  | .wrl => 0x04#6
  | .wrp => 0x05#6
  | .atr => 0x06#6
  | .atc => 0x07#6
  | .flush => 0x08#6
  | .stbV => 0x09#6
  | .stbD => 0x0A#6
  | .detn => 0x0B#6

/-- EX of a REQ event (Table DEV-6). -/
def reqEx (p : Pend) : W64 :=
  w64 (p.op.num.toNat + 2 ^ 6 * b2n p.req.pgc + 2 ^ 7 * p.req.txid.toNat + 2 ^ 19 * p.req.stream.toNat +
    2 ^ 27 * p.req.size.toNat + 2 ^ 31 * p.req.offs.toNat)

/-- Bind the context of a REQ that names a line, with a code; the line becomes latent for it (R53, R156). -/
def bindReq (c : Nat) (p : Pend) (code : Code) (s : State) : State :=
  let a := p.req.agent
  let t := p.tray.getD 0
  let x := { Ctx.blank (.req p.op) with
               agent := some a, txid := p.req.txid, reqOpc := p.op.num, deadline := p.deadline, ed := p.deadline,
               tray := p.tray, early := trayEarly s t, variant := trayVariant s t, req := some p,
               line := some p.line, ea := w64 (64 * p.line), es := BitVec.ofNat 5 a, ex := reqEx p, code := code.num }
  let s := modPend p.seq (fun q => { q with place := .begun c }) s
  bindCtx c (loadSheet p.line s x) (setHolder p.line (.ctx c) s)

/-- The event with which a REQ's context is dispatched, where its reel runs its rules (R150). -/
def postReq (c : Nat) (p : Pend) (s : State) : State :=
  match ctxOf s c with
  | some y => if y.byRule then postEvent (eventFor y c p.req.agent p.op.num p.req.agent (reqEx p)) s else s
  | none => s

/-- A write-through to a line that only its own slot holds latent begins its transaction in a latent-table entry (R47, R53);
without a free entry it waits at the head of the line's chain. The slot keeps the data until the RETIRE. -/
def throughBegin (c w : Nat) (p : WSlot) (s : State) : List Nat × State :=
  match takeEntry s with
  | some (e, s) =>
    let s := switchTray (p.line / 4) p.tray s
    let s := match findEntry s (p.line / 4) with
      | some (k, _) => touchAge (p.line / 4) k s
      | none => s
    let q := throughPend p (.begun e)
    let s := modSlot w (fun y => { y with place := .absorbed e, acked := true, hold := true }) (delCtx c s)
    let s := updHome (fun h => { h with reqs := h.reqs ++ [q] }) s
    ([e], postReq e q (bindReq e q (codeOf s p.line (recOf s p.line) (some p.tray)) s))
  | none =>
    if 16 ≤ throughWaiting s p.agent || !pwbFree s then ([], setPhase c .space s)
    else retireCore c (throughChain w p s)

/-- A writeback's handler once its line's record is known (R47, R72, R73, R75); a WBK that waited for the record follows it. -/
def wbHandle (c w : Nat) (p : WSlot) (s : State) : List Nat × State :=
  match wbCase s p with
  | .merge =>
    let s := setPhase c .memory (issueRead c p.line false false s)
    (if readAtOnce s p.line then [c] else [], s)
  | .through => throughBegin c w p s
  | _ => ([c], meetJoined c (setPhase c .write (wbApply c w p none s)))

/-- A writeback transaction's step. Its handler waits for its bank to be ONLINE before it looks the sector up
(R142); in SPILLED-PENDING it reads the LDW first (Table TXN-6). -/
def stepWb (c w : Nat) (x : Ctx) (p : WSlot) (s : State) : List Nat × State :=
  if x.mergeWb.isSome then ([], s)
  else match x.phase with
  | .begin =>
    if bankHeld s (bankOf (p.line / 4)) then ([], s)
    else
      let s := count 0x02 ⟨some p.tray, some p.agent, none⟩ 1 s
      match lookup (p.line / 4) s with
      | (.noResult, s) => ([], s)
      | (_, s) =>
        let code := codeOf s p.line (recOf s p.line) (some p.tray)
        let s := modCtx c (fun y => { y with code := code.num }) s
        if code = .spilled then ([], setPhase c .ldw (issueSector c p.line false s))
        else wbHandle c w p s
  | .snoops => wbHandle c w p s
  | .space => wbHandle c w p s
  | .memory =>
    (match x.mem with
     | some b =>
       (match b.got with
        | some d =>
          ([c], meetJoined c (setPhase c .write (wbWrite c w p (wbMerge p d) (wbNextOf s p none) s)))
        | none => ([], s))
     | none => ([], s))
  | .write =>
    if owesMem x then ([], s)
    else
      let s := sendCmpWb w s
      retireCore c s
  | _ => ([], s)

/-- A drain whose sweep has visited every set is done once every eviction of its bank has RETIREd (R141). -/
def drainCheck (s : State) : State :=
  let done := fun (w : Sweep) => match w.kind with
    | .drain b => decide (16384 ≤ w.next) && !s.sheet.evSlots.any (fun p => decide (bankOf p.2.sector = b))
    | _ => false
  if s.sheet.sweeps.any done then
    raise0 .drainDone (updSheet (fun x => { x with sweeps := x.sweeps.filter (fun w => !done w) }) s)
  else s

/-- A line of an eviction is done. The eviction RETIREs with its last line: all four entries are freed (R103). -/
def evictLine (c k : Nat) (s : State) : List Nat × State :=
  match sFind s.sheet.evSlots k with
  | none => ([], s)
  | some v =>
    let s := setPhase c .cmp s
    if 1 < v.left then
      ([], updSheet (fun y => { y with evSlots := sSet y.evSlots k { v with left := v.left - 1 } }) s)
    else
      let s := updSheet (fun y => { y with evSlots := sDel y.evSlots k }) s
      let mine := s.dev.ctxs.filter (fun p =>
        match p.2.kind with
        | .evict j _ => decide (j = k) && decide (p.2.st ≠ .quarantined)
        | _ => false)
      let r := mine.foldl (fun (acc : List Nat × State) p =>
        match retireCore p.1 acc.2 with
        | (t, s) => (acc.1 ++ t, s)) ([], s)
      (r.1, drainCheck r.2)

/-- A block's own write: no agent waits for it, so it counts as done once it is in the posted write buffer. -/
def blockWrite (c line : Nat) (d : LineData) (ldw : W32) (dl : BitVec 32) (clears : Bool) (s : State) : State :=
  let e := { pwbLine c line d ldw false .block dl clears with acked := true }
  if isDark s line then s
  else if pwbReady s line then pwbEnter e s
  else updMem (fun m => { m with pwbWait := m.pwbWait ++ [{ ctx := c, ent := e, keep := false }] }) s

/-- An MWRD of the block's own: the line's current data, keeping its mark, with a new LDW (R123). -/
def writeLdw (c line : Nat) (ldw : W32) (dl : BitVec 32) (s : State) : State :=
  if isDark s line then s
  else issueKeep c { pwbLine c line fogZero ldw false .block dl false with acked := true } pwbEnter s

/-- The LDW a SPILL eviction writes for line k of an entry (R123, R124, Table SHEET-7). -/
def spillLdw (s : State) (v : EvSlot) (k : Nat) : W32 :=
  if v.idle then ldwEmpty
  else
    let own := v.entry.own.get k
    ldwTrack v.seq (v.entry.lst.get k) own (linkOf s own).epoch.toNat (fld v.entry.sv (8 * k) 8)

/-- Is a write of a context waiting for room? -/
def waitsRoom (s : State) (c : Nat) : Bool := s.mem.pwbWait.any (fun p => p.ctx = c)

/-- The memory side of one recalled line once its answers are in (Table SHEET-6, R63, R104). A line that has become FOGGED
stays so, whatever data a snoop has brought (R99). -/
def recallWrite (c line : Nat) (x : Ctx) (v : EvSlot) (s : State) : List Nat × State :=
  let r := recOf s line
  let q := if (r.lst = .o ∨ r.lst = .m) ∧ x.hbuf.isNone then
      fogLine line v.entry.tray .ownerMiss (some c) (some r.own) s
    else ([], s)
  let s := q.2
  if (recOf s line).lst = .fogged then (q.1, writeLdw c line ldwFog x.deadline s)
  else
    let s := match x.hbuf with
      | some h =>
        blockWrite c line h (dataLdw h.fog) x.deadline true (setRec line (if h.fog then .fogged else .i) 0 0 s)
      | none => if v.entry.spill && x.wbData.isNone then writeLdw c line ldwEmpty x.deadline s else s
    (q.1, if (recOf s line).lst = .fogged then s else setRec line .i 0 0 s)

/-- A step of one line of an eviction. -/
def stepEvict (c k line : Nat) (x : Ctx) (s : State) : List Nat × State :=
  match sFind s.sheet.evSlots k with
  | none => ([], s)
  | some v =>
    if x.mergeWb.isSome then ([], s)
    else match x.phase with
    | .cmp => ([], s)
    | .write => if waitsRoom s c || !x.owed.isEmpty && !x.expired then ([], s) else evictLine c k s
    | _ =>
      if !v.recalls then ([c], setPhase c .write (writeLdw c line (spillLdw s v (line % 4)) x.deadline s))
      else if owesAnswer x && !x.expired then ([], s)
      else
        let x := if x.phase = .begin then { x with sv := v.entry.sv, phase := .snoops } else x
        let s := setCtx c x s
        let plan := if x.expired then [] else snoopPlan x (recOf s line) false
        if plan.isEmpty then
          match recallWrite c line x v s with
          | (t, s) => (t ++ [c], setPhase c .write s)
        else
          match sendWave c plan s with
          | (true, s) => ([c], s)
          | (false, s) => ([], s)

/-- Prepare a rule-run writeback transaction: its bank must be ONLINE (R142); the lookup gives its code, and its event
becomes ready (R150). -/
def prepWb (c w : Nat) (x : Ctx) (p : WSlot) (s : State) : State :=
  if bankHeld s (bankOf (p.line / 4)) then s
  else
    let s := count 0x02 ⟨some p.tray, some p.agent, none⟩ 1 s
    match lookup (p.line / 4) s with
    | (.noResult, s) => s
    | (_, s) =>
      let code := codeOf s p.line (recOf s p.line) (some p.tray)
      if wbCase s p = .through && decide (code ≠ .spilled) then (throughBegin c w p s).2
      else
        let y := loadSheet p.line s { x with code := code.num, ex := wbkEx p, phase := .snoops, wbd := some w }
        postEvent (wbkEvent y c p) (setCtx c y s)

/-- One handler step of a context that follows the tables. Nothing runs in Safelight state, before dispatch starts, or
in a context whose reel runs its rules. The contexts to go on with are returned. -/
def stepTxn (c : Nat) (s : State) : List Nat × State :=
  if isSafe s || !s.dev.running then ([], s)
  else
    match ctxOf s c with
    | none => ([], s)
    | some x =>
      if x.st = .quarantined then ([], s)
      else if x.byRule then
        (match x.kind with
         | .wb w =>
           (match slotOf s w with
            | some p => ([], if x.phase = .begin ∨ x.phase = .space then prepWb c w x p s else s)
            | none => ([], s))
         | _ => ([], s))
      else
        match x.kind with
        | .req _ =>
          (match x.req with
           | some p => (match stepReq c x p s with
                        | (t, s) => (t, ackSlots c s))
           | none => ([], s))
        | .wb w =>
          (match slotOf s w with
           | some p => stepWb c w x p s
           | none => ([], s))
        | .evict k line => (match stepEvict c k line x s with
                            | (t, s) => (t, ackSlots c s))
        | _ => ([], s)

/-- Run contexts until none has anything to do; `fuel` bounds the handlers, far above what one command starts. -/
def run : Nat → List Nat → State → State
  | 0, _, s => s
  | _, [], s => s
  | n + 1, c :: cs, s =>
    match stepTxn c s with
    | (t, s) => run n (t ++ cs) s

/-- Run contexts with the model's bound. -/
def go (l : List Nat) (s : State) : State := run 4096 l s

/-! ### WBKs at their lines (R35, R47, R54, R82, R86) -/

/-- Has the record of a context's line been read? -/
def recordKnown (s : State) (x : Ctx) (line : Nat) : Bool :=
  decide (x.code ≠ Code.spilled.num) || (recOf s line).hit || (evictOf s (line / 4)).isSome

/-- A WBK for a line that a rule-run context holds: a write-through enters the chain; any other is an event of the context. -/
def wbkPost (c w : Nat) (p : WSlot) (s : State) : State :=
  match ctxOf s c with
  | some x =>
    if wbCase s p = .through && recordKnown s x p.line then throughChain w p s
    else postEvent (wbkEvent x c p) (modSlot w (fun q => { q with place := .joined c }) s)
  | none => s

/-- A WBK in its slot meets its line: it begins a transaction of its own, meets the latent transaction, or waits for
background work or a handover to end (R35, R54, R82, R86). -/
def wbkAtLine (w : Nat) (s : State) : State :=
  match slotOf s w with
  | none => s
  | some p =>
    let wait := modSlot w (fun q => { q with place := .waiting }) s
    if isSafe s then wait
    else
      match holderOf s p.line with
      | none =>
        (match bindWb w p s with
         | (c, s) => go [c] s)
      | some (.ctx c) =>
        (match ctxOf s c with
         | some x => if x.byRule then wbkPost c w p s else go [c] (wbkMeet c w s)
         | none => s)
      | some _ => if wbCase s p = .through then throughChain w p s else wait

/-- One of a host's 16 waiting write-throughs has left its chain: the first that has stayed in its slot for it goes on (R47). -/
def throughRetry (a : Nat) (s : State) : State :=
  match firstSlot (s.home.wslots.filter (fun p => decide (p.2.agent = a) && (match p.2.place with
    | .full => true
    | .txn => decide ((ctxOf s (Config.latentEntries + p.1)).map (·.phase) = some .space)
    | _ => false))) with
  | some (w, p) => if p.place = .full then wbkAtLine w s else go [Config.latentEntries + w] s
  | none => s

end Sys2Proof.Machine
end

