-- ==== Sys2Proof/Machine/Cap.lean ====
section
/-! DEFINITION. The Control Access Port: which register an offset reaches, what a read returns, what a write does by
access type, and when the CAP answers (R6, R7, R11, R21 to R23, R335, R391 to R394). -/

namespace Sys2Proof.Machine

/-- Does the CAP acknowledge requests (R394)? -/
def capAnswers (s : State) : Bool := !s.aon.porstLow && !deepState s

/-- Complete the access. -/
def capDone (err : Bool) (data : W64) (s : State) : State :=
  updCap (fun c => { c with resp := { ack := true, err := err, rdata := data } }) s

/-- No acknowledge. -/
def capSilent (s : State) : State :=
  updCap (fun c => { c with resp := { ack := false, err := false, rdata := 0 } }) s

/-- A CAP write to a command register: the CAP acknowledges it and the command acts. While the CAP gives no
acknowledge nothing happens (R394). -/
def capCmd (f : State → State) (s : State) : State :=
  if capAnswers s then untimed f (capDone false 0 s) else capSilent s

/-- Natural alignment (R393). -/
def aligned (off : Nat) (w64 : Bool) : Bool := decide (off % (if w64 then 8 else 4) = 0)

/-! ### Reel slots and scratch as storage (R158, R161, R164) -/

/-- The bytes of a reel slot. -/
def reelBytes (s : State) (slotB : Bool) : List Host.Cell := if slotB then s.dev.reelB else s.dev.reelA

/-- Bytes of a slot as a number, little-endian. -/
def reelNat (s : State) (slotB : Bool) (a n : Nat) : Nat := natOfBytes (memRead (reelBytes s slotB) a n)

/-- One bit step of the CRC-32 of R161, reflected. -/
def crc32Bit (c : Nat) : Nat := if c % 2 = 1 then Nat.xor (c / 2) 0xEDB88320 else c / 2

/-- One byte. -/
def crc32Byte (c : Nat) (b : Byte) : Nat := (List.range 8).foldl (fun c _ => crc32Bit c) (Nat.xor c b.toNat)

/-- The CRC-32 of R161. -/
def crc32 (bs : List Byte) : W32 := BitVec.ofNat 32 (Nat.xor (bs.foldl crc32Byte 0xFFFFFFFF) 0xFFFFFFFF)

/-- The key of a fetch line of a slot. -/
def fetchKey (slotB : Bool) (line : Nat) : Nat := 8512 * b2n slotB + line

/-- The CRC stored for a fetch line; that of a line of zeros where nothing has been written. -/
def lineCrcOf (s : State) (slotB : Bool) (line : Nat) : W32 :=
  sGet (crc32 (List.replicate 64 0)) s.dev.lineCrc (fetchKey slotB line)

/-- The bytes of a fetch line as the slot holds them. -/
def fetchBytes (s : State) (slotB : Bool) (line : Nat) : List Byte := memRead (reelBytes s slotB) (64 * line) 64

/-- Store bytes in a slot without touching CRCs. -/
def reelStore (slotB : Bool) (a : Nat) (bs : List Byte) (s : State) : State :=
  updDev (fun d => if slotB then { d with reelB := memWrite d.reelB a bs } else { d with reelA := memWrite d.reelA a bs }) s

/-- The block recomputes a fetch line's CRC at every CAP write into it (R161). -/
def recrc (slotB : Bool) (line : Nat) (s : State) : State :=
  if line < 8512 then
    let v := crc32 (fetchBytes s slotB line)
    let d0 := crc32 (List.replicate 64 0)
    updDev (fun d => { d with lineCrc := sPut d0 d.lineCrc (fetchKey slotB line) v }) s
  else s

/-- The bytes a write carries. -/
def writeBytes (w64 : Bool) (v : W64) : List Byte := bytesOf v (if w64 then 8 else 4)

/-- A CAP write into a slot window (R164): offsets at and above 0x8_6000 are unassigned. -/
def reelCapWrite (slotB : Bool) (x : Nat) (w64 : Bool) (v : W64) (s : State) : State :=
  if 0x86000 ≤ x then raise0 .capDecode s
  else
    let st := reelState s slotB
    if st = 0 ∨ st = 1 ∨ st = 3 ∨ st = 6 then
      setReelState slotB 1 (recrc slotB (x / 64) (reelStore slotB x (writeBytes w64 v) s))
    else raise0 .reelWr s

/-- A scratch word as the CAP reads it: 0 where its flag is clear (R158). -/
def scratchRead (s : State) (w : Nat) : W64 := (sFind s.dev.scratch w).getD 0

/-- Write a scratch word and set its flag. -/
def scratchPut (w : Nat) (v : W64) (s : State) : State :=
  updDev (fun d => { d with scratch := sSet d.scratch w v }) s

/-- A CAP write into scratch; a 32-bit write keeps the word's other half, which is 0 while its flag is clear. -/
def scratchCapWrite (x : Nat) (w64 : Bool) (v : W64) (s : State) : State :=
  let w := x / 8
  let old := scratchRead s w
  if w64 then scratchPut w v s
  else scratchPut w (setFld old (8 * (x % 8)) 32 (v.toNat % 2 ^ 32)) s

/-! ### Registers -/

/-- The register that a 32-bit offset reaches, and whether it is the register's upper half. -/
def coverReg (off : Nat) : Option (Nat × Bool) :=
  if off % 0x1000 < 0x800 then
    match regDesc off with
    | some _ => some (off, false)
    | none =>
      (match regDesc (off - 4) with
       | some d => if d.wide && decide (4 ≤ off) then some (off - 4, true) else none
       | none => none)
  else none

/-- The register whose shadow a 32-bit offset reaches: one with RWC fields (R22). -/
def coverShadow (off : Nat) : Option (Nat × Bool) :=
  if off < 0x400000 ∧ 0x800 ≤ off % 0x1000 then
    match coverReg (off - 0x800) with
    | some (r, hi) => if rwcMask r = 0 then none else some (r, hi)
    | none => none
  else none

/-- The TEST range. -/
def inTest (off : Nat) : Bool := decide (0xF00000 ≤ off)

/-- Is an offset assigned (R21 to R23)? -/
def assigned (off : Nat) : Bool :=
  (coverReg off).isSome || (coverShadow off).isSome ||
  (decide (0x400000 ≤ off) && decide (off < 0x600000) && decide (off % 0x100000 < 0x86000)) ||
  (decide (0x600000 ≤ off) && decide (off < 0x640000))

/-- A device channel m's offset within its block, for offsets in the channel blocks. -/
def chanBlock (off : Nat) : Option (Nat × Nat) :=
  if 0x200000 ≤ off ∧ off < 0x280000 then some ((off - 0x200000) / 0x10000, off % 0x10000) else none

/-- MC_CAP: capacity in GiB. -/
def viewMcCap (s : State) (m : Nat) : W64 := w64 (chanGib s m)

/-- How many contexts hold a DRAINING slot. -/
def oldCtx (s : State) : Nat :=
  if reelState s false = 5 then (s.dev.ctxs.filter (fun p => !p.2.reelB && decide (p.2.st ≠ .quarantined))).length
  else if reelState s true = 5 then (s.dev.ctxs.filter (fun p => p.2.reelB && decide (p.2.st ≠ .quarantined))).length
  else 0

/-- Has the engine been enabled, and which of the start conditions hold (R132)? -/
def engEn (s : State) : Bool := bitOf (rd s 0x020000) 0
/-- The self-test passed: SHEET_BIST.STATE is 2. -/
def bistPass (s : State) : Bool := decide (rdf s 0x030000 1 2 = 2)
/-- A slot is ACTIVE. -/
def reelAny (s : State) : Bool := bitOf (rd s oReel) 17

/-- ENG_STATUS. -/
def viewEngStatus (s : State) : W64 :=
  w64 (b2n s.dev.running + 2 * b2n (engEn s && !bistPass s) + 4 * b2n (engEn s && !reelAny s) + 2 ^ 16 * ctxUsed s)

/-- How many spare rows the fuse map uses in a bank. -/
def fusedCount (s : State) (b : Nat) : Nat := (sGet [] s.aon.fuseCopy.rows b).length

/-- How many soft-repair registers of a bank are valid. -/
def softCount (s : State) (b : Nat) : Nat :=
  ((List.range 32).filter (fun r => bitOf (rd s (oSr b r)) 31)).length

/-- What a register reads as beyond its stored value: the views computed from other state, and all ones after a parity
failure of the collector (R335). -/
def regView (s : State) (r : Nat) : W64 :=
  let v := rd s r
  if s.cap.parity.contains r then 0xFFFFFFFF#64
  else if r = 0x100 ∨ r = 0x320 then s.aon.ft
  else if r = 0x010000 then w64 (irqSum s)
  else if r = 0x010004 then w64 (irqLinkSum s)
  else if r = 0x010008 then w64 (irqMemSum s)
  else if r = 0x020004 then viewEngStatus s
  else if r = oPwrStatus then setBit v 13 (decide (fld v 0 3 = 0) && Config.governing s.aon.ft)
  else if r = oReelSts then setFld v 16 14 (oldCtx s)
  else if r = 0x030020 then w64 s.sheet.ways.length
  else if inRow r 0x030200 4 64 then w64 (occupancy s ((r - 0x030200) / 4))
  else if inRow r 0x030100 4 32 then
    setFld (setFld v 8 7 (fusedCount s ((r - 0x030100) / 4))) 16 6 (softCount s ((r - 0x030100) / 4))
  else if r = 0x200024 then w64 (poolGib s)
  else if r = 0x209008 then w64 s.mem.fills.length
  else if r = oRmpSts then
    setFld v 16 11 ((List.range 1024).filter (fun e => bitOf (rd s (oRmp e)) 63)).length
  else
    match chanBlock r with
    | some (m, x) =>
      if x = 0x04 then setBit v 4 ((chanOf s m).recover || bitOf (rd s (chanBase m + 0x30)) 16)
      else if x = 0x14 then viewMcCap s m
      else if x = 0x28 then w64 (chanBaseGib s m)
      else if x = 0x44 then setBit v 0 (bitOf (rd s (oMcStatus m)) 5)
      else v
    | none => v

/-- Every bit of a register that can be read. -/
def readMask (r : Nat) : W64 :=
  match regDesc r with
  | some d => w64 (d.rw ||| d.rwc ||| d.w1c ||| d.w1s ||| d.ro)
  | none => 0

/-- What a 32-bit read of an offset returns. -/
def read32 (s : State) (off : Nat) : W32 :=
  let half := fun (v : W64) (hi : Bool) => if hi then hi32 v else lo32 v
  if 0x400000 ≤ off ∧ off < 0x600000 then
    BitVec.ofNat 32 (reelNat s (decide (0x500000 ≤ off)) (off % 0x100000) 4)
  else if 0x600000 ≤ off ∧ off < 0x640000 then
    BitVec.ofNat 32 ((scratchRead s ((off - 0x600000) / 8)).toNat / 2 ^ (8 * (off % 8)))
  else
    match coverReg off with
    | some (r, hi) => half (if s.cap.parity.contains r then regView s r else regView s r &&& readMask r) hi
    | none =>
      match coverShadow off with
      | some (r, hi) => half (rdShadow s r) hi
      | none => 0

/-- The halves of the mask that a write reaches. -/
def halfMask (hi : Bool) : W64 := if hi then 0xFFFFFFFF00000000#64 else 0xFFFFFFFF#64

/-- Write a register's fields by access type (Table SCOPE-3), within the bits the access reaches. -/
def regWrite (r : Nat) (reach v : W64) (s : State) : State :=
  match regDesc r with
  | none => s
  | some d =>
    let old := rd s r
    let rwm := w64 d.rw &&& reach
    let new := (old &&& ~~~rwm) ||| (v &&& rwm)
    let new := new &&& ~~~(v &&& w64 d.w1c &&& reach)
    wr s r (new ||| (v &&& w64 d.w1s &&& reach))

/-- A CAP write to a register without a command of its own; writing CD_ELOG_CTRL's COUNT clears LOST. -/
def regWriteAll (r : Nat) (reach v : W64) (s : State) : State :=
  let s := regWrite r reach v s
  match chanBlock r with
  | some (_, x) => if x = 0x8400 then wrf s r 8 8 0 else s
  | none => s

/-- Write a register's shadow: only its RWC fields (R7, R22). -/
def shadowStore (r : Nat) (reach v : W64) (s : State) : State :=
  let m := rwcMask r &&& reach
  wrShadow s r ((rdShadow s r &&& ~~~m) ||| (v &&& m))

/-- The value a 32-bit half write carries, in place. -/
def inHalf (hi : Bool) (v : W64) : W64 := if hi then v <<< 32 else v &&& 0xFFFFFFFF#64

/-- A shadow write of 32 bits. -/
def shadow32 (off : Nat) (v : W64) (s : State) : State :=
  match coverShadow off with
  | some (r, hi) => shadowStore r (halfMask hi) (inHalf hi v) s
  | none => s

/-- A shadow write of either width. -/
def shadowWriteAll (off : Nat) (w64 : Bool) (v : W64) (s : State) : State :=
  if w64 then shadow32 (off + 4) (v >>> 32) (shadow32 off v s) else shadow32 off v s

/-- Read either width. -/
def capRead (s : State) (off : Nat) (wide : Bool) : W64 :=
  if wide then w64 ((read32 s off).toNat + 2 ^ 32 * (read32 s (off + 4)).toNat) else w64 (read32 s off).toNat

/-! ### The reel header (R195) -/

/-- Header field at a header offset, little-endian. -/
def hdr (s : State) (slotB : Bool) (off n : Nat) : Nat := reelNat s slotB (0x85000 + off) n

/-- RULES of a slot. -/
def reelRules (s : State) (slotB : Bool) : Nat := hdr s slotB 0x10 4

/-- Does the reel in a slot define a protocol variant? -/
def variantDefined (s : State) (slotB : Bool) (v : Nat) : Bool := decide (hdr s slotB 0x14 1 / 2 ^ v % 2 = 1)

end Sys2Proof.Machine
end

