-- ==== Sys2Proof/Machine/Requests.lean ====
section
/-! DEFINITION. REQs: the port's checks, the window page, Safelight answers, stream order, dispatch, wait chains, stop
baths and DetN (R34 to R41, R53, R82 to R87, R204 to R215, R300, R313, R314, R338, R406, R409). -/

namespace Sys2Proof.Machine

/-- The slots of a REQ message (Table LINE-3). -/
def ReqOp.slots : ReqOp → Nat
  | .wrl => 5
  | .wrp => 6
  | .atc => 2
  | _ => 1

/-- May an agent's class send this opcode (Table LINE-3)? CXL requests come from the port's own mapping. -/
def maySend (s : State) (a : Nat) (op : ReqOp) : Bool :=
  match op with
  | .rds => isCachingZcl s a
  | .rdx => isCachingZcl s a
  | .upg => isCachingZcl s a
  | .detn => isCachingZcl s a
  | .atr => isZcl s a && !isCachingZcl s a
  | .atc => isZcl s a && !isCachingZcl s a
  | _ => isZcl s a

/-- Are SIZE and OFFS as R39 allows (AtR and AtC only)? -/
def fieldsOk (op : ReqOp) (r : Req) : Bool :=
  match op with
  | .atr => decide (r.size.toNat ∈ [0, 1, 2, 4, 8]) && (decide (r.size = 0) || decide (r.offs.toNat % r.size.toNat = 0))
  | .atc => decide (r.size.toNat ∈ [0, 1, 2, 4, 8]) && (decide (r.size = 0) || decide (r.offs.toNat % r.size.toNat = 0))
  | _ => true

/-- Is a REQ one that names no line: a stop bath or a DetN? -/
def ReqOp.noLine : ReqOp → Bool
  | .stbV => true
  | .stbD => true
  | .detn => true
  | _ => false

/-- Is a REQ a stop bath? -/
def ReqOp.bath : ReqOp → Bool
  | .stbV => true
  | .stbD => true
  | _ => false

/-! ### Completions a port sends itself (R207, R313, R338) -/

/-- The completion message of a request without data: CmpB for a stop bath, CmpW for the others (R36, R40). -/
def ReqOp.cplOp (op : ReqOp) : CplOp := if op.bath then .cmpB else .cmpW

/-- A completion without data that carries HTID 0: the REQ holds no latent-table entry. -/
def portComplete (p : Pend) (st : Status) (s : State) : State :=
  sendCpl p.req.agent p.op.cplOp 0 p.req.txid st p.cxl (p.op.isRead && !decide (p.op = .upg)) p.tray p.deadline s

/-- R338: a REQ that has not begun is completed by its port in Safelight state. -/
def safeComplete (p : Pend) (s : State) : State :=
  let s := { s with safe := { s.safe with answered := s.safe.answered + 1 } }
  if p.op.isRead then
    sendDat (chanLane (chanNo s p.line)) p.req.agent .i 0 p.req.txid true .fogged p.deadline 0 p.cxl (decide (p.op = .upg)) s
  else portComplete p .fogged s

/-! ### The in-band window (R313, R314, Table TRAY-3) -/

/-- The counters visible to a tray. -/
def visible (s : State) (t c : Nat) : Bool :=
  let cfg := rd s (oCtrCfg c)
  decide (fld cfg 8 3 = 1) && decide (fld cfg 16 6 = t)

/-- How many counters are visible to a tray. -/
def visibleCount (s : State) (t : Nat) : Nat := ((List.range 256).filter (visible s t)).length

/-- The window of a tray. -/
def windowState (s : State) (t : Nat) : Window := sGet Window.live s.meter.windows t

/-- Word w of a tray's window. -/
def windowWord (s : State) (t w : Nat) : W64 :=
  let win := windowState s t
  if w = 0 then w64 (0x5A57 + 2 ^ 16 + 2 ^ 24 * t)
  else if w = 1 then win.word1
  else if w = 2 then (if win.word1 = 0 then s.aon.ft else win.snapFt)
  else if w = 3 then w64 (visibleCount s t)
  else if 8 ≤ w ∧ w < 264 then
    if visible s t (w - 8) then (if win.word1 = 0 then rd s (oCtrVal (w - 8)) else sGet 0 win.snap (w - 8)) else 0
  else 0

/-- The line of a window that starts at word 8k. -/
def windowLine (s : State) (t k : Nat) : LineBits :=
  lineOf ((List.range 8).flatMap (fun i => bytesOf (windowWord s t (8 * k + i)) 8))

/-- A write that reaches word 1: a non-zero value takes a snapshot, 0 returns to live mode (R314). -/
def windowWrite (t : Nat) (v : W64) (s : State) : State :=
  let snap := if v = 0 then [] else
    (List.range 256).foldl (fun m c => if visible s t c then sPut 0 m c (rd s (oCtrVal c)) else m) []
  let win : Window := { word1 := v, snapFt := if v = 0 then 0 else s.aon.ft, snap := snap }
  updMeter (fun m => { m with windows := sPut Window.live m.windows t win }) s

/-- Serve a request to a window page, by the block itself (R313). A read's REQ stays outstanding until its CMP. -/
def serveWindow (t : Nat) (p : Pend) (s : State) : State :=
  let k := p.line % 64
  match p.op with
  | .rdc =>
    let s := sendDat (chanLane (chanNo s p.line)) p.req.agent .i 0 p.req.txid false .ok p.deadline (windowLine s t k) p.cxl false s
    if p.cxl.isSome then delPend p.seq s
    else modPend p.seq (fun q => { q with place := .window, processed := true }) s
  | .wrl =>
    let s := if k = 0 then windowWrite t (lineWord p.data 8) s else s
    delPend p.seq (portComplete p .ok s)
  | .wrp =>
    if p.bmask = 0 then delPend p.seq (portComplete p .zero s)
    else
      let old := windowLine s t 0
      let s := if k = 0 ∧ fld p.bmask 8 8 ≠ 0 then
          windowWrite t (lineWord (mergeBytes p.bmask old p.data) 8) s
        else s
      delPend p.seq (portComplete p .ok s)
  | _ => delPend p.seq (portComplete p .errAddr (raise0 .winOp s))

/-! ### Dispatch (R27, R53, R85, R116, R119, R150, R156) -/

/-- The writebacks that waited for the handover of a line join the head's transaction (R86); a rule-run one gets
their events. -/
def joinWaiting (c line : Nat) (s : State) : State :=
  (s.home.wslots.filter (fun p => decide (p.2.line = line) && decide (p.2.place = .waiting))).foldl (fun s p =>
    match ctxOf s c with
    | some x => if x.byRule then wbkPost c p.1 p.2 s else modSlot p.1 (fun q => { q with place := .joined c }) s
    | none => s) s

/-- Bind a REQ's context with a code and dispatch it. -/
def beginWith (c : Nat) (p : Pend) (code : Code) (s : State) : State :=
  let s := bindReq c p code (count 0x02 ⟨p.tray, some p.req.agent, none⟩ 1 s)
  go [c] (joinWaiting c p.line (postReq c p s))

/-- The lookup a dispatch makes: R116 for an entry of another tray, AGE to 0, the code of R27. None: the lookup gave no
result, and the block is in Safelight state. -/
def lookupFor (p : Pend) (s : State) : Option Code × State :=
  let t := p.tray.getD 0
  match lookup (p.line / 4) s with
  | (.noResult, s) => (none, s)
  | (.miss, s) => (some (codeOf s p.line (recOf s p.line) p.tray), s)
  | (.hit w _, s) =>
    let s := switchTray (p.line / 4) t s
    let s := touchAge (p.line / 4) w s
    (some (codeOf s p.line (recOf s p.line) p.tray), s)

/-- Begin a REQ's transaction in entry `c` (R53, R150). -/
def dispatchReq (c : Nat) (p : Pend) (s : State) : State :=
  match lookupFor p s with
  | (none, s) => modPend p.seq (fun q => { q with place := .engine }) s
  | (some code, s) => beginWith c p code s

/-- The waiter of a REQ. -/
def waiterOf (p : Pend) : Waiter :=
  { who := .req p.seq, agent := some p.req.agent, stream := p.req.stream, deadline := p.deadline, passed := 0 }

/-- How many stop baths of an agent have begun and have not completed (R212). -/
def bathsWaiting (s : State) (a : Nat) : Nat :=
  (s.home.reqs.filter (fun p => decide (p.req.agent = a) && p.op.bath && !p.processed && (match p.place with
    | .begun _ => true
    | _ => false))).length

/-- Bind the context of a stop bath or a DetN: it makes no line latent and needs no lookup (R212, R406). A DetN's
sweep is the block's own, so its context follows the tables (log entry 5). -/
def beginNoLine (c : Nat) (p : Pend) (ph : Phase) (s : State) : State :=
  let a := p.req.agent
  let t := p.tray.getD 0
  let s := count 0x02 ⟨p.tray, some a, none⟩ 1 s
  let x := { Ctx.blank (.req p.op) with
               agent := some a, txid := p.req.txid, reqOpc := p.op.num, deadline := p.deadline, ed := p.deadline,
               tray := p.tray, variant := trayVariant s t, req := some p, es := BitVec.ofNat 5 a, ex := reqEx p,
               phase := ph }
  let s := modPend p.seq (fun q => { q with place := .begun c }) s
  let s := bindCtx c x s
  if p.op = .detn then modCtx c (fun y => { y with byRule := false }) s
  else
    match ctxOf s c with
    | some y =>
      if y.byRule then postEvent (eventFor y c a p.op.num a (reqEx p)) (modCtx c (fun z => { z with phase := .begin }) s)
      else s
    | none => s

/-- Take a stop bath on from its buffer. -/
def advanceBath (p : Pend) (s : State) : State :=
  let put := fun (q : Place) (s : State) => modPend p.seq (fun r => { r with place := q }) s
  if 4 ≤ bathsWaiting s p.req.agent then put .bath s
  else if !s.dev.running then put .engine s
  else
    match takeEntry s with
    | some (c, s) => beginNoLine c p .bath s
    | none => put .entry s

/-- Take a REQ on from its request buffer: it completes at the port, is served by a window, is held, enters its line's
chain, or begins its transaction (R53, R83, R142, R207, R313, R338). -/
def advance (p : Pend) (s : State) : State :=
  let put := fun (q : Place) (s : State) => modPend p.seq (fun r => { r with place := q }) s
  match p.portCpl with
  | some st => delPend p.seq (portComplete p st s)
  | none =>
    if isSafe s then delPend p.seq (safeComplete p s)
    else if p.op.bath then advanceBath p s
    else if p.op = .detn then put .detn s
    else
      match windowTray s p.line with
      | some t => serveWindow t p s
      | none =>
        if !s.dev.running then put .engine s
        else if bankHeld s (bankOf (p.line / 4)) then put .bank s
        else if (holderOf s p.line).isSome then
          let s := count 0x0D ⟨p.tray, some p.req.agent, none⟩ 1 s
          let s := setChain p.line (chainInsert s (waiterOf p) (chainOf s p.line)) s
          put .chain s
        else
          match takeEntry s with
          | some (c, s) => dispatchReq c p s
          | none => put .entry s

/-- Has a REQ reached its ordering point (R207)? -/
def ordered (p : Pend) : Bool :=
  match p.place with
  | .chain => true
  | .begun _ => true
  | .window => true
  | _ => p.processed

/-- Is a REQ of the same agent and stream, received earlier, still short of its ordering point? -/
def streamHeld (s : State) (p : Pend) : Bool :=
  !p.op.noLine && s.home.reqs.any (fun q => decide (q.req.agent = p.req.agent) && decide (q.req.stream = p.req.stream) &&
    decide (q.seq < p.seq) && !q.op.noLine && !ordered q)

/-- A number in the order of arrival. -/
def nextSeq (s : State) : Nat × State := (s.home.seqNo, updHome (fun h => { h with seqNo := h.seqNo + 1 }) s)

/-- Put a REQ into its request buffer, behind its stream when it must wait (R207). -/
def accept (p : Pend) (s : State) : State :=
  let s := updHome (fun h => { h with reqs := h.reqs ++ [p] }) s
  if streamHeld s p then s else advance p s

/-- The tray that serves an agent at a line: the one that holds it, with the agent as a member (R300, R310). -/
def serveTray (s : State) (a line : Nat) : Option Nat :=
  match trayOf s line with
  | some t => if isMember s t a then some t else none
  | none => none

/-- The outcome of the address check of a port: the pool line and its tray (R300). -/
def portResolve (s : State) (a : Nat) (l : BitVec 46) : Option (Nat × Nat) :=
  match resolve s a l with
  | some line => (serveTray s a line).map (fun t => (line, t))
  | none => none

/-- A REQ in its buffer. -/
def mkPend (seq : Nat) (op : ReqOp) (r : Req) (bmask : BitVec 64) (data : LineBits) (v : W64) (line : Nat)
    (tray : Option Nat) (dl : BitVec 32) (st : Option Status) (form : Option CxlForm) (fog : Bool) : Pend :=
  { seq := seq, op := op, req := r, bmask := bmask, data := data, value := v, line := line, tray := tray,
    deadline := dl, place := .stream, portCpl := st, processed := false, cxl := form, fog := fog, lost := false }

/-- A REQ that names a line reaches its port, with poisoned data or not: the checks of R409 in their order, then its deadline
(R204, R205). -/
def lineReq (op : ReqOp) (r : Req) (bmask : BitVec 64) (data : LineBits) (v : W64) (form : Option CxlForm)
    (fog : Bool) (s : State) : State :=
  let a := r.agent
  if detached s a then raiseAt .detached (a / 2) s
  else if txidBusy s a r.txid then raiseAt .txidDup (a / 2) s
  else
    match nextSeq s with
    | (q, s) =>
      if form.isNone && !maySend s a op then
        accept (mkPend q op r bmask data v 0 none (errDeadline s) (some .errOpc) form fog) (raiseAt .proto (a / 2) s)
      else
        match portResolve s a r.laddr with
        | none =>
          let pt := (resolve s a r.laddr).bind (trayOf s)
          accept (mkPend q op r bmask data v 0 pt (errDeadline s) (some .errAddr) form fog) s
        | some (line, t) =>
          match portDeadline a (some t) r.deadline s with
          | (dl, s) =>
            let st := if fieldsOk op r then none else some Status.errField
            accept (mkPend q op r bmask data v line (some t) dl st form fog) s

/-- A ZCL REQ that names a line. -/
def zclReq (op : ReqOp) (r : Req) (bmask : BitVec 64) (data : LineBits) (v : W64) (s : State) : State :=
  lineReq op r bmask data v none false (creditUsed r.agent false (received r.agent op.slots s))

/-- A stop bath or a DetN reaches its port (R212, R406). -/
def noLineReq (op : ReqOp) (r : Req) (s : State) : State :=
  let a := r.agent
  let s := creditUsed a false (received a 1 s)
  if detached s a then raiseAt .detached (a / 2) s
  else if txidBusy s a r.txid then raiseAt .txidDup (a / 2) s
  else
    match nextSeq s with
    | (q, s) =>
      if !maySend s a op then
        accept (mkPend q op r 0 0 0 0 none (errDeadline s) (some .errOpc) none false) (raiseAt .proto (a / 2) s)
      else
        match portDeadline a (lowestTray s a) r.deadline s with
        | (dl, s) =>
          let st := if (lowestTray s a).isNone then some Status.errAddr else none
          accept (mkPend q op r 0 0 0 0 (lowestTray s a) dl st none false) s

/-! ### Held REQs go on (R53, R142, R207) -/

/-- The oldest REQ of an agent and stream that is held for its stream and may go on. -/
def streamNext (s : State) (a : Nat) (str : BitVec 8) : Option Pend :=
  s.home.reqs.find? (fun p => decide (p.req.agent = a) && decide (p.req.stream = str) && decide (p.place = .stream) &&
    !streamHeld s p)

/-- STREAM_RELEASE (R207). -/
def opStreamRelease (a : Nat) (str : BitVec 8) (s : State) : State :=
  match streamNext s a str with
  | some p => advance p s
  | none => s

/-- Is a REQ held for an entry, its bank, or the start of dispatch? -/
def heldAtHome (p : Pend) : Bool :=
  decide (p.place = .entry) || decide (p.place = .bank) || decide (p.place = .engine) || decide (p.place = .bath)

/-- REQ_TAKE_ENTRY: a held REQ tries again; what holds it may hold still (R53, R142). -/
def opReqTakeEntry (a : Nat) (t : BitVec 12) (s : State) : State :=
  match s.home.reqs.find? (fun p => decide (p.req.agent = a) && decide (p.req.txid = t) && heldAtHome p) with
  | some p => advance p s
  | none => s

/-! ### The head of a wait chain (R85 to R87, R116) -/

/-- Has a commit taken a waiter's address away from the places it resolved (R87)? -/
def waiterLost (s : State) (p : Pend) : Bool :=
  (holdingWindow s p.req.agent p.line).isNone || decide (trayOf s p.line ≠ p.tray) ||
  (match p.tray with
   | some t => !isMember s t p.req.agent
   | none => true)

/-- A commit marks the waiters whose places it has taken away; no later commit gives them back (R87). -/
def markLost (s : State) : State :=
  updHome (fun h => { h with reqs := h.reqs.map (fun p =>
    if p.place = .chain ∧ waiterLost s p then { p with lost := true } else p) }) s

/-- The REQ at the head of a chain takes its entry and is dispatched in the recorded state; with a lookup when its tray
is not the entry's (R85, R116), and completed with ERR_ADDR when R87 applies. A sector without an entry has the code that R27
gives it now. -/
def headReq (line c : Nat) (code : Code) (p : Pend) (s : State) : State :=
  if p.lost then
    let s := setHolder line (.ctx c) s
    let x := { Ctx.blank (.req p.op) with
                 agent := some p.req.agent, txid := p.req.txid, deadline := p.deadline, tray := none,
                 req := some p, line := some line }
    let s := modPend p.seq (fun q => { q with place := .begun c }) s
    let s := bindCtx c x s
    let s := joinWaiting c line (modCtx c (fun y => { y with byRule := false }) s)
    let s := sendCpl p.req.agent .cmpW c p.req.txid .errAddr p.cxl (p.op.isRead && !decide (p.op = .upg)) p.tray p.deadline s
    match retireCore c s with
    | (t, s) => go t s
  else
    match findEntry s (line / 4) with
    | some (_, e) =>
      if some e.tray = p.tray then beginWith c p code s
      else dispatchReq c p s
    | none => beginWith c p (codeOf s line (recOf s line) p.tray) s

/-- Lend a latent-table entry to a context for a further line (R184): the entry's own context is bound and runs
nothing. -/
def lendEntry (e c line : Nat) (s : State) : State :=
  match ctxOf s c with
  | some x =>
    let y := { Ctx.blank .back with tray := x.tray, line := some line, lines := [], variant := x.variant }
    let s := bindCtx e y s
    setHolder line (.ctx c) (modCtx c (fun z => { z with lines := z.lines ++ [line] }) s)
  | none => s

/-- The head of a line's chain, a context queued by LTW: the block makes the line latent for it and dispatches its
current event again with its code derived afresh (R184). SV, SO and SS stay as they are until an SLK or SUP (R156). -/
def headCtx (line e c : Nat) (s : State) : State :=
  match ctxOf s c with
  | some x =>
    let code := codeNow s line
    let s := modCtx c (fun y => { y with code := code.num }) (lendEntry e c line s)
    postEvent { ts := x.ts, ctx := c, typ := BitVec.ofNat 6 (fld x.ex 0 6), ea := x.ea, es := x.es,
                ed := x.ed, ex := x.ex, code := none } s
  | none =>
    match releaseLine line (some e) s with
    | (t, s) => go t s

/-- Begin the management request in entry `c` (R150, R151): its event goes to TS43 and its handler is the reel's. -/
def beginMgmt (c : Nat) (line : Option Nat) (dl : BitVec 32) (s : State) : State :=
  let ctrl := rd s 0x020208
  let x := { Ctx.blank (.mgmt line.isSome) with
               deadline := dl, ed := dl, tray := line.bind (trayOf s), line := line,
               variant := BitVec.ofNat 3 (fld ctrl 16 3), ea := w64 (64 * line.getD 0),
               ex := w64 (0x3D + 2 ^ 6 * fld ctrl 0 16) }
  let bound := fun (x : Ctx) (s : State) =>
    let s := modCtx c (fun y => { y with byRule := true }) (bindCtx c x s)
    postEvent { eventFor x c 43 0x3D#6 0 x.ex with ed := dl } s
  match line with
  | none => bound x s
  | some l =>
    match lookup (l / 4) s with
    | (.noResult, s) => s
    | (_, s) =>
      let s := setHolder l (.ctx c) s
      let x := loadSheet l s { x with code := (codeOf s l (recOf s l) x.tray).num }
      joinWaiting c l (bound x s)

/-- Dispatch a waiter at the head of its chain in entry `e`. -/
def headGo (line e : Nat) (code : Code) (w : Waiter) (ws : List Waiter) (s : State) : State :=
  let s := setHolder line (.handover none code) (setChain line ws s)
  match w.who with
  | .ctx c => headCtx line e c s
  | .mreq => beginMgmt e (some line) w.deadline s
  | .req q =>
    (match pendOf s q with
     | some p =>
       let s' := headReq line e code p s
       if throughHeld s p then throughRetry p.req.agent s' else s'
     | none => s)

/-- CHAIN_HEAD_DISPATCH: after a RETIRE the head of the chain is dispatched. Without a free entry the head keeps its
place and the line stays latent (R86). -/
def opChainHead (line : Nat) (s : State) : State :=
  if isSafe s || !s.dev.running then s
  else
    match holderOf s line, chainOf s line with
    | some (.handover (some e) code), w :: ws => headGo line e code w ws s
    | some (.handover none code), w :: ws =>
      (match takeEntry s with
       | some (e, s) => headGo line e code w ws s
       | none => s)
    | some (.handover e _), [] =>
      (match releaseLine line e s with
       | (t, s) => go t s)
    | _, _ => s

/-! ### Meanings -/

/-- RDS (R60). -/
def execRds (r : Req) (s : State) : Out := onUnit (okAgent r.agent) (heard (zclReq .rds r 0 0 0)) s

/-- RDX (R60). -/
def execRdx (r : Req) (s : State) : Out := onUnit (okAgent r.agent) (heard (zclReq .rdx r 0 0 0)) s

/-- UPG (R62). -/
def execUpg (r : Req) (s : State) : Out := onUnit (okAgent r.agent) (heard (zclReq .upg r 0 0 0)) s

/-- RDC (R60). -/
def execRdc (r : Req) (s : State) : Out := onUnit (okAgent r.agent) (heard (zclReq .rdc r 0 0 0)) s

/-- ATR (R76). -/
def execAtr (r : Req) (s : State) : Out := onUnit (okAgent r.agent) (heard (zclReq .atr r 0 0 0)) s

/-- FLUSH (R68). -/
def execFlush (r : Req) (s : State) : Out := onUnit (okAgent r.agent) (heard (zclReq .flush r 0 0 0)) s

/-- WRL (R68). -/
def execWrl (r : Req) (data : LineBits) (s : State) : Out :=
  onUnit (okAgent r.agent) (heard (zclReq .wrl r 0 data 0)) s

/-- WRP (R69). -/
def execWrp (r : Req) (bmask : BitVec 64) (data : LineBits) (s : State) : Out :=
  onUnit (okAgent r.agent) (heard (zclReq .wrp r bmask data 0)) s

/-- ATC (R77). -/
def execAtc (r : Req) (value : W64) (s : State) : Out := onUnit (okAgent r.agent) (heard (zclReq .atc r 0 0 value)) s

/-- STB_V (R212, R213). -/
def execStbV (r : Req) (s : State) : Out := onUnit (okAgent r.agent) (heard (noLineReq .stbV r)) s

/-- STB_D (R212, R214). -/
def execStbD (r : Req) (s : State) : Out := onUnit (okAgent r.agent) (heard (noLineReq .stbD r)) s

/-- DETN (R406). -/
def execDetn (r : Req) (s : State) : Out := onUnit (okAgent r.agent) (heard (noLineReq .detn r)) s

/-- STREAM_RELEASE (R207). -/
def execStreamRelease (agent : Nat) (stream : BitVec 8) (s : State) : Out :=
  onUnit (okAgent agent) (live (opStreamRelease agent stream)) s

/-- REQ_TAKE_ENTRY (R53). -/
def execReqTakeEntry (agent : Nat) (txid : BitVec 12) (s : State) : Out :=
  onUnit (okAgent agent) (live (opReqTakeEntry agent txid)) s

/-- CHAIN_HEAD_DISPATCH (R85). -/
def execChainHeadDispatch (line : Nat) (s : State) : Out := onUnit (okLine line) (live (opChainHead line)) s

end Sys2Proof.Machine
end

