-- ==== Sys2Proof/Machine/Detach.lean ====
section
/-! DEFINITION. Agents that detach, wholly or from one tray, and the DetN that announces it (R79, R91 to R96, R299,
R406). -/

namespace Sys2Proof.Machine

/-- Does a context's work lie in the scope of a detach: everything, or one tray's lines? -/
def inScope (tray : Option Nat) (x : Ctx) : Bool :=
  match tray with
  | none => true
  | some t => decide (x.tray = some t) && x.line.isSome

/-- Is an owed item owed by an agent? -/
def owedBy (a : Nat) (o : Owed) : Bool :=
  match o with
  | .ans b .. => decide (b = a)
  | .wbk b _ => decide (b = a)
  | .dath b => decide (b = a)
  | .fwd b => decide (b = a)
  | _ => false

/-- The synthetic RspI of R92 for one context: what the agent owes is taken as answered, and Table RACE-6 applies to
its records of the line. A rule-run context gets the RspI as an event, and its rules apply the table (Table RACE-7). -/
def synthetic (a c : Nat) (vol : Bool) (s : State) : List Nat × State :=
  match ctxOf s c with
  | none => ([], s)
  | some x =>
    let late := x.st = .quarantined
    let mine := x.owed.any (owedBy a) || (late && x.owed.contains .cmp && decide (x.agent = some a))
    if !mine then ([], s)
    else
      let keep := x.byRule && !late
      let owed := x.owed.filter (fun o => (!owedBy a o || (keep && isAns a o)) &&
        !(late && decide (o = .cmp) && decide (x.agent = some a)))
      let s := setCtx c { x with owed := owed } s
      if late then ([], releaseQuarantine c s)
      else if x.expired then ([c], s)
      else if x.byRule then ([], postEvent (eventFor x c a 0x20#6 a 0x20) s)
      else ([c], race6 (x.line.getD 0) a vol (some c) s)

/-- Was a context bound for a REQ other than a DetN? -/
def CtxKind.isReq : CtxKind → Bool
  | .req .detn => false
  | .req _ => true
  | _ => false

/-- R92 for the agent's own transactions: as if the CMP had arrived. -/
def cmpAsIf (a : Nat) (tray : Option Nat) (p : Nat × Ctx) (s : State) : List Nat × State :=
  if decide (p.2.agent = some a) && inScope tray p.2 && p.2.kind.isReq && decide (p.2.st ≠ .quarantined) then
    if p.2.byRule then ([], postEvent (eventFor p.2 p.1 a 0x2A#6 a 0x2A) s)
    else ([p.1], modCtx p.1 (fun x => { x with cmpIn := true }) s)
  else ([], s)

/-- The transactions a detach reaches: answers that fail to come, and the agent's own (R92). -/
def detachTxns (a : Nat) (tray : Option Nat) (vol : Bool) (s : State) : State :=
  let r := s.dev.ctxs.foldl (fun (acc : List Nat × State) p =>
    if inScope tray p.2 then
      match synthetic a p.1 vol acc.2 with
      | (l, s) => (acc.1 ++ l, s)
    else acc) ([], s)
  let r := r.2.dev.ctxs.foldl (fun (acc : List Nat × State) p =>
    match cmpAsIf a tray p acc.2 with
    | (l, s) => (acc.1 ++ l, s)) (r.1, r.2)
  go r.1 r.2

/-- Remove an agent's waiters and held REQs and discard them. -/
def dropPends (a : Nat) (s : State) : State :=
  let keep := fun (p : Pend) => decide (p.req.agent ≠ a) || (match p.place with
    | .begun _ => true
    | _ => false)
  updHome (fun h => { h with
    reqs := h.reqs.filter keep
    chains := (h.chains.map (fun q => (q.1, q.2.filter (fun w => !(decide (w.agent = some a) && (match w.who with
      | .req _ => true
      | _ => false)))))).filter (fun q => !q.2.isEmpty) }) s

/-- A line handed over to a chain that has become empty is not latent any more. -/
def dropEmptyHandovers (s : State) : State :=
  s.home.latent.foldl (fun s p =>
    match p.2 with
    | .handover e _ => if (chainOf s p.1).isEmpty then
        (match releaseLine p.1 e s with
         | (t, s) => go t s)
      else s
    | _ => s) s

/-- The DETACH event of a sweep: whether the agent left by itself, and the agent (Table DEV-6). -/
def SweepKind.detachEx : SweepKind → Option W64
  | .detach a vol _ => some (w64 (0x3F + 2 ^ 6 * b2n vol + 2 ^ 7 * a))
  | .tray a _ => some (w64 (0x3F + 2 ^ 7 * a))
  | _ => none

/-- Bind a context of background work on TS42 and post its event (R145, R151, R156). None: no entry is free. -/
def postWork (k : CtxKind) (tray : Option Nat) (typ : BitVec 6) (line : Nat) (ex : W64) (s : State) : Option State :=
  (takeEntry s).map (fun (c, s) =>
    let dl := BitVec.ofNat 32 (nowNs s)
    let x := { Ctx.blank k with
                 tray := tray, variant := trayVariant s (tray.getD 0), deadline := dl, ed := dl, ea := w64 (64 * line), ex := ex }
    let x := if tray.isSome then loadSheet line s x else x
    let s := modCtx c (fun y => { y with byRule := true }) (bindCtx c x s)
    postEvent { ts := 42, ctx := c, typ := typ, ea := w64 (64 * line), es := 0, ed := dl, ex := ex, code := none } s)

/-- Post the DETACH event of a sweep that has one to post, where the reel runs its rules (Table DEV-2). -/
def postDetach (w : Sweep) (s : State) : Bool × State :=
  match w.kind.detachEx with
  | some ex =>
    if w.posted || !s.dev.byRule then (true, s)
    else if !s.dev.running then (false, s)
    else
      (match postWork .detach none 0x3F#6 0 ex s with
       | some s => (true, s)
       | none => (false, s))
  | none => (true, s)

/-- Start a sweep on TS42 at set 0 (R94, R141, R300). -/
def startSweep (k : SweepKind) (s : State) : State :=
  let w : Sweep := { kind := k, next := 0, fogged := false, posted := false, raised := false }
  match postDetach w s with
  | (ok, s) => updSheet (fun x => { x with sweeps := x.sweeps ++ [{ w with posted := ok }] }) s

/-- An agent detaches (R91, R92): its waiters and reservations go, its snoops are answered, its transactions go on as
if its CMP had arrived, and its sweep starts. An involuntary detach advances the attach epoch (R96). -/
def detachAgent (a : Nat) (vol : Bool) (detn : Option Nat) (s : State) : State :=
  let s := setLink a (fun l =>
    let l := { l with attached := false, vol := vol }
    if vol then l else { l with epoch := l.epoch + 1, adv := l.adv + 1, advCur := l.advCur + 1 }) s
  let s := dropPends a s
  let s := clearResvIf (fun q => decide (q.agent = a)) s
  let s := startSweep (.detach a vol detn) s
  dropEmptyHandovers (detachTxns a none vol s)

/-- A detach that finds the agent not attached does nothing (R299). -/
def detachIfAttached (a : Nat) (s : State) : State :=
  if detached s a then s else detachAgent a false none s

/-- A commit has removed an agent from a tray: an involuntary detach from that tray only (R91, R92, R410). Its waiters
there stay, and complete with ERR_ADDR in their turn (R87). -/
def detachFromTray (a t : Nat) (s : State) : State :=
  let s := clearResvIf (fun q => decide (q.agent = a) && decide (q.tray = t)) s
  let s := startSweep (.tray a t) s
  detachTxns a (some t) false s

/-- May an agent's oldest DetN be dispatched: every REQ it sent before has been processed, and every WBK has its CmpWb
(R406)? -/
def detnReady (s : State) (a : Nat) (p : Pend) : Bool :=
  !s.home.reqs.any (fun q => decide (q.req.agent = a) && decide (q.seq < p.seq) && !q.processed) &&
  !s.home.wslots.any (fun q => decide (q.2.agent = a) && decide (q.2.seq < p.seq) && !q.2.acked)

/-- DETN_DISPATCH (R95, R406): the DetN binds an entry as its context and the agent detaches voluntarily. -/
def opDetnDispatch (a : Nat) (s : State) : State :=
  match s.home.reqs.find? (fun p => decide (p.req.agent = a) && decide (p.place = .detn)) with
  | some p =>
    if isSafe s || !s.dev.running || !detnReady s a p then s
    else
      match takeEntry s with
      | some (c, s) => detachAgent a true (some c) (beginNoLine c p .detach s)
      | none => s
  | none => s

/-! ### Meanings -/

/-- DETN_DISPATCH (R406). -/
def execDetnDispatch (agent : Nat) (s : State) : Out := onUnit (okAgent agent) (live (opDetnDispatch agent)) s

end Sys2Proof.Machine
end

