-- ==== Sys2Proof/Machine/Commit.lean ====
section
/-! DEFINITION. The configuration commit: the values it would make active, every check stated for them, and what
follows when they become active (R8 to R15, R22 to R25, R52, R79, R91, R122, R131, R163, R210, R230, R237, R247, R271,
R300, R301, R311, R314, R315, R317, R321, R379, R404, R410). -/

namespace Sys2Proof.Machine

/-! ### The configuration a commit would make active -/

/-- Registers with RWC fields of which the active value or the shadow is not at reset. -/
def rwcKeys (s : State) : List Nat :=
  ((s.shadow.map (·.1)) ++ (s.regs.map (·.1))).dedup.filter (fun r => decide (rwcMask r ≠ 0))

/-- Make one register's shadow active. -/
def takeShadow (s : State) (r : Nat) : State := wr s r ((rd s r &&& ~~~rwcMask r) ||| rdShadow s r)

/-- The state with every shadow active (R9). -/
def candidate (s : State) : State := (rwcKeys s).foldl takeShadow s

/-- Registers the commit changes. -/
def changedRegs (s t : State) : List Nat := (rwcKeys s).filter (fun r => decide (rd s r ≠ rd t r))

/-- A failing check: its offset under R404 and its code (R24). -/
abbrev Fail := Nat × Nat

/-- FAIL_CODE RANGE. -/
def failRange : Nat := 1
/-- FAIL_CODE OVERLAP. -/
def failOverlap : Nat := 2
/-- FAIL_CODE G5_EXCL. -/
def failG5 : Nat := 3
/-- FAIL_CODE CONSIST. -/
def failConsist : Nat := 4
/-- FAIL_CODE SAFELIGHT. -/
def failSafe : Nat := 5

/-- One failure where a condition holds. -/
def failIf (c : Bool) (off code : Nat) : List Fail := if c then [(off, code)] else []

/-! ### Ranges (R12) -/

/-- Is a number outside a range? -/
def outside (x lo hi : Nat) : Bool := decide (x < lo) || decide (hi < x)

/-- Is an integer outside a range? -/
def outsideInt (x lo hi : Int) : Bool := decide (x < lo) || decide (hi < x)

/-- Does an event code exist (Table TRAY-4)? -/
def eventKnown (e : Nat) : Bool :=
  decide (e ≤ 0x0E) || decide (e = 0x10) || decide (e = 0x11) || decide (e = 0x12) || decide (e = 0x18) ||
  decide (e = 0x19) || decide (e = 0x1A) || decide (e = 0x30)

/-- A timing register with a field that holds 0 (R237). -/
def timingZero (x : Nat) (v : W64) : Bool :=
  if x = 0x1010 then decide (fld v 0 12 = 0) || decide (fld v 16 12 = 0)
  else if x = 0x1014 then decide (fld v 0 8 = 0) || decide (fld v 8 8 = 0)
  else decide (fld v 0 8 = 0) || decide (fld v 8 8 = 0) || decide (fld v 16 8 = 0) || decide (fld v 24 8 = 0)

/-- Is an offset within a channel block a timing register (Table MEM-6)? -/
def isTiming (x : Nat) : Bool := inRow x 0x1000 4 6

/-- A channel register's value outside its stated range. -/
def rangeBadChan (x : Nat) (v : W64) : Bool :=
  if x = 0x10 then decide (5 < fld v 1 3)
  else if x = 0x30 then decide (fld v 8 8 = 255) || decide (fld v 0 8 = 0)
  else if x = 0x40 then outside (fld v 16 16) 100 65535 || outside (fld v 0 13) 1000 3900
  else if x = 0x50 then outside (fld v 0 8) 1 200
  else if x = 0x70 then outside (fld v 0 10) 16 1023
  else if isTiming x then timingZero x v
  else if x = 0x8000 then decide (fld v 0 16 = 0)
  else false

/-- A port register's value outside its stated range. -/
def rangeBadPort (x : Nat) (v : W64) : Bool :=
  if x = 0x14 then decide (fld v 16 16 = 0) || decide (fld v 0 16 = 0)
  else if x = 0x18 then decide (fld v 16 4 = 0) || outside (fld v 0 16) 16 65535
  else if inRow x 0x208 16 16 then decide (2 ^ 22 < fld v 0 23)
  else false

/-- A register's value outside its stated range. -/
def rangeBad (r : Nat) (v : W64) : Bool :=
  if 0x100000 ≤ r ∧ r < 0x200000 then rangeBadPort (r % 0x10000) v
  else if 0x200000 ≤ r ∧ r < 0x280000 then rangeBadChan (r % 0x10000) v
  else if 0x300000 ≤ r ∧ r < 0x340000 then
    (inRow (r % 0x1000) 4 8 16 && decide (4194303 < fld v 0 23)) ||
    (decide (r % 0x1000 = 0x84) && decide (4194304 < fld v 0 23))
  else if inRow r 0x341000 4 256 then
    decide (fld v 24 2 = 3) || decide (4 < fld v 8 3) || !eventKnown (fld v 0 8)
  else if r = 0x342000 then outside (fld v 0 20) 1 1000000
  else if r = 0x030010 then outside (fld v 0 17) 32 65536
  else if r = 0x020018 then decide (fld v 0 16 = 0)
  else if r = 0x02001C then outside (fld v 0 20) 1 1000000
  else if r = 0x020020 ∨ r = 0x020028 then decide (fld v 0 2 = 3)
  else if r = oFtTrim then outsideInt (signedOf (fld v 0 16) 16) (-10000) 10000
  else if r = 0x010030 ∨ r = 0x010034 then outside (fld v 0 20) 1 1000000
  else if r = 0x208 then outside (fld v 0 20) 1 1000000
  else if r = 0x20C ∨ r = 0x214 then decide (fld v 0 6 = 0)
  else if r = 0x210 then outsideInt (signedOf (fld v 0 16) 16) (-320) 880
  else false

/-- Every range failure. -/
def checkRanges (s t : State) : List Fail :=
  (rwcKeys s).flatMap (fun r => failIf (rangeBad r (rd t r)) r failRange)

/-! ### Structures placed on the pool -/

/-- Regions of the installed pool. -/
def poolRegions (s : State) : Nat := poolGib s * 1024

/-- A POOL backing region: its region number. -/
def backingRegion (s : State) (slotB : Bool) : Option Nat :=
  let v := rd s (if slotB then 0x020028 else 0x020020)
  if fld v 0 2 = 1 then some (fld v 20 22) else none

/-- The spare range: first region and count. -/
def spareRange (s : State) : Option (Nat × Nat) :=
  let v := rd s 0x209010
  if fld v 22 8 = 0 then none else some (fld v 0 22, fld v 22 8)

/-- The Light Meter ring: first byte and length, where one is written. -/
def lmRing (s : State) : Option (Nat × Nat) :=
  let n := rdf s 0x342104 0 16
  if bitOf (rd s 0x342100) 0 && decide (n ≠ 0) then some (rdf s 0x342108 0 31 * 2048, n * 2048) else none

/-- Do two intervals [a, a + n) and [b, b + m) meet? -/
def meets (a n b m : Nat) : Bool := decide (a < b + m) && decide (b < a + n)

/-- The offset of TR_RBASE of a tray's range. -/
def oRbase (t r : Nat) : Nat := trayBase t + 8 * r

/-! ### Trays (R52, R122, R131, R311, R410) -/

/-- Trays of which a register is not at reset. -/
def traysUsed (s : State) : List Nat :=
  (s.regs.filterMap (fun p => if 0x300000 ≤ p.1 ∧ p.1 < 0x340000 then some ((p.1 - 0x300000) / 0x1000) else none)).dedup

/-- The valid ranges. -/
def checkRangesOfTrays (t : State) : List Fail :=
  let l := trayRanges t
  l.flatMap (fun p =>
    let (n, r, b, lim) := p
    failIf (decide (lim < b) || decide (poolRegions t ≤ lim)) (oRbase n r + 4) failConsist ++
    l.flatMap (fun q =>
      let (n', r', b', lim') := q
      failIf (decide (oRbase n r < oRbase n' r') && decide (b ≤ lim) && decide (b' ≤ lim') &&
        decide (b ≤ lim') && decide (b' ≤ lim)) (oRbase n r) failOverlap))

/-- Is an agent a caching member of any kind (R52)? -/
def anyCaching (s : State) (a : Nat) : Bool := isCaching s a || isG5 s a

/-- The membership checks of one tray. -/
def checkMembers (s t : State) (n : Nat) : List Fail :=
  let ms := membersOf t n
  let g5 := ms.filter (fun a => isG5 t a)
  let others := ms.filter (fun a => isCaching t a)
  let back := ms.any (fun a => !isMember s n a && s.cap.removals.any (fun q => decide (q.tray = n) && decide (q.agent = a) && !q.over))
  failIf (ms.any (fun a => !agentExists t a) || back) (oMemb n) failConsist ++
  failIf (!g5.isEmpty && (decide (1 < g5.length) || !others.isEmpty)) (oMemb n) failG5 ++
  failIf (decide (trayQuota t n = 0) && !others.isEmpty) (trayBase n + 0x84) failConsist ++
  failIf (!ms.isEmpty && reelAny t && !variantDefined t (activeReel t) (rdf t (oTrCfg n) 4 3)) (oTrCfg n) failConsist

/-- The window page of a tray. -/
def checkWindow (t : State) (n : Nat) : List Fail :=
  let v := rd t (trayBase n + 0x90)
  let page := fld v 0 30
  let inside := (trayRanges t).any (fun p => decide (p.1 = n) && decide (p.2.2.1 ≤ page / 256) &&
    decide (page / 256 ≤ p.2.2.2))
  let shared := (traysUsed t).any (fun m =>
    let w := rd t (trayBase m + 0x90)
    decide (m ≠ n) && bitOf w 31 && decide (fld w 0 30 = page))
  failIf (bitOf v 31 && (!inside || shared)) (trayBase n + 0x90) failConsist

/-- Regions that are not blank: written or developing. -/
def notBlank (s : State) : List Nat := s.mem.written ++ s.mem.fills.map (fun p => p.2.region)

/-- R131: a region that is not blank newly under RECALL. It is reported at the lowest register of the range, or at
TR_CFG, that the commit changes (log entry 15). -/
def checkRecall (s t : State) : List Fail :=
  (trayRanges t).flatMap (fun p =>
    let (n, r, b, lim) := p
    let moved := (notBlank s).any (fun g => decide (b ≤ g) && decide (g ≤ lim) &&
      (match trayOfRegion s g with
       | some m => traySpill s m
       | none => true))
    let at' := [oRbase n r, oRbase n r + 4].find? (fun o => decide (rd s o ≠ rd t o))
    failIf (!traySpill t n && moved) (at'.getD (oTrCfg n)) failConsist)

/-! ### The engine's backing, the spare range, the Light Meter (R163, R230, R271, R321) -/

/-- May a slot's backing not change: VERIFYING, READY, ACTIVE or DRAINING? -/
def backingFixed (s : State) (slotB : Bool) : Bool :=
  decide (2 ≤ reelState s slotB) && decide (reelState s slotB ≤ 5)

/-- One slot's backing region. -/
def checkBacking (s t : State) (slotB : Bool) : List Fail :=
  let o := if slotB then 0x020028 else 0x020020
  failIf (backingFixed s slotB && decide (rd s o ≠ rd t o)) o failConsist ++
  (match backingRegion t slotB with
   | some g =>
     failIf (decide (poolRegions t ≤ g)) o failConsist ++
     failIf ((trayOfRegion t g).isSome) o failConsist ++
     failIf (decide (backingRegion t (!slotB) = some g)) 0x020020 failConsist ++
     (match spareRange t with
      | some (b, n) => failIf (decide (b ≤ g) && decide (g < b + n)) o failConsist
      | none => [])
   | none => [])

/-- Is a remap entry valid? -/
def remapAny (s : State) : Bool :=
  s.regs.any (fun p => decide (0x20A000 ≤ p.1) && decide (p.1 < 0x20E000) && bitOf p.2 63)

/-- The spare range. -/
def checkSpare (s t : State) : List Fail :=
  failIf (remapAny s && decide (rd s 0x209010 ≠ rd t 0x209010)) 0x209010 failConsist ++
  (match spareRange t with
   | some (b, n) =>
     failIf (decide (poolRegions t < b + n) ||
       (trayRanges t).any (fun p => decide (p.2.2.1 < b + n) && decide (b ≤ p.2.2.2))) 0x209010 failConsist
   | none => [])

/-- The Light Meter's ring (R321). The check bounds where the ring lies, so it is reported at LM_BASE (R404). DEDUCED,
log entry 48. -/
def checkLm (t : State) : List Fail :=
  match lmRing t with
  | none => []
  | some (a, n) =>
    let hit := (trayRanges t).find? (fun p => decide (p.2.2.1 * 2 ^ 20 ≤ a) && decide (a + n ≤ (p.2.2.2 + 1) * 2 ^ 20))
    let bad := match hit with
      | none => true
      | some p => (membersOf t p.1).any (fun b => anyCaching t b)
    let page := (traysUsed t).any (fun m =>
      let w := rd t (trayBase m + 0x90)
      bitOf w 31 && meets a n (fld w 0 30 * 4096) 4096)
    failIf (bad || page) 0x342108 failConsist

/-! ### Memory channels (R230, R235, R237, R247, R379) -/

/-- An interleaved map without eight present channels of equal geometry. -/
def checkMap (t : State) : List Fail :=
  let any := (List.range 8).any (fun m => chanPresent t m)
  let good := (List.range 8).all (fun m => chanPresent t m && decide (rd t (oMcCfg m) = rd t (oMcCfg 0)))
  failIf (decide (mapMode t ≠ 2) && any && !good) oMcMap failConsist

/-- Changes that a channel's state does not allow. -/
def checkChan (s t : State) (m : Nat) : List Fail :=
  let st := chanState s m
  failIf (decide (rd s (oMcCfg m) ≠ rd t (oMcCfg m)) && decide (st ≠ 0)) (oMcCfg m) failConsist ++
  (List.range 6).flatMap (fun k =>
    let o := chanBase m + 0x1000 + 4 * k
    failIf (decide (rd s o ≠ rd t o) && decide (st ≠ 0) && decide (st ≠ 2)) o failConsist) ++
  failIf (decide (rdf t (chanBase m + 0x30) 0 8 ≤ rdf t (chanBase m + 0x30) 8 8)) (chanBase m + 0x30) failConsist

/-- MC_PASR.KEEP of a channel. -/
def keepOf (s : State) (m : Nat) : Nat := rdf s (chanBase m + 0x60) 0 8

/-- The KEEP fields under an interleaved map: reported at the lowest channel that differs from M0. -/
def checkKeep (t : State) : List Fail :=
  if mapMode t = 2 then []
  else match (List.range 8).find? (fun m => decide (keepOf t m ≠ keepOf t 0)) with
    | some m => [(chanBase m + 0x60, failConsist)]
    | none => []

/-- Do the regions [b, b + n) have a line on channel m? -/
def onChan (s : State) (m b n : Nat) : Bool :=
  if mapMode s = 2 then meets (b * 2 ^ 20) (n * 2 ^ 20) (chanBaseGib s m * 2 ^ 30) (chanGib s m * 2 ^ 30)
  else decide (n ≠ 0)

/-- A structure of R379: the registers that place it, in rising order of their offsets, its first region and how many
regions it meets. -/
abbrev Placed := List Nat × Nat × Nat

/-- The structures of R379: tray ranges, POOL backing, spare range, Light Meter ring. -/
def placements (t : State) : List Placed :=
  (trayRanges t).map (fun p => ([oRbase p.1 p.2.1, oRbase p.1 p.2.1 + 4], p.2.2.1, p.2.2.2 + 1 - p.2.2.1)) ++
  ((backingRegion t false).toList.map (fun g => ([0x020020], g, 1))) ++
  ((backingRegion t true).toList.map (fun g => ([0x020028], g, 1))) ++
  ((spareRange t).toList.map (fun p => ([0x209010], p.1, p.2))) ++
  ((lmRing t).toList.map (fun p =>
    ([0x342100, 0x342104, 0x342108], p.1 / 2 ^ 20, (p.1 + p.2 + 2 ^ 20 - 1) / 2 ^ 20 - p.1 / 2 ^ 20)))

/-- Does any structure of R379 lie on a channel? -/
def usedChan (t : State) (m : Nat) : Bool := (placements t).any (fun p => onChan t m p.2.1 p.2.2)

/-- Where a check against a change is reported: the lowest of the placing registers that the commit changes (R404). -/
def changedAt (s t : State) (l : List Nat) : Nat :=
  match l.find? (fun o => decide (rd s o ≠ rd t o)) with
  | some o => o
  | none => l.headD 0

/-- SVC_ISL_STS.CHOFF of a channel. -/
def chanOff (s : State) (m : Nat) : Bool := bitOf (rd s oIslSts) (16 + m)

/-- A commit places a structure on a channel whose island is off. It is a check against a change: it is reported at the
register whose change it refuses (R404). -/
def checkIslands (s t : State) : List Fail :=
  (placements t).flatMap (fun p =>
    failIf (!(placements s).contains p && (List.range 8).any (fun m => chanOff s m && onChan t m p.2.1 p.2.2))
      (changedAt s t p.1) failConsist)

/-! ### Ports (R301) -/

/-- Does a sub-port's configuration take part: sub-port 0, or sub-port 1 of a split port? -/
def subLive (t : State) (a : Nat) : Bool := agentExists t a

/-- The offset of PT_MAP_P of a window. -/
def oMapP (a w : Nat) : Nat := portBase (a / 2) + 0x200 + 0x80 * (a % 2) + 0x10 * w

/-- The windows of one agent. -/
def checkWindows (t : State) (a : Nat) : List Fail :=
  if !subLive t a then []
  else (List.range 8).flatMap (fun w =>
    match windowOf t a w with
    | (v, pb, ab, sz) =>
      if !v then []
      else
        failIf (decide (sz ≠ 0) && decide (poolRegions t < pb + sz)) (oMapP a w) failConsist ++
        (if isZcl t a then [] else
          failIf (decide (pb % 256 ≠ 0)) (oMapP a w) failConsist ++
          failIf (decide (ab % 256 ≠ 0)) (oMapP a w + 4) failConsist ++
          failIf (decide (sz % 256 ≠ 0)) (oMapP a w + 8) failConsist) ++
        (List.range 8).flatMap (fun w' =>
          match windowOf t a w' with
          | (v', pb', ab', sz') =>
            failIf (decide (w < w') && v' && decide (sz ≠ 0) && decide (sz' ≠ 0) &&
              (meets pb sz pb' sz' || meets ab sz ab' sz')) (oMapP a w) failConsist))

/-- May a port's MODE or SPLIT change: both links DISABLED or RETIRED? -/
def portIdle (s : State) (n : Nat) : Bool :=
  (List.range 2).all (fun k => decide (linkState s (2 * n + k) = 0) || decide (linkState s (2 * n + k) = 5))

/-- One port's configuration. -/
def checkPort (s t : State) (n : Nat) : List Fail :=
  let o := oPtCfg n
  failIf (decide (rdf s o 0 3 ≠ rdf t o 0 3) && !portIdle s n) o failConsist ++
  failIf (bitOf (rd t o) 2 && decide (rdf t o 16 2 = 3)) o failConsist ++
  checkWindows t (2 * n) ++ checkWindows t (2 * n + 1)

/-- The agents that FM designates. -/
def fmAgents (t : State) : List Nat :=
  (List.range 32).filter (fun a => bitOf (rd t (oPtCfg (a / 2))) (8 + a % 2) && subLive t a)

/-- Ports of which a register is not at reset. -/
def portsUsed (s : State) : List Nat :=
  (s.regs.filterMap (fun p => if 0x100000 ≤ p.1 ∧ p.1 < 0x200000 then some ((p.1 - 0x100000) / 0x10000) else none)).dedup

/-- Every port. -/
def checkPorts (s t : State) : List Fail :=
  let l := (portsUsed s ++ portsUsed t).dedup
  l.flatMap (checkPort s t) ++
  (match fmAgents t with
   | a :: _ :: _ => [(oPtCfg (a / 2), failConsist)]
   | _ => [])

/-! ### Order and counters (R210, R315, R350) -/

/-- Budget classes and attribute entries. -/
def checkOrder (t : State) : List Fail :=
  (List.range 8).flatMap (fun c =>
    failIf (decide (rdf t (0x040004 + 8 * c) 0 30 < rdf t (0x040000 + 8 * c) 0 30)) (0x040004 + 8 * c) failConsist) ++
  (t.regs.filter (fun p => inRow p.1 0x040100 8 64 && bitOf p.2 31)).flatMap (fun p =>
    failIf (decide (rdf t (p.1 + 4) 0 22 < fld p.2 0 22)) (p.1 + 4) failConsist)

/-- Does Table TRAY-4 allow an event with a scope? -/
def scopeAllowed (ev sc : Nat) : Bool :=
  match sc with
  | 0 => decide (ev ≠ 0x1A)
  | 1 => [0x00, 0x02, 0x06, 0x07, 0x08, 0x09, 0x0B, 0x0D, 0x0E, 0x12, 0x18, 0x19, 0x30].contains ev
  | 2 => [0x00, 0x02, 0x09, 0x0A, 0x0D, 0x0E, 0x10, 0x11].contains ev
  | 3 => [0x00, 0x10, 0x11].contains ev
  | 4 => [0x00, 0x08, 0x18, 0x19, 0x1A].contains ev
  | _ => false

/-- Is a unit beyond its scope's range? -/
def unitBeyond (sc u : Nat) : Bool :=
  match sc with
  | 2 => decide (32 ≤ u)
  | 3 => decide (16 ≤ u)
  | 4 => decide (8 ≤ u)
  | _ => false

/-- The counters. -/
def checkCounters (t : State) : List Fail :=
  (ctrConfigured t).flatMap (fun p =>
    failIf (!scopeAllowed (fld p.2 0 8) (fld p.2 8 3) || unitBeyond (fld p.2 8 3) (fld p.2 16 6)) (oCtrCfg p.1) failConsist)

/-- PWR_THR: OFF below ON. -/
def checkThrottle (t : State) : List Fail :=
  failIf (decide (signedOf (rdf t 0x210 0 16) 16 ≤ signedOf (rdf t 0x210 16 16) 16)) 0x210 failConsist

/-! ### The outcome (R24, R404) -/

/-- Every failing check of a commit. -/
def commitFails (s : State) : List Fail :=
  let t := candidate s
  checkRanges s t ++ checkRangesOfTrays t ++ (traysUsed t).flatMap (checkMembers s t) ++
  (traysUsed t).flatMap (checkWindow t) ++ checkRecall s t ++ checkBacking s t false ++ checkBacking s t true ++
  checkSpare s t ++ checkLm t ++ checkMap t ++
  failIf (decide (rd s oMcMap ≠ rd t oMcMap) && (List.range 8).any (fun m => decide (chanState s m ≠ 0)))
    oMcMap failConsist ++
  (List.range 8).flatMap (checkChan s t) ++ checkKeep t ++ checkIslands s t ++ checkPorts s t ++ checkOrder t ++
  checkCounters t ++ checkThrottle t

/-- The failure a commit reports: lowest offset, then lowest code (R24). -/
def worstFail : List Fail → Option Fail
  | [] => none
  | f :: fs =>
    match worstFail fs with
    | some g => if g.1 < f.1 ∨ (g.1 = f.1 ∧ g.2 < f.2) then some g else some f
    | none => some f

/-- GLB_COMMIT_STS: status, code and offset. -/
def commitStatus (st code off : Nat) (s : State) : State :=
  wr s oCommitSts (w64 (st + 8 * code + 256 * off))

/-- A write of 1 to GLB_COMMIT.GO (R9, R15, R24, R25): rejected, or ZERO, or BUSY until the commit is applied. A
second write during a commit is ignored (R11). -/
def opCommit (s : State) : State :=
  if s.cap.commitBusy then s
  else if isSafe s then commitStatus 3 failSafe 0 s
  else if (changedRegs s (candidate s)).isEmpty then commitStatus 4 0 0 s
  else
    match worstFail (commitFails s) with
    | some (o, c) => commitStatus 3 c o s
    | none => updCap (fun c => { c with commitBusy := true }) (commitStatus 1 0 0 s)

/-! ### What follows when values become active -/

/-- The agents a commit takes out of a tray. -/
def removedAgents (s t : State) : List (Nat × Nat) :=
  (traysUsed s).flatMap (fun n => ((membersOf s n).filter (fun a => !isMember t n a)).map (fun a => (n, a)))

/-- Agents whose windows change. -/
def remapped (s t : State) : List Nat :=
  ((changedRegs s t).filterMap (fun r =>
    if 0x100000 ≤ r ∧ r < 0x200000 ∧ 0x200 ≤ r % 0x10000 ∧ r % 0x10000 < 0x300 then
      some ((r - 0x100000) / 0x10000 * 2 + (r % 0x10000 - 0x200) / 0x80)
    else none)).dedup

/-- The block answers with RspI for the snoops of an agent whose line no window of it holds any longer (R92, R300). -/
def answerLost (a : Nat) (s : State) : State :=
  let r := s.dev.ctxs.foldl (fun (acc : List Nat × State) p =>
    match p.2.line with
    | some l =>
      if (holdingWindow s a l).isNone then
        match synthetic a p.1 false acc.2 with
        | (l, s) => (acc.1 ++ l, s)
      else acc
    | none => acc) ([], s)
  go r.1 r.2

/-- Trays whose ranges or reservation granule change (R79). -/
def resvTrays (s t : State) : List Nat :=
  ((changedRegs s t).filterMap (fun r =>
    if 0x300000 ≤ r ∧ r < 0x340000 then
      let n := (r - 0x300000) / 0x1000
      if r % 0x1000 < 0x80 ∨ (r % 0x1000 = 0x88 ∧ trayGran s n ≠ trayGran t n) then some n else none
    else none)).dedup

/-- PT_DELAY reads 0 on a CXL link (R308). -/
def clearDelay (n : Nat) (s : State) : State :=
  if portMode s n < 2 then s else wr (wr s (portBase n + 0x30) 0) (portBase n + 0x34) 0

/-- Every consequence of the change from `s`, on the state with the new values (R79, R87, R91, R300, R308, R314, R317, R319, R410). -/
def commitEffects (old s : State) : State :=
  let ch := changedRegs old s
  let rem := removedAgents old s
  let s := markLost s
  let s := updCap (fun c => { c with
    removals := c.removals.filter (fun q => !rem.contains (q.tray, q.agent) && !isMember s q.tray q.agent) ++
      rem.map (fun p => { tray := p.1, agent := p.2, swept := false, lap := 0 }) }) s
  let s := (resvTrays old s).foldl (fun s n => clearResvIf (fun q => decide (q.tray = n)) s) s
  let s := rem.foldl (fun s p => detachFromTray p.2 p.1 s) s
  let s := (remapped old s).foldl (fun s a => startSweep (.window a) (answerLost a s)) s
  let s := ch.foldl (fun s r =>
    if inRow r 0x300090 0x1000 64 then
      updMeter (fun m => { m with windows := sDel m.windows ((r - 0x300090) / 0x1000) }) s
    else if inRow r 0x341000 4 256 then
      let c := (r - 0x341000) / 4
      updMeter (fun m => { m with ctrAcc := sDel m.ctrAcc c }) (wr s (oCtrVal c) 0)
    else if r = 0x342000 then updMeter (fun m => { m with ctrAcc := [] }) s
    else if r = 0x342100 && bitOf (rd s r) 0 then updMeter (fun m => { m with lm := { m.lm with recnum := 0 } }) s
    else if inRow r 0x100010 0x10000 16 then clearDelay ((r - 0x100010) / 0x10000) s
    else if inRow r 0x300084 0x1000 64 then quotaCheck ((r - 0x300084) / 0x1000) s
    else s) s
  s

/-- Is the Developer at a rule boundary: no context has a rule in flight (R10)? -/
def ruleBoundary (s : State) : Bool := !s.dev.ctxs.any (fun p => p.2.inFlight.isSome)

/-- COMMIT_APPLY: at a rule boundary every shadow becomes active, and the shadow writes held meanwhile land (R10,
R11). Between two boundaries the commit waits for the next one: the values never change under a rule in flight. -/
def opCommitApply (s : State) : State :=
  if !s.cap.commitBusy || !ruleBoundary s then s
  else
    let held := s.cap.heldShadow
    let t := candidate s
    let t := updCap (fun c => { c with commitBusy := false, heldShadow := [] }) t
    let t := commitEffects s t
    let t := wr (commitStatus 2 0 0 t) oCommitSeq (w64 ((rd t oCommitSeq + 1).toNat % 2 ^ 32))
    held.foldl (fun s p => capDone false 0 (shadowWriteAll p.1 p.2.1 p.2.2 s)) t

/-- SHADOW_WRITE: the shadow takes the value; while a commit is being applied the CAP withholds its acknowledge and
the write lands afterwards (R11). -/
def opShadowWrite (off : Nat) (w64 : Bool) (v : W64) (s : State) : State :=
  if !capAnswers s then capSilent s
  else if !aligned off w64 then capDone true 0 s
  else if (coverShadow off).isNone && !(w64 && (coverShadow (off + 4)).isSome) then s
  else if s.cap.commitBusy then
    capSilent (updCap (fun c => { c with heldShadow := c.heldShadow ++ [(off, w64, v)] }) s)
  else shadowWriteAll off w64 v (capDone false 0 s)

/-- CAP_MISALIGNED: an error response and no effect (R6, R393). An aligned access is not this command. -/
def opCapMisaligned (off : Nat) (w64 : Bool) (s : State) : State :=
  if !capAnswers s then capSilent s
  else if aligned off w64 then s
  else capDone true 0 s

/-- An access that reaches an unassigned offset: it reads 0, changes nothing and records CAP_DECODE (R23). -/
def decodeEvent (s : State) : State := raise0 .capDecode (capDone false 0 s)

/-- CAP_DECODE: an aligned access to an unassigned offset; a read of an assigned offset returns its value. -/
def opCapDecode (off : Nat) (wide we : Bool) (s : State) : State :=
  if !capAnswers s then capSilent s
  else if !aligned off wide then capDone true 0 s
  else if assigned off || (wide && assigned (off + 4)) then (if we then s else capDone false (capRead s off wide) s)
  else decodeEvent s

/-! ### Meanings -/

/-- An access that factory test mode lets into the TEST range (R23, R345). -/
def testAccess (s : State) (off : Nat) : Bool := inTest off && s.aon.testMode && capAnswers s

/-- CAP_MISALIGNED (R6, R393). -/
def execCapMisaligned (off : BitVec 24) (w64 _we : Bool) (_v : W64) (s : State) : Out :=
  .next (untimed (opCapMisaligned off.toNat w64) s)

/-- CAP_DECODE (R23). In factory test mode the TEST range is documented elsewhere only. -/
def execCapDecode (off : BitVec 24) (w64 we : Bool) (_v : W64) (s : State) : Out :=
  if testAccess s off.toNat && aligned off.toNat w64 then .refused .factoryTestUndocumented
  else .next (untimed (opCapDecode off.toNat w64 we) s)

/-- SHADOW_WRITE (R11, R22). -/
def execShadowWrite (off : BitVec 24) (w64 : Bool) (v : W64) (s : State) : Out :=
  .next (untimed (opShadowWrite off.toNat w64 v) s)

/-- COMMIT (R9). -/
def execCommit (s : State) : Out := .next (capCmd opCommit s)

/-- COMMIT_APPLY (R10). -/
def execCommitApply (s : State) : Out := .next (live opCommitApply s)

end Sys2Proof.Machine
end

