-- ==== Sys2Proof/Machine/Operands.lean ====
section
/-! DEFINITION. What the fields of a rule name: operands, agent selectors and the context's view of its line (R172,
R174, R175, R179, Tables RULE-2, RULE-3, DEV-5). -/

namespace Sys2Proof.Machine

/-! ### The context as a rule reads it -/

/-- The context with SV, SO, SS and CODE as the rule in flight read them at OPR (R172). -/
def Ctx.seen (x : Ctx) : Ctx :=
  match x.inFlight with
  | some r => { x with sv := r.sv, so := r.so, ss := r.ss, code := r.code }
  | none => x

/-- k, the index of the line of EA in its sector (SS[21:20]). -/
def Ctx.lineIx (x : Ctx) : Nat := fld x.ss 20 2

/-- LSTk; a miss reads as I (Table RULE-4, LSTIN). -/
def Ctx.lstK (x : Ctx) : Lst :=
  if bitOf x.ss 12 then (lstOfCode (fld x.ss (3 * x.lineIx) 3)).getD .i else .i

/-- OWNk. -/
def Ctx.ownK (x : Ctx) : Nat := fld x.so (5 * x.lineIx) 5

/-- The pool line of the event: EA. -/
def Ctx.eaLine (x : Ctx) : Nat := x.ea.toNat / 64 % 2 ^ 36

/-- The pool line that an operand names by its byte address. -/
def lineOfAddr (v : W64) : Nat := v.toNat / 64 % 2 ^ 36

/-! ### Operands (R174, Table RULE-2) -/

/-- The value of an operand, zero-extended. -/
def opd (x : Ctx) (code : BitVec 4) : W64 :=
  match code.toNat with
  | 8 => x.ea
  | 9 => w64 x.es.toNat
  | 10 => w64 x.ed.toNat
  | 11 => x.ex
  | 12 => w64 x.sv.toNat
  | 13 => w64 x.so.toNat
  | 14 => w64 x.ss.toNat
  | 15 => 0
  | n => x.w.getD n 0

/-- May an operation write this operand: a W register or ZR? -/
def canWrite (d : BitVec 4) : Bool := decide (d.toNat < 8) || decide (d.toNat = 15)

/-- Write an operand; ZR discards the value. -/
def putOpd (d : BitVec 4) (v : W64) (x : Ctx) : Ctx :=
  if d.toNat < 8 then { x with w := x.w.set d.toNat v } else x

/-- The 18-bit immediate, sign-extended (R179). -/
def immSx (o : Oper) : W64 := o.b.signExtend 64

/-- Operand B: bits [17:14] name it when I is 0 (R179). -/
def opdB (x : Ctx) (o : Oper) : W64 := opd x (BitVec.ofNat 4 (fld o.b 14 4))

/-- B: operand B or the extended immediate. -/
def valB (x : Ctx) (o : Oper) : W64 := if o.imm then immSx o else opdB x o

/-- B as the fields that MSK, SUP and SALL take from the immediate's bits, or from operand B. -/
def rawB (x : Ctx) (o : Oper) : W64 := if o.imm then w64 o.b.toNat else opdB x o

/-! ### Agent selectors (R175, Table RULE-3) -/

/-- What an agent selector gives. -/
inductive Sel where
  | agent (a : Nat) (txid : BitVec 12)
  | nobody
  | illegal
  deriving DecidableEq, Repr

/-- The agent and TXID that a selector names. -/
def agentSel (x : Ctx) (sel : BitVec 4) : Sel :=
  match sel.toNat with
  | 8 =>
    (match x.agent with
     | some a => .agent a x.txid
     | none => .illegal)
  | 9 => .agent x.es.toNat 0
  | 10 => if x.lstK.owned then .agent x.ownK 0 else .illegal
  | 11 =>
    (match x.writer with
     | some p => .agent p.1 p.2
     | none => .illegal)
  | 15 => .nobody
  | n =>
    if n < 8 then .agent (fld (x.w.getD n 0) 0 5) (BitVec.ofNat 12 (fld (x.w.getD n 0) 5 12))
    else .illegal

end Sys2Proof.Machine
end

