-- ==== Sys2Proof/Machine/Flags.lean ====
section
/-! DEFINITION. The conditions a GUARD tests: every predicate and every attribute (R176 to R178, Tables RULE-4 and
RULE-5). -/

namespace Sys2Proof.Machine

/-- Bit n of a set. -/
def inSet (set n : Nat) : Bool := set.testBit n

/-- Does the transaction owe no snoop answer, WBK or DatH (ANSIN)? -/
def ansIn (x : Ctx) : Bool := !owesAnswer x

/-- Does the transaction owe no memory completion (MEMIN)? -/
def memIn (x : Ctx) : Bool := !owesMem x

/-- Does the event carry the poison mark (EVFOG)? -/
def evFog (x : Ctx) : Bool :=
  let t := fld x.ex 0 6
  if 0x30 ≤ t ∧ t ≤ 0x34 then bitOf x.ex 6
  else if 0x18 ≤ t ∧ t ≤ 0x1C then bitOf x.ex 7
  else if t = 0x38 ∨ t = 0x3E then bitOf x.ex 6 || bitOf x.ex 7
  else false

/-- Has the event's source detached, wholly or from the transaction's tray (ESDET, R91)? -/
def esDetached (s : State) (x : Ctx) : Bool :=
  detached s x.es.toNat || (x.line.isSome && (match x.tray with
                                              | some t => !isMember s t x.es.toNat
                                              | none => false))

/-- An attribute of Table RULE-5; those of the requester are false without one (R178). -/
def attrHolds (s : State) (x : Ctx) (attr : Nat) : Bool :=
  let ofReq := fun (f : Nat → Bool) => match x.agent with
    | some a => f a
    | none => false
  match attr with
  | 0x0 => x.early
  | 0x1 => (match x.tray with
            | some t => traySpill s t
            | none => false)
  | 0x2 => ofReq (isCaching s)
  | 0x3 => ofReq (isG6 s)
  | 0x4 => ofReq (fun _ => x.lstK.owned && isG6 s x.ownK)
  | 0x5 => esDetached s x
  | 0x6 => detached s x.es.toNat && (linkOf s x.es.toNat).vol
  | 0x7 => ewa s x.eaLine
  | 0x8 => lineBlank s x.eaLine
  | 0x9 => isDark s x.eaLine
  | 0xA => ofReq (fun a => decide (a = x.es.toNat))
  | _ => false

/-- A predicate of Table RULE-4; a reserved one is false (R176). -/
def condHolds (s : State) (x : Ctx) (cond arg : Nat) : Bool :=
  let p := opd x (BitVec.ofNat 4 arg)
  match cond with
  | 0x00 => true
  | 0x01 => decide (p = 0)
  | 0x02 => bitOf p (arg / 16 % 64)
  | 0x03 => decide (p.toNat = arg / 16 % 2 ^ 14)
  | 0x04 => decide (p.toNat < arg / 16 % 2 ^ 14)
  | 0x05 => decide (fld x.ex 0 6 = arg % 64)
  | 0x06 => decide (x.reqOpc.toNat < 16) && inSet arg x.reqOpc.toNat
  | 0x07 => inSet (arg % 64) (lstCode x.lstK)
  | 0x08 => inSet (arg % 512) x.code.toNat
  | 0x09 => x.lstK.owned && decide (x.ownK = x.es.toNat)
  | 0x0A => bitOf x.sv x.es.toNat
  | 0x0B => decide (p &&& ~~~(opd x (BitVec.ofNat 4 (arg / 16))) = 0)
  | 0x0C => attrHolds s x (arg % 16)
  | 0x0D => ansIn x
  | 0x0E => memIn x
  | 0x0F => ansIn x && memIn x
  | 0x10 => x.cmpIn
  | 0x11 => x.cplSent
  | 0x12 => evFog x
  | 0x13 => x.fwdPass
  | 0x14 => bitOf x.ss 12
  | _ => false

/-- The GUARD of a rule: its 24 bits NEG, COND, ARG (Table RULE-1). -/
def guardHolds (s : State) (x : Ctx) (g : Nat) : Bool :=
  let v := condHolds s x (g / 2 ^ 18 % 32) (g % 2 ^ 18)
  if g / 2 ^ 23 % 2 = 1 then !v else v

end Sys2Proof.Machine
end

