-- ==== Sys2Proof/Machine/Writebacks.lean ====
section
/-! DEFINITION. WBKs as they reach their ports, and what a WBK does at its line (R35, R54, R55, R72 to R74, R82, R88,
R90, R101, R142, R340, R405, R411). -/

namespace Sys2Proof.Machine

/-- A WBK that an expired or quarantined transaction of its line still awaits is taken off what the transaction owes; one that
comes ahead of its RspWbPending covers that answer (R101, R102, R177). -/
def payLateWbk (a line : Nat) (s : State) : State :=
  s.dev.ctxs.foldl (fun s p =>
    if (p.2.st = .quarantined || p.2.expired) && decide (p.2.line = some line) then
      releaseQuarantine p.1 (modCtx p.1 (fun x => { x with owed := coverOwed a x }) s)
    else s) s

/-- A WBK takes a free slot of its agent's 16; a WBK beyond them breaks the credit rule and changes nothing (log
entry 13). -/
def wbkTake (a : Nat) (p : WSlot) (s : State) : State :=
  match freeSlot s a with
  | some w =>
    let s := updHome (fun h => { h with wslots := sSet h.wslots w p }) s
    wbkAtLine w (payLateWbk a p.line s)
  | none => s

/-- Has a commit removed an agent from a tray, with none since that made it a member again (R91, R411)? -/
def removedFrom (s : State) (a t : Nat) : Bool :=
  s.cap.removals.any (fun r => decide (r.agent = a) && decide (r.tray = t)) && !isMember s t a

/-- A WBK that its port completes with ERR_ADDR: it writes nothing and changes no record (R40, R204). -/
def wbkErr (m : Wbk) (t : Option Nat) (s : State) : State :=
  sendCpl m.agent .cmpWb 0 m.txid .errAddr none false t (errDeadline s) s

/-- A WBK reaches its port: detached agent, TXID, class, address, in that order (R409, R411); then its deadline. A window page
takes no writeback (R313). -/
def wbkArrive (op : WbOp) (m : Wbk) (s : State) : State :=
  let a := m.agent
  let s := creditUsed a true (received a (if m.ptl then 6 else 5) s)
  if detached s a then raiseAt .detached (a / 2) s
  else if txidBusy s a m.txid then raiseAt .txidDup (a / 2) s
  else if !isCachingZcl s a then raiseAt .proto (a / 2) s
  else
    match resolve s a m.laddr with
    | none => wbkErr m none s
    | some line =>
      match trayOf s line with
      | none => wbkErr m none s
      | some t =>
        if !isMember s t a then (if removedFrom s a t then raiseAt .detached (a / 2) s else wbkErr m (some t) s)
        else if (windowTray s line).isSome then wbkErr m (some t) (raise0 .winOp s)
        else
          match portDeadline a (some t) m.deadline s with
          | (dl, s) =>
            match nextSeq s with
            | (q, s) =>
              wbkTake a { agent := a, txid := m.txid, op := op, ptl := m.ptl, fog := m.fog, bmask := m.bmask,
                          data := m.data, line := line, tray := t, deadline := dl, seq := q, place := .waiting,
                          written := false, acked := false, hold := false, status := .ok, cxl := none } s

/-! ### Meanings -/

/-- WBMI (R72). -/
def execWbMI (w : Wbk) (s : State) : Out := onUnit (okAgent w.agent) (heard (wbkArrive .mi w)) s

/-- WBMS (R72). -/
def execWbMS (w : Wbk) (s : State) : Out := onUnit (okAgent w.agent) (heard (wbkArrive .ms w)) s

/-- WBME (R72). -/
def execWbME (w : Wbk) (s : State) : Out := onUnit (okAgent w.agent) (heard (wbkArrive .me w)) s

/-- WBOI (R72). -/
def execWbOI (w : Wbk) (s : State) : Out := onUnit (okAgent w.agent) (heard (wbkArrive .oi w)) s

/-- WBOS (R72). -/
def execWbOS (w : Wbk) (s : State) : Out := onUnit (okAgent w.agent) (heard (wbkArrive .os w)) s

end Sys2Proof.Machine
end

