-- ==== Sys2Proof/Machine/Responses.lean ====
section
/-! DEFINITION. Snoop responses, CMP, DatH and forwarded data as they reach the block (R42 to R45, R56, R57, R60 to R64,
R90, R97 to R101, R153, R177, R338, R339, R411). -/

namespace Sys2Proof.Machine

/-- The opcode of a snoop response (Table LINE-3). -/
def RspOp.num : RspOp → BitVec 6
  | .rspI => 0x20#6
  | .rspS => 0x21#6
  | .rspE => 0x22#6
  | .miss => 0x23#6
  | .fwdI => 0x24#6
  | .fwdS => 0x25#6
  | .fwdO => 0x26#6
  | .dataI => 0x27#6
  | .dataK => 0x28#6
  | .wbPending => 0x29#6

/-- Does the response announce a forwarded DAT? -/
def RspOp.forwards : RspOp → Bool
  | .fwdI => true
  | .fwdS => true
  | .fwdO => true
  | _ => false

/-- Does the response announce a DatH? -/
def RspOp.sendsData : RspOp → Bool
  | .dataI => true
  | .dataK => true
  | _ => false

/-- The opcode of a DAT (Table LINE-3). -/
def DatOp.num : DatOp → BitVec 6
  | .s => 0x30#6
  | .e => 0x31#6
  | .m => 0x32#6
  | .i => 0x33#6

/-- Count a late answer consumed or dropped (R101, R411). -/
def countLate (a : Nat) (s : State) : State := count 0x0A ⟨none, some a, none⟩ 1 s

/-- Take an answer into the owed set: it removes what it answers, and leaves owed what it announces and what has not come yet: a
DatH, the WBK of an RspWbPending that no WBK has covered, and, of a late answer, a forwarded DAT (R101, R177). -/
def payAnswer (a : Nat) (op : RspOp) (late : Bool) (x : Ctx) : Ctx :=
  match owesFrom x a, takeFirst (isAns a) x.owed with
  | some (_, cov), some (_, l) =>
    if op = .wbPending then { x with owed := l ++ (if cov then [] else [.wbk a (!late)]) }
    else if op.sendsData then
      if x.dathIn.contains a then { x with owed := l, dathIn := x.dathIn.erase a } else { x with owed := l ++ [.dath a] }
    else if op.forwards then
      if x.fwdIn.contains a then { x with owed := l, fwdIn := x.fwdIn.erase a }
      else { x with owed := l ++ (if late then [.fwd a] else []) }
    else { x with owed := l }
  | _, _ => x

/-- Take one owed item off a context's set. -/
def payItem (o : Owed) (x : Ctx) : Ctx :=
  match takeFirst (fun p => decide (p = o)) x.owed with
  | some (_, l) => { x with owed := l }
  | none => x

/-- A DatH of an agent: it pays the DatH owed, or has come ahead of the response that announces it (R43, R177). -/
def payDatH (a : Nat) (x : Ctx) : Ctx :=
  if x.owed.contains (.dath a) then payItem (.dath a) x else { x with dathIn := a :: x.dathIn }

/-- A forwarded DAT of an agent: it pays the one owed, or has come ahead of the response that announces it (R42, R101). -/
def payFwd (a : Nat) (x : Ctx) : Ctx :=
  if x.owed.contains (.fwd a) then payItem (.fwd a) x else { x with fwdIn := a :: x.fwdIn }

/-- T_CMP runs once the home holds every response of a transaction that has completed and still lacks its CMP (R97). -/
def armCmp (x : Ctx) : Ctx := { x with cmpTimer := x.cplSent && !x.cmpIn && !owesAnswer x }

/-- Does a transaction await late answers: it is quarantined, or a timer has expired (R101)? -/
def Ctx.late (x : Ctx) : Bool := decide (x.st = .quarantined) || x.expired

/-- Is a message of this agent outside the transaction's tray: the agent was removed from the tray (R411)? -/
def outOfTray (s : State) (a : Nat) (x : Ctx) : Bool :=
  x.line.isSome && (match x.tray with
                    | some t => !isMember s t a
                    | none => false)

/-- Does the transaction of a context take no part any more in what an agent sends? -/
def deaf (s : State) (a : Nat) (x : Ctx) : Bool := x.late || outOfTray s a x

/-- A late answer is consumed without dispatch and counted; it may start T_CMP, or release a quarantined entry (R97, R101). -/
def lateRsp (a c : Nat) (op : RspOp) (x : Ctx) (s : State) : State :=
  let s := countLate a s
  if x.late then releaseQuarantine c (modCtx c (fun y => armCmp (payAnswer a op true y)) s) else s

/-- A snoop response in a live transaction: it pays what is owed and is remembered when it answers the owner's snoop. An answer
of the agent whose snoop has claimed the DatH buffer shows whether data comes (R187), and one of a forwarding owner whether
the staging space is still needed (R33). -/
def takeRsp (a : Nat) (op : RspOp) (x : Ctx) : Ctx :=
  match owesFrom x a with
  | none => x
  | some (snp, _) =>
    let y := payAnswer a op false x
    armCmp { y with ansOp := if snp ≠ .i ∧ op ≠ .wbPending then some op else y.ansOp,
                    hclaim := if y.hclaim = some a && !op.sendsData then none else y.hclaim,
                    staging := if (snp = .fs ∨ snp = .fx) && !op.forwards then none else y.staging }

/-- Has a WBK of an agent reached the transaction in a context? -/
def wbkHere (s : State) (c a : Nat) : Bool :=
  s.home.wslots.any (fun p => decide (p.2.agent = a) &&
    (decide (p.2.place = .joined c) || decide (p.2.place = .absorbed c)))

/-- Stop T_SNOOP for an agent: the answer, or the WBK, that it times has arrived (R97, R98). -/
def stopSnoop (a : Nat) (x : Ctx) : Ctx :=
  { x with owed := x.owed.map (fun o => match o with
      | .ans b op cov t => if b = a then .ans b op cov false else .ans b op cov t
      | .wbk b t => if b = a then .wbk b false else .wbk b t
      | _ => o) }

/-- An answer for a rule-run transaction becomes an event; its timer stops as it arrives. After an RspWbPending the timer runs on
for the WBK, where that has not come (R97). -/
def postRsp (a c : Nat) (op : RspOp) (x : Ctx) (s : State) : State :=
  let s := if op = .wbPending && !wbkHere s c a then s else modCtx c (stopSnoop a) s
  postEvent (eventFor x c a op.num a (w64 op.num.toNat)) s

/-- A message whose HTID names a free context raises STRAY; one for a context bound as Safelight state began is consumed (R153,
R339). -/
def strayCtx (c : Nat) (s : State) : State :=
  if isSafe s && s.safe.bound.any (fun p => decide (p.1 = c)) then s else raise0 .stray s

/-- A snoop response reaches the block. -/
def rspArrive (a : Nat) (op : RspOp) (h : BitVec 13) (s : State) : State :=
  let c := h.toNat
  let s := received a 1 s
  if detached s a then countLate a s
  else
    match ctxOf s c with
    | none => strayCtx c s
    | some x =>
      if deaf s a x then lateRsp a c op x s
      else if isSafe s then modCtx c (payAnswer a op true) s
      else if x.byRule then postRsp a c op x s
      else if (owesFrom x a).isNone then s
      else go [c] (modCtx c (takeRsp a op) s)

/-- The CMP of a window read, where one is awaited (R313). -/
def windowPend (s : State) (a : Nat) : Option Pend :=
  s.home.reqs.find? (fun p => decide (p.req.agent = a) && decide (p.place = .window))

/-- A CMP that no transaction awaits: it ends a window read's TXID, or it is stray. -/
def otherCmp (a c : Nat) (s : State) : State :=
  match windowPend s a with
  | some p => if c = 0 then delPend p.seq s else raise0 .stray s
  | none => if isSafe s then s else raise0 .stray s

/-- Has the CMP of a rule-run transaction arrived before: its REQ has left its buffer? -/
def cmpTaken (s : State) (x : Ctx) : Bool :=
  match x.req with
  | some p => (pendOf s p.seq).isNone
  | none => true

/-- A CMP is dispatched to its transaction, which RETIREs once it holds every response (R44, R57). In Safelight state
it is consumed (R338). -/
def cmpEvent (a c : Nat) (s : State) : State :=
  match ctxOf s c with
  | none => otherCmp a c s
  | some x =>
    if x.st = .quarantined ∨ x.owed.contains .cmp then
      if x.owed.contains .cmp && decide (x.agent = some a) then
        releaseQuarantine c (payOwed c (fun o => decide (o = .cmp)) (countLate a s))
      else s
    else if isSafe s then s
    else if decide (x.agent ≠ some a) || x.cmpIn || (x.byRule && cmpTaken s x) then
      (if c = 0 && (windowPend s a).isSome then otherCmp a c s else s)
    else if outOfTray s a x then countLate a s
    else
      let s := match x.req with
        | some p => delPend p.seq s
        | none => s
      if x.byRule then
        postEvent (eventFor x c a 0x2A#6 a 0x2A) (modCtx c (fun y => { y with cmpTimer := false }) s)
      else go [c] (modCtx c (fun y => { y with cmpIn := true, cmpTimer := false }) s)

/-- A CMP message from an agent. -/
def cmpArrive (a : Nat) (h : BitVec 13) (s : State) : State :=
  let s := received a 1 s
  if detached s a then countLate a s else cmpEvent a h.toNat s

/-- DatH reaches the block: it crosses to its line's channel and into the transaction's DatH buffer, in either order with its
response (R43, R187, R216). A late one, or one of an agent removed from the tray, is discarded. -/
def datHArrive (d : Dat) (s : State) : State :=
  let c := d.htid.toNat
  let a := d.agent
  let s := received a 5 s
  if detached s a then countLate a s
  else
    match ctxOf s c with
    | none => strayCtx c s
    | some x =>
      if deaf s a x || isSafe s then
        let s := if deaf s a x then countLate a s else s
        if x.late || isSafe s then releaseQuarantine c (modCtx c (fun y => armCmp (payDatH a y)) s) else s
      else
        let line := x.line.getD 0
        let s := moveLine (portOutput a) (chanNo s line) line d.deadline s
        let s := modCtx c (fun y => { y with hbuf := some { data := d.data, fog := d.fog } }) s
        if x.byRule then postEvent (eventFor x c a 0x34#6 a (w64 (0x34 + 64 * b2n d.fog))) s
        else go [c] (modCtx c (fun y => armCmp (payDatH a y)) s)

/-- A forwarded DAT crosses the crossbar to its DEST, in the form its requester takes (Table LINE-12), or is dropped at the
crossbar input: its sender is detached, its context is free (STRAY), its transaction ends without it, or DEST is sent nothing
(R42, R92, R101, R153, R339, R411). The STATUS that leaves is OK, whatever the owner put there: DESIGN CHOICE, log entry 52. -/
def forward (op : DatOp) (d : Dat) (s : State) : State :=
  let c := d.htid.toNat
  let a := d.agent
  let s := received a 5 s
  if detached s a then countLate a s
  else
    match ctxOf s c with
    | none => strayCtx c s
    | some x =>
      if deaf s a x || isSafe s then
        let s := if deaf s a x then countLate a s else s
        if x.late || isSafe s then releaseQuarantine c (modCtx c (payFwd a) s) else s
      else
        let s := count 0x12 ⟨x.tray, none, none⟩ 1 s
        let s := modCtx c (fun y => { payFwd a y with fwdPass := true, staging := none }) s
        if muted s d.dest.toNat x.tray x.line.isSome then s
        else
          let form := if x.agent = some d.dest.toNat then x.form else none
          sendDat (portOutput a) d.dest.toNat op c d.txid d.fog .ok d.deadline d.data form x.isUpg s

/-! ### Meanings -/

/-- RSPI (R45). -/
def execRspI (agent : Nat) (htid : BitVec 13) (s : State) : Out :=
  onUnit (okAgent agent) (heard (rspArrive agent .rspI htid)) s

/-- RSPS (R45). -/
def execRspS (agent : Nat) (htid : BitVec 13) (s : State) : Out :=
  onUnit (okAgent agent) (heard (rspArrive agent .rspS htid)) s

/-- RSPE (R45). -/
def execRspE (agent : Nat) (htid : BitVec 13) (s : State) : Out :=
  onUnit (okAgent agent) (heard (rspArrive agent .rspE htid)) s

/-- RSPMISS (R63). -/
def execRspMiss (agent : Nat) (htid : BitVec 13) (s : State) : Out :=
  onUnit (okAgent agent) (heard (rspArrive agent .miss htid)) s

/-- RSPFWDI (R42). -/
def execRspFwdI (agent : Nat) (htid : BitVec 13) (s : State) : Out :=
  onUnit (okAgent agent) (heard (rspArrive agent .fwdI htid)) s

/-- RSPFWDS (R42). -/
def execRspFwdS (agent : Nat) (htid : BitVec 13) (s : State) : Out :=
  onUnit (okAgent agent) (heard (rspArrive agent .fwdS htid)) s

/-- RSPFWDO (R42). -/
def execRspFwdO (agent : Nat) (htid : BitVec 13) (s : State) : Out :=
  onUnit (okAgent agent) (heard (rspArrive agent .fwdO htid)) s

/-- RSPDATAI (R43). -/
def execRspDataI (agent : Nat) (htid : BitVec 13) (s : State) : Out :=
  onUnit (okAgent agent) (heard (rspArrive agent .dataI htid)) s

/-- RSPDATAK (R43). -/
def execRspDataK (agent : Nat) (htid : BitVec 13) (s : State) : Out :=
  onUnit (okAgent agent) (heard (rspArrive agent .dataK htid)) s

/-- RSPWBPENDING (R90). -/
def execRspWbPending (agent : Nat) (htid : BitVec 13) (s : State) : Out :=
  onUnit (okAgent agent) (heard (rspArrive agent .wbPending htid)) s

/-- CMP (R57). -/
def execCmp (agent : Nat) (htid : BitVec 13) (s : State) : Out := onUnit (okAgent agent) (heard (cmpArrive agent htid)) s

/-- DATH (R43). -/
def execDatH (d : Dat) (s : State) : Out := onUnit (okAgent d.agent) (heard (datHArrive d)) s

/-- DATS (R42). -/
def execDatS (d : Dat) (s : State) : Out := onUnit (okAgent d.agent) (heard (forward .s d)) s

/-- DATE (R42). -/
def execDatE (d : Dat) (s : State) : Out := onUnit (okAgent d.agent) (heard (forward .e d)) s

/-- DATM (R42). -/
def execDatM (d : Dat) (s : State) : Out := onUnit (okAgent d.agent) (heard (forward .m d)) s

end Sys2Proof.Machine
end

