-- ==== Sys2Proof/Machine/Engine.lean ====
section
/-! DEFINITION. The Developer: traps and expiries that end a transaction, fetch lines and their CRCs, the dispatch of
an event to its first rule, and how a rule is entered (R99, R145 to R169, R171 to R173, R192 to R194). -/

namespace Sys2Proof.Machine

/-! ### What the dispatch of an event pays (R177) -/

/-- The snoop response that an event type stands for. -/
def rspOfNum (t : Nat) : Option RspOp :=
  [RspOp.rspI, RspOp.rspS, RspOp.rspE, RspOp.miss, RspOp.fwdI, RspOp.fwdS, RspOp.fwdO, RspOp.dataI, RspOp.dataK,
   RspOp.wbPending].find? (fun o => decide (o.num.toNat = t))

/-- The dispatch of an event removes the item that the event answers. -/
def payEvent (e : Event) (x : Ctx) : Ctx :=
  match e.typ.toNat with
  | 0x2A => { x with cmpIn := true, cmpTimer := false }
  | 0x34 => armCmp (payDatH e.es.toNat x)
  | 0x38 => payItem .mrdc x
  | 0x39 => payItem .mwrc x
  | 0x3E => payItem .ldwc x
  | t =>
    match rspOfNum t with
    | some op => takeRsp e.es.toNat op x
    | none => x

/-! ### Ending a transaction that an expiry or a trap has fogged (R99, R167) -/

/-- Hand a rule-run context over to the tables: its rule is gone, and what waited for it is paid. -/
def toTables (c : Nat) (s : State) : State :=
  match ctxOf s c with
  | some x =>
    if x.byRule then
      let evs := s.dev.ready.filter (fun e => decide (e.ctx = c)) ++ x.events
      let x := evs.foldl (fun x e => payEvent e x) x
      let s := updDev (fun d => { d with ready := d.ready.filter (fun e => decide (e.ctx ≠ c)),
                                         stalled := d.stalled.filter (fun p => decide (p.1 ≠ c)) }) s
      setCtx c { x with byRule := false, st := .run, inFlight := none, stall := none, opRes := none, job := none,
                        chain := 0, events := [],
                        phase := match x.kind with
                          | .evict _ _ => .snoops
                          | _ => .cmp } s
    else s
  | none => s

/-- Drop the writes of a context that wait for room: they have written nothing. -/
def dropWaitingWrites (c : Nat) (s : State) : State :=
  let n := (s.mem.pwbWait.filter (fun p => decide (p.ctx = c))).length
  let s := updMem (fun m => { m with pwbWait := m.pwbWait.filter (fun p => decide (p.ctx ≠ c)) }) s
  (List.range n).foldl (fun s _ => payOwed c (fun o => decide (o = .mwrc)) s) s

/-- End a writeback transaction that drops its data: CmpWb with status FOGGED (R167). -/
def endWbFogged (c w : Nat) (s : State) : List Nat × State :=
  let s := dropWaitingWrites c s
  match slotOf s w with
  | some p =>
    let s := if p.acked then s else sendCmpWb w (modSlot w (fun q => { q with status := .fogged }) s)
    retireCore c s
  | none => retireCore c s

/-- R99: complete a transaction whose answers do not come. The requester of a forwarded line, and of a transaction
whose completion has been sent, gets nothing more. -/
def expireTxn (c : Nat) (s : State) : List Nat × State :=
  let s := modCtx c (fun x => { x with expired := true }) (toTables c s)
  match ctxOf s c with
  | none => ([], s)
  | some x =>
    match x.kind with
    | .wb w => endWbFogged c w s
    | .mgmt _ => retireCore c (modCtx c (fun y => { y with status := .fogged }) s)
    | .back => ([], s)
    | .sweep _ => retireCore c s
    | .detach => retireCore c s
    | .evict _ _ => ([c], s)
    | .req _ =>
      let s := setPhase c .cmp s
      if x.cplSent then ([c], s)
      else if x.fwdPass then ([c], markSent c s)
      else
        match x.req with
        | none => ([c], s)
        | some p =>
          if p.op.isRead then ([c], completeDat c .i fogZero .fogged s)
          else endCpl c p.op.cplOp .fogged (dropWaitingWrites c s)

/-! ### Traps (R152, R157, R167 to R169) -/

/-- Count a trap, and fill ENG_TRAP_LO and ENG_TRAP_HI when they hold none (R167, R169). -/
def trapLog (c code rule : Nat) (x : Ctx) (s : State) : State :=
  let s := count 0x0C Units.block 1 s
  let s := wr s 0x020108 (satInc32 (rd s 0x020108))
  let s := if bitOf (rd s 0x020100) 31 then s
    else wr (wr s 0x020100 (w64 (code + 2 ^ 16 * x.ts + 2 ^ 30 * b2n x.reelB + 2 ^ 31))) 0x020104
      (w64 (rule + 2 ^ 16 * c))
  let win := s.aon.ft.toNat / 4000000
  updDev (fun d => { d with trapCount := if d.trapWin = win then d.trapCount + 1 else 1, trapWin := win }) s

/-- A TRAP record (Table FAULT-10, FMT 2). -/
def trapRec (c code rule : Nat) (x : Ctx) : PsRec :=
  ⟨2, 0xFF, code + 2 ^ 15 * b2n x.reelB + 2 ^ 16 * x.ts, rule + 2 ^ 16 * c, x.ea.toNat % 2 ^ 32,
   x.ea.toNat / 2 ^ 32⟩

/-- A list of actions that each return contexts to go on with. -/
def gather {α : Type} (f : α → State → List Nat × State) (l : List α) (s : State) : List Nat × State :=
  l.foldl (fun acc a =>
    match f a acc.2 with
    | (t, s) => (acc.1 ++ t, s)) ([], s)

/-- An eviction that trapped: the sector's lines are recorded FOGGED in an entry of the sheet, and the eviction ends
(R167). -/
def trapEvict (k : Nat) (s : State) : List Nat × State :=
  match sFind s.sheet.evSlots k with
  | none => ([], s)
  | some v =>
    let s := updSheet (fun y => { y with evSlots := sDel y.evSlots k }) s
    let e := { v.entry with lst := ⟨.fogged, .fogged, .fogged, .fogged⟩, own := ⟨0, 0, 0, 0⟩, age := 0 }
    let s := v.entry.lst.list.foldl (fun s l => countFog l .fogged (some e.tray) s) s
    let wait := (List.range 4).map (fun j => (4 * v.sector + j, e.tray))
    let r := match allocate v.sector e s with
      | some r => r
      | none => ([], updSheet (fun y => { y with fogWait := y.fogWait ++ wait }) s)
    let mine := r.2.dev.ctxs.filter (fun p => match p.2.kind with
      | .evict j _ => decide (j = k)
      | _ => false)
    match gather (fun (p : Nat × Ctx) s => retireCore p.1 s) mine r.2 with
    | (t, s) => (r.1 ++ t, drainCheck s)

/-- The record of a trap: with cause TRAP where the trap fogs one of these lines (R167, R170, R327). -/
def trapCause (r : PsRec) (lines : List Nat) (s : State) : State :=
  if lines.all (fun l => decide ((recOf s l).lst = .fogged)) then psWrite .trap .de r s else raise .trap 0 r s

/-- The lines that a trapping context fogs: those it holds latent, and in a sweep those of the sector it has reached (R167). -/
def trapScope (x : Ctx) : List Nat :=
  match x.kind with
  | .sweep _ => (x.held ++ (List.range 4).map (fun k => x.eaLine / 4 * 4 + k)).dedup
  | _ => x.held

/-- Fog the lines of a trapping context and complete its transaction. -/
def trapLines (c : Nat) (r : PsRec) (x : Ctx) (s : State) : List Nat × State :=
  let fresh := (trapScope x).filter (fun l => decide ((recOf s l).lst ≠ .fogged))
  let s := trapCause r fresh s
  match gather (fun l s => fogMark l (x.tray.getD 0) s) fresh s with
  | (t, s) =>
    match expireTxn c s with
    | (u, s) => (t ++ u, s)

/-- The sector of an eviction slot. -/
def evictSector (s : State) (k : Nat) : Nat := ((sFind s.sheet.evSlots k).map (·.sector)).getD 0

/-- A trap with a code at a rule: its handler ends there (R167). -/
def trap (c code rule : Nat) (s : State) : State :=
  match ctxOf s c with
  | none => s
  | some x =>
    let r := trapRec c code rule x
    let s := trapLog c code rule x s
    match x.kind with
    | .evict k _ =>
      (match trapEvict k (trapCause r ((List.range 4).map (fun j => evictSector s k * 4 + j)) s) with
       | (t, s) => go t s)
    | _ =>
      (match trapLines c r x s with
       | (t, s) => go t s)

/-! ### Fetch lines (R161 to R163) -/

/-- Does a fetch line agree with its CRC? -/
def lineGood (s : State) (slotB : Bool) (k : Nat) : Bool :=
  decide (crc32 (fetchBytes s slotB k) = lineCrcOf s slotB k)

/-- ENG_BACKING.SRC of a slot: 0 NONE, 1 POOL, 2 CAP. -/
def backingSrc (s : State) (slotB : Bool) : Nat := rdf s (if slotB then 0x020028 else 0x020020) 0 2

/-- ENG_BACKING.BASE of a slot. -/
def backingBase (s : State) (slotB : Bool) : Nat := rdf s (if slotB then 0x020028 else 0x020020) 20 22

/-- The slot and the line of a fetch key. -/
def keyLine (key : Nat) : Bool × Nat := (decide (8512 ≤ key), key % 8512)

/-- Name the oldest CAP refetch in ENG_REFILL_REQ, one at a time (R163). -/
def refillAsk (s : State) : State :=
  if bitOf (rd s 0x020030) 31 then s
  else
    match s.dev.refetch.find? (fun key => decide (backingSrc s (keyLine key).1 = 2)) with
    | some key =>
      raise0 .refillReq (wr s 0x020030 (w64 ((keyLine key).2 + 2 ^ 30 * b2n (keyLine key).1 + 2 ^ 31)))
    | none => s

/-- A context meets a fetch line whose CRC does not match: it stalls; the first mismatch of the line starts a refetch,
another one, or a slot without a backing copy, is a GF fault (R162). -/
def mismatch (c : Nat) (slotB : Bool) (k : Nat) (what : Fetch) (s : State) : State :=
  let key := fetchKey slotB k
  let s := modCtx c (fun x => { x with stall := some what }) s
  let s := updDev (fun d => { d with stalled := d.stalled ++ [(c, key)] }) s
  if s.dev.refetch.contains key then s
  else if 1 ≤ sGet 0 s.dev.misMatch key then raise .fetchDouble 0 (storeRec 2 slotB k) s
  else if backingSrc s slotB = 0 then raise .fetchNoback 0 (storeRec 2 slotB k) s
  else refillAsk (updDev (fun d => { d with misMatch := sSet d.misMatch key 1, refetch := d.refetch ++ [key] }) s)

/-! ### Entering a rule (R157, R172, R193, R194) -/

/-- The word of a rule in a slot. -/
def ruleWord (s : State) (slotB : Bool) (a : Nat) : Nat := reelNat s slotB (16 * a) 16

/-- A rule execution: it counts, and is one that SAMPLE may record where it is among the first 64 since a counter wrapped
(R315, R318). -/
def ruleRuns (c a : Nat) (x : Ctx) (s : State) : State :=
  let s := count 0x01 Units.block 1 s
  if s.meter.sampleReq.isSome && decide (s.meter.runs.length < 64) then
    updMeter (fun m => { m with runs := m.runs ++ [⟨x.ts, c, x.reelB, BitVec.ofNat 15 a, s.aon.ft, x.ea⟩] }) s
  else s

/-- A rule enters the pipeline: beyond the rule count it traps RULE_RANGE, as the ninth of its chain CHAIN_LONG; its
GUARD is evaluated on what the context holds (R172). -/
def enterRule (c a : Nat) (s : State) : State :=
  match ctxOf s c with
  | none => s
  | some x =>
    if reelRules s x.reelB ≤ a then trap c 0x7F04 a s
    else if 8 ≤ x.chain then trap c 0x7F03 a s
    else if lineGood s x.reelB (a / 4) then
      let s := ruleRuns c a x s
      let f : InFlight := { addr := BitVec.ofNat 15 a, word := BitVec.ofNat 128 (ruleWord s x.reelB a),
                            guard := guardHolds s x (ruleWord s x.reelB a / 2 ^ 104), stage := 0, sv := x.sv, so := x.so, ss := x.ss, code := x.code }
      setCtx c { x with chain := x.chain + 1, inFlight := some f, lastRule := f.addr, stall := none } s
    else mismatch c x.reelB (a / 4) (.rule a) (setCtx c { x with inFlight := none } s)

/-- Read the dispatch entry of an index and enter its rule (R151, R152, R194). -/
def fetchDispatch (c idx : Nat) (s : State) : State :=
  match ctxOf s c with
  | none => s
  | some x =>
    let k := 8192 + idx / 32
    if lineGood s x.reelB k then
      let e := reelNat s x.reelB (0x80000 + 2 * idx) 2
      let s := setCtx c { x with stall := none } s
      if e / 2 ^ 15 = 1 then enterRule c (e % 2 ^ 15) s else trap c 0x7F01 idx s
    else mismatch c x.reelB k (.dispatch idx) s

/-- Go on with a context whose fetch line has been repaired. -/
def unstall (c : Nat) (s : State) : State :=
  match ctxOf s c with
  | some x =>
    (match x.stall with
     | some (.dispatch idx) => fetchDispatch c idx s
     | some (.rule a) => enterRule c a s
     | some .const => setCtx c { x with stall := none } s
     | none => s)
  | none => s

/-! ### Dispatch (R145 to R153) -/

/-- The event that goes first: the nearest deadline, then the first to arrive (R149). -/
def firstEvent (s : State) : List Event → Option Event
  | [] => none
  | e :: es =>
    match firstEvent s es with
    | some f => if nearer s f.ed e.ed then some f else some e
    | none => some e

/-- The ready events of a channel: at most 64, the first to arrive; what comes later waits in its inbound FIFO or its request
buffer (R149). -/
def readyOn (s : State) (ts : Nat) : List Event := (s.dev.ready.filter (fun e => decide (e.ts = ts))).take 64

/-- Has a channel a chain continuation to run? It goes ahead of the channel's new events (R149). -/
def continues (s : State) (ts : Nat) : Bool :=
  s.dev.ctxs.any (fun p => decide (p.2.ts = ts) && decide (p.2.st = .run) && decide (2 ≤ p.2.chain) && p.2.stall.isNone &&
    p.2.opRes.isNone && p.2.job.isNone && (match p.2.inFlight with
                                           | some r => decide (r.stage = 0)
                                           | none => false))

/-- A WBK that joined the context is the one its handler now works on: its data, but for a partial one not merged yet, and its
writer are the context's from now on (R88, R175, R177, R188). -/
def takeWbk (c : Nat) (e : Event) (s : State) : State :=
  match s.home.wslots.find? (fun p => decide (p.2.agent = e.es.toNat) && decide (p.2.place = .joined c) &&
      decide (p.2.txid.toNat = fld e.ex 8 12)) with
  | some (w, p) =>
    modCtx c (fun x => { x with wbd := some w, wbData := if p.ptl then none else some { data := p.data, fog := p.fog },
                                writer := some (p.agent, p.txid), owed := coverOwed p.agent x })
      (modSlot w (fun q => { q with place := .absorbed c }) s)
  | none => s

/-- What the block decides itself when a REQ's event is dispatched: an operation without effect (R41), and an AtC
without a reservation (R77), complete at once. None: the rules run. -/
def reqFirst (c : Nat) (e : Event) (x : Ctx) (s : State) : Option State :=
  match x.req with
  | some p =>
    if 0x0C ≤ e.typ.toNat then none
    else if emptyReq p then
      (match endCpl c .cmpW .zero (toTables c s) with
       | (t, s) => some (go t s))
    else if p.op = .atc && !x.resvOk && !reserved s p.req.agent (x.gran s) p.line then
      (match endCpl c .cmpW .scFail (toTables c s) with
       | (t, s) => some (go t s))
    else none
  | none => none

/-- An AtC that is dispatched with its reservation consumes it (R77). -/
def atcTake (c : Nat) (x : Ctx) (s : State) : State :=
  match x.req with
  | some p =>
    if p.op = .atc && !x.resvOk then
      modCtx c (fun y => { y with resvOk := true }) (unreserve p.req.agent (x.gran s) p.line s)
    else s
  | none => s

/-- Load an event into its context (R156), pay what it answers (R177), and fetch its first rule (R151). -/
def dispatchEvent (e : Event) (s : State) : State :=
  let c := e.ctx
  match ctxOf s c with
  | none => raise0 .stray s
  | some x =>
    match reqFirst c e x s with
    | some s => s
    | none =>
      let x := payEvent e x
      let x := if wbkHere s c e.es.toNat then stopSnoop e.es.toNat x else x
      let x := { x with ts := e.ts, ea := e.ea, es := e.es, ed := e.ed, ex := e.ex, chain := 0, st := .run,
                        code := e.code.getD x.code }
      let s := atcTake c x (setCtx c x s)
      let s := if 0x18 ≤ e.typ.toNat ∧ e.typ.toNat ≤ 0x1C then takeWbk c e s else s
      fetchDispatch c (x.variant.toNat * 1024 + e.typ.toNat * 16 + x.code.toNat) s

/-- A bit of a fetch line has changed in a reel slot's SRAM: its stored CRC stays (R161). -/
def flipByte (slotB : Bool) (f : Option SymErr) (s : State) : State :=
  match f with
  | some (a, b) => if a < 0x85000 then reelStore slotB a [memGet (reelBytes s slotB) a ^^^ b] s else s
  | none => s

/-- Has the management request in hand begun, or does it wait in a chain? -/
def mreqBegun (s : State) : Bool :=
  s.dev.ctxs.any (fun p => (match p.2.kind with
    | .mgmt _ => true
    | _ => false) && decide (p.2.st ≠ .quarantined)) ||
  s.home.chains.any (fun q => q.2.any (fun w => decide (w.who = .mreq)))

/-- Take the management request in hand on: it waits in its line's chain as a REQ would, or begins (R150, chapter 06). -/
def mreqAdvance (s : State) : State :=
  let a := rd s 0x020200
  if isSafe s || !s.dev.running || !bitOf (rd s 0x02020C) 31 || mreqBegun s then s
  else
    let line := fld a 6 36
    let has := bitOf a 0
    if has && bankHeld s (bankOf (line / 4)) then s
    else if has && (holderOf s line).isSome then
      let w : Waiter := { who := .mreq, agent := none, stream := 0, deadline := s.dev.mreqAt, passed := 0 }
      setChain line (chainInsert s w (chainOf s line)) s
    else
      match takeEntry s with
      | some (c, s) => beginMgmt c (if has then some line else none) s.dev.mreqAt s
      | none => s

/-- EVENT_DISPATCH: a ready event of channel `ts` takes an issue slot; `flip` is a bit error of the SRAM that its
fetch meets. -/
def opEventDispatch (ts : Nat) (flip : Option SymErr) (s : State) : State :=
  if isSafe s || !s.dev.running || continues s ts then s
  else
    let s := if ts = 43 then mreqAdvance s else s
    match firstEvent s (readyOn s ts) with
    | none => s
    | some e =>
      let s := updDev (fun d => { d with ready := d.ready.erase e }) s
      let slotB := match ctxOf s e.ctx with
        | some x => x.reelB
        | none => false
      dispatchEvent e (flipByte slotB flip s)

/-! ### Parking (R149, R153, R192) -/

/-- Park a context; its oldest pending event becomes ready. -/
def park (c : Nat) (s : State) : State :=
  match ctxOf s c with
  | none => s
  | some x =>
    let x := { x with st := .parked, inFlight := none, chain := 0, parkedAt := s.aon.ft }
    match x.events with
    | [] => setCtx c x s
    | e :: es => updDev (fun d => { d with ready := d.ready ++ [e] }) (setCtx c { x with events := es } s)

/-! ### Steps of the rule in flight (R172, R173, R192) -/

/-- May the rule in flight of a context go on: nothing of it stalls or waits for a result? -/
def ruleMoves (s : State) (x : Ctx) : Bool :=
  !isSafe s && s.dev.running && decide (x.st = .run) && x.byRule && x.stall.isNone && x.opRes.isNone && x.job.isNone

/-- What a STEER traps with: a target beyond the rule count, a TRAP's code, or ILL_OPC for a code of the block's own
(R192, R193). -/
def steerFault (s : State) (x : Ctx) (guard : Bool) (mode tt ft : Nat) : Option Nat :=
  let range := fun (t : Nat) => if t ≠ 0 && decide (reelRules s x.reelB ≤ t) then some 0x7F04 else none
  if !guard then range ft
  else if mode = 0 then range tt
  else if mode = 3 then (if 0x7F00 ≤ tt then some 0x7F05 else some tt)
  else none

/-- OPER of a rule word: bits [103:72] (Table RULE-1). -/
def InFlight.oper (r : InFlight) : Nat := r.word.toNat / 2 ^ 72 % 2 ^ 32
/-- SEND of a rule word: bits [71:32]. -/
def InFlight.send (r : InFlight) : Nat := r.word.toNat / 2 ^ 32 % 2 ^ 40
/-- STEER of a rule word: bits [31:0]. -/
def InFlight.steer (r : InFlight) : Nat := r.word.toNat % 2 ^ 32

/-- What the STEER of the rule in flight traps with. -/
def ownSteerFault (s : State) (x : Ctx) (r : InFlight) : Option Nat :=
  let v := r.steer
  steerFault s x r.guard (v / 2 ^ 30) (v / 2 ^ 15 % 2 ^ 15) (v % 2 ^ 15)

/-- The rule in flight has come to a stage. -/
def setStage (c n : Nat) (s : State) : State :=
  modCtx c (fun x => { x with inFlight := x.inFlight.map (fun r => { r with stage := n }) }) s

/-- Deliver the result of a sheet or latent operation into the context. -/
def deliver (x : Ctx) : Ctx :=
  match x.opRes with
  | some r =>
    let x := putOpd r.d r.val x
    let x := match r.sheet with
      | some (sv, so, ss) => { x with sv := sv, so := so, ss := ss }
      | none => x
    { x with code := r.code.getD x.code, opRes := none }
  | none => x

/-! ### Meanings -/

/-- EVENT_DISPATCH (R150, R153). -/
def execEventDispatch (ts : Nat) (flip : Option SymErr) (s : State) : Out :=
  onUnit (decide (ts < 44)) (live (opEventDispatch ts flip)) s

/-- SHEET_OP_RESULT (R173). -/
def execSheetOpResult (c : Nat) (s : State) : Out := onUnit (okCtx c) (live (modCtx c deliver)) s

end Sys2Proof.Machine
end

