-- ==== Sys2Proof/Machine/Rule.lean ====
section
/-! DEFINITION. The rule in flight as a whole: what its SEND traps with, when it waits, and how its OPER, SEND and STEER
take effect one after another, or none of them where the rule traps (R167, R172, R173, R175, R185 to R191). -/

namespace Sys2Proof.Machine

/-! ### Data sources (R188) -/

/-- What a data source holds: DSRC or SRC 0 MEM, 1 HBUF, 2 WBD, 3 ZERO. -/
inductive Source where
  | data (d : LineData)
  | wait
  | nothing
  deriving DecidableEq, Repr

/-- May the read take place now that merges a partial writeback onto its line's current data (R69, R188)? -/
def mergeReads (s : State) (p : WSlot) : Bool := readAtOnce s p.line || mayIssue s s.mem.opSeq Config.blockSource false false p.line

/-- A data source of a transaction. -/
def sourceOf (s : State) (x : Ctx) (src : Nat) : Source :=
  match src with
  | 0 =>
    (match x.mem with
     | some b =>
       (match b.got with
        | some d => .data d
        | none => .wait)
     | none => .nothing)
  | 1 =>
    (match x.hbuf with
     | some d => .data d
     | none => .nothing)
  | 2 =>
    (match x.wbData with
     | some d => .data d
     | none => (match x.wbd.bind (slotOf s) with
                | some p => if p.ptl && !mergeReads s p then .wait else .data { data := p.data, fog := p.fog }
                | none => .nothing))
  | _ => .data { data := 0, fog := false }

/-! ### SEND arguments (Tables RULE-9 to RULE-12) -/

/-- The snoop of an opcode. -/
def snpOfNum (n : Nat) : Option SnpOp :=
  match n with
  | 0x10 => some .i
  | 0x11 => some .fs
  | 0x12 => some .fx
  | 0x13 => some .h
  | 0x14 => some .c
  | _ => none

/-- The completion without data of an opcode; CmpB is STPB's alone (R186). -/
def cplOfNum (n : Nat) : Option CplOp :=
  match n with
  | 0x2C => some .cmpO
  | 0x2D => some .cmpW
  | 0x2E => some .cmpWb
  | _ => none

/-- The DAT of an opcode that the home sends. -/
def datOfNum (n : Nat) : Option DatOp :=
  match n with
  | 0x30 => some .s
  | 0x31 => some .e
  | 0x32 => some .m
  | 0x33 => some .i
  | _ => none

/-- A completion status by its code (Table LINE-9). -/
def statusOfNum (n : Nat) : Option Status :=
  match n with
  | 0 => some .ok
  | 1 => some .zero
  | 2 => some .fogged
  | 3 => some .errAddr
  | 4 => some .errOpc
  | 5 => some .errField
  | 6 => some .scFail
  | _ => none

/-- The cause of a FOG (Table RULE-12). -/
def fogCause (n : Nat) : Option Cause :=
  match n with
  | 0 => some .reel
  | 1 => some .selfOwner
  | 2 => some .ownerMiss
  | 3 => some .detachDirty
  | 4 => some .tSnoop
  | 5 => some .tCmp
  | 6 => some .ldwMix
  | 7 => some .ldwBad
  | _ => none

/-- The operand that argument bits [27:24] name. -/
def argOpd (x : Ctx) (args : BitVec 34) : W64 := opd x (BitVec.ofNat 4 (fld args 24 4))

/-- ILL_OPC and SINK (Table DEV-9). -/
def illOpc : Nat := 0x7F05
/-- SINK. -/
def sinkTrap : Nat := 0x7F07

/-! ### What a SEND traps with (R175, R186, R187) -/

/-- Does a snooped agent still owe the transaction an answer, or the writeback that completes it (R90)? -/
def owing (x : Ctx) (a : Nat) : Bool := (owesFrom x a).isSome || owesWbk x a

/-- Does a forwarding snoop of the transaction still owe its answer? -/
def fwdOwed (x : Ctx) : Bool :=
  x.owed.any (fun o => match o with
    | .ans _ op _ _ => decide (op = .fs) || decide (op = .fx)
    | _ => false)

/-- The trap of a snoop SEND. A forwarding snoop with the reserved FGR 3 traps ILL_OPC: DESIGN CHOICE, log entry 25. -/
def snoopFault (x : Ctx) (op : SnpOp) (a : Nat) (args : BitVec 34) : Option Nat :=
  let fwd := decide (op = .fs) || decide (op = .fx)
  let rqBad := match agentSel x (BitVec.ofNat 4 (fld args 20 4)) with
    | .agent .. => false
    | _ => true
  if fwd && (rqBad || decide (fld args 14 2 = 3)) then some illOpc
  else if fwd && fwdOwed x then some sinkTrap
  else if (decide (op = .h) || decide (op = .c)) && x.hclaim.isSome then some sinkTrap
  else if owing x a then some sinkTrap
  else none

/-- The trap of a DAT or MWR whose source holds nothing. -/
def sourceFault (s : State) (x : Ctx) (src : Nat) : Option Nat :=
  match sourceOf s x src with
  | .nothing => some sinkTrap
  | _ => none

/-- The trap of a message SEND. A reserved STATUS code is an illegal encoding. DESIGN CHOICE, log entry 25. -/
def messageFault (s : State) (x : Ctx) (args : BitVec 34) : Option Nat :=
  let n := fld args 28 6
  match agentSel x (BitVec.ofNat 4 (fld args 24 4)) with
  | .agent a _ =>
    (match snpOfNum n with
     | some op => snoopFault x op a args
     | none =>
       if (cplOfNum n).isNone && (datOfNum n).isNone then some illOpc
       else if (statusOfNum (fld args 16 4)).isNone then some illOpc
       else if (datOfNum n).isSome then sourceFault s x (fld args 12 2)
       else none)
  | _ => some illOpc

/-- The trap of a SEND, of any SOP. -/
def sendFault (s : State) (x : Ctx) (sop : Nat) (args : BitVec 34) : Option Nat :=
  match sop with
  | 0 => none
  | 1 => messageFault s x args
  | 2 => if (agentsOf (lo32 (argOpd x args))).any (owing x) then some sinkTrap else none
  | 3 => if fld args 22 2 = 3 then some illOpc else none
  | 4 => sourceFault s x (fld args 22 2)
  | 5 => none
  | 6 => if (fogCause (fld args 20 4)).isNone then some illOpc else none
  | 7 => none
  | 8 =>
    (match agentSel x (BitVec.ofNat 4 (fld args 24 4)) with
     | .agent .. => none
     | _ => some illOpc)
  | _ => some illOpc

/-- Does a SEND wait at EXE for a memory read (R188)? -/
def sendWaits (s : State) (x : Ctx) (sop : Nat) (args : BitVec 34) : Bool :=
  match sop with
  | 1 => (datOfNum (fld args 28 6)).isSome && decide (sourceOf s x (fld args 12 2) = .wait)
  | 4 => decide (sourceOf s x (fld args 22 2) = .wait)
  | _ => false

/-! ### The three steps of a rule (R167, R172) -/

/-- The OPER field of an operation: its I = 0 opcode, or the next one for its immediate form, with D, A and B (Tables RULE-1,
RULE-6). -/
def operField (o : Oper) (opc : Nat) : Nat :=
  (opc + b2n o.imm) * 2 ^ 26 + o.d.toNat * 2 ^ 22 + o.a.toNat * 2 ^ 18 + o.b.toNat

/-- What the SEND and the STEER of the rule in flight trap with once its OPER has acted. -/
def laterFault (c : Nat) (s : State) : Option Nat :=
  match ctxOf s c with
  | none => none
  | some x =>
    match x.inFlight with
    | none => none
    | some r =>
      let v := r.send
      let y := (deliver x).seen
      match sendFault s y (v / 2 ^ 34) (BitVec.ofNat 34 v) with
      | some code => some code
      | none => ownSteerFault s x r

/-- The OPER of the rule in flight: with a true GUARD it takes effect, once, where the rule word holds this operation (R171, R172).
Where the rule's SEND or STEER then traps, nothing of the rule takes effect (R167). -/
def atOper (c : Nat) (is : Nat → Bool) (f : Ctx → InFlight → State → State) (s : State) : State :=
  match ctxOf s c with
  | none => s
  | some x =>
    match x.inFlight with
    | none => s
    | some r =>
      if !(ruleMoves s x && r.guard && decide (r.stage = 0) && is r.oper) then s
      else
        let t := f x.seen r s
        if ((ctxOf t c).bind (·.stall)).isSome then t
        else
          match laterFault c t with
          | some code => trap c code r.addr.toNat s
          | none => setStage c 1 t

/-- The SEND of the rule in flight, once its OPER has taken effect. -/
def atSend (c sop : Nat) (args : BitVec 34) (f : Ctx → State → State) (s : State) : State :=
  match ctxOf s c with
  | none => s
  | some x =>
    match x.inFlight with
    | none => s
    | some r =>
      if !(ruleMoves s x && r.guard && decide (r.stage = 1) && decide (r.send = sop * 2 ^ 34 + args.toNat)) ||
          sendWaits s x.seen sop args then s
      else
        match sendFault s x.seen sop args with
        | some code => trap c code r.addr.toNat s
        | none =>
          match ownSteerFault s x r with
          | some code => trap c code r.addr.toNat s
          | none => setStage c 2 (f x.seen s)

/-- Is a STEER the one of the rule in flight? In AWAIT and RETIRE the block ignores TT (R192). -/
def ownSteer (r : InFlight) (mode : Nat) (tt ft : BitVec 15) : Bool :=
  decide (r.steer / 2 ^ 30 = mode) && decide (r.steer % 2 ^ 15 = ft.toNat) &&
  (decide (mode = 1) || decide (mode = 2) || decide (r.steer / 2 ^ 15 % 2 ^ 15 = tt.toNat))

/-- The STEER of the rule in flight: with a true GUARD once its SEND has taken effect, with a false one at once (R172); that of a
rule whose STPB has not completed waits (R191). -/
def atSteer (c mode : Nat) (tt ft : BitVec 15) (f : Ctx → State → State) (s : State) : State :=
  match ctxOf s c with
  | none => s
  | some x =>
    match x.inFlight with
    | none => s
    | some r =>
      if !(ruleMoves s x && decide (r.stage = if r.guard then 2 else 0) && ownSteer r mode tt ft) || decide (x.phase = .bath) then s
      else
        match steerFault s x r.guard mode tt.toNat ft.toNat with
        | some code => trap c code r.addr.toNat s
        | none =>
          if r.guard then f x s
          else if ft = 0 then park c s
          else enterRule c ft.toNat s

/-- An operation that traps ILL_OPC at its rule. -/
def ill (c : Nat) (r : InFlight) (s : State) : State := trap c illOpc r.addr.toNat s

end Sys2Proof.Machine
end

