-- ==== Sys2Proof/Machine/RuleSheet.lean ====
section
/-! DEFINITION. The sheet and latent operations of OPER (R115, R120, R121, R173, R182 to R184, Table RULE-8). -/

namespace Sys2Proof.Machine

/-! ### The context's copy of its sector (R173) -/

/-- The entry that holds a sector: in the sheet, or in an eviction slot. -/
def heldEntry (s : State) (sec : Nat) : Option Entry :=
  match findEntry s sec with
  | some (_, e) => some e
  | none => (evictOf s sec).map (fun p => p.2.entry)

/-- SV, SO and SS as the sheet now gives them for a line. -/
def sheetCopy (s : State) (line : Nat) : BitVec 32 × BitVec 20 × BitVec 22 :=
  match heldEntry s (line / 4) with
  | some e => (e.sv, soOf e, ssOf (some e) (line % 4))
  | none => (0, 0, ssOf none (line % 4))

/-- Load the context's copy and CODE for the line of EA from the sheet (R27, R173). -/
def reload (c : Nat) (s : State) : State :=
  modCtx c (fun x =>
    match sheetCopy s x.eaLine with
    | (sv, so, ss) => { x with sv := sv, so := so, ss := ss, code := (codeOf s x.eaLine (recOf s x.eaLine) x.tray).num }) s

/-- A result leaves for the context (R173). -/
def answer (c : Nat) (d : BitVec 4) (v : W64) (s : State) : State :=
  modCtx c (fun x => { x with opRes := some { d := d, val := v, sheet := none, code := none } }) s

/-! ### SLK and SEVT -/

/-- SLK: look up the sector of A; AGE stays. An uncorrectable way gives no result (R113). -/
def opSlk (c : Nat) (o : Oper) (s : State) : State :=
  atOper c (fun w => decide (w = operField o 0x20)) (fun x r s =>
    if o.imm || !canWrite o.d then ill c r s
    else
      let line := lineOfAddr (opd x o.a)
      match lookup (line / 4) s with
      | (.noResult, s) => s
      | (.miss, s) =>
        let res : OpRes := { d := o.d, val := 0, sheet := some (0, 0, ssOf none (line % 4)), code := none }
        modCtx c (fun y => { y with opRes := some res }) s
      | (.hit _ e, s) =>
        let res : OpRes := { d := o.d, val := 1, sheet := some (e.sv, soOf e, ssOf (some e) (line % 4)), code := none }
        modCtx c (fun y => { y with opRes := some res }) s) s

/-- SEVT: move the sector of A into an eviction slot; 0 when it has no entry, a latent line, or no slot is free. It answers 0 as
well where the four latent-table entries that the slot's lines take (R103) are not free: DESIGN CHOICE, log entry 53. -/
def opSevt (c : Nat) (o : Oper) (s : State) : State :=
  atOper c (fun w => decide (w = operField o 0x26)) (fun x r s =>
    if o.imm || !canWrite o.d then ill c r s
    else
      let sec := lineOfAddr (opd x o.a) / 4
      match findEntry s sec with
      | some (w, e) =>
        if !sectorLatent s sec && evictReady s then
          let s := quotaCheck e.tray (putWay (wayKey (bankOf sec) (setOf sec) w) none s)
          match evictStart sec w e s with
          | (t, s) => go t (answer c o.d 1 s)
        else answer c o.d 0 s
      | none => answer c o.d 0 s) s

/-! ### SUP and SALL -/

/-- Update a line's record: in the entry its sector has, or in one allocated for it unless that would be idle (R183).
None: the allocation waits (R121). A grant of E or M clears the granule's reservations (R78). -/
def supApply (line tray : Nat) (l : Lst) (own : Nat) (extra : BitVec 32) (s : State) : Option (List Nat × State) :=
  let sec := line / 4
  let s := if l = .e ∨ l = .m then clearResv line s else s
  if (heldEntry s sec).isSome then some ([], setRec line l own extra s)
  else
    let e := applyUpdate (newEntry sec tray) (line % 4) l own extra
    if isIdle e then some ([], s)
    else (allocate sec e s).map (fun p => (p.1, countFog .i l (some tray) p.2))

/-- Run a SUP, now or once an entry can be allocated. -/
def supRun (c : Nat) (x : Ctx) (l : Lst) (own : Nat) (extra : BitVec 32) (s : State) : State :=
  match supApply x.eaLine (x.tray.getD 0) l own extra s with
  | some (t, s) => go t (reload c (modCtx c (fun y => { y with job := none }) s))
  | none => modCtx c (fun y => { y with job := some (.sup l own extra) }) s

/-- SUP: LSTk, OWNk and SV of the line of EA. -/
def opSup (c : Nat) (o : Oper) (s : State) : State :=
  atOper c (fun w => decide (w = operField o 0x22)) (fun x r s =>
    let v := rawB x o
    let sv := lo32 (opd x o.a)
    match lstOfCode (fld v 0 3), agentSel x o.d with
    | none, _ => ill c r s
    | _, .illegal => ill c r s
    | some l, .nobody => if l.owned then ill c r s else supRun c x l 0 sv s
    | some l, .agent a _ =>
      supRun c x l (if l.owned then a else 0) (if l.owned || bitOf v 3 then sv ||| abit a else sv) s) s

/-- The entry that SALL installs: LSTs and owners from bits [47:16], AGE 0, the context's tray. An owner field whose
state names none is 0 (R110), and SV is recomputed (R117). None: a reserved LST code. -/
def sallEntry (sec tray : Nat) (bits sv : BitVec 32) (spill : Bool) : Option Entry :=
  match lstOfCode (fld bits 0 3), lstOfCode (fld bits 3 3), lstOfCode (fld bits 6 3), lstOfCode (fld bits 9 3) with
  | some l0, some l1, some l2, some l3 =>
    let own := fun (l : Lst) (k : Nat) => if l.owned then fld bits (12 + 5 * k) 5 else 0
    some (recomputeSv { tag := tagOf sec, lst := ⟨l0, l1, l2, l3⟩, own := ⟨own l0 0, own l1 1, own l2 2, own l3 3⟩,
                        sv := sv, tray := tray, age := 0, spill := spill })
  | _, _, _, _ => none

/-- The result of a SALL: the entry's contents, and the CODE of the line. -/
def sallDone (c : Nat) (x : Ctx) (s : State) : State :=
  let code := (codeOf s x.eaLine (recOf s x.eaLine) x.tray).num
  let res : OpRes := { d := 0xF#4, val := 0, sheet := some (sheetCopy s x.eaLine), code := some code }
  modCtx c (fun y => { y with job := none, opRes := some res }) s

/-- Install an entry unless the sector has one; it waits where no entry can be allocated (R121). An entry that would be idle with
SPILL 0 is not installed and evicts nothing, as R183 says of SUP: DESIGN CHOICE, log entry 53. -/
def sallRun (c : Nat) (x : Ctx) (bits sv : BitVec 32) (spill : Bool) (s : State) : State :=
  let sec := x.eaLine / 4
  if (heldEntry s sec).isSome then sallDone c x s
  else
    match sallEntry sec (x.tray.getD 0) bits sv spill with
    | none => s
    | some e =>
      if isIdle e && !spill then sallDone c x s
      else
        match allocate sec e s with
        | some (t, s) => go t (sallDone c x s)
        | none => modCtx c (fun y => { y with job := some (.sall bits sv spill) }) s

/-- SALL: its I = 0 opcode is reserved, and a reserved LST code is illegal (log entry 25). -/
def opSall (c : Nat) (o : Oper) (s : State) : State :=
  atOper c (fun w => decide (w = operField o 0x24)) (fun x r s =>
    let bits := lo32 (opd x o.d)
    if !o.imm || (sallEntry 0 0 bits 0 false).isNone then ill c r s
    else sallRun c x bits (lo32 (opd x o.a)) (bitOf o.b 0) s) s

/-! ### FOG (R190) -/

/-- A FOG of cause DETACH_DIRTY fogs a line under Table RACE-6: the DetN of its owner says so (R95). -/
def noteDirty (cause : Cause) (r : Rec) (s : State) : State :=
  if cause = .detachDirty ∧ r.lst.owned then noteFogged r.own s else s

/-- Fog a line for a rule, once its sector has an entry or one can be allocated: the record, the cause, and the context's copy where
the line is of its sector (R121, R173, R190). -/
def fogRun (c line code : Nat) (x : Ctx) (s : State) : State :=
  let r := recOf s line
  let cause := (fogCause code).getD .reel
  let s := modCtx c (fun y => { y with job := none }) s
  if r.lst = .fogged then s
  else
    match ensureEntry line (x.tray.getD 0) s with
    | some (t, s) =>
      let other := if r.lst.owned then some r.own else none
      let s := noteDirty cause r (setRec line .fogged 0 0 (raise cause 0 (lineRec s line (some c) other) s))
      go t (if line / 4 = x.eaLine / 4 then reload c s else s)
    | none => modCtx c (fun y => { y with job := some (.fog line code) }) s

/-- A waiting SUP, SALL or FOG of a rule tries again (R121). -/
def jobRetry (c : Nat) (s : State) : State :=
  match ctxOf s c with
  | some x =>
    (match x.job with
     | some (.sup l own extra) => if isSafe s then s else supRun c x l own extra s
     | some (.sall bits sv spill) => if isSafe s then s else sallRun c x bits sv spill s
     | some (.fog line code) => if isSafe s then s else fogRun c line code x s
     | none => s)
  | none => s

/-! ### LTB, LTW and LTE (R184) -/

/-- May a context gain a further line: it is no writeback context, and it holds fewer than four? LTB and LTW answer 0 where it may
not (R155, R184 give the limits only): DESIGN CHOICE, log entry 53. -/
def mayGain (x : Ctx) : Bool :=
  decide (x.lines.length < 4) && (match x.kind with
                                  | .wb _ => false
                                  | _ => true)

/-- LTB: make the line of A latent for the context. -/
def opLtb (c : Nat) (o : Oper) (s : State) : State :=
  atOper c (fun w => decide (w = operField o 0x28)) (fun x r s =>
    if o.imm || !canWrite o.d then ill c r s
    else
      let line := lineOfAddr (opd x o.a)
      if (holderOf s line).isSome || !mayGain x then answer c o.d 0 s
      else
        match takeEntry s with
        | some (e, s) => answer c o.d 1 (lendEntry e c line s)
        | none => answer c o.d 0 s) s

/-- LTW: queue the context for the line of A. A line that is not latent is handed over at once. -/
def opLtw (c : Nat) (o : Oper) (s : State) : State :=
  atOper c (fun w => decide (w = operField o 0x2A)) (fun x r s =>
    if o.imm || !canWrite o.d then ill c r s
    else
      let line := lineOfAddr (opd x o.a)
      if !x.held.isEmpty || !mayGain x then answer c o.d 0 s
      else
        let w : Waiter := { who := .ctx c, agent := none, stream := 0, deadline := x.deadline, passed := 0 }
        let s := setChain line (chainInsert s w (chainOf s line)) s
        let s := if (holderOf s line).isSome then s
          else setHolder line (.handover none (codeOf s line (recOf s line) (trayOf s line))) s
        answer c o.d 1 s) s

/-- LTW_HEAD: a context at the head of a line's chain gains the line, and its event is dispatched again. -/
def opLtwHead (line : Nat) (s : State) : State :=
  match chainOf s line with
  | w :: _ =>
    (match w.who with
     | .ctx _ => opChainHead line s
     | _ => s)
  | [] => s

/-- LTE: end the latency of a line gained by LTB or LTW; D is written at once. -/
def opLte (c : Nat) (o : Oper) (s : State) : State :=
  atOper c (fun w => decide (w = operField o 0x2C)) (fun x r s =>
    if o.imm || !canWrite o.d then ill c r s
    else
      let line := lineOfAddr (opd x o.a)
      if x.lines.contains line then
        let s := modCtx c (fun y => putOpd o.d 1 { y with lines := y.lines.erase line }) s
        match freeLent line s with
        | (e, s) =>
          match releaseLine line e s with
          | (t, s) => go t s
      else modCtx c (putOpd o.d 0) s) s

/-! ### Meanings -/

/-- SLK (R182). -/
def execSlk (c : Nat) (o : Oper) (s : State) : Out := onUnit (okCtx c) (live (opSlk c o)) s

/-- SUP (R182, R183). -/
def execSup (c : Nat) (o : Oper) (s : State) : Out := onUnit (okCtx c) (live (opSup c o)) s

/-- SALL (R182). -/
def execSall (c : Nat) (o : Oper) (s : State) : Out := onUnit (okCtx c) (live (opSall c o)) s

/-- SEVT (R182). -/
def execSevt (c : Nat) (o : Oper) (s : State) : Out := onUnit (okCtx c) (live (opSevt c o)) s

/-- LTB (R184). -/
def execLtb (c : Nat) (o : Oper) (s : State) : Out := onUnit (okCtx c) (live (opLtb c o)) s

/-- LTW (R184). -/
def execLtw (c : Nat) (o : Oper) (s : State) : Out := onUnit (okCtx c) (live (opLtw c o)) s

/-- LTW_HEAD (R184). -/
def execLtwHead (line : Nat) (s : State) : Out := onUnit (okLine line) (live (opLtwHead line)) s

/-- LTE (R184). -/
def execLte (c : Nat) (o : Oper) (s : State) : Out := onUnit (okCtx c) (live (opLte c o)) s

end Sys2Proof.Machine
end

