-- ==== Sys2Proof/Machine/RuleSteer.lean ====
section
/-! DEFINITION. STEER: where a handler goes on, parks, RETIREs or traps (R157, R192, R193, Table RULE-13). -/

namespace Sys2Proof.Machine

/-- Continue at a target; 0 means park (R193). -/
def goTarget (c : Nat) (t : BitVec 15) (s : State) : State := if t = 0 then park c s else enterRule c t.toNat s

/-- CHAIN. -/
def opChain (c : Nat) (tt ft : BitVec 15) (s : State) : State :=
  atSteer c 0 tt ft (fun _ s => goTarget c tt s) s

/-- AWAIT. -/
def opAwait (c : Nat) (ft : BitVec 15) (s : State) : State := atSteer c 1 0 ft (fun _ s => park c s) s

/-- RETIRE a rule-run context: what its pending events answer is paid first; the owed set then decides between free and
quarantine (R101, R193). A line of an eviction is done, and the eviction RETIREs with its last line (R103). -/
def retireRule (c : Nat) (x : Ctx) (s : State) : State :=
  match x.kind with
  | .evict k _ =>
    (match evictLine c k (toTables c s) with
     | (t, s) => go t s)
  | _ =>
    let owed := (x.events.foldl (fun y e => payEvent e y) x).owed
    match retireCore c (setCtx c { x with owed := owed, events := [] } s) with
    | (t, s) => go t s

/-- RETIRE. -/
def opRetire (c : Nat) (ft : BitVec 15) (s : State) : State := atSteer c 2 0 ft (retireRule c) s

/-- TRAP with a code; the true action is the trap itself. -/
def opTrap (c : Nat) (code ft : BitVec 15) (s : State) : State := atSteer c 3 code ft (fun _ s => s) s

/-! ### Meanings -/

/-- CHAIN (R192). -/
def execChain (c : Nat) (tt ft : BitVec 15) (s : State) : Out := onUnit (okCtx c) (live (opChain c tt ft)) s

/-- AWAIT (R192). -/
def execAwait (c : Nat) (ft : BitVec 15) (s : State) : Out := onUnit (okCtx c) (live (opAwait c ft)) s

/-- RETIRE (R193). -/
def execRetire (c : Nat) (ft : BitVec 15) (s : State) : Out := onUnit (okCtx c) (live (opRetire c ft)) s

/-- TRAP (R167). -/
def execTrap (c : Nat) (code ft : BitVec 15) (s : State) : Out := onUnit (okCtx c) (live (opTrap c code ft)) s

end Sys2Proof.Machine
end

