-- ==== Sys2Proof/Machine/RuleSend.lean ====
section
/-! DEFINITION. The SEND operations of a rule, and the completion of a stop bath (R78, R92, R123, R126, R185 to R191, R212
to R216). -/

namespace Sys2Proof.Machine

/-! ### Messages (R186) -/

/-- A writer that is snooped again after its CmpWb keeps its slot for the data until the RETIRE (R89). -/
def holdSlots (c a : Nat) (s : State) : State :=
  updHome (fun h => { h with wslots := h.wslots.map (fun p =>
    if p.2.place = .absorbed c ∧ p.2.agent = a ∧ p.2.acked then (p.1, { p.2 with hold := true }) else p) }) s

/-- A snoop of a rule: sent, with an answer owed, or answered at once with RspI for an agent that does not serve the
line (R92, R177). -/
def ruleSnoop (c a : Nat) (op : SnpOp) (rq : Nat × BitVec 12) (fgr : Nat) (s : State) : State :=
  match ctxOf s c with
  | none => s
  | some x =>
    let line := x.eaLine
    if !serves s a x.tray line then
      postEvent (eventFor x c a 0x20#6 a 0x20) (oweMore c (.ans a op false false) s)
    else
      let s := oweMore c (.ans a op false true) (holdSlots c a s)
      let s := if op = .h ∨ op = .c then modCtx c (fun y => { y with hclaim := some a, hbuf := none }) s else s
      let s := if op = .fs ∨ op = .fx then modCtx c (fun y => { y with staging := some (portOutput rq.1) }) s else s
      if isG6 s a then send x.deadline (.biSnp a (biOf op) c (toAgentAddr s a line)) s
      else send x.deadline (.snp a op c rq.1 rq.2 fgr (toAgentAddr s a line) x.deadline) s

/-- The agent and TXID of a selector, 0 where it gives none. -/
def selPair (x : Ctx) (code : Nat) : Nat × BitVec 12 :=
  match agentSel x (BitVec.ofNat 4 code) with
  | .agent a t => (a, t)
  | _ => (0, 0)

/-- The line of a writeback before its first use: merged onto the line's current data where it is partial (R69, R188). -/
def mergeWbd (c : Nat) (p : WSlot) (s : State) : LineData × State :=
  let keep := fun (d : LineData) => modCtx c (fun y => { y with wbData := some d })
  if p.ptl then
    let dram := !readAtOnce s p.line
    match currentData p.line s with
    | (b, s) => (wbMerge p b, keep (wbMerge p b) (if dram then leadNext p.line s else s))
  else ({ data := p.data, fog := p.fog }, keep { data := p.data, fog := p.fog } s)

/-- Use a data source: MEM counts as named (R189), HBUF's buffer is claimed no more (R187). -/
def useSource (c src : Nat) (x : Ctx) (s : State) : LineData × State :=
  match src with
  | 0 =>
    ((x.mem.bind (·.got)).getD fogZero,
     modCtx c (fun y => { y with mem := y.mem.map (fun b => { b with used := true }) }) s)
  | 1 => (x.hbuf.getD fogZero, modCtx c (fun y => { y with hclaim := none }) s)
  | 2 =>
    (match x.wbData, x.wbd.bind (slotOf s) with
     | some d, _ => (d, s)
     | none, some p => mergeWbd c p s
     | none, none => (fogZero, s))
  | _ => ({ data := 0, fog := false }, s)

/-- The writeback slots whose CmpWb has been sent go once the transaction has sent its completion, but for those that R89 holds to
the RETIRE. -/
def trimSlots (c : Nat) (s : State) : State :=
  updHome (fun h => { h with wslots := h.wslots.filter (fun p =>
    !(decide (p.2.place = .absorbed c) && p.2.acked && !p.2.hold)) }) s

/-- Is an agent the transaction's requester? -/
def Ctx.isReqr (x : Ctx) (a : Nat) : Bool := decide (x.agent = some a)

/-- A DAT of a rule. A DatI with status OK that completes an AtR records its reservation (R76). To an agent that is sent nothing
the block sends nothing (R92, R186), and the transaction counts it as sent all the same: CPLSENT. DESIGN CHOICE, log entry
54. -/
def ruleDat (c : Nat) (x : Ctx) (op : DatOp) (a : Nat) (tx : BitVec 12) (st : Status) (args : BitVec 34) (s : State) : State :=
  match useSource c (fld args 12 2) x s with
  | (d, s) =>
    let form := if x.isReqr a then x.form else none
    let s := if muted s a x.tray x.line.isSome then s
      else sendDat (chanLane (chanNo s (x.line.getD 0))) a op c tx (d.fog || bitOf args 11) st x.deadline d.data form x.isUpg s
    let s := if x.kind = .req .atr ∧ x.isReqr a ∧ st = .ok then
        reserve a (x.tray.getD 0) (x.gran s) (x.line.getD 0) s
      else s
    trimSlots c (markSent c s)

/-- The writeback, of those the context absorbed or began, that a CmpWb of a rule acknowledges. -/
def wbdOf (s : State) (c a : Nat) (tx : BitVec 12) : Option Nat :=
  (s.home.wslots.find? (fun p => decide (p.2.agent = a) && decide (p.2.txid = tx) && !p.2.acked &&
    (decide (p.2.place = .absorbed c) || (decide (p.2.place = .txn) && decide (c = Config.latentEntries + p.1))))).map (·.1)

/-- A completion without data of a rule. A CmpWb carries HTID 0 (R74), and ZERO where its WBK had an empty mask (R13); the CmpW of a REQ means it has been processed at
the home (R213). -/
def ruleCpl (c : Nat) (x : Ctx) (op : CplOp) (a : Nat) (tx : BitVec 12) (st : Status) (s : State) : State :=
  let form := if x.isReqr a then x.form else none
  let isRd := match x.req with
    | some p => p.op.isRead && !x.isUpg
    | none => false
  match op with
  | .cmpWb =>
    (match wbdOf s c a tx with
     | some w =>
       let s := sendCmpWb w (modSlot w (fun p => { p with status := wbStatus p st }) s)
       if x.cplSent then trimSlots c s else s
     | none => if muted s a x.tray x.line.isSome then s else sendCpl a .cmpWb 0 tx st none false x.tray x.deadline s)
  | .cmpO =>
    let s := if muted s a x.tray x.line.isSome then s else sendCpl a .cmpO c tx st form isRd x.tray x.deadline s
    trimSlots c (markSent c s)
  | _ =>
    let s := if muted s a x.tray x.line.isSome then s else sendCpl a op c tx st form isRd x.tray x.deadline s
    match x.req with
    | some p => modPend p.seq (fun q => { q with processed := true }) s
    | none => s

/-- SEND 0x01: one message. -/
def ruleMessage (c : Nat) (args : BitVec 34) (x : Ctx) (s : State) : State :=
  let n := fld args 28 6
  match selPair x (fld args 24 4) with
  | (a, tx) =>
    let st := (statusOfNum (fld args 16 4)).getD .ok
    match snpOfNum n, cplOfNum n, datOfNum n with
    | some op, _, _ =>
      let fwd := op = .fs ∨ op = .fx
      ruleSnoop c a op (if fwd then selPair x (fld args 20 4) else (0, 0)) (if fwd then fld args 14 2 else 0) s
    | _, some op, _ => ruleCpl c x op a tx st s
    | _, _, some op => ruleDat c x op a tx st args s
    | _, _, _ => s

/-- SNPV: SnpI to every agent whose bit is set. -/
def ruleSnpv (c : Nat) (args : BitVec 34) (x : Ctx) (s : State) : State :=
  (agentsOf (lo32 (argOpd x args))).foldl (fun s a => ruleSnoop c a .i (0, 0) 0 s) s

/-! ### Memory (R189) -/

/-- EX of an MRDC (Table DEV-6): whether the read was uncorrectable, whether the line is fogged at rest, and its LDW. -/
def mrdcEx (uncor : Bool) (ldw : W32) : W64 :=
  w64 (0x38 + 2 ^ 6 * b2n uncor + 2 ^ 7 * b2n (ldwFogged ldw) + 2 ^ 8 * ldw.toNat)

/-- Raise MRDC for a rule-run context whose read of a line has completed, on that line's channel (R189). -/
def postMrdc (c line : Nat) (uncor : Bool) (ldw : W32) (s : State) : State :=
  match ctxOf s c with
  | some x => postEvent (eventFor x c (32 + chanNo s line) 0x38#6 0 (mrdcEx uncor ldw)) s
  | none => s

/-- MRD: an early read is never owed; another read's unnamed early data is discarded. -/
def ruleMrd (c : Nat) (args : BitVec 34) (x : Ctx) (s : State) : State :=
  let line := lineOfAddr (argOpd x args)
  let page := fld args 22 2
  let close := if page = 0 then x.pgc else decide (page = 2)
  let early := bitOf args 21
  let s := discardEarly c x s
  if bitOf args 20 then issueSector c line close s
  else
    let once := readAtOnce s line
    let s := issueRead c line early close s
    match once && !early, (ctxOf s c).bind (·.mem) with
    | true, some b => postMrdc c line b.uncor b.ldw (oweMore c .mrdc s)
    | _, _ => s

/-- Does a write of a rule store bytes for which R78 clears reservations: a REQ's own bytes, a WBK's, or DatH data
outside an AtR? -/
def clearsResv (x : Ctx) (src : Nat) (ovl : Bool) : Bool :=
  (decide (src = 1) && decide (x.kind ≠ .req .atr)) || decide (src = 2) ||
  (ovl && (match x.req with
           | some p => decide (p.op = .wrl) || (decide (p.op = .wrp) && decide (p.bmask ≠ 0)) || decide (p.op = .atc)
           | none => false))

/-- The request's payload merged onto a source (R69). -/
def overlay (x : Ctx) (d : LineData) : LineData :=
  match x.req with
  | none => d
  | some p =>
    let full := match p.op with
      | .wrl => true
      | .wrp => decide (p.bmask = fullMask)
      | _ => false
    { data := payload p d.data, fog := p.fog || (d.fog && !full) }

/-- The writeback that a rule writes with SRC WBD. -/
def wbdSlot (s : State) (x : Ctx) : Option WSlot :=
  (x.wbd.bind (slotOf s)).bind (fun p => if x.writer = some (p.agent, p.txid) then some p else none)

/-- MWR. It clears reservations as it enters (R78). The line of a WBK with an empty mask has no effect (R13). -/
def ruleMwr (c : Nat) (args : BitVec 34) (x : Ctx) (s : State) : State :=
  let line := lineOfAddr (argOpd x args)
  let src := fld args 22 2
  let ovl := bitOf args 21
  let own := if src = 2 then wbdSlot s x else none
  let placer := match own with
    | some p => Placer.wbk p.agent p.seq
    | none => x.placer
  if (match own with
      | some p => p.empty && !ovl
      | none => false) then writeDone c line false placer (oweMore c .mwrc s)
  else
  match useSource c src x s with
  | (d, s) =>
    let d := if ovl then overlay x d else d
    let fog := d.fog || bitOf args 20
    issueWrite c (pwbLine c line { d with fog := fog } (dataLdw fog) x.pgc placer x.deadline (clearsResv x src ovl)) s

/-- MWRD: the line's current data with a new LDW, keeping the poison mark (R123). It waits where the line's channel does not serve
its read (R226). -/
def ruleMwrd (c : Nat) (args : BitVec 34) (x : Ctx) (s : State) : State :=
  let line := lineOfAddr (argOpd x args)
  let ldw := lo32 (opd x (BitVec.ofNat 4 (fld args 20 4)))
  let s := oweMore c .mwrc s
  if isDark s line then writeDone c line true .block s
  else issueKeep c (pwbLine c line fogZero ldw false .block x.deadline false) (writeEnter c) s

/-! ### FOG, CTR and STPB (R190, R191) -/

/-- FOG: the line becomes FOGGED with its cause, and the context's copy follows. -/
def ruleFog (c : Nat) (args : BitVec 34) (x : Ctx) (s : State) : State :=
  fogRun c (lineOfAddr (argOpd x args)) (fld args 20 4) x s

/-- CTR: bump a counter whose EVENT is REEL (R316). -/
def ruleCtr (args : BitVec 34) (x : Ctx) (s : State) : State :=
  let num := fld args 26 8
  let n := if bitOf args 25 then (opd x (BitVec.ofNat 4 (fld args 21 4))).toNat else 1
  if ctrMatches (rd s (oCtrCfg num)) 0x30 ⟨x.tray, none, none⟩ then ctrAdd num n s else s

/-- STPB: hand the transaction's stop bath to the block. -/
def ruleStpb (c : Nat) (args : BitVec 34) (x : Ctx) (s : State) : State :=
  if x.kind = .req .stbV ∨ x.kind = .req .stbD then
    let dst := selPair x (fld args 24 4)
    modCtx c (fun y => { y with bathTo := some dst, phase := .bath }) s
  else s

/-- The SEND operation of an SOP. -/
def ruleSend (c sop : Nat) (args : BitVec 34) (x : Ctx) (s : State) : State :=
  match sop with
  | 1 => ruleMessage c args x s
  | 2 => ruleSnpv c args x s
  | 3 => ruleMrd c args x s
  | 4 => ruleMwr c args x s
  | 5 => ruleMwrd c args x s
  | 6 => ruleFog c args x s
  | 7 => ruleCtr args x s
  | 8 => ruleStpb c args x s
  | _ => s

/-- The SEND field of the rule in flight. -/
def opSend (c sop : Nat) (args : BitVec 34) (s : State) : State :=
  atSend c sop args (fun x s => ruleSend c sop args x s) s

/-! ### Stop baths (R212 to R215) -/

/-- Has every REQ that an agent sent before a stop bath been processed at the home (R213)? -/
def bathProcessed (s : State) (a : Nat) (p : Pend) : Bool :=
  !s.home.reqs.any (fun q => decide (q.req.agent = a) && decide (q.seq < p.seq) && !q.processed)

/-- Is a buffered line an early-acknowledged write that an agent sent before a stop bath (R214)? -/
def bathOwes (a : Nat) (p : Pend) (l : PwbLine) : Bool :=
  l.acked && (match l.placer with
              | .req b q => decide (b = a) && decide (q < p.seq)
              | .wbk b q => decide (b = a) && decide (q < p.seq)
              | .block => false)

/-- Do a stop bath's conditions hold? -/
def bathReady (s : State) (a : Nat) (p : Pend) : Bool :=
  bathProcessed s a p && (decide (p.op = .stbV) || !s.mem.pwb.any (bathOwes a p))

/-- The status of a stop bath: FOGGED for the first to complete after a drop that it covers (R215). -/
def bathStatus (a : Nat) (p : Pend) (s : State) : Status × State :=
  let mine := fun (q : Nat × Nat) => decide (q.1 = a) && decide (q.2 < p.seq)
  (if s.home.bathFog.any mine then .fogged else .ok,
   updHome (fun h => { h with bathFog := h.bathFog.filter (fun q => !mine q) }) s)

/-- A stop bath of the agent that waited for one to complete goes on (R212). -/
def bathNext (a : Nat) (s : State) : State :=
  match s.home.reqs.find? (fun p => decide (p.req.agent = a) && decide (p.place = .bath)) with
  | some p => advance p s
  | none => s

/-- The CmpB of a stop bath, to its requester or to the agent that STPB named. -/
def sendBath (c : Nat) (x : Ctx) (st : Status) (s : State) : State :=
  match x.bathTo with
  | some (a, tx) => markSent c (if detached s a then s else sendCpl a .cmpB c tx st none false x.tray x.deadline s)
  | none => completeCpl c .cmpB st s

/-- STOP_BATH_COMPLETE: CmpB leaves with its status and the stop bath RETIREs; that of a rule-run stop bath does as the STEER of
its STPB rule says, which takes effect from now on (R191). -/
def opStopBath (c : Nat) (s : State) : State :=
  match ctxOf s c with
  | none => s
  | some x =>
    match x.req, x.agent with
    | some p, some a =>
      if isSafe s || decide (x.phase ≠ .bath) || !p.op.bath || x.cplSent || !bathReady s a p then s
      else
        match bathStatus a p s with
        | (st, s) =>
          let s := sendBath c x st s
          if x.byRule then bathNext a (modCtx c (fun y => { y with phase := .cmp, cmpTimer := false }) s)
          else
            match retireCore c s with
            | (t, s) => bathNext a (go t s)
    | _, _ => s

/-! ### Meanings -/

/-- SEND (R185, R186): the SEND field with any SOP; a reserved one traps ILL_OPC. -/
def execSend (c : Nat) (sop : BitVec 6) (args : BitVec 34) (s : State) : Out :=
  onUnit (okCtx c) (live (opSend c sop.toNat args)) s

/-- SNPV (R185). -/
def execSnpv (c : Nat) (args : BitVec 34) (s : State) : Out := onUnit (okCtx c) (live (opSend c 2 args)) s

/-- MRD (R189). -/
def execMrd (c : Nat) (args : BitVec 34) (s : State) : Out := onUnit (okCtx c) (live (opSend c 3 args)) s

/-- MWR (R189). -/
def execMwr (c : Nat) (args : BitVec 34) (s : State) : Out := onUnit (okCtx c) (live (opSend c 4 args)) s

/-- MWRD (R123, R189). -/
def execMwrd (c : Nat) (args : BitVec 34) (s : State) : Out := onUnit (okCtx c) (live (opSend c 5 args)) s

/-- FOG (R190). -/
def execFog (c : Nat) (args : BitVec 34) (s : State) : Out := onUnit (okCtx c) (live (opSend c 6 args)) s

/-- CTR (R191, R316). -/
def execCtr (c : Nat) (args : BitVec 34) (s : State) : Out := onUnit (okCtx c) (live (opSend c 7 args)) s

/-- STPB (R191). -/
def execStpb (c : Nat) (args : BitVec 34) (s : State) : Out := onUnit (okCtx c) (live (opSend c 8 args)) s

/-- STOP_BATH_COMPLETE (R213 to R215). -/
def execStopBathComplete (c : Nat) (s : State) : Out := onUnit (okCtx c) (live (opStopBath c)) s

end Sys2Proof.Machine
end

