-- ==== Sys2Proof/Machine/MemEvents.lean ====
section
/-! DEFINITION. Completions of the memory side: reads, writes, the four-line LDW read and the posted write buffer (R28,
R66, R70, R71, R101, R104, R105, R128 to R130, R189, R226, R232). -/

namespace Sys2Proof.Machine

/-- May a memory operation of a line take place now: its channel serves, or is DARK, or no DRAM access is needed
(R226, R227, R245)? -/
def memServes (s : State) (line : Nat) : Bool :=
  chanServes s (chanNo s line) || readAtOnce s line

/-- May the block read a line for itself now: without DRAM, or because the command may issue (R226, R232, R249)? -/
def ownReads (s : State) (line : Nat) (close : Bool) : Bool :=
  readAtOnce s line || mayIssue s s.mem.opSeq Config.blockSource false close line

/-! ### Reads -/

/-- Does a read of a line need DRAM, when it came at a place of the order (R71, R227, R263)? -/
def needsDram (s : State) (seq line : Nat) : Bool :=
  !isDark s line && !lineBlank s line && (pwbBefore s line seq).isNone

/-- May every line of a read be read now: without DRAM, or because its column command may issue (R226, R234)? -/
def readReady (s : State) (q : MemOp) : Bool :=
  q.reads.all (fun l => !needsDram s q.seq l || mayIssue s q.seq q.ctx false q.close l)

/-- A read leaves its bank queue. -/
def leaveQueue (q : MemOp) (dram : Bool) (s : State) : State :=
  let s := updMem (fun m => { m with memq := m.memq.erase q }) s
  q.reads.foldl (fun s l => if dram then leadNext l s else lookLine l s) s

/-- The result of a read reaches its transaction: its own most recent read takes the data (R188), a merge of an absorbed WBK is
made (R72, R88), and its completion is dispatched or goes on (R66, R189). -/
def readLands (q : MemOp) (o : ReadOut) (s : State) : State :=
  let c := q.ctx
  match ctxOf s c with
  | none => s
  | some x =>
    if x.st = .quarantined then
      (if q.early then s else releaseQuarantine c (payOwed c (fun p => decide (p = .mrdc)) s))
    else
      let s := memGot c q.seq o s
      if x.byRule then (if q.early then s else postMrdc c q.line o.uncor o.ldw s)
      else
        let s := if q.early then s else payOwed c (fun p => decide (p = .mrdc)) s
        let s := match x.mergeWb.bind (fun w => (slotOf s w).map (fun p => (w, p))), (ctxOf s c).bind homeData with
          | some (w, p), some b => meetJoined c (absorbMerge c w p b s)
          | _, _ => s
        go [c] s

/-- Complete one read of a line, with wrong symbols beside those at rest. -/
def completeRead (q : MemOp) (errs : List SymErr) (s : State) : State :=
  let dram := needsDram s q.seq q.line
  match memReadAt q.seq q.line (if q.early then .early else .txn) q.close errs s with
  | (o, s) =>
    let s := leaveQueue q dram s
    if q.orphan then s else readLands q o s

/-- MRDC: a context's oldest read that may complete does. The completion of an early read whose transaction has gone, or no
longer needs it, is discarded (R66, R189). -/
def opMrdc (c : Nat) (errs : List SymErr) (s : State) : State :=
  match s.mem.memq.find? (fun q => decide (q.ctx = c) && !q.sector && readReady s q) with
  | none => s
  | some q => completeRead q errs s

/-! ### Writes -/

/-- A context goes on after a memory write of its own. -/
def afterWrite (c : Nat) (s : State) : State :=
  match ctxOf s c with
  | some x => if x.st = .quarantined then releaseQuarantine c s else go [c] s
  | none => s

/-- A buffered line is written to DRAM, which completes a write that was not acknowledged as it entered. -/
def drainLine (p : PwbLine) (s : State) : State :=
  let s := pwbDrain p s
  if p.acked then s else afterWrite p.src (writeDone p.src p.line false p.placer s)

/-- May a buffered line's write command issue now (R71, R234)? -/
def drainReady (s : State) (p : PwbLine) : Bool := mayIssue s p.seq p.src true p.close p.line

/-- MWRC: a context's oldest write that was not acknowledged early, and whose command may issue, is written to DRAM (R70). -/
def opMwrc (c : Nat) (s : State) : State :=
  match s.mem.pwb.find? (fun p => decide (p.src = c) && !p.acked && drainReady s p) with
  | some p => drainLine p s
  | none => s

/-- POSTED_WRITE_DONE: the oldest buffered line at an address is written to DRAM and its place is free (R71). -/
def opPwbDone (line : Nat) (s : State) : State :=
  match s.mem.pwb.find? (fun p => decide (p.line = line)) with
  | some p => if drainReady s p then drainLine p s else s
  | none => s

/-! ### Writes dropped on a DARK channel (R211, R215, R227) -/

/-- Note a dropped write of an agent for its stop baths. -/
def noteDrop (p : Placer) (s : State) : State :=
  match p with
  | .req a q => updHome (fun h => { h with bathFog := h.bathFog ++ [(a, q)] }) s
  | .wbk a q => updHome (fun h => { h with bathFog := h.bathFog ++ [(a, q)] }) s
  | .block => s

/-- A transaction whose write is dropped completes with status FOGGED (R227). -/
def fogStatus (c : Nat) (p : Placer) (s : State) : State :=
  let s := modCtx c (fun x => { x with status := .fogged }) s
  match p with
  | .wbk _ q => updHome (fun h => { h with wslots := h.wslots.map (fun w =>
      if w.2.seq = q then (w.1, { w.2 with status := .fogged }) else w) }) s
  | _ => s

/-- The writing agent of a line (R215). -/
def Placer.agent : Placer → Option Nat
  | .req a _ => some a
  | .wbk a _ => some a
  | .block => none

/-- A dropped write: WR_DROP, the line FOGGED, and its write done without being written. A line of no tray has no record to
mark. -/
def dropWrite (p : PwbLine) (s : State) : State :=
  let s := noteDrop p.placer s
  let c := if p.placer = .block ∧ p.acked then none else some p.src
  let r := match trayOf s p.line with
    | some t => fogLine p.line t .wrDrop c p.placer.agent s
    | none => ([], raise .wrDrop 0 (lineRec s p.line c p.placer.agent) s)
  let s := go r.1 r.2
  if p.acked then s else afterWrite p.src (writeDone p.src p.line true p.placer (fogStatus p.src p.placer s))

/-- A buffered line of a DARK channel is dropped. -/
def dropLine (p : PwbLine) (s : State) : State := dropWrite p (updMem (fun x => { x with pwb := x.pwb.erase p }) s)

/-- A write that still waited for its place when its channel went DARK is dropped (R211). -/
def dropWaiting (p : PwbReq) (s : State) : State :=
  let s := dropWrite p.ent (updMem (fun m => { m with pwbWait := m.pwbWait.erase p }) s)
  if p.ent.acked then afterWrite p.ctx s else s

/-! ### Writes that waited for room (R70, R264) -/

/-- May a waiting write enter: there is room, and an MWRD's read may take place? -/
def waitOver (s : State) (p : PwbReq) : Bool :=
  isDark s p.ent.line || (pwbReady s p.ent.line && (!p.keep || keepReads s p.ent))

/-- A waiting write takes its place: a block's own write is done as it enters. -/
def resumeWrite (p : PwbReq) (s : State) : State :=
  if isDark s p.ent.line then dropWaiting p s
  else
    match (if p.keep then takeCurrent p.ent s else (p.ent, s)) with
    | (e, s) =>
      let s := updMem (fun m => { m with pwbWait := m.pwbWait.erase p }) s
      if e.acked then afterWrite p.ctx (pwbEnter e s) else afterWrite p.ctx (writeEnter p.ctx e s)

/-- A line that the block itself writes. -/
def ownLine (line : Nat) (d : LineBits) (fog : Bool) (ldw : W32) (s : State) : PwbLine :=
  { line := line, data := d, fog := fog, ldw := ldw, close := true, src := Config.blockSource, placer := .block,
    deadline := BitVec.ofNat 32 (nowNs s), acked := true, clears := false, seq := 0 }

/-- Is there a latent-table entry for `n` lines of the block's own work on TS42? -/
def entriesFor (s : State) (n : Nat) : Bool := decide (entriesUsed s + n ≤ Config.latentEntries)

/-- Write the lines of a Light Meter record in their order, each once it is not latent and there is room; the last one
is line 0, whose RECNUM LM_STS.LAST then shows (R320). -/
def ringLines : List (Nat × LineBits) → State → List (Nat × LineBits) × State
  | [], s => ([], s)
  | (line, d) :: l, s =>
    if isSafe s || (holderOf s line).isSome || !entriesFor s 1 || (!isDark s line && !pwbReady s line) then
      ((line, d) :: l, s)
    else
      let s := if isDark s line then develop line s else pwbEnter (ownLine line d false ldwEmpty s) s
      ringLines l (if l.isEmpty then wrf s 0x342110 0 16 (fld d 64 16) else s)

/-- Go on with the record that is being written to the ring. -/
def ringAdvance (s : State) : State :=
  match ringLines s.meter.lm.writing s with
  | (l, s) => updMeter (fun x => { x with lm := { x.lm with writing := l } }) s

/-- POSTED_WRITE_RESUME: the first waiting write for which there is room enters; with none, a record's writes to the ring
go on (R70, R264, R320). -/
def opPwbResume (s : State) : State :=
  match s.mem.pwbWait.find? (waitOver s) with
  | some p => resumeWrite p s
  | none => ringAdvance s

/-! ### The four LDWs of a sector (R129, R130, Tables SHEET-9 and RACE-9) -/

/-- The lines of a sector in the order in which they are read: the requested one first (R129). -/
def readOrder (k : Nat) : List Nat := k :: (List.range 4).filter (fun j => decide (j ≠ k))

/-- The four reads: their results by line. -/
def readFour (sec line seq : Nat) (close : Bool) (errs : List (Nat × List SymErr)) (s : State) : List ReadOut × State :=
  (readOrder (line % 4)).foldl (fun acc k =>
    let e := match errs.find? (fun p => p.1 = k) with
      | some p => p.2
      | none => []
    match memReadAt seq (4 * sec + k) (if 4 * sec + k = line then .txn else .ldw) close e acc.2 with
    | (o, s) => (acc.1.set k o, s)) (List.replicate 4 ReadOut.zero, s)

/-- The state an LDW's LST field records; none for a reserved code. -/
def ldwLst (l : W32) : Option Lst := lstOfCode (fld l 8 3)

/-- Is a line's LDW unusable: invalid KIND, reserved LST, or the line is uncorrectable? -/
def ldwBad (o : ReadOut) : Bool := o.uncor || ldwInvalid o.ldw || (ldwTracks o.ldw && (ldwLst o.ldw).isNone)

/-- Does Table SHEET-9 give LDW_BAD for the line? -/
def ldwBadKind (o : ReadOut) : Bool := ldwInvalid o.ldw || (ldwTracks o.ldw && (ldwLst o.ldw).isNone)

/-- Are the usable LDWs consistent: all tracking with one SEQ, or none tracking? -/
def ldwAgree (l : List ReadOut) : Bool :=
  match l with
  | [] => true
  | o :: os =>
    if ldwTracks o.ldw then os.all (fun p => ldwTracks p.ldw && decide (fld p.ldw 4 4 = fld o.ldw 4 4))
    else os.all (fun p => !ldwTracks p.ldw)

/-- One line as decoded. -/
def ldwLine (o : ReadOut) : Lst × Nat :=
  if ldwBad o then (.fogged, 0)
  else if ldwTracks o.ldw then
    (match ldwLst o.ldw with
     | some l => (l, if l.owned then fld o.ldw 11 5 else 0)
     | none => (.fogged, 0))
  else (if ldwKind o.ldw = 9 then .fogged else .i, 0)

/-- Every caching member of a tray. -/
def cachingSv (s : State) (t : Nat) : BitVec 32 :=
  (membersOf s t).foldl (fun v a => if isCaching s a then v ||| abit a else v) 0

/-- The decoded entry, and whether the LDWs are a mixture (Table SHEET-9). -/
def ldwDecode (s : State) (sec t : Nat) (l : List ReadOut) : Entry × Bool :=
  let good := l.filter (fun o => !ldwBad o)
  let mix := !ldwAgree good
  let d := fun (k : Nat) => match l[k]? with
    | some o => if mix then (Lst.fogged, 0) else ldwLine o
    | none => (.fogged, 0)
  let svb := fun (k : Nat) => match l[k]? with
    | some o => if !ldwBad o && ldwTracks o.ldw then fld o.ldw 24 8 * 2 ^ (8 * k) else 0
    | none => 0
  let sv := BitVec.ofNat 32 (svb 0 + svb 1 + svb 2 + svb 3)
  let sv := if mix then cachingSv s t else if l.any ldwBad then sv ||| cachingSv s t else sv
  ({ tag := tagOf sec, lst := ⟨(d 0).1, (d 1).1, (d 2).1, (d 3).1⟩, own := ⟨(d 0).2, (d 1).2, (d 2).2, (d 3).2⟩,
     sv := sv, tray := t, age := 0, spill := true }, mix)

/-- Does Table RACE-9 hold an agent's records to Table RACE-6: none, or some voluntary column or not? -/
def race9 (s : State) (a t line : Nat) : Option Bool :=
  if !agentExists s a || !isMember s t a || (holdingWindow s a line).isNone then some false
  else if detached s a then some (linkOf s a).vol
  else none

/-- Resolve the records of one owner under Table RACE-9. -/
def resolveOwner (c line t : Nat) (o : ReadOut) (s : State) : State :=
  let r := recOf s line
  if !r.lst.owned then s
  else
    let epochOk := decide (fld o.ldw 16 8 = (linkOf s r.own).epoch.toNat)
    match race9 s r.own t line with
    | some vol => race6 line r.own (vol && epochOk) (some c) s
    | none => if epochOk then s else race6 line r.own false (some c) s

/-- Clear the sharers that Table RACE-9 does not leave as decoded. -/
def resolveSharers (line t : Nat) (s : State) : State :=
  (agentsOf (recOf s line).sv).foldl (fun s a =>
    if (race9 s a t line).isSome && !(List.range 4).any (fun k => isOwner s a (line / 4 * 4 + k)) then
      clearSv (line / 4) a s
    else s) s

/-- Raise what the decoding found, once for each line made FOGGED (R327): LDW_BAD for a line with an invalid KIND or a
reserved LST, LDW_MIX for each other line of a mixture. An uncorrectable line raised MEM_UE as it was read. -/
def ldwRaise (c sec : Nat) (mix : Bool) (l : List ReadOut) (s : State) : State :=
  (List.range 4).foldl (fun s k =>
    match l[k]? with
    | some o =>
      let r := lineRec s (4 * sec + k) (some c) none
      if ldwBadKind o then raise .ldwBad 0 r s
      else if mix && !o.uncor then raise .ldwMix 0 r s
      else s
    | none => s) s

/-- The transaction goes on with the code that the decoded entry gives (R28). -/
def ldwGoOn (c line seq : Nat) (o : ReadOut) (x : Ctx) (s : State) : State :=
  let code := (codeOf s line { recOf s line with hit := true } x.tray).num
  let s := memGot c seq o s
  if x.byRule then
    postEvent { eventFor x c (32 + chanNo s line) 0x3E#6 0
        (w64 (0x3E + 2 ^ 6 * b2n o.uncor + 2 ^ 7 * b2n (ldwFogged o.ldw) + 2 ^ 8 * o.ldw.toNat)) with code := some code } s
  else
    let s := payOwed c (fun p => decide (p = .ldwc)) s
    let ph := match x.kind with
      | .wb _ => Phase.snoops
      | _ => Phase.begin
    go [c] (modCtx c (fun y => loadSheet line s { y with code := code, phase := ph }) s)

/-- Does a decoded entry stay out of the sheet: a CXL-G5 host's request has read it, and it tracks nothing (R51)? DEDUCED, log
entry 50. -/
def ldwSkips (s : State) (x : Ctx) (e : Entry) : Bool :=
  (match x.agent with
   | some a => isG5 s a
   | none => false) && isIdle e

/-- The four reads have completed: install what they decode to, resolve its records, and go on. Where no entry can be
allocated the installation waits, and with it the reads (R121). -/
def ldwFinish (c : Nat) (x : Ctx) (s : State) : State :=
  let line := match x.mem with
    | some b => b.line
    | none => x.line.getD 0
  let seq := match x.mem with
    | some b => b.seq
    | none => s.mem.opSeq
  let sec := line / 4
  let t := x.tray.getD 0
  if (allocate sec { newEntry sec t with spill := true } s).isNone && (heldEntry s sec).isNone then s
  else
    let errs := x.ldwErrs
    let s := modCtx c (fun y => { y with ldwErrs := [] }) s
    match readFour sec line seq x.pgc errs s with
    | (l, s) =>
      let o := (l[line % 4]?).getD ReadOut.zero
      if (heldEntry s sec).isSome then ldwGoOn c line seq o x s
      else
        match ldwDecode s sec t l with
        | (e, mix) =>
          if ldwSkips s x e then ldwGoOn c line seq o x s
          else
            let s := ldwRaise c sec mix l s
            let s := e.lst.list.foldl (fun s n => countFog .i n (some t) s) s
            match allocate sec e s with
            | none => s
            | some (ev, s) =>
              let s := (List.range 4).foldl (fun s k =>
                resolveOwner c (4 * sec + k) t ((l[k]?).getD ReadOut.zero) s) s
              go ev (ldwGoOn c line seq o x (resolveSharers line t s))

/-- The four reads have completed for a context that owes them. -/
def ldwLands (c : Nat) (errs : List (Nat × List SymErr)) (s : State) : State :=
  match ctxOf s c with
  | none => s
  | some x =>
    if x.st = .quarantined then releaseQuarantine c (payOwed c (fun p => decide (p = .ldwc)) s)
    else if !x.owed.contains .ldwc then s
    else
      let x := { x with ldwErrs := errs }
      ldwFinish c x (setCtx c x s)

/-- Complete one read of a sector's four lines. -/
def completeSector (q : MemOp) (errs : List (Nat × List SymErr)) (s : State) : State :=
  let dram := q.reads.any (needsDram s q.seq)
  ldwLands q.ctx errs (leaveQueue q dram s)

/-- LDWC: the four reads of a context's sector complete, where each may. -/
def opLdwc (c : Nat) (errs : List (Nat × List SymErr)) (s : State) : State :=
  match s.mem.memq.find? (fun q => decide (q.ctx = c) && q.sector && readReady s q) with
  | none => s
  | some q => completeSector q errs s

/-- A completed LDW read whose entry could not be allocated tries again (R121). -/
def ldwRetry (c : Nat) (s : State) : State :=
  match ctxOf s c with
  | some x =>
    if x.owed.contains .ldwc && !s.mem.memq.any (fun q => decide (q.ctx = c) && q.sector) && !isSafe s &&
        !x.events.any (fun e => decide (e.typ = 0x3E#6)) && !s.dev.ready.any (fun e =>
          decide (e.ctx = c) && decide (e.typ = 0x3E#6)) then ldwFinish c x s
    else s
  | none => s

/-! ### Meanings -/

/-- MRDC (R189). -/
def execMrdc (c : Nat) (errs : List SymErr) (s : State) : Out := onUnit (okCtx c) (live (opMrdc c errs)) s

/-- MWRC (R70, R189). -/
def execMwrc (c : Nat) (s : State) : Out := onUnit (okCtx c) (live (opMwrc c)) s

/-- LDWC (R130). -/
def execLdwc (c : Nat) (errs : List (Nat × List SymErr)) (s : State) : Out := onUnit (okCtx c) (live (opLdwc c errs)) s

/-- POSTED_WRITE_DONE (R71). -/
def execPostedWriteDone (line : Nat) (s : State) : Out := onUnit (okLine line) (live (opPwbDone line)) s

/-- POSTED_WRITE_RESUME (R70). -/
def execPostedWriteResume (s : State) : Out := .next (live opPwbResume s)

end Sys2Proof.Machine
end

