-- ==== Sys2Proof/Machine/SheetCmd.lean ====
section
/-! DEFINITION. The Contact Sheet's commands: self-test, peek, soft repair, bank states, scrub, and the retry of an
allocation (R113, R121, R132 to R143, R341). -/

namespace Sys2Proof.Machine

/-! ### Self-test (R132 to R135) -/

/-- Clear the first failing row and the log (R135). -/
def clearBistLog (s : State) : State :=
  let s := wr (wr s 0x030008 0) 0x030040 0
  (List.range 64).foldl (fun s i => wr s (0x030400 + 4 * i) 0) s

/-- SHEET_BIST_GO: starts the self-test unless it runs or the block has dispatched since reset. -/
def opBistGo (s : State) : State :=
  if rdf s 0x030000 1 2 = 1 ∨ s.dev.dispatched then s
  else
    let s := wrf (clearBistLog (wr s 0x030004 0)) 0x030000 1 2 1
    updSheet (fun x => { x with bistRun := true }) s

/-- The spare rows of a bank that valid soft-repair registers select. -/
def softSpares (s : State) (b : Nat) : List Nat :=
  ((List.range 32).filter (fun r => bitOf (rd s (oSr b r)) 31)).map (fun r => rdf s (oSr b r) 16 6)

/-- Is a row in use (R133)? -/
def rowInUse (s : State) (b row : Nat) : Bool :=
  if row < 16384 then decide (rowOf s b row = row)
  else decide (row - 16384 < fusedCount s b) || (softSpares s b).contains (row - 16384)

/-- A failing row that names a row of the sheet and a step of Table SHEET-11. -/
def failReal (f : BistFail) : Bool :=
  decide (f.bank < 32) && decide (f.row < 16448) && decide (1 ≤ f.step) && decide (f.step ≤ 6)

/-- The order of the log: by bank, then by row, then by step. -/
def failBefore (a b : BistFail) : Bool :=
  decide (a.bank < b.bank) || (decide (a.bank = b.bank) &&
    (decide (a.row < b.row) || (decide (a.row = b.row) && decide (a.step ≤ b.step))))

/-- Insert in the log's order; a row already listed keeps its first step. -/
def failInsert (f : BistFail) : List BistFail → List BistFail
  | [] => [f]
  | g :: gs =>
    if g.bank = f.bank ∧ g.row = f.row then (if failBefore f g then f :: gs else g :: gs)
    else if failBefore f g then f :: g :: gs
    else g :: failInsert f gs

/-- The failing rows in the log's order. -/
def failSort (l : List BistFail) : List BistFail := l.foldl (fun acc f => failInsert f acc) []

/-- A log word. -/
def failWord (f : BistFail) (inUse : Bool) : W64 :=
  w64 (f.bank + 2 ^ 8 * f.row + 2 ^ 23 * f.step + 2 ^ 30 * b2n inUse + 2 ^ 31)

/-- Log failing rows: the 64 lowest, with OVF when more qualify (R135). -/
def logFails (l : List BistFail) (s : State) : State :=
  let keep := l.take 64
  let s := (List.range keep.length).foldl (fun s i =>
    match keep[i]? with
    | some f => wr s (0x030400 + 4 * i) (failWord f (rowInUse s f.bank f.row))
    | none => s) s
  wr s 0x030040 (w64 (keep.length + 2 ^ 31 * b2n (decide (64 < l.length))))

/-- Record the lowest failing row in SHEET_BIST_ROW. -/
def recordRow (f : BistFail) (s : State) : State :=
  wr s 0x030008 (w64 (f.bank + 2 ^ 8 * f.row + 2 ^ 23 * f.step + 2 ^ 31))

/-- Does a failure fail the self-test: it is of a row in use, or of a checker pattern, whatever row it names (R133)? -/
def failCounts (s : State) (f : BistFail) : Bool := rowInUse s f.bank f.row || decide (2 ≤ f.step)

/-- SHEET_BIST_DONE: every entry is invalid; PASS puts every bank ONLINE; a failing row in use, or a failing checker pattern,
gives FAIL and raises BIST_FAIL (R133 to R135). -/
def opBistDone (fails : List BistFail) (s : State) : State :=
  if !s.sheet.bistRun then s
  else
    let l := failSort (fails.filter failReal)
    let bad := failSort (fails.filter (fun f => failReal f && failCounts s f))
    let logged := l.filter (fun f => rowInUse s f.bank f.row || decide (16384 ≤ f.row))
    let s := updSheet (fun x => { x with bistRun := false, ways := [], errs := [], recheck := [], overQuota := [] }) s
    let s := logFails logged s
    match bad with
    | [] => (List.range 32).foldl (fun s b => wrf s (oBank b) 0 3 0) (wrf s 0x030000 1 2 2)
    | f :: _ =>
      let s := wr s 0x030004 (w64 (bad.foldl (fun v g => Nat.lor v (2 ^ g.bank)) 0))
      let s := recordRow f (wrf s 0x030000 1 2 3)
      raise .bistFail f.bank (sheetRec f.bank f.row 0 f.step) s

/-! ### Peek (R113) -/

/-- SHEET_PEEK: GO names a way, clears DONE and asks for the read. -/
def opPeek (bank set way : Nat) (s : State) : State :=
  let s := wr s 0x030028 (w64 (bank % 32 + 2 ^ 5 * (way % 8) + 2 ^ 8 * (set % 2 ^ 14)))
  updSheet (fun x => { x with peek := true }) s

/-- Symbols of a way found wrong beside those already wrong. -/
def upset (key : Nat) (errs : List SymErr) (s : State) : State :=
  updSheet (fun x => { x with errs := sPut [] x.errs key (addErrs (sGet [] x.errs key) errs) }) s

/-- How many bits an upset makes wrong. -/
def upsetBits (u : Upset) : Nat := (u.errs.map (fun p => (onesOf p.2).length)).sum

/-- The outcome of a word under SECDED: one wrong bit is corrected, more are not (Table FAULT-5). -/
def secded (ce ue : Cause) (structureNo : Nat) (u : Upset) (s : State) : State :=
  if upsetBits u = 0 then s
  else if upsetBits u = 1 then raise0 ce s
  else raise ue 0 (storeRec structureNo false u.set) s

/-- A register of the fault collector: cause, enable and summary registers, class counters, Proof Strip (Table FAULT-5). -/
def inCollector (o : Nat) : Bool :=
  decide (0x010000 ≤ o) && decide (o < 0x010800) && (regDesc o).isSome &&
  (decide (o < 0x010010) || inRow o 0x010020 4 4 || decide (0x010100 ≤ o))

/-- A register with RW or RWC fields outside the collector. -/
def inConfig (o : Nat) : Bool :=
  !inCollector o && (match regDesc o with
                     | some d => decide (d.rw ||| d.rwc ≠ 0)
                     | none => false)

/-- An upset of a control structure other than the sheet: the outcome of Table FAULT-5. Even parity finds an odd number of wrong
bits; a collector register whose parity has failed reads all ones from then on (R335). -/
def storeUpset (s : State) (u : Upset) : State :=
  let odd := decide (upsetBits u % 2 = 1)
  match u.bank with
  | 35 => secded .latCe .latUe 3 u s
  | 36 => secded .cdSramCe .cdSramUe 4 u s
  | 37 => secded .cdSramCe .cdSramUe 5 u s
  | 38 => secded .cdSramCe .cdSramUe 6 u s
  | 39 => if odd then raise .hdrPar 0 (storeRec 7 false u.set) s else s
  | 40 => if odd && inConfig u.set then raise .cfgPar 0 (storeRec 8 false u.set) s else s
  | 41 =>
    if odd && inCollector u.set then
      let s := updCap (fun c => { c with parity := u.set :: c.parity.filter (· ≠ u.set) }) (wrf s oFltStatus 4 1 1)
      raise .collPar 0 (storeRec 9 false u.set) s
    else s
  | _ => s

/-- Is an upset one of a way that exists? -/
def upsetReal (u : Upset) : Bool := decide (u.bank < 32) && decide (u.set < 16384) && decide (u.way < 8)

/-- Upsets strike. -/
def upsetAll (ups : List Upset) (s : State) : State :=
  let s := (ups.filter upsetReal).foldl (fun s u => upset (wayKey u.bank u.set u.way) u.errs s) s
  (ups.filter (fun u => decide (32 ≤ u.bank))).foldl storeUpset s

/-- The data bits of a way that a read gives: with VALID 0 every other bit reads 0 as well. DESIGN CHOICE, log entry 55. -/
def wayBits (e : Option Entry) : BitVec 96 :=
  match e with
  | some e => entryBits e
  | none => 0

/-- SHEET_PEEK_DONE: the read decodes the way, fills D0 to D2 and sets DONE. An uncorrectable way gives no data, and
DONE stays 0 (log entry 15). -/
def opPeekDone (errs : List SymErr) (s : State) : State :=
  if !s.sheet.peek then s
  else
    let v := rd s 0x030028
    let bank := fld v 0 5
    let set := fld v 8 14
    let way := fld v 5 3
    let s := updSheet (fun x => { x with peek := false }) s
    match readWay bank set way (upset (wayKey bank set way) errs s) with
    | (.bad, s) => s
    | (r, s) =>
      let b := wayBits r.entry
      let s := wr (wr (wr s 0x030030 (w64 (fld b 0 32))) 0x030034 (w64 (fld b 32 32))) 0x030038 (w64 (fld b 64 32))
      wrf s 0x030028 30 1 1

/-! ### Soft repair and bank states (R139 to R143) -/

/-- A refused bank command. -/
def bankRefuse (s : State) : State := raise0 .bankCmd s

/-- Would a soft-repair value conflict: a SPARE below FUSED, or a SPARE or ROW another valid register names? -/
def repairConflict (s : State) (b r : Nat) (v : W64) : Bool :=
  bitOf v 31 &&
  (decide (fld v 16 6 < fusedCount s b) ||
   (List.range 32).any (fun q =>
     decide (q ≠ r) && bitOf (rd s (oSr b q)) 31 &&
     (decide (rdf s (oSr b q) 16 6 = fld v 16 6) || decide (rdf s (oSr b q) 0 14 = fld v 0 14))))

/-- Other rows serve these sets of a bank from now on: what was wrong in the rows replaced shows no more (R139). -/
def rowsMoved (b : Nat) (sets : List Nat) (s : State) : State :=
  updSheet (fun x => { x with errs := x.errs.filter (fun p =>
    !(decide (p.1 / 131072 = b) && sets.contains (p.1 / 8 % 16384))) }) s

/-- A write to a soft-repair register (R139). -/
def opSoftRepair (b r : Nat) (v : W32) (s : State) : State :=
  if bankState s b ≠ 3 ∧ bankState s b ≠ 4 then bankRefuse s
  else
    let v := (v.setWidth 64) &&& 0x803F3FFF#64
    if repairConflict s b r v then raise0 .srConflict s
    else
      let t := wr s (oSr b r) v
      let moved := (List.range 32).flatMap (fun q => [rdf s (oSr b q) 0 14, rdf t (oSr b q) 0 14])
      rowsMoved b (moved.filter (fun set => decide (rowOf s b set ≠ rowOf t b set))) t

/-- Has start-up ended: the self-test has passed (Table SHEET-12)? DEDUCED, log entry 35. -/
def started (s : State) : Bool := decide (rdf s 0x030000 1 2 = 2)

/-- DRAIN: an ONLINE bank, after start-up only while every other bank is ONLINE (R140, R141). In Safelight state refused
(R341). -/
def opDrain (b : Nat) (s : State) : State :=
  if isSafe s || decide (bankState s b ≠ 0) ||
      (started s && (List.range 32).any (fun k => decide (k ≠ b) && decide (bankState s k ≠ 0)))
  then bankRefuse s
  else startSweep (.drain b) (wrf s (oBank b) 0 3 1)

/-- OFFLINE: a bank in DRAIN goes to QUIESCE (R142). -/
def opOffline (b : Nat) (s : State) : State :=
  if isSafe s || decide (bankState s b ≠ 1) then bankRefuse s else wrf s (oBank b) 0 3 2

/-- ONLINE: an OFFLINE or FAILED bank tests its selected spare rows; the log is cleared (R135, R143). -/
def opOnline (b : Nat) (s : State) : State :=
  if isSafe s || (decide (bankState s b ≠ 3) && decide (bankState s b ≠ 4)) then bankRefuse s
  else updSheet (fun x => { x with spareTest := b :: x.spareTest.filter (· ≠ b) }) (clearBistLog s)

/-- The contexts of writebacks that wait to look their sector up. -/
def waitingWb (s : State) : List Nat :=
  (s.dev.ctxs.filter (fun p => (match p.2.kind with
    | .wb _ => true
    | _ => false) && decide (p.2.phase = .begin))).map (·.1)

/-- CANCEL: DRAIN or QUIESCE back to ONLINE; the drain ends (R140). -/
def opCancel (b : Nat) (s : State) : State :=
  if isSafe s || (decide (bankState s b ≠ 1) && decide (bankState s b ≠ 2)) then bankRefuse s
  else
    let s := wrf s (oBank b) 0 3 0
    let s := updSheet (fun x => { x with sweeps := x.sweeps.filter (fun w => decide (w.kind ≠ .drain b)) }) s
    go (waitingWb s) s

/-- Is a line of the bank latent for a transaction, other than a writeback that waits for the bank (R142)? -/
def bankLatent (s : State) (b : Nat) : Bool :=
  s.home.latent.any (fun p => decide (bankOf (p.1 / 4) = b) && (match p.2 with
    | .ctx c => !(waitingWb s).contains c
    | _ => false))

/-- Does a bank hold an entry, is an eviction of it in flight, or a transaction on one of its lines? -/
def bankBusy (s : State) (b : Nat) : Bool :=
  s.sheet.ways.any (fun p => decide (p.1 / 131072 = b)) ||
  s.sheet.evSlots.any (fun p => decide (bankOf p.2.sector = b)) || bankLatent s b

/-- QUIESCE_COMPLETE: a QUIESCE bank with no entry and no eviction in flight is OFFLINE (Table SHEET-12). -/
def opQuiesceComplete (b : Nat) (s : State) : State :=
  if bankState s b = 2 ∧ !bankBusy s b then wrf s (oBank b) 0 3 3 else s

/-- SPARE_TEST_DONE: ONLINE with no entries, or FAILED with the failing rows logged (R143). -/
def opSpareTestDone (b : Nat) (fails : List BistFail) (s : State) : State :=
  if !s.sheet.spareTest.contains b then s
  else
    let s := updSheet (fun x => { x with spareTest := x.spareTest.filter (· ≠ b) }) s
    let l := failSort (fails.filter (fun f => failReal f && decide (f.bank = b) && decide (16384 ≤ f.row) &&
      (softSpares s b).contains (f.row - 16384)))
    match l with
    | [] =>
      let s := raise0 .bankOnline (wrf s (oBank b) 0 3 0)
      go (waitingWb s) s
    | f :: _ =>
      let s := recordRow f (logFails l (wrf s (oBank b) 0 3 4))
      raise .srFail b (sheetRec b f.row 0 f.step) s

/-! ### Scrub (R136 to R138, R341) -/

/-- A scrub read of one way. In Safelight state it counts and rewrites nothing (R341). -/
def scrubWay (bank set way : Nat) (s : State) : State :=
  let errs := sGet [] s.sheet.errs (wayKey bank set way)
  if isSafe s && decide (errs.length ≤ 3) then
    if errs.isEmpty then s else raise0 .sheetCe (wr s 0x030018 (satInc32 (rd s 0x030018)))
  else (readWay bank set way s).2

/-- Fabric time since a start, in units of `per` ticks, rounded up. -/
def elapsed (s : State) (since : W64) (per : Nat) : Nat := ((s.aon.ft - since).toNat + per - 1) / per

/-- Does the scrubber run: EN is 1 and the block is in RUN? -/
def scrubs (s : State) : Bool := bitOf (rd s 0x030010) 31 && decide (rdf s oPwrStatus 0 3 = 0)

/-- The scrub visit of the next set is done: the scrubber goes on to the next set that no sweep has visited; the lap time and
SCRUB_LAP at the end of a lap (R136). -/
def scrubNext (s : State) : State :=
  let set := s.sheet.scrubSet
  match (List.range' (set + 1) (16383 - set)).find? (fun k => !s.sheet.scrubSeen.contains (32, k)) with
  | some k => updSheet (fun x => { x with scrubSet := k }) s
  | none =>
    let s := wr s 0x030014 (w64 (elapsed s s.sheet.scrubLapStart 4000 % 2 ^ 32))
    let now := s.aon.ft
    raise0 .scrubLap (updSheet (fun x => { x with scrubSet := 0, scrubLapStart := now, scrubSeen := [] }) s)

/-- A sweep's visit of a set counts as its scrub visit in a bank, or in every bank (32), where the scrubber has not come to the
set yet (R136). -/
def sweepScrubs (bank set : Nat) (s : State) : State :=
  if !scrubs s then s
  else if bank = 32 ∧ set = s.sheet.scrubSet then scrubNext s
  else if set < s.sheet.scrubSet ∨ s.sheet.scrubSeen.contains (bank, set) then s
  else updSheet (fun x => { x with scrubSeen := (bank, set) :: x.scrubSeen }) s

/-- SHEET_SCRUB_VISIT: every way of the next set is decoded in each bank whose visit no sweep has made (R136). -/
def opScrubVisit (ups : List Upset) (s : State) : State :=
  let s := upsetAll ups s
  if !scrubs s then s
  else
    let set := s.sheet.scrubSet
    let banks := (List.range 32).filter (fun b => !s.sheet.scrubSeen.contains (b, set))
    scrubNext (banks.foldl (fun s b => (List.range 8).foldl (fun s w => scrubWay b set w s) s) s)

/-- SHEET_SCRUB_RECHECK: a way corrected before is read again; a symbol wrong again raises ROW_HARD, and the first one
since VALID was cleared is logged: of several, the lowest (R138; DESIGN CHOICE, log entry 56). -/
def opScrubRecheck (bank set way : Nat) (errs : List SymErr) (s : State) : State :=
  let key := wayKey bank set way
  let again := (s.sheet.recheck.filter (fun p => decide (p.1 = key))).map (·.2)
  if again.isEmpty then s
  else
    let s := updSheet (fun x => { x with recheck := x.recheck.filter (fun p => decide (p.1 ≠ key)) }) s
    let s := upset key errs s
    let hard := ((sGet [] s.sheet.errs key).map (·.1)).filter (fun i => again.contains i)
    let s := match hard.min? with
      | some i =>
        let s := raise0 .rowHard s
        if bitOf (rd s 0x03001C) 31 then s
        else wr s 0x03001C (w64 (bank + 2 ^ 5 * way + 2 ^ 8 * rowOf s bank set + 2 ^ 23 * i + 2 ^ 31))
      | none => s
    (readWay bank set way s).2

/-! ### Retry of an allocation (R121) -/

/-- The entries of banks in DRAIN or QUIESCE that no sweep will visit again and that have no latent line leave. -/
def drainRetry (s : State) : List Nat × State :=
  let left := s.sheet.ways.filter (fun p =>
    let b := p.1 / 131072
    decide (bankState s b = 2) || (decide (bankState s b = 1) && !s.sheet.sweeps.any (fun w => decide (w.kind = .drain b))))
  left.foldl (fun (acc : List Nat × State) p =>
    match drainSector (sectorOf (p.1 / 131072) (p.1 / 8 % 16384) p.2.tag) acc.2 with
    | (l, s) => (acc.1 ++ l, s)) ([], s)

/-- ALLOC_RETRY: a waiting allocation of a context tries again, and with it the fogged lines and drained entries that
wait for one. -/
def opAllocRetry (c : Nat) (s : State) : State :=
  match fogRetry s with
  | (l, s) =>
    match drainRetry s with
    | (k, s) => ldwRetry c (jobRetry c (go (c :: (l ++ k)) s))

/-! ### Meanings -/

/-- SHEET_BIST_GO (R132). -/
def execSheetBistGo (s : State) : Out := .next (capCmd opBistGo s)

/-- SHEET_BIST_DONE (R133). -/
def execSheetBistDone (fails : List BistFail) (s : State) : Out := .next (live (opBistDone fails) s)

/-- SHEET_PEEK (R113). -/
def execSheetPeek (bank set way : Nat) (s : State) : Out :=
  onUnit (okBank bank && decide (set < 16384) && decide (way < 8)) (capCmd (opPeek bank set way)) s

/-- SHEET_PEEK_DONE (R113). -/
def execSheetPeekDone (errs : List SymErr) (s : State) : Out := .next (live (opPeekDone errs) s)

/-- SOFT_REPAIR_WRITE (R139). -/
def execSoftRepairWrite (bank r : Nat) (v : W32) (s : State) : Out :=
  onUnit (okBank bank && decide (r < 32)) (capCmd (opSoftRepair bank r v)) s

/-- DRAIN (R141). -/
def execDrain (bank : Nat) (s : State) : Out := onUnit (okBank bank) (capCmd (opDrain bank)) s

/-- OFFLINE (R142). -/
def execOffline (bank : Nat) (s : State) : Out := onUnit (okBank bank) (capCmd (opOffline bank)) s

/-- ONLINE (R143). -/
def execOnline (bank : Nat) (s : State) : Out := onUnit (okBank bank) (capCmd (opOnline bank)) s

/-- CANCEL (R140). -/
def execCancel (bank : Nat) (s : State) : Out := onUnit (okBank bank) (capCmd (opCancel bank)) s

/-- QUIESCE_COMPLETE (R140). -/
def execQuiesceComplete (bank : Nat) (s : State) : Out := onUnit (okBank bank) (live (opQuiesceComplete bank)) s

/-- SPARE_TEST_DONE (R143). -/
def execSpareTestDone (bank : Nat) (fails : List BistFail) (s : State) : Out :=
  onUnit (okBank bank) (live (opSpareTestDone bank fails)) s

/-- SHEET_SCRUB_VISIT (R136). -/
def execSheetScrubVisit (ups : List Upset) (s : State) : Out := .next (live (opScrubVisit ups) s)

/-- SHEET_SCRUB_RECHECK (R138). -/
def execSheetScrubRecheck (bank set way : Nat) (errs : List SymErr) (s : State) : Out :=
  onUnit (okBank bank && decide (set < 16384) && decide (way < 8)) (live (opScrubRecheck bank set way errs)) s

/-- ALLOC_RETRY (R121). -/
def execAllocRetry (c : Nat) (s : State) : Out := onUnit (okCtx c) (live (opAllocRetry c)) s

end Sys2Proof.Machine
end

