-- ==== Sys2Proof/Machine/Channel.lean ====
section
/-! DEFINITION. The memory channels: their states and commands, self-refresh, refresh, and command replays (R215, R225 to
R228, R235, R238, R239, R243, R245 to R250). -/

namespace Sys2Proof.Machine

/-! ### Refusal and state (R225, R245, R379) -/

/-- A refused channel command. -/
def mcRefuse (m : Nat) (s : State) : State := raiseAt .mcCmd m s

/-- MC_STATUS.SREF_PEND. -/
def srefPend (s : State) (m : Nat) : Bool := bitOf (rd s (oMcStatus m)) 6

/-- Are commands accepted in a state: the island is on, the state is `st`, and no self-refresh entry is under way? -/
def mcAllowed (s : State) (m st : Nat) : Bool :=
  !chanOff s m && decide (chanState s m = st) && !srefPend s m

/-- START. -/
def opStart (m : Nat) (s : State) : State := if mcAllowed s m 0 then enterRun m s else mcRefuse m s

/-- A command to a whole rank of a subchannel, issued now: queue 32 stands for all its banks. -/
def rankCmd (s : State) (op : DramOp) (rank : Nat) : DramCmd :=
  { ft := s.aon.ft, op := op, rank := rank, bank := 32, row := 0, col := 0 }

/-- Every bank of a channel is precharged by a command to each rank (R228, R236, R245). -/
def prechargeAll (m : Nat) (s : State) : State :=
  closeRows m ((List.range 2).foldl (fun s sc =>
    issueCmds m sc ((List.range (chanRanks s m)).map (rankCmd s .pre)) s) s)

/-- PAUSE: refused unless ENG_PARK_LIMIT.US is above MC_PAUSE.LIMIT_US (R228). -/
def opPause (m : Nat) (s : State) : State :=
  if mcAllowed s m 1 && decide (rdf s (chanBase m + 0x50) 0 8 < rdf s 0x02001C 0 20) then
    prechargeAll m (setChanState m 2 s)
  else mcRefuse m s

/-- RESUME. -/
def opResume (m : Nat) (s : State) : State := if mcAllowed s m 2 then enterRun m s else mcRefuse m s

/-- PAUSE_TIMEOUT: a paused channel returns to RUN with the delays then written (R228). -/
def opPauseTimeout (m : Nat) (s : State) : State :=
  if mcAllowed s m 2 then raiseAt .pauseTimeout m (setChanState m 1 s) else s

/-! ### Self-refresh (R245 to R247) -/

/-- The pool regions of a channel's segment: first and count. Under an interleaved map they are an eighth of the pool. -/
def segment (s : State) (m k : Nat) : Nat × Nat :=
  if mapMode s = 2 then (chanBaseGib s m * 1024 + k * (chanGib s m * 128), chanGib s m * 128)
  else (k * (poolGib s * 128), poolGib s * 128)

/-- The segments that are not kept. -/
def lostSegments (s : State) (m : Nat) : List (Nat × Nat) :=
  ((List.range 8).filter (fun k => !bitOf (rd s (chanBase m + 0x60)) k)).map (segment s m)

/-- Does a partial self-refresh lose a region of a valid tray range or of a POOL backing region? -/
def losesUsed (s : State) (m : Nat) : Bool :=
  (lostSegments s m).any (fun g =>
    (trayRanges s).any (fun q => meets g.1 g.2 q.2.2.1 (q.2.2.2 + 1 - q.2.2.1)) ||
    [false, true].any (fun b => match backingRegion s b with
      | some r => meets g.1 g.2 r 1
      | none => false))

/-- Blank regions: their bits become 1, and fill slots that they hold are freed (R247, R267). -/
def blankIf (p : Nat → Bool) (s : State) : State :=
  updMem (fun x => { x with written := x.written.filter (fun r => !p r),
                            fills := x.fills.filter (fun f => !p f.2.region) }) s

/-- Blank the regions of the segments that are not kept. -/
def blankLost (m : Nat) (s : State) : State :=
  let l := lostSegments s m
  blankIf (fun r => l.any (fun g => decide (g.1 ≤ r) && decide (r < g.1 + g.2))) s

/-- The operations of a channel that reached the memory side before `bound` and are still to do, by their place in the order. -/
def opsLeft (s : State) (m bound : Nat) : List Nat :=
  let here := fun (line seq : Nat) => decide (chanNo s line = m) && decide (seq < bound)
  ((s.mem.memq.filter (fun q => here q.line q.seq)).map (·.seq)) ++
  ((s.mem.pwb.filter (fun p => here p.line p.seq)).map (·.seq)) ++
  ((s.mem.pwbWait.filter (fun p => p.keep && here p.ent.line p.ent.seq && pwbReady s p.ent.line)).map (·.ent.seq))

/-- Complete the operation at one place of the order. -/
def finishOp (n : Nat) (s : State) : State :=
  match s.mem.memq.find? (fun q => decide (q.seq = n)) with
  | some q => if q.sector then completeSector q [] s else completeRead q [] s
  | none =>
    match s.mem.pwb.find? (fun p => decide (p.seq = n)) with
    | some p => drainLine p s
    | none =>
      match s.mem.pwbWait.find? (fun p => p.keep && decide (p.ent.seq = n)) with
      | some p => resumeWrite p s
      | none => s

/-- Complete what reached a channel before `bound`, oldest first. -/
def finishOps (m bound : Nat) : Nat → State → State
  | 0, s => s
  | k + 1, s =>
    match (opsLeft s m bound).min? with
    | some n => finishOps m bound k (finishOp n s)
    | none => s

/-- Complete the operations queued for a channel in their order, and write every buffered line to DRAM (R245). -/
def drainChannel (m : Nat) (s : State) : State :=
  let s := finishOps m s.mem.opSeq (s.mem.memq.length + s.mem.pwb.length + s.mem.pwbWait.length) s
  (s.mem.pwb.filter (fun p => decide (chanNo s p.line = m))).foldl (fun s p =>
    if s.mem.pwb.contains p then drainLine p s else s) s

/-- SREF: refused when it would lose used regions; else what is queued completes, and later operations wait (R245 to
R247). -/
def opSref (m : Nat) (s : State) : State :=
  if !mcAllowed s m 1 || losesUsed s m then mcRefuse m s
  else wrf (blankLost m (drainChannel m s)) (oMcStatus m) 6 1 1

/-- The channel enters SREF: MRV_ENTER where the array is partial, banks precharged, SREF_DONE. -/
def enterSref (m : Nat) (s : State) : State :=
  raiseAt .srefDone m (setChanState m 3 (prechargeAll m (writePasr m 16 s)))

/-- SREF_DONE. -/
def opSrefDone (m : Nat) (s : State) : State := if srefPend s m then enterSref m s else s

/-- EXIT. -/
def opExit (m : Nat) (s : State) : State :=
  if mcAllowed s m 3 then enterRun m (writePasr m 24 s) else mcRefuse m s

/-- EXIT_INIT. -/
def opExitInit (m : Nat) (s : State) : State :=
  if mcAllowed s m 3 then closeRows m (setChanState m 0 (writePasr m 24 s)) else mcRefuse m s

/-! ### DARK (R215, R227) -/

/-- A pool lap completes when every present channel that is not DARK has completed a lap that began within it: its time,
PSCRUB_LAP, and the records that R96 and R410 keep by laps. The next one starts (R270). -/
def poolLapCheck (s : State) : State :=
  let ms := (List.range 8).filter (fun m => chanPresent s m && decide (chanState s m ≠ 4))
  if ms.isEmpty || !ms.all (fun m => (chanOf s m).lapInPool) then s
  else
    let s := wr s 0x209030 (w64 (elapsed s s.mem.poolStart 4000000 % 2 ^ 32))
    let now := s.aon.ft
    let s := updMem (fun x => { x with poolStart := now, poolLaps := x.poolLaps + 1 }) s
    let s := (List.range 8).foldl (fun s m => setChan m (fun c => { c with lapInPool := false }) s) s
    let s := (List.range 32).foldl (fun s a => setLink a (fun l => { l with adv := l.advCur, advCur := 0 }) s) s
    let s := updCap (fun x => { x with removals := (x.removals.map (fun r =>
      { r with lap := min 2 (r.lap + 1) })) }) s
    raise0 .pscrubLap s

/-- The channel enters DARK: the LF fault, queued reads complete as uncorrectable, and its writes, buffered or waiting for room,
are dropped (R211, R215, R227). -/
def enterDark (m sc : Nat) (cause : Cause) (s : State) : State :=
  let s := closeRows m (setChanState m 4 s)
  let s := setChan m (fun c => { c with recover := false }) s
  let s := setSched m 1 (fun x => { x with replay := false }) (setSched m 0 (fun x => { x with replay := false }) s)
  let s := raise cause m (unitRec m 2 sc 4) s
  let ops := s.mem.memq.filter (fun q => decide (chanNo s q.line = m))
  let s := ops.foldl (fun s q => if q.sector then completeSector q [] s else completeRead q [] s) s
  let s := (s.mem.pwb.filter (fun p => decide (chanNo s p.line = m))).foldl (fun s p =>
    if s.mem.pwb.contains p then dropLine p s else s) s
  poolLapCheck ((s.mem.pwbWait.filter (fun p => decide (chanNo s p.ent.line = m))).foldl (fun s p =>
    if s.mem.pwbWait.contains p then dropWaiting p s else s) s)

/-- DARKEN: from every state but DARK, a self-refresh entry included. -/
def opDarken (m : Nat) (s : State) : State :=
  if chanOff s m || decide (chanState s m = 4) then mcRefuse m s else enterDark m 0 .chDark s

/-- BATCH_RECOVER_END (R235). -/
def opBatchEnd (m : Nat) (s : State) : State := setChan m (fun c => { c with recover := false }) s

/-! ### Refresh (R238, R239, R243) -/

/-- Does the controller issue commands to its DRAM: RUN or PAUSED, with the island on? -/
def refreshing (s : State) (m : Nat) : Bool :=
  !chanOff s m && (decide (chanState s m = 1) || decide (chanState s m = 2))

/-- A delay-set offset within a channel's block. -/
def delaySet (sc rank x : Nat) : Nat := 0x3000 + 0x1000 * sc + 0x100 * rank + x

/-- The drift offsets of a rank take effect. -/
def takeDrift (m sc rank : Nat) (s : State) : State :=
  (List.range 3).foldl (fun s q =>
    let v := lo32 (rd s (chanBase m + delaySet sc rank (0xF4 + 4 * q)))
    setChan m (fun c => { c with drift := sPut 0 c.drift ((sc * 8 + rank) * 3 + q) v }) s) s

/-- A signed field of six bits. -/
def drift6 (v : Nat) : Int := if v < 32 then v else (v : Int) - 64

/-- The drift offset in effect for a nibble: register q of the rank, field n mod 4 (R243). -/
def driftOf (s : State) (m sc rank n : Nat) : Int :=
  drift6 (fld (sGet 0 (chanOf s m).drift ((sc * 8 + rank) * 3 + n / 4)) (8 * (n % 4)) 6)

/-- The write-strobe or receive-enable delay that a nibble runs with: its field of MC_WDQS (`x` 0x20) or MC_RCVEN (`x` 0xE0),
shifted by the drift offset in effect, in tCK/128 (R243). -/
def strobeDelay (s : State) (m sc rank x n : Nat) : Int :=
  (rdf s (chanBase m + delaySet sc rank (x + 4 * (n / 2))) (16 * (n % 2)) 12 : Int) + driftOf s m sc rank n

/-- Close the rows of a rank on one subchannel: bank keys hold subchannel and rank above five bits of bank. -/
def closeRank (m sc rank : Nat) (s : State) : State :=
  setChan m (fun c => { c with openRow := c.openRow.filter (fun p => decide (p.1 / 32 ≠ sc * 8 + rank)) }) s

/-- The refresh of a rank on one subchannel: a precharge and the refresh, held while a replay runs there or R248 leaves no room
(R238, R249). New drift offsets take effect as its window begins (R243). -/
def refreshOn (m rank sc : Nat) (s : State) : State :=
  if (schedOf s m sc).replay || !windowRoom s m sc 2 then s
  else takeDrift m sc rank (closeRank m sc rank (issueCmds m sc [rankCmd s .pre rank, rankCmd s .ref rank] s))

/-- REFRESH of a rank on both subchannels. -/
def opRefresh (m rank : Nat) (s : State) : State :=
  if refreshing s m && decide (rank < chanRanks s m) then refreshOn m rank 1 (refreshOn m rank 0 s) else s

/-- The highest rate code and the lowest rank that reports it. -/
def topRate : Nat → List RankRate → Nat × Nat
  | _, [] => (0, 0)
  | k, r :: rs =>
    let t := topRate (k + 1) rs
    if rs.isEmpty || decide (t.1 ≤ r.code.toNat) then (r.code.toNat, k) else t

/-- REFRESH_POLL: MC_REF_STS, and the channel becomes hot, or cool after two polls (R239). -/
def opRefreshPoll (m : Nat) (rates : List RankRate) (s : State) : State :=
  let l := rates.take (chanRanks s m)
  if !refreshing s m || l.isEmpty then s
  else
    let t := topRate 0 l
    let s := wrf (wrf s (chanBase m + 0x44) 8 3 t.1) (chanBase m + 0x44) 12 3 t.2
    let crit := l.any (fun r => r.crit)
    let hot := crit || l.any (fun r => r.hot)
    let was := bitOf (rd s (oMcStatus m)) 5
    let s := setChan m (fun c => { c with tcrit := crit, cool := if hot then 0 else c.cool + 1 }) s
    let s := if crit then raiseAt .dramTcrit m s else s
    if hot then (if was then s else raiseAt .refHot m (wrf s (oMcStatus m) 5 1 1))
    else if was && decide (2 ≤ (chanOf s m).cool) then raiseAt .refCool m (wrf s (oMcStatus m) 5 1 0)
    else s

/-! ### Command replays (R248 to R250) -/

/-- Is a replay under way on a subchannel? -/
def replaying (s : State) (m sc : Nat) : Bool := (schedOf s m sc).replay

/-- Mark a replay under way or ended. -/
def setReplay (m sc : Nat) (b : Bool) (s : State) : State := setSched m sc (fun x => { x with replay := b }) s

/-- A replay starts: the subchannel's ranks are precharged, CA_PARITY, MC_CAPAR_CNT. -/
def startReplay (m sc : Nat) (s : State) : State :=
  let o := chanBase m + 0x74
  let s := setReplay m sc true s
  let s := setChan m (fun c => { c with openRow := c.openRow.filter (fun p => decide (p.1 / 256 ≠ sc)) }) s
  raiseAt .caParity m (wr s o (satInc32 (rd s o)))

/-- The key of the bank of a command. -/
def cmdBank (sc : Nat) (c : DramCmd) : Nat := (sc * 8 + c.rank) * 32 + c.bank

/-- The burst of a column command: Table MEM-4 read from its coordinates. -/
def cmdBurst (s : State) (m sc : Nat) (c : DramCmd) : Nat :=
  let bits := if bitOf (rd s (oMcCfg m)) 4 then 6 else 7
  (m * 2 ^ 39 + 2 ^ 6 * sc + 2 ^ 7 * (c.bank / 4) + 2 ^ 10 * (c.bank % 4) + 2 ^ 12 * c.col +
    2 ^ (12 + bits) * (c.row * chanRanks s m + c.rank)) / 64

/-- A column command issued again: an activate goes first where its row is not open, and a write stores its burst anew (R249). -/
def replayColumn (m sc : Nat) (write close : Bool) (c : DramCmd) (s : State) : State :=
  let cur := sFind (chanOf s m).openRow (cmdBank sc c)
  let act := if cur = some c.row then [] else [{ c with ft := s.aon.ft, op := DramOp.act }]
  let s := if act.isEmpty then s else count 0x1A ⟨none, none, some m⟩ 1 s
  let s := issueCmds m sc (act ++ [{ c with ft := s.aon.ft }]) s
  let s := setChan m (fun h => { h with openRow := if close then sDel h.openRow (cmdBank sc c)
                                                   else sSet h.openRow (cmdBank sc c) c.row }) s
  if write then updMem (fun x => { x with burstErr := sDel x.burstErr (cmdBurst s m sc c) }) s else s

/-- A buffered command is issued again (R249). -/
def replayCmd (m sc : Nat) (s : State) (c : DramCmd) : State :=
  match c.op with
  | .rd => replayColumn m sc false false c s
  | .rda => replayColumn m sc false true c s
  | .wr => replayColumn m sc true false c s
  | .wra => replayColumn m sc true true c s
  | .act =>
    let s := issueCmds m sc [{ c with ft := s.aon.ft }] (count 0x1A ⟨none, none, some m⟩ 1 s)
    setChan m (fun h => { h with openRow := sSet h.openRow (cmdBank sc c) c.row }) s
  | .pre =>
    let s := issueCmds m sc [{ c with ft := s.aon.ft }] s
    if c.bank = 32 then closeRank m sc c.rank s else setChan m (fun h => { h with openRow := sDel h.openRow (cmdBank sc c) }) s
  | .ref => closeRank m sc c.rank (issueCmds m sc [{ c with ft := s.aon.ft }] s)

/-- The buffered commands are issued again in their order, from precharged banks. -/
def reissue (m sc : Nat) (s : State) : State :=
  let l := (schedOf s m sc).retry
  l.foldl (replayCmd m sc) (setSched m sc (fun x => { x with retry := [] }) s)

/-- A replay fails, and the alert that failed it starts the next; the fourth in a row darkens the channel. -/
def failReplay (m sc : Nat) (s : State) : State :=
  let lo := 8 + 4 * sc
  let n := rdf s (oMcStatus m) lo 3 + 1
  let s := wrf s (oMcStatus m) lo 3 n
  if 4 ≤ n then enterDark m sc .caFail s else startReplay m sc s

/-- ALERT_N: nothing reaches the DRAM of a channel in SREF or DARK, so no alert concerns it. -/
def opAlert (m sc : Nat) (s : State) : State :=
  if chanOff s m || decide (3 ≤ chanState s m) then s
  else if replaying s m sc then failReplay m sc s
  else startReplay m sc s

/-- CA_REPLAY_END: a good replay has issued the buffered commands again; it clears the failed count, and the batch policy
follows. -/
def opReplayEnd (m sc : Nat) (failed : Bool) (s : State) : State :=
  if !replaying s m sc then s
  else if failed then failReplay m sc s
  else startRecover m (setReplay m sc false (wrf (reissue m sc s) (oMcStatus m) (8 + 4 * sc) 3 0))

/-! ### Meanings -/

/-- A subchannel that exists. -/
def okSc (m sc : Nat) : Bool := okChan m && decide (sc < 2)

/-- START (R225). -/
def execStart (m : Nat) (s : State) : Out := onUnit (okChan m) (capCmd (opStart m)) s

/-- PAUSE (R228). -/
def execPause (m : Nat) (s : State) : Out := onUnit (okChan m) (capCmd (opPause m)) s

/-- RESUME (R225). -/
def execResume (m : Nat) (s : State) : Out := onUnit (okChan m) (capCmd (opResume m)) s

/-- PAUSE_TIMEOUT (R228). -/
def execPauseTimeout (m : Nat) (s : State) : Out := onUnit (okChan m) (live (opPauseTimeout m)) s

/-- SREF (R245). -/
def execSref (m : Nat) (s : State) : Out := onUnit (okChan m) (capCmd (opSref m)) s

/-- SREF_DONE (R245). -/
def execSrefDone (m : Nat) (s : State) : Out := onUnit (okChan m) (live (opSrefDone m)) s

/-- EXIT (R245). -/
def execExit (m : Nat) (s : State) : Out := onUnit (okChan m) (capCmd (opExit m)) s

/-- EXIT_INIT (R245). -/
def execExitInit (m : Nat) (s : State) : Out := onUnit (okChan m) (capCmd (opExitInit m)) s

/-- DARKEN (R227). -/
def execDarken (m : Nat) (s : State) : Out := onUnit (okChan m) (capCmd (opDarken m)) s

/-- BATCH_RECOVER_END (R235). -/
def execBatchRecoverEnd (m : Nat) (s : State) : Out := onUnit (okChan m) (live (opBatchEnd m)) s

/-- REFRESH (R238). -/
def execRefresh (m rank : Nat) (s : State) : Out := onUnit (okChan m) (live (opRefresh m rank)) s

/-- REFRESH_POLL (R239). -/
def execRefreshPoll (m : Nat) (rates : List RankRate) (s : State) : Out :=
  onUnit (okChan m) (live (opRefreshPoll m rates)) s

/-- ALERT_N (R249). -/
def execAlertN (m sc : Nat) (s : State) : Out := onUnit (okSc m sc) (live (opAlert m sc)) s

/-- CA_REPLAY_END (R249, R250). -/
def execCaReplayEnd (m sc : Nat) (failed : Bool) (s : State) : Out :=
  onUnit (okSc m sc) (live (opReplayEnd m sc failed)) s

end Sys2Proof.Machine
end

