-- ==== Sys2Proof/Machine/Cxl.lean ====
section
/-! DEFINITION. CXL hosts: M2S requests, writes, Back-Invalidate and the mailbox (R46 to R51, R205, R208, R303 to
R306). -/

namespace Sys2Proof.Machine

/-- The REQ a CXL message becomes: TXID is its tag, STREAM is LADDR[7:0] (R205, R208). -/
def cxlReq (a : Nat) (tag : BitVec 12) (l : BitVec 46) : Req :=
  { agent := a, txid := tag, stream := l.setWidth 8, size := 0, pgc := false, laddr := l, offs := 0, deadline := 0 }

/-- The block request of a CXL-G6 MemRd (Table LINE-12). -/
def g6Read (q : M2SReq) : ReqOp :=
  if q.meta0 then
    match q.metaV with
    | .shared => .rds
    | .anyV => .rdx
    | .invalid => .rdc
  else
    match q.snp with
    | .snpData => .rds
    | .snpInv => .rdx
    | .snpCur => .rdc
    | .noOp => .rdc

/-- The deadline of a message that the port itself answers a CXL host with: R205's, under budget class 0. DESIGN CHOICE, log
entry 29. -/
def hostDeadline (s : State) (a : Nat) : BitVec 32 :=
  (classDeadline s 0 (BitVec.ofNat 32 (nowNs s + rdf s (0x040040 + 4 * (a / 2)) 0 30))).1

/-- Send a plain Cmp. -/
def plainCmp (a : Nat) (tag : BitVec 12) (s : State) : State :=
  send (hostDeadline s a) (.ndr a tag none (devLoad s a)) s

/-- A CXL-G6 link whose host has not enabled Back-Invalidate: no service (R305). -/
def biRefuse (a : Nat) (tag : BitVec 12) (read : Bool) (s : State) : State :=
  let s := raiseAt .biOff (a / 2) s
  if read then send (hostDeadline s a) (.memData a tag true false (devLoad s a) 0) s else plainCmp a tag s

/-- A CXL request that the block serves as one of its own. -/
def cxlServe (op : ReqOp) (q : M2SReq) (meta0 : Bool) (s : State) : State :=
  lineReq op (cxlReq q.agent q.tag q.laddr) 0 0 0 (some { tag := q.tag, meta0 := meta0, write := false }) false s

/-- M2S Req messages on a CXL port use a credit of theirs (R306); the port's own state comes first. A message on a ZCL port cannot occur (log
entry 13). -/
def cxlGate (q : M2SReq) (read : Bool) (f : State → State) (s : State) : State :=
  if isZcl s q.agent then s
  else
    let s := creditUsed q.agent false (received q.agent 1 s)
    if detached s q.agent then raiseAt .detached (q.agent / 2) s
    else if isG6 s q.agent && !biOn s q.agent then biRefuse q.agent q.tag read s
    else f s

/-- MemRd: by metadata or snoop type on CXL-G6; RdC on CXL-G5, which returns no metadata (R46, R51). -/
def opMemRd (q : M2SReq) (s : State) : State :=
  cxlGate q true (fun s => if isG6 s q.agent then cxlServe (g6Read q) q q.meta0 s else cxlServe .rdc q false s) s

/-- MemRdData: RdS with a grant on CXL-G6, RdC on CXL-G5. -/
def opMemRdData (q : M2SReq) (s : State) : State :=
  cxlGate q true (fun s => if isG6 s q.agent then cxlServe .rds q true s else cxlServe .rdc q false s) s

/-- MemInv and MemInvNT: Upg, Flush or unsupported on CXL-G6, by MetaValue also where MetaField is No-Op, of which Table LINE-12
has no row (DESIGN CHOICE, log entry 29); Cmp with no effect on CXL-G5. -/
def opMemInv (q : M2SReq) (s : State) : State :=
  cxlGate q false (fun s =>
    if isG6 s q.agent then
      match q.metaV with
      | .anyV => cxlServe .upg q true s
      | .invalid => cxlServe .flush q true s
      | .shared => plainCmp q.agent q.tag (raiseAt .unsup (q.agent / 2) s)
    else plainCmp q.agent q.tag s) s

/-- MemClnEvct: a silent clean eviction; Cmp. -/
def opMemClnEvct (q : M2SReq) (s : State) : State := cxlGate q false (plainCmp q.agent q.tag) s

/-- MemSpecRd: accepted and ignored. -/
def opMemSpecRd (q : M2SReq) (s : State) : State :=
  if isZcl s q.agent then s
  else
    let s := creditUsed q.agent false (received q.agent 1 s)
    if detached s q.agent then raiseAt .detached (q.agent / 2) s
    else if isG6 s q.agent && !biOn s q.agent then raiseAt .biOff (q.agent / 2) s
    else s

/-- MemRdFwd and MemWrFwd: unsupported, no response, PROTO. -/
def opCxlFwd (q : M2SReq) (s : State) : State :=
  if isZcl s q.agent then s else raiseAt .proto (q.agent / 2) (creditUsed q.agent false (received q.agent 1 s))

/-- The WBK opcode MetaValue selects (R47). -/
def metaWb : MetaValue → WbOp
  | .invalid => .mi
  | .shared => .ms
  | .anyV => .me

/-- An RwD of a CXL-G6 host takes a writeback slot: a writeback when the host is the recorded owner, or may be by a
spilled record, else a write-through, which begins at once where the line is not latent (R47). A window page records no owner:
a write to it is a write-through (R313). -/
def g6Write (m : M2SRwD) (ptl : Bool) (s : State) : State :=
  let a := m.agent
  let form : CxlForm := { tag := m.tag, meta0 := false, write := true }
  match portResolve s a m.laddr with
  | none =>
    let pt := (resolve s a m.laddr).bind (trayOf s)
    sendCpl a .cmpWb 0 m.tag .errAddr (some form) false pt (errDeadline s) s
  | some (line, t) =>
    match portDeadline a (some t) 0 s with
    | (dl, s) =>
      match nextSeq s with
      | (q, s) =>
        let p : WSlot := { agent := a, txid := m.tag, op := metaWb m.metaV, ptl := ptl, fog := m.poison,
                           bmask := m.be, data := m.data, line := line, tray := t, deadline := dl, seq := q,
                           place := .waiting, written := false, acked := false, hold := false, status := .ok, cxl := some form }
        let code := codeOf s line (recOf s line) (some t)
        if (windowTray s line).isSome ||
            ((holderOf s line).isNone && !isOwner s a line && decide (code ≠ .spilled)) then
          let t0 := throughPend p .stream
          let r0 := { t0.req with laddr := m.laddr, stream := m.laddr.setWidth 8 }
          accept { t0 with req := r0 } s
        else wbkTake a p s

/-- MemWr and MemWrPtl: R47 on CXL-G6; WrL and WrP on CXL-G5 (R51), whose poison goes with the data (R302). WrL and WrP carry no
FOG bit: that the poisoned write makes the line FOGGED, as R47's does, is a DESIGN CHOICE, log entry 29. -/
def cxlWrite (m : M2SRwD) (ptl : Bool) (s : State) : State :=
  let a := m.agent
  if isZcl s a then s
  else
    let s := creditUsed a true (received a 5 s)
    if detached s a then raiseAt .detached (a / 2) s
    else if isG6 s a then
      if !biOn s a then biRefuse a m.tag false s
      else if txidBusy s a m.tag then raiseAt .txidDup (a / 2) s
      else g6Write m ptl s
    else
      lineReq (if ptl then .wrp else .wrl) (cxlReq a m.tag m.laddr) m.be m.data 0
        (some { tag := m.tag, meta0 := false, write := true }) m.poison s

/-- The host has taken a BISnp from its queue, which gives the block its credit back (Table LINK-4, R306); the answer shows it.
DESIGN CHOICE, log entry 29. -/
def biCredit (a : Nat) (s : State) : State := setLink a (fun l => { l with cumSnp := (l.cumSnp + 1) % 2 ^ 16 }) s

/-- A host's BIRsp, received as a snoop response (Table LINE-13). -/
def opBiRsp (a : Nat) (op : RspOp) (h : BitVec 13) (s : State) : State :=
  if isG6 s a then rspArrive a op h (biCredit a s) else s

/-- BIConflict: BIConflictAck goes behind every NDR already queued for the host (R49). -/
def opBiConflict (a : Nat) (tag : BitVec 12) (s : State) : State :=
  if isG6 s a && !detached s a then
    send (hostDeadline s a) (.biConflictAck a tag (devLoad s a)) (received a 1 s)
  else s

/-- The port raises the CMP event of a CXL host's request when its completion has left (R49). -/
def opCxlCmp (a : Nat) (h : BitVec 13) (s : State) : State := if isZcl s a then s else cmpEvent a h.toNat s

/-- The bit of PT_STATUS that holds BI of an agent's link. -/
def setBi (a : Nat) (b : Bool) (s : State) : State := wrf s (oPtStatus (a / 2)) (3 + 4 * (a % 2)) 1 (b2n b)

/-- A host enables Back-Invalidate (R305). -/
def opBiEnable (a : Nat) (s : State) : State := if isG6 s a then setBi a true s else s

/-- A host disables Back-Invalidate: while the link is UP its agent detaches involuntarily (R305). -/
def opBiDisable (a : Nat) (s : State) : State :=
  if isG6 s a && biOn s a then
    let s := setBi a false s
    if linkState s a = 2 then detachIfAttached a s else s
  else s

/-- A BIRsp of a block form is discarded with PROTO (R48). -/
def opBiBlock (a : Nat) (s : State) : State :=
  if isG6 s a && !detached s a then raiseAt .proto (a / 2) (received a 1 s) else s

/-! ### The endpoint function (R303) -/

/-- A DVSEC that a CXL link's endpoint function carries. -/
inductive Dvsec where
  | cxlDevice (memCapable cacheCapable : Bool) (hdmCount : Nat)
  | registerLocator
  | flexBusPort
  deriving DecidableEq, Repr

/-- An HDM decoder as the endpoint reports it: base and size in regions. -/
structure Decoder where
  base      : Nat
  size      : Nat
  ways      : Nat
  committed : Bool
  locked    : Bool
  deriving DecidableEq, Repr

/-- What the endpoint function of a CXL link shows. -/
structure Endpoint where
  dvsecs   : List Dvsec
  serial   : W64
  decoders : List Decoder
  deriving DecidableEq, Repr

/-- The decoder of a window: committed and locked where the window is valid. -/
def decoderOf (s : State) (a w : Nat) : Decoder :=
  match windowOf s a w with
  | (v, _, ab, sz) => { base := ab, size := sz, ways := 1, committed := v, locked := v }

/-- The endpoint function of an agent's link; a ZCL link presents none. -/
def endpointOf (s : State) (a : Nat) : Option Endpoint :=
  if isZcl s a then none
  else some { dvsecs := [.cxlDevice true false 1, .registerLocator, .flexBusPort],
              serial := rd s (portBase (a / 2) + 0x50 + 8 * (a % 2)), decoders := (List.range 8).map (decoderOf s a) }

/-! ### The mailbox (R304, Table LINK-9) -/

/-- The bytes of an agent's valid windows. -/
def windowBytes (s : State) (a : Nat) : Nat :=
  (List.range 8).foldl (fun n w => match windowOf s a w with
    | (v, _, _, sz) => if v then n + sz * 2 ^ 20 else n) 0

/-- The opcodes of Table LINK-9. -/
def mailboxOps : List Nat := [0x0001, 0x0002, 0x0100, 0x0101, 0x0400, 0x0401, 0x4000, 0x4100, 0x4200]

/-- The hottest thermal sensor of the block (PWR_TEMP; sensor 2i in the low half). -/
def hottest (s : State) : Nat :=
  let temps := (List.range 16).map (fun i => rdf s (0x220 + 4 * (i / 2)) (16 * (i % 2)) 16)
  temps.foldl (fun best t => if signedOf best 16 < signedOf t 16 then t else best) (temps.headD 0)

/-- What the block returns to a mailbox command of Table LINK-9; the payload's layout is the model's, log entry 17. -/
def mailboxReply (s : State) (a : Nat) (opc : BitVec 16) : Option (List Nat) :=
  match opc.toNat with
  | 0x0001 => some [3]
  | 0x0002 => some [0]
  | 0x0100 => some [0]
  | 0x0101 => some []
  | 0x0400 => some [1]
  | 0x0401 => some mailboxOps
  | 0x4000 => some [windowBytes s a, windowBytes s a, 0, 0, 0]
  | 0x4100 => some [windowBytes s a, 0]
  | 0x4200 => some [b2n (isSafe s), hottest s]
  | _ => none

/-- A mailbox command reaches the block over an UP link, its agent attached or not: a command of the table is answered, every
other opcode with Unsupported. -/
def mailbox (a : Nat) (opc : BitVec 16) (s : State) : State :=
  if isZcl s a || decide (linkState s a ≠ 2) then s
  else emit (.mailbox a opc (mailboxReply s a opc).isSome ((mailboxReply s a opc).getD [])) s

/-! ### Meanings -/

/-- MEMRD (R46). -/
def execMemRd (q : M2SReq) (s : State) : Out := onUnit (okAgent q.agent) (heard (opMemRd q)) s

/-- MEMRDDATA (R46). -/
def execMemRdData (q : M2SReq) (s : State) : Out := onUnit (okAgent q.agent) (heard (opMemRdData q)) s

/-- MEMINV (R46). -/
def execMemInv (q : M2SReq) (s : State) : Out := onUnit (okAgent q.agent) (heard (opMemInv q)) s

/-- MEMINVNT (R46). -/
def execMemInvNT (q : M2SReq) (s : State) : Out := onUnit (okAgent q.agent) (heard (opMemInv q)) s

/-- MEMCLNEVCT (R46). -/
def execMemClnEvct (q : M2SReq) (s : State) : Out := onUnit (okAgent q.agent) (heard (opMemClnEvct q)) s

/-- MEMSPECRD (R46). -/
def execMemSpecRd (q : M2SReq) (s : State) : Out := onUnit (okAgent q.agent) (heard (opMemSpecRd q)) s

/-- MEMRDFWD (R46). -/
def execMemRdFwd (q : M2SReq) (s : State) : Out := onUnit (okAgent q.agent) (heard (opCxlFwd q)) s

/-- MEMWRFWD (R46). -/
def execMemWrFwd (q : M2SReq) (s : State) : Out := onUnit (okAgent q.agent) (heard (opCxlFwd q)) s

/-- MEMWR (R47). -/
def execMemWr (w : M2SRwD) (s : State) : Out := onUnit (okAgent w.agent) (heard (cxlWrite w false)) s

/-- MEMWRPTL (R47). -/
def execMemWrPtl (w : M2SRwD) (s : State) : Out := onUnit (okAgent w.agent) (heard (cxlWrite w true)) s

/-- BIRSPI (R48). -/
def execBiRspI (agent : Nat) (htid : BitVec 13) (s : State) : Out :=
  onUnit (okAgent agent) (heard (opBiRsp agent .rspI htid)) s

/-- BIRSPS (R48). -/
def execBiRspS (agent : Nat) (htid : BitVec 13) (s : State) : Out :=
  onUnit (okAgent agent) (heard (opBiRsp agent .rspS htid)) s

/-- BIRSPE (R48). -/
def execBiRspE (agent : Nat) (htid : BitVec 13) (s : State) : Out :=
  onUnit (okAgent agent) (heard (opBiRsp agent .rspE htid)) s

/-- BICONFLICT (R49). -/
def execBiConflict (agent : Nat) (tag : BitVec 12) (s : State) : Out :=
  onUnit (okAgent agent) (heard (opBiConflict agent tag)) s

/-- CXL_CMP_EVENT (R49). -/
def execCxlCmpEvent (agent : Nat) (htid : BitVec 13) (s : State) : Out :=
  onUnit (okAgent agent) (heard (opCxlCmp agent htid)) s

/-- BI_DISABLE (R305). -/
def execBiDisable (agent : Nat) (s : State) : Out := onUnit (okAgent agent) (heard (opBiDisable agent)) s

/-- BI_ENABLE (R305). -/
def execBiEnable (agent : Nat) (s : State) : Out := onUnit (okAgent agent) (heard (opBiEnable agent)) s

/-- BIRSP_BLOCK_FORM (R48). -/
def execBirspBlockForm (agent : Nat) (s : State) : Out := onUnit (okAgent agent) (heard (opBiBlock agent)) s

/-- HDM_DECODER_WRITE: the block programs no decoder of a host's, so the write has no effect (R303). -/
def execHdmDecoderWrite (agent _dec : Nat) (_v : W64) (s : State) : Out := onUnit (okAgent agent) id s

/-- IDENTIFY (R304, Table LINK-9). -/
def execIdentify (agent : Nat) (opc : BitVec 16) (s : State) : Out :=
  onUnit (okAgent agent) (heard (mailbox agent opc)) s

/-- BACKGROUND_OPERATION_STATUS (R304, Table LINK-9). -/
def execBackgroundOperationStatus (agent : Nat) (opc : BitVec 16) (s : State) : Out :=
  onUnit (okAgent agent) (heard (mailbox agent opc)) s

/-- GET_EVENT_RECORDS (R304, Table LINK-9). -/
def execGetEventRecords (agent : Nat) (opc : BitVec 16) (s : State) : Out :=
  onUnit (okAgent agent) (heard (mailbox agent opc)) s

/-- CLEAR_EVENT_RECORDS (R304, Table LINK-9). -/
def execClearEventRecords (agent : Nat) (opc : BitVec 16) (s : State) : Out :=
  onUnit (okAgent agent) (heard (mailbox agent opc)) s

/-- GET_SUPPORTED_LOGS (R304, Table LINK-9). -/
def execGetSupportedLogs (agent : Nat) (opc : BitVec 16) (s : State) : Out :=
  onUnit (okAgent agent) (heard (mailbox agent opc)) s

/-- GET_LOG (R304, Table LINK-9). -/
def execGetLog (agent : Nat) (opc : BitVec 16) (s : State) : Out :=
  onUnit (okAgent agent) (heard (mailbox agent opc)) s

/-- IDENTIFY_MEMORY_DEVICE (R304, Table LINK-9). -/
def execIdentifyMemoryDevice (agent : Nat) (opc : BitVec 16) (s : State) : Out :=
  onUnit (okAgent agent) (heard (mailbox agent opc)) s

/-- GET_PARTITION_INFO (R304, Table LINK-9). -/
def execGetPartitionInfo (agent : Nat) (opc : BitVec 16) (s : State) : Out :=
  onUnit (okAgent agent) (heard (mailbox agent opc)) s

/-- GET_HEALTH_INFO (R304, Table LINK-9). -/
def execGetHealthInfo (agent : Nat) (opc : BitVec 16) (s : State) : Out :=
  onUnit (okAgent agent) (heard (mailbox agent opc)) s

end Sys2Proof.Machine
end

