-- ==== Sys2Proof/Machine/Islands.lean ====
section
/-! DEFINITION. Power-cycling of port and channel islands (R347, R368, R377 to R379). -/

namespace Sys2Proof.Machine

/-- SVC_ISL_CTRL. -/
def oIslCtrl : Nat := 0x280

/-- A refused island command: RESULT REFUSED. -/
def islRefuse (s : State) : State := wrf s oIslSts 28 3 2

/-- An accepted island command: BUSY until ISL_OFF or ISL_ON, and three steps of current (R347, R378). -/
def islBegin (m : Nat) (up : Bool) (s : State) : State :=
  beginSteps (chanSteps m) 3 (updCap (fun c => { c with islCmd := some (m, up) }) (wrf s oIslSts 31 1 1))

/-- May channel `m`'s island be powered off: DARK, or SREF with nothing of the active values on it (R379)? -/
def islOffOk (s : State) (m : Nat) : Bool :=
  decide (chanState s m = 4) || (decide (chanState s m = 3) && !usedChan s m)

/-- Is an island command turned away whatever it asks: another one runs, or the block is in Safelight state (R368)? -/
def islBarred (s : State) : Bool := isSafe s || bitOf (rd s oIslSts) 31

/-- ISLAND_OFF. -/
def opIslandOff (m : Nat) (s : State) : State :=
  let s := wrf s oIslCtrl 0 3 m
  if islBarred s || !islOffOk s m then islRefuse s else islBegin m false s

/-- ISLAND_ON. -/
def opIslandOn (m : Nat) (s : State) : State :=
  let s := wrf s oIslCtrl 0 3 m
  if islBarred s then islRefuse s else islBegin m true s

/-- The channel island command has run its steps, the three of R347 among them: RESULT DONE, its cause. -/
def islEnd (m : Nat) (up : Bool) (s : State) : State :=
  if s.cap.islCmd = some (m, up) ∧ !stepsLeft s (chanSteps m) then
    let s := updCap (fun c => { c with islCmd := none }) s
    let s := wrf (wrf (wrf s oIslSts 31 1 0) oIslSts 28 3 1) oIslSts (16 + m) 1 (b2n (!up))
    raise0 (if up then .islOn else .islOff) s
  else s

/-- The links of a port. -/
def portLinks (s : State) (n : Nat) : List Nat := if bitOf (rd s (oPtCfg n)) 2 then [2 * n, 2 * n + 1] else [2 * n]

/-- ISL_OFF: a port island goes off once its links are RETIRED and its steps are taken (R297, R347, R378). -/
def opIslOff (i : Island) (s : State) : State :=
  match i with
  | .chan m => islEnd m false s
  | .port n =>
    if !bitOf (rd s oIslSts) n && !stepsLeft s (portSteps n) && (portLinks s n).all (fun a => decide (linkState s a = 5)) then
      raise0 .islOff (wrf s oIslSts n 1 1)
    else s

/-- ISL_ON: a port island is on once an ENABLE has powered it and its steps are taken (R297, R347, R378). -/
def opIslOn (i : Island) (s : State) : State :=
  match i with
  | .chan m => islEnd m true s
  | .port n =>
    if bitOf (rd s oIslSts) n && !stepsLeft s (portSteps n) && (portLinks s n).any (fun a => decide (linkState s a ≠ 0) && decide (linkState s a ≠ 5)) then
      raise0 .islOn (wrf s oIslSts n 1 0)
    else s

/-- Does the block have the island? -/
def okIsland (i : Island) : Bool :=
  match i with
  | .port n => okPort n
  | .chan m => okChan m

/-! ### Meanings -/

/-- ISLAND_OFF (R379). -/
def execIslandOff (m : Nat) (s : State) : Out := onUnit (okChan m) (capCmd (opIslandOff m)) s

/-- ISLAND_ON (R378). -/
def execIslandOn (m : Nat) (s : State) : Out := onUnit (okChan m) (capCmd (opIslandOn m)) s

/-- ISL_OFF (R378). -/
def execIslOff (i : Island) (s : State) : Out := onUnit (okIsland i) (live (opIslOff i)) s

/-- ISL_ON (R378). -/
def execIslOn (i : Island) (s : State) : Out := onUnit (okIsland i) (live (opIslOn i)) s

end Sys2Proof.Machine
end

