-- ==== Sys2Proof/Machine/Jtag.lean ====
section
/-! DEFINITION. The test access port and the fuse map (R395 to R398, Tables INTG-9, INTG-10). -/

namespace Sys2Proof.Machine

/-- The bits of a number, least significant first: the order in which a register shifts out. -/
def bitsOut (n v : Nat) : List Bool := (List.range n).map (fun i => decide (v / 2 ^ i % 2 = 1))

/-- An instruction is in the instruction register, and a register has shifted out. -/
def tapShift (code : BitVec 8) (out : List Bool) (s : State) : State :=
  updAon (fun a => { a with tap := { a.tap with ir := code, tdo := out } }) s

/-- BYPASS: one register bit, which captures 0, lies between the input and the output. -/
def tapBypass (code : BitVec 8) (tdi : Bool) (s : State) : State :=
  updAon (fun a => { a with tap := { a.tap with ir := code, byp := tdi, tdo := [false] } }) s

/-- The identification code (Table INTG-9). The manufacturer field is that of the map the block has read (R396). -/
def idCode (s : State) : Nat := 1 + 2 * s.aon.fuseCopy.mfr.toNat + 2 ^ 12 * 0x1280 + 2 ^ 28

/-- IDCODE. -/
def opIdcode (s : State) : State := tapShift 0x01#8 (bitsOut 32 (idCode s)) s

/-- A boundary-scan instruction acts only while PORST_N is low; else it acts as BYPASS (R395). -/
def scan (code : BitVec 8) (f : State → State) (s : State) : State :=
  if s.aon.porstLow then f s else tapBypass code false s

/-- SAMPLE/PRELOAD: the boundary-scan register takes the sampled or preloaded value; what it held shifts out. -/
def opSamplePins (pins : BitVec 1212) (s : State) : State :=
  scan 0x02#8 (fun s =>
    let out := bitsOut 1212 s.aon.tap.bsr.toNat
    updAon (fun a => { a with tap := { a.tap with bsr := pins } }) (tapShift 0x02#8 out s)) s

/-- EXTEST: the boundary-scan register drives the pins with the value shifted in; what it held shifts out. -/
def opExtest (cells : BitVec 1212) (s : State) : State :=
  scan 0x03#8 (fun s =>
    let out := bitsOut 1212 s.aon.tap.bsr.toNat
    updAon (fun a => { a with tap := { a.tap with bsr := cells } }) (tapShift 0x03#8 out s)) s

/-- EXTEST_PULSE and EXTEST_TRAIN: the serial lanes carry the test waveforms of IEEE 1149.6, of which the block keeps no
state; the boundary-scan register stays selected. -/
def opExtestAc (code : BitVec 8) (s : State) : State := scan code (tapShift code []) s

/-- The bits of a bank's spare-row map, entry 0 first: a 14-bit row, then VALID. PRESUMED, log entry 4. -/
def fuseRows (f : Fuses) (b : Nat) : List Bool :=
  (List.range 64).flatMap (fun i => match (sGet [] f.rows b)[i]? with
    | some r => bitsOut 14 r ++ [true]
    | none => bitsOut 15 0)

/-- The bits of a key slot: digest, PROG, REVOKE. -/
def fuseKey (k : KeySlot) : List Bool := bitsOut 384 k.digest.toNat ++ [k.prog, k.revoke]

/-- The fuse map as FUSEREAD shifts it out: the fields in the order of Table INTG-10. PRESUMED, log entry 4. -/
def fuseBits (f : Fuses) : List Bool :=
  (List.range 32).flatMap (fuseRows f) ++ f.keys.list.flatMap fuseKey ++ bitsOut 11 f.mfr.toNat ++ [f.testLock]

/-- FUSEREAD. -/
def opFuseread (s : State) : State := tapShift 0x10#8 (fuseBits s.aon.fuses) s

/-- What one FUSEPROG operation leaves in the fuses; a refused one leaves them as they are (R397, Table INTG-10). The
manufacturer field is programmed once: while it is all 0. -/
def fuseProg (op : FuseOp) (f : Fuses) : Fuses :=
  match op with
  | .key k digest =>
    if (f.keys.get k).prog then f
    else { f with keys := f.keys.set k { f.keys.get k with digest := (f.keys.get k).digest ||| digest, prog := true } }
  | .revoke k => { f with keys := f.keys.set k { f.keys.get k with revoke := true } }
  | .mfr v => if f.mfr = 0 then { f with mfr := v } else f
  | .testLock => { f with testLock := true }

/-- FUSEPROG needs PORST_N low (R397). -/
def opFuseprog (op : FuseOp) (s : State) : State :=
  let s := tapShift 0x11#8 [] s
  if s.aon.porstLow then updAon (fun a => { a with fuses := fuseProg op a.fuses }) s else s

/-- Does a fuse operation name a key slot the block has? -/
def okFuse (op : FuseOp) : Bool :=
  match op with
  | .key k _ => decide (k < 4)
  | .revoke k => decide (k < 4)
  | .mfr _ => true
  | .testLock => true

/-- The codes of Table INTG-9 other than BYPASS. -/
def tapCodes : List (BitVec 8) := [0x01#8, 0x02#8, 0x03#8, 0x04#8, 0x05#8, 0x10#8, 0x11#8]

/-- BYPASS, and every code that Table INTG-9 does not list. A code that it lists is another command's. -/
def opBypass (code : BitVec 8) (tdi : Bool) (s : State) : State :=
  if tapCodes.contains code then s else tapBypass code tdi s

/-! ### Meanings -/

/-- IDCODE (R395). -/
def execIdcode (s : State) : Out := .next (opIdcode s)

/-- SAMPLE_PRELOAD (R395). -/
def execSamplePreload (pins : BitVec 1212) (s : State) : Out := .next (opSamplePins pins s)

/-- EXTEST (R395). -/
def execExtest (cells : BitVec 1212) (s : State) : Out := .next (opExtest cells s)

/-- EXTEST_PULSE (R395). -/
def execExtestPulse (s : State) : Out := .next (opExtestAc 0x04#8 s)

/-- EXTEST_TRAIN (R395). -/
def execExtestTrain (s : State) : Out := .next (opExtestAc 0x05#8 s)

/-- FUSEREAD (R395). -/
def execFuseread (s : State) : Out := .next (opFuseread s)

/-- FUSEPROG (R397). -/
def execFuseprog (op : FuseOp) (s : State) : Out := onUnit (okFuse op) (opFuseprog op) s

/-- BYPASS (R395). -/
def execBypass (code : BitVec 8) (tdi : Bool) (s : State) : Out := .next (opBypass code tdi s)

end Sys2Proof.Machine
end

