-- ==== Sys2Proof/Machine/Training.lean ====
section
/-! DEFINITION. Training primitives and the delay registers (R240, R241, R243, R253 to R255). What the DRAM side adds is an operand
of TRN_DONE: the bits that a transfer turns, the register that MRR reads, the feedback of WLVL and RCVEN. -/

namespace Sys2Proof.Machine

/-- MC_TRN_CTRL of a channel. -/
def oTrnCtrl (m : Nat) : Nat := chanBase m + 0x2000

/-- The states that allow a primitive (Table MEM-7): INIT always, PAUSED for MRW, MRR, RDCMP and RDCAP. -/
def trnAllowed (s : State) (m op : Nat) : Bool :=
  !chanOff s m && !srefPend s m && decide (1 ≤ op) && decide (op ≤ 8) &&
  (decide (chanState s m = 0) ||
   (decide (chanState s m = 2) && (decide (op ≤ 2) || decide (op = 7) || decide (op = 8))))

/-- Write MC_TRN_STS.RESULT. -/
def trnResult (m r : Nat) (s : State) : State := wrf s (oTrnSts m) 28 3 r

/-- A write of MC_TRN_CTRL with GO: refused, ZERO, or BUSY until TRN_DONE (R240). -/
def trnGo (m op : Nat) (v : W32) (s : State) : State :=
  if !trnAllowed s m op || bitOf (rd s (oTrnSts m)) 31 then mcRefuse m (trnResult m 3 s)
  else if fld v 14 16 = 0 then trnResult m 2 s
  else setChan m (fun c => { c with trn := some (op, v) }) (wr s (oTrnSts m) 0x80000000#64)

/-- A write of MC_TRN_CTRL with GO 1 and a primitive's OP. -/
def opTrain (op m : Nat) (v : W32) (s : State) : State :=
  let w := setFld (v.setWidth 64) 0 4 op
  trnGo m op v (regWrite (oTrnCtrl m) 0xFFFFFFFF#64 w s)

/-- The channel offset of MC_TRN_ADDR for a subchannel and a rank: Table MEM-4 read from the coordinates. -/
def trnOffset (s : State) (m sc rank : Nat) : Nat :=
  let a := rd s (chanBase m + 0x2004)
  let bits := if bitOf (rd s (oMcCfg m)) 4 then 6 else 7
  2 ^ 6 * sc + 2 ^ 7 * fld a 0 3 + 2 ^ 10 * fld a 3 2 + 2 ^ 12 * (fld a 5 7 % 2 ^ bits) +
  2 ^ (12 + bits) * (fld a 12 17 * chanRanks s m + rank)

/-- The bytes of MC_TRN_PAT0 to MC_TRN_PAT19. -/
def trnPattern (s : State) (m : Nat) : List Byte :=
  (List.range 20).flatMap (fun j => bytesOf (lo32 (rd s (chanBase m + 0x2020 + 4 * j))) 4)

/-- Store 80 raw bytes as a burst: the check symbols that are not those of the code are wrong symbols (R253, R255). -/
def writeRaw (a : Nat) (bs : List Byte) (s : State) : State :=
  let d := lineOf (bs.take 64)
  let l : W32 := BitVec.ofNat 32 (natOfBytes ((bs.drop 64).take 4))
  let good := ((burstSymbols d l).drop 68).map (fun n => BitVec.ofNat 8 n)
  let errs := (List.range 12).filterMap (fun i =>
    let e : Byte := bs.getD (68 + i) 0 ^^^ good.getD i 0
    if e = 0 then none else some (68 + i, e))
  let s := writeBurst a d l s
  updMem (fun x => { x with burstErr := sPut [] x.burstErr (a / 64) errs }) s

/-- The 80 bytes stored at a burst, wrong symbols as they stand (R253). -/
def rawBurst (s : State) (a : Nat) : List Byte :=
  let errs := sGet [] s.mem.burstErr (a / 64)
  (burstSymbols (burstData s a) (sGet 0 s.mem.ldws (a / 64))).zipIdx.map (fun p => receivedSym errs p.2 (BitVec.ofNat 8 p.1))

/-- The lane and the beat that carry a bit of a symbol (R254). -/
def laneBeat (x8 : Bool) (sym bit : Nat) : Nat × Nat :=
  if x8 then (8 * (sym / 16) + bit, sym % 16) else (4 * (sym / 8) + bit % 4, 2 * (sym % 8) + bit / 4)

/-- WRPAT's write, where the rank and the row exist. -/
def trnWrite (m sc rank : Nat) (s : State) : State :=
  let co := trnOffset s m sc rank
  if rank < chanRanks s m ∧ co < chanGib s m * 2 ^ 30 then writeRaw (m * 2 ^ 39 + co) (trnPattern s m) s else s

/-- Does the location that a primitive names exist: its rank, and its row? -/
def trnExists (s : State) (m sc rank : Nat) : Bool :=
  decide (rank < chanRanks s m) && decide (trnOffset s m sc rank < chanGib s m * 2 ^ 30)

/-- The burst that a read of MC_TRN_ADDR brings: the stored bytes, with the bits that the transfer has turned; where no such
location exists nothing is driven, and all of it is the operand's. -/
def trnRead (s : State) (m sc rank : Nat) (turned : List Byte) : List Byte :=
  let stored := if trnExists s m sc rank then rawBurst s (m * 2 ^ 39 + trnOffset s m sc rank) else List.replicate 80 0
  (List.range 80).map (fun i => stored.getD i 0 ^^^ turned.getD i 0)

/-- The lanes that differ between two bursts. -/
def lanesOf (x8 : Bool) (p q : List Byte) : BitVec 40 :=
  (List.range 80).foldl (fun v i =>
    (onesOf (p.getD i 0 ^^^ q.getD i 0)).foldl (fun v b => v ||| (1#40 <<< (laneBeat x8 i b).1)) v) 0

/-- The lane results of a primitive: ten pins or nibbles, or forty lanes for RDCMP. -/
def trnLanes (m op : Nat) (lanes : BitVec 40) (s : State) : State :=
  if op = 7 then
    wr (wr s (chanBase m + 0x2010) (w64 (lanes.toNat % 2 ^ 32))) (chanBase m + 0x2014) (w64 (lanes.toNat / 2 ^ 32))
  else wr (wr s (chanBase m + 0x2010) (w64 (lanes.toNat % 2 ^ 10))) (chanBase m + 0x2014) 0

/-- A raw burst captured. -/
def trnCapture (m : Nat) (burst : List Byte) (s : State) : State :=
  (List.range 20).foldl (fun s j =>
    wr s (chanBase m + 0x2080 + 4 * j) (w64 (natOfBytes ((List.range 4).map (fun i => burst.getD (4 * j + i) 0))))) s

/-- The bytes of an operand's words. -/
def trnBytes (l : List W32) : List Byte := (List.range 20).flatMap (fun j => bytesOf (l.getD j 0) 4)

/-- RDCMP: COUNT reads are compared with the pattern. The transfer turns the operand's bits in `errs` of them. -/
def trnCompare (m sc rank cnt : Nat) (res : TrnResult) (s : State) : State :=
  let pat := trnPattern s m
  let x8 := bitOf (rd s (oMcCfg m)) 4
  let hit := min res.errs cnt
  let bad := lanesOf x8 (trnRead s m sc rank (trnBytes res.burst)) pat
  let rest := lanesOf x8 (trnRead s m sc rank []) pat
  let lanes := (if hit = 0 then 0 else bad) ||| (if hit = cnt then 0 else rest)
  let n := (if bad = 0 then 0 else hit) + (if rest = 0 then 0 else cnt - hit)
  wrf (trnLanes m 7 lanes s) (oTrnSts m) 0 16 (min n 0xFFFF)

/-- CALOOP: COUNT times what the register clock driver returns is compared with the pattern driven. The operand names the pins that
return another level, in `errs` of them. -/
def trnLoop (m cnt : Nat) (res : TrnResult) (s : State) : State :=
  let hit := min res.errs cnt
  let pins := res.lanes.toNat % 2 ^ 10
  let s := trnLanes m 3 (if hit = 0 then 0 else res.lanes) s
  wrf s (oTrnSts m) 0 16 (if pins = 0 then 0 else min hit 0xFFFF)

/-- What a primitive leaves (Table MEM-7). -/
def trnEffect (m op : Nat) (v : W32) (res : TrnResult) (s : State) : State :=
  let sc := fld v 12 1
  let rank := fld v 9 3
  let mr := rd s (chanBase m + 0x2008)
  match op with
  | 1 => setMode m sc rank (fld v 13 1) (fld mr 0 8) (BitVec.ofNat 8 (fld mr 8 8)) s
  | 2 => trnCapture m (trnBytes res.burst) s
  | 3 => trnLoop m (fld v 14 16) res s
  | 4 => trnLanes m op res.lanes s
  | 5 => trnLanes m op res.lanes s
  | 6 => trnWrite m sc rank s
  | 7 => trnCompare m sc rank (fld v 14 16) res s
  | 8 => trnCapture m (trnRead s m sc rank (trnBytes res.burst)) s
  | _ => s

/-- TRN_DONE: the primitive's effect, RESULT DONE, BUSY 0. -/
def opTrnDone (m : Nat) (res : TrnResult) (s : State) : State :=
  match (chanOf s m).trn with
  | some (op, v) =>
    let s := trnEffect m op v res s
    trnResult m 1 (wrf (setChan m (fun c => { c with trn := none }) s) (oTrnSts m) 31 1 0)
  | none => s

/-! ### Delay registers -/

/-- An offset of MC_CA_DLY or of a delay set. -/
def inDelaySet (x : Nat) : Bool := decide (x / 0x800 = 6) || decide (x / 0x800 = 8)

/-- MC_DRIFT. -/
def isDrift (x : Nat) : Bool := inDelaySet x && inRow (x % 0x100) 0xF4 4 3

/-- A register whose writes R241 allows only in INIT and PAUSED. -/
def isDelay (x : Nat) : Bool :=
  inRow x 0x2100 4 5 || inRow x 0x2120 4 5 || (inDelaySet x && (regDelaySet (x % 0x100)).isSome && !isDrift x)

/-- DELAY_WRITE. -/
def opDelayWrite (m x : Nat) (v : W32) (s : State) : State :=
  if chanState s m = 0 ∨ (chanState s m = 2 ∧ !srefPend s m) then
    regWrite (chanBase m + x) 0xFFFFFFFF#64 (v.setWidth 64) s
  else mcRefuse m s

/-- DRIFT_WRITE. -/
def opDriftWrite (m x : Nat) (v : W32) (s : State) : State :=
  regWrite (chanBase m + x) 0xFFFFFFFF#64 (v.setWidth 64) s

/-! ### Meanings -/

/-- MRW (Table MEM-7). -/
def execMrw (m : Nat) (v : W32) (s : State) : Out := onUnit (okChan m) (capCmd (opTrain 1 m v)) s

/-- MRR. -/
def execMrr (m : Nat) (v : W32) (s : State) : Out := onUnit (okChan m) (capCmd (opTrain 2 m v)) s

/-- CALOOP. -/
def execCaloop (m : Nat) (v : W32) (s : State) : Out := onUnit (okChan m) (capCmd (opTrain 3 m v)) s

/-- WLVL. -/
def execWlvl (m : Nat) (v : W32) (s : State) : Out := onUnit (okChan m) (capCmd (opTrain 4 m v)) s

/-- RCVEN. -/
def execRcven (m : Nat) (v : W32) (s : State) : Out := onUnit (okChan m) (capCmd (opTrain 5 m v)) s

/-- WRPAT. -/
def execWrpat (m : Nat) (v : W32) (s : State) : Out := onUnit (okChan m) (capCmd (opTrain 6 m v)) s

/-- RDCMP. -/
def execRdcmp (m : Nat) (v : W32) (s : State) : Out := onUnit (okChan m) (capCmd (opTrain 7 m v)) s

/-- RDCAP. -/
def execRdcap (m : Nat) (v : W32) (s : State) : Out := onUnit (okChan m) (capCmd (opTrain 8 m v)) s

/-- TRN_DONE (R240). -/
def execTrnDone (m : Nat) (res : TrnResult) (s : State) : Out := onUnit (okChan m) (live (opTrnDone m res)) s

/-- DELAY_WRITE (R241). -/
def execDelayWrite (m : Nat) (off : BitVec 16) (v : W32) (s : State) : Out :=
  onUnit (okChan m && isDelay off.toNat) (capCmd (opDelayWrite m off.toNat v)) s

/-- DRIFT_WRITE (R243). -/
def execDriftWrite (m : Nat) (off : BitVec 16) (v : W32) (s : State) : Out :=
  onUnit (okChan m && isDrift off.toNat) (capCmd (opDriftWrite m off.toNat v)) s

end Sys2Proof.Machine
end

