-- ==== Sys2Proof/Machine/LineCode.lean ====
section
/-! DEFINITION. Erasures and device counters, the blank map's commands, the fill, the patrol scrubber, and page retirement
(R260, R261, R264 to R274). The fill, a rewrite and a copied sector are one step each: the line is latent within it. -/

namespace Sys2Proof.Machine

/-- A refused erasure write, blank command or remap command. -/
def cdRefuse (m : Nat) (s : State) : State := raiseAt .cdCmd m s

/-! ### Erasures and device counters (R260, R261) -/

/-- ERASURE_DECLARE. -/
def opErasure (m sc rank : Nat) (v : W32) (s : State) : State :=
  if bitOf v 31 && (bitOf (rd s (oMcCfg m)) 4 || decide (9 < fld v 0 4)) then cdRefuse m s
  else regWrite (chanBase m + 0x8020 + 0x20 * sc + 4 * rank) 0xFFFFFFFF#64 (v.setWidth 64) s

/-- The count of a device: its half of CD_DEVCNT. -/
def devCnt (s : State) (m sc rank dev : Nat) : Nat :=
  rdf s (chanBase m + 0x8100 + 0x100 * sc + 0x20 * rank + 4 * (dev / 2)) (16 * (dev % 2)) 16

/-- The key of a device counter. -/
def devKey (sc rank dev : Nat) : Nat := (sc * 8 + rank) * 10 + dev

/-- DEV_THRESH: once for a counter at or above a COUNT that is not 0. -/
def opDevThresh (m sc rank dev : Nat) (s : State) : State :=
  let t := rdf s (chanBase m + 0x8018) 0 16
  if t = 0 ∨ devCnt s m sc rank dev < t ∨ (chanOf s m).thresh.contains (devKey sc rank dev) then s
  else raiseAt .devThresh m (setChan m (fun c => { c with thresh := devKey sc rank dev :: c.thresh }) s)

/-- The register of a counter by its key, as an offset within the channel's block. -/
def devReg (k : Nat) : Nat := 0x8100 + 0x100 * (k / 80) + 0x20 * (k / 10 % 8) + 4 * (k % 10 / 2)

/-- After firmware has written one CD_DEVCNT register: its counters below the threshold may raise DEV_THRESH again. -/
def rearmThresh (m x : Nat) (s : State) : State :=
  let t := rdf s (chanBase m + 0x8018) 0 16
  let low := fun (k : Nat) => decide (devReg k = x) && decide (devCnt s m (k / 80) (k / 10 % 8) (k % 10) < t)
  setChan m (fun c => { c with thresh := c.thresh.filter (fun k => !low k) }) s

/-! ### Blank commands (R267) -/

/-- Does the block refuse to blank a region: a valid tray range, a POOL backing region, or the spare range holds it? -/
def blankRefused (s : State) (r : Nat) : Bool :=
  (trayOfRegion s r).isSome || [false, true].any (fun b => decide (backingRegion s b = some r)) ||
  (match spareRange s with
   | some (b, n) => decide (b ≤ r) && decide (r < b + n)
   | none => false)

/-- CD_BLANK_STS.RESULT. -/
def blankResult (r : Nat) (s : State) : State := wrf s 0x209004 0 2 r

/-- Store CD_BLANK_CMD.REGION. -/
def blankRegion (region : BitVec 22) (s : State) : State :=
  regWrite 0x209000 0xFFFFFFFF#64 (region.setWidth 64) s

/-- BLANK. -/
def opBlank (region : BitVec 22) (s : State) : State :=
  let s := blankRegion region s
  if blankRefused s region.toNat then cdRefuse 0 (blankResult 2 s)
  else blankResult 1 (blankIf (fun r => decide (r = region.toNat)) s)

/-- QUERY: 0 written, 1 blank, 2 developing. -/
def opQuery (region : BitVec 22) (s : State) : State :=
  let s := blankRegion region s
  let st := if !regionBlank s region.toNat then 0 else if (fillOf s region.toNat).isSome then 2 else 1
  blankResult 1 (wrf s 0x209004 4 2 st)

/-! ### The fill (R265, R266) -/

/-- The first line of a region, from an index on, that is not filled and not latent. -/
def fillNext (s : State) (f : Fill) (start : Nat) : Option Nat :=
  ((List.range (16384 - start)).map (fun i => f.region * 16384 + start + i)).find? (fun l =>
    !f.filled.contains l && (holderOf s l).isNone)

/-- FILL_LINE: the next line of the walk, or one the walk passed over, is written as zero. The write of a line on a DARK
channel ends without being written. -/
def opFill (slot : Nat) (s : State) : State :=
  match sFind s.mem.fills slot with
  | none => s
  | some f =>
    let next := match fillNext s f f.walk with
      | some l => some l
      | none => fillNext s f 0
    match next with
    | none => s
    | some l =>
      if isSafe s || !entriesFor s 1 || (!isDark s l && !pwbReady s l) then s
      else
        let s := updMem (fun x => { x with fills := sSet x.fills slot { f with walk := (l % 16384 + 1) % 16384 } }) s
        if isDark s l then develop l s else pwbEnter (ownLine l 0 false ldwEmpty s) s

/-! ### The patrol scrubber (R268 to R270) -/

/-- The pool byte address that a channel offset holds before any remap: Table MEM-3 read backwards. -/
def unmapAddr (s : State) (m co : Nat) : Nat :=
  match mapMode s with
  | 0 => co / 2 ^ 8 * 2 ^ 11 + m * 2 ^ 8 + co % 2 ^ 8
  | 1 => co / 2 ^ 12 * 2 ^ 15 + m * 2 ^ 12 + co % 2 ^ 12
  | 3 => co / 2 ^ 8 * 2 ^ 11 + Nat.xor m (hashGroups 11 (co / 2 ^ 8)) * 2 ^ 8 + co % 2 ^ 8
  | _ => chanBaseGib s m * 2 ^ 30 + co

/-- The valid and copying entries of the remap table: OLD, NEW, valid. -/
def remapEntries (s : State) : List (Nat × Nat × Bool) :=
  (s.regs.filter (fun p => decide (0x20A000 ≤ p.1) && decide (p.1 < 0x20E000) &&
    (bitOf p.2 63 || bitOf p.2 62))).map (fun p => (fld p.2 0 30, fld p.2 32 30, bitOf p.2 63))

/-- The pool line that a physical line holds: none in an old page, in a spare page that no entry uses, and where a copy
has not come yet (R268, R273). -/
def heldLine (s : State) (phys : Nat) : Option Nat :=
  let page := phys / 64
  let es := remapEntries s
  match es.find? (fun e => decide (e.2.1 = page)) with
  | some (o, _, v) => if v || decide (phys % 64 / 4 < rdf s oRmpSts 0 5) then some (o * 64 + phys % 64) else none
  | none =>
    if es.any (fun e => decide (e.1 = page)) then none
    else
      match spareRange s with
      | some (b, n) => if b ≤ page / 256 ∧ page / 256 < b + n then none else some phys
      | none => some phys

/-- Lines of a subchannel. -/
def subLines (s : State) (m : Nat) : Nat := chanGib s m * 2 ^ 23

/-- The channel offset of a subchannel's location. -/
def subOffset (sc k : Nat) : Nat := (2 * k + sc) * 64

/-- The physical line at a location. -/
def locLine (s : State) (m sc k : Nat) : Nat := unmapAddr s m (subOffset sc k) / 64

/-- The first location of a region on a subchannel of a channel: each region is one run of its locations. -/
def regionStart (s : State) (m r : Nat) : Nat :=
  if mapMode s = 2 then (r - chanBaseGib s m * 1024) * 2 ^ 13 else r * 2 ^ 10

/-- The regions that may hold a line to read: those with bursts, and the spare range. -/
def scrubRegions (s : State) (m : Nat) : List Nat :=
  let l := notBlank s ++ (match spareRange s with
    | some (b, n) => (List.range n).map (· + b)
    | none => [])
  if mapMode s = 2 then
    l.filter (fun r => decide (chanBaseGib s m * 1024 ≤ r) && decide (r < (chanBaseGib s m + chanGib s m) * 1024))
  else l

/-- The next location to visit: past regions whose every line reads BLANK. -/
def patrolNext (s : State) (m sc k : Nat) : Nat :=
  let rs := scrubRegions s m
  if k < subLines s m ∧ rs.contains (locLine s m sc k / 2 ^ 14) then k
  else (((rs.map (regionStart s m)).filter (fun x => decide (k < x))).min?).getD (subLines s m)

/-- The end of a subchannel's lap. The channel's lap ends with the second; the first waits for it. -/
def scrubLapEnd (m sc : Nat) (s : State) : State :=
  let s := setChan m (fun c => if sc = 0 then { c with lap0 := true } else { c with lap1 := true }) s
  let c := chanOf s m
  if !(c.lap0 && c.lap1) then s
  else
    let s := wr s (chanBase m + 0x8004) (w64 (elapsed s c.lapStart 4000000 % 2 ^ 32))
    let now := s.aon.ft
    let inPool := decide (s.mem.poolStart ≤ c.lapStart)
    let next : Chan := { c with lap0 := false, lap1 := false, pos0 := 0, pos1 := 0, lapStart := now,
                                lapInPool := c.lapInPool || inPool }
    poolLapCheck (setChan m (fun _ => next) s)

/-- What Table RACE-9 makes of an LDW's records, and the agent whose record it fogs (Table RACE-6). -/
def ldwResolve (s : State) (line : Nat) (l : W32) : W32 × Option Nat :=
  match ldwTracks l, ldwLst l with
  | true, some lst =>
    let own := fld l 11 5
    let gone := fun (a : Nat) => match trayOf s line with
      | some t => race9 s a t line
      | none => some false
    let epochOk := decide (fld l 16 8 = (linkOf s own).epoch.toNat)
    let vol := match gone own with
      | none => if epochOk then none else some false
      | some v => some (v && epochOk)
    let next := if lst.owned then (match vol with
        | none => lst
        | some v => if v && decide (lst = .e) then Lst.i else .fogged) else lst
    let svb := (List.range 8).foldl (fun n b =>
      if bitOf l (24 + b) && (gone (8 * (line % 4) + b)).isNone then n + 2 ^ b else n) 0
    let new := ldwTrack (BitVec.ofNat 4 (fld l 4 4)) next own (fld l 16 8) svb
    ((new &&& 0xFFFFFFF0#32) ||| (l &&& 0xF#32), if lst.owned && decide (next = .fogged) then some own else none)
  | _, _ => (l, none)

/-- May a subchannel of a channel issue a read of the block's own now: no replay holds it, and R248 leaves room? -/
def ownRoom (s : State) (m sc : Nat) : Bool := !(schedOf s m sc).replay && windowRoom s m sc 3

/-- A scrub read of a line: a correction, or records that resolve differently, ask for a rewrite (R269). -/
def scrubRead (line : Nat) (errs : List SymErr) (s : State) : State :=
  match memReadLine line .scrub true errs s with
  | (o, s) =>
    if o.uncor || isSafe s || !(o.fixed || decide ((ldwResolve s line o.ldw).1 ≠ o.ldw)) then s
    else updMem (fun x => { x with rewrites := sSet x.rewrites line (o.data, o.ldw) }) s

/-- PATROL_SCRUB_READ: the scrubber of a subchannel visits its next location, and reads the line it holds. -/
def opPatrol (m sc : Nat) (errs : List SymErr) (s : State) : State :=
  let c := chanOf s m
  if !bitOf (rd s (chanBase m + 0x8000)) 31 || !chanServes s m || !chanPresent s m || decide (rdf s oPwrStatus 0 3 ≠ 0) ||
      (if sc = 0 then c.lap0 else c.lap1) || !ownRoom s m sc then s
  else
    let k := patrolNext s m sc (if sc = 0 then c.pos0 else c.pos1)
    if subLines s m ≤ k then scrubLapEnd m sc s
    else
      let s := match heldLine s (locLine s m sc k) with
        | some line => if lineBlank s line then s else scrubRead line errs s
        | none => s
      let s := setChan m (fun c => if sc = 0 then { c with pos0 := k + 1 } else { c with pos1 := k + 1 }) s
      if patrolNext s m sc (k + 1) < subLines s m then s else scrubLapEnd m sc s

/-- The rewrite of a line: the corrected data with the resolved LDW; an LDW under a sheet entry stays. -/
def rewriteLine (line : Nat) (o : ReadOut) (s : State) : State :=
  let r := if (heldEntry s (line / 4)).isSome then (o.ldw, none) else ldwResolve s line o.ldw
  let s := match r.2 with
    | some a => raise .detachDirty 0 (lineRec s line none (some a)) s
    | none => s
  pwbEnter (ownLine line o.data (ldwFogged r.1) r.1 s) s

/-- SCRUB_REWRITE: the line is read again, and rewritten unless it differs from the first read (R269, R341). -/
def opRewrite (line : Nat) (errs : List SymErr) (s : State) : State :=
  match sFind s.mem.rewrites line with
  | none => s
  | some (d, l) =>
    if isSafe s || (holderOf s line).isSome || !entriesFor s 1 || !pwbReady s line || !ownReads s line true then s
    else
      let s := updMem (fun x => { x with rewrites := sDel x.rewrites line }) s
      match memReadLine line .scrub true errs s with
      | (o, s) =>
        if o.uncor || isDark s line || lineBlank s line || decide (o.data ≠ d) || decide (o.ldw ≠ l) then s
        else rewriteLine line o s

/-! ### Page retirement (R272 to R274) -/

/-- CD_RMP_STS.RESULT. -/
def rmpResult (r : Nat) (s : State) : State := wrf s oRmpSts 28 3 r

/-- Does a page lie in the spare range? -/
def inSpare (s : State) (page : Nat) : Bool :=
  match spareRange s with
  | some (b, n) => decide (b ≤ page / 256) && decide (page / 256 < b + n)
  | none => false

/-- The checks of R272 that COPY and LOAD share. -/
def rmpRefused (s : State) (old new : Nat) : Bool :=
  let es := remapEntries s
  !inSpare s new || es.any (fun e => e.2.2 && decide (e.2.1 = new)) || inSpare s old ||
  es.any (fun e => e.2.2 && decide (e.1 = old)) || bitOf (rd s oRmpSts) 31

/-- The lowest entry of the remap table that is free. -/
def rmpFree (s : State) : Option Nat :=
  (List.range 1024).find? (fun e => !bitOf (rd s (oRmp e)) 63 && !bitOf (rd s (oRmp e)) 62)

/-- Take an entry with the bit `b`: 63 VALID, 62 COPYING. -/
def rmpTake (b old new : Nat) (s : State) : Option State :=
  (rmpFree s).map (fun e =>
    wrf (wrf (wr s (oRmp e) (w64 (2 ^ b + 2 ^ 32 * new + old))) oRmpSts 5 10 e) oRmpSts 0 5 0)

/-- COPY. -/
def opCopy (s : State) : State :=
  let old := rdf s 0x209020 0 30
  let new := rdf s 0x209024 0 30
  if rmpRefused s old new || !s.dev.running || isSafe s then cdRefuse 0 (rmpResult 2 s)
  else
    match rmpTake 62 old new s with
    | some s => wrf (rmpResult 0 s) oRmpSts 31 1 1
    | none => cdRefuse 0 (rmpResult 3 s)

/-- LOAD: accepted only while the ENGINE is not RUNNING. -/
def opLoad (s : State) : State :=
  let old := rdf s 0x209020 0 30
  let new := rdf s 0x209024 0 30
  if rmpRefused s old new || s.dev.running then cdRefuse 0 (rmpResult 2 s)
  else
    match rmpTake 63 old new s with
    | some s => rmpResult 1 s
    | none => cdRefuse 0 (rmpResult 3 s)

/-- Copy one line to a physical line: nothing for a line that reads BLANK, and the lost mark for an uncorrectable one. -/
def copyLine (line phys : Nat) (errs : List SymErr) (s : State) : State :=
  if lineBlank s line then s
  else
    match memReadLine line .copy false errs s with
    | (o, s) =>
      match mapAddr s (phys * 64) with
      | some (m, co) =>
        if chanState s m = 4 then s
        else
          let s := rowAccess m (coordOf s m co) false true (count 0x19 ⟨trayOf s line, none, some m⟩ 1 s)
          writeBurst (m * 2 ^ 39 + co) (if o.uncor then 0 else o.data) (if o.uncor then ldwLost else o.ldw) s
      | none => s

/-- May a physical line be accessed: its channel serves and its subchannel issues, or it is DARK? -/
def physServes (s : State) (phys : Nat) : Bool :=
  match mapAddr s (phys * 64) with
  | some (m, co) => (chanServes s m && ownRoom s m (coordOf s m co).sc) || decide (chanState s m = 4)
  | none => true

/-- May the next sector be copied: no line of it is latent or has a write pending, and entries and channels serve? -/
def copyReady (s : State) (old new k : Nat) : Bool :=
  s.dev.running && !isSafe s && entriesFor s 4 && (List.range 4).all (fun i =>
    let l := old * 64 + 4 * k + i
    (holderOf s l).isNone && !s.mem.pwb.any (fun p => decide (p.line = l)) &&
    !s.mem.pwbWait.any (fun p => decide (p.ent.line = l)) && physServes s l && physServes s (new * 64 + 4 * k + i))

/-- The copy has ended: the entry is valid, RMP_DONE. -/
def copyEnd (e : Nat) (s : State) : State :=
  let s := wr s (oRmp e) (setBit (setBit (rd s (oRmp e)) 62 false) 63 true)
  raiseAt .rmpDone 0 (rmpResult 1 (wrf s oRmpSts 31 1 0))

/-- REMAP_COPY_SECTOR: the next sector of the page, with wrong symbols for lines of it. -/
def opCopySector (errs : List (Nat × List SymErr)) (s : State) : State :=
  let e := rdf s oRmpSts 5 10
  let v := rd s (oRmp e)
  let k := rdf s oRmpSts 0 5
  if !bitOf (rd s oRmpSts) 31 || !copyReady s (fld v 0 30) (fld v 32 30) k then s
  else
    let s := (List.range 4).foldl (fun s i =>
      let er := match errs.find? (fun p => p.1 = i) with
        | some p => p.2
        | none => []
      copyLine (fld v 0 30 * 64 + 4 * k + i) (fld v 32 30 * 64 + 4 * k + i) er s) s
    let s := wrf s oRmpSts 0 5 (k + 1)
    if k + 1 = 16 then copyEnd e s else s

/-! ### Meanings -/

/-- A rank's delay sets and declarations: eight of each subchannel. -/
def okRank (m sc rank : Nat) : Bool := okSc m sc && decide (rank < 8)

/-- ERASURE_DECLARE (R260). -/
def execErasureDeclare (m sc rank : Nat) (v : W32) (s : State) : Out :=
  onUnit (okRank m sc rank) (capCmd (opErasure m sc rank v)) s

/-- DEV_THRESH (R261). -/
def execDevThresh (m sc rank dev : Nat) (s : State) : Out :=
  onUnit (okRank m sc rank && decide (dev < 10)) (live (opDevThresh m sc rank dev)) s

/-- BLANK (R267). -/
def execBlank (region : BitVec 22) (s : State) : Out := .next (capCmd (opBlank region) s)

/-- QUERY (R267). -/
def execQuery (region : BitVec 22) (s : State) : Out := .next (capCmd (opQuery region) s)

/-- FILL_LINE (R265). -/
def execFillLine (slot : Nat) (s : State) : Out := onUnit (decide (slot < 16)) (live (opFill slot)) s

/-- PATROL_SCRUB_READ (R268). -/
def execPatrolScrubRead (m sc : Nat) (errs : List SymErr) (s : State) : Out :=
  onUnit (okSc m sc) (live (opPatrol m sc errs)) s

/-- SCRUB_REWRITE (R269). -/
def execScrubRewrite (line : Nat) (errs : List SymErr) (s : State) : Out :=
  onUnit (okLine line) (live (opRewrite line errs)) s

/-- COPY (R272). -/
def execCopy (s : State) : Out := .next (capCmd opCopy s)

/-- REMAP_COPY_SECTOR (R272). -/
def execRemapCopySector (errs : List (Nat × List SymErr)) (s : State) : Out := .next (live (opCopySector errs) s)

/-- LOAD (R274). -/
def execLoad (s : State) : Out := .next (capCmd opLoad s)

end Sys2Proof.Machine
end

