-- ==== Sys2Proof/Machine/Flits.lean ====
section
/-! DEFINITION. ZCL flits and wedges as bytes: CRC-48, the interleaved FEC, headers, and the slots of messages (R36 to R44,
R282 to R289), and the symbols of a lane (R286). Byte 0 of an interleave is the coefficient of its highest power, as R111 and R255 order theirs. DEDUCED,
log entry 18. -/

namespace Sys2Proof.Machine

/-! ### CRC-48 and FEC (R285) -/

/-- One bit of the CRC-48. -/
def crc48Bit (reg : Nat) (b : Bool) : Nat :=
  let sh := reg * 2 % 2 ^ 48
  if (reg.testBit 47) != b then Nat.xor sh 0x2B5D1FA3C7E9 else sh

/-- One byte, bit 0 first. -/
def crc48Byte (reg : Nat) (b : Byte) : Nat := (List.range 8).foldl (fun r i => crc48Bit r (b.getLsbD i)) reg

/-- The CRC-48 of bytes. -/
def crc48 (bs : List Byte) : Nat := bs.foldl crc48Byte (2 ^ 48 - 1)

/-- The bytes of one interleave: the indexes that leave remainder `j` by 3. -/
def interleave (bs : List Byte) (j : Nat) : List Nat :=
  (List.range ((bs.length + 2 - j) / 3)).map (fun k => (bs.getD (j + 3 * k) 0).toNat)

/-- The two check bytes of an interleave of the 250 bytes before them. -/
def fecPair (bs : List Byte) (j : Nat) : Nat × Nat :=
  match rsCheck 2 (interleave bs j) with
  | [a, b] => (a, b)
  | _ => (0, 0)

/-- Complete 244 bytes with the CRC-48 and the FEC check bytes. -/
def flitSeal (bs : List Byte) : List Byte :=
  let b := bs ++ bytesOf (BitVec.ofNat 48 (crc48 bs)) 6
  let p0 := fecPair b 0
  let p1 := fecPair b 1
  let p2 := fecPair b 2
  b ++ [p1.1, p2.1, p0.1, p1.2, p2.2, p0.2].map (BitVec.ofNat 8)

/-- The error that the FEC finds in one interleave: its place and pattern; none where there is no error, or more than
one byte is wrong. -/
def fecFind (bs : List Byte) (j : Nat) : Option SymErr :=
  let w := interleave bs j
  let n := w.length
  let s0 := w.foldl (fun a x => Nat.xor a x) 0
  let s1 := w.foldl (fun a x => Nat.xor (gfDouble a) x) 0
  if s0 = 0 ∨ s1 = 0 then none
  else ((List.range n).find? (fun k => decide (gfMul s0 (gfPow (n - 1 - k)) = s1))).map (fun k =>
    (j + 3 * k, BitVec.ofNat 8 s0))

/-- Decode the FEC: the bytes as corrected, and where a byte was changed. -/
def fecDecode (bs : List Byte) : List Byte × List Nat :=
  (List.range 3).foldl (fun acc j =>
    match fecFind bs j with
    | some (i, e) => (acc.1.set i ((acc.1.getD i 0) ^^^ e), acc.2 ++ [i])
    | none => acc) (bs, [])

/-- Does the CRC of 256 decoded bytes match? -/
def crcGood (bs : List Byte) : Bool := decide (natOfBytes ((bs.drop 244).take 6) = crc48 (bs.take 244))

/-! ### Flits (R282, R283) -/

/-- Fields of received bytes. -/
def byteField (bs : List Byte) (off n : Nat) : Nat := natOfBytes ((bs.drop off).take n)

/-- The header word of a flit: SEQ, ACK, TYPE, CCL, CCNT (Table LINK-3). -/
def flitHead (seq ack : BitVec 12) (typ ccl ccnt : Nat) : List Byte :=
  bytesOf (BitVec.ofNat 32 (seq.toNat + 2 ^ 12 * ack.toNat + 2 ^ 24 * typ + 2 ^ 26 * ccl + 2 ^ 28 * ccnt)) 4

/-- The bytes of slots. -/
def slotBytes (l : List (BitVec 128)) : List Byte := l.flatMap (fun v => bytesOf v 16)

/-- A flit that carries slots of the slot stream: FULL with 15, else PART with USED in byte 243. -/
def slotFlit (seq ack : BitVec 12) (ccl ccnt : Nat) (l : List (BitVec 128)) : List Byte :=
  if l.length = 15 then flitSeal (flitHead seq ack 0 ccl ccnt ++ slotBytes l)
  else
    let body := slotBytes l
    flitSeal (flitHead seq ack 1 ccl ccnt ++ body ++ List.replicate (239 - body.length) 0 ++ [BitVec.ofNat 8 l.length])

/-- A CTRL REPLAY: CODE 1 and FROM in bytes 4 to 7, every other slot byte 0. -/
def replayFlit (fr seq ack : BitVec 12) (ccl ccnt : Nat) : List Byte :=
  flitSeal (flitHead seq ack 2 ccl ccnt ++ bytesOf (BitVec.ofNat 32 (1 + 2 ^ 4 * fr.toNat)) 4 ++ List.replicate 236 0)

/-- What a flit that passed its CRC is. -/
inductive FlitKind where
  | slots (l : List (BitVec 128))
  | idle
  | replay (fromSeq : BitVec 12)
  | bad
  deriving DecidableEq, Repr

/-- Slot k of a flit. -/
def slotAt (bs : List Byte) (k : Nat) : BitVec 128 := BitVec.ofNat 128 (byteField bs (4 + 16 * k) 16)

/-- Read a flit by its TYPE; a reserved TYPE, USED above 14 or a reserved CODE is as a CRC failure (R283). -/
def flitKind (bs : List Byte) : FlitKind :=
  let typ := byteField bs 3 1 % 4
  let used := byteField bs 243 1
  let code := byteField bs 4 1 % 16
  if typ = 0 then .slots ((List.range 15).map (slotAt bs))
  else if typ = 1 then
    if 14 < used then .bad else if used = 0 then .idle else .slots ((List.range used).map (slotAt bs))
  else if typ = 2 then
    if code = 1 then .replay (BitVec.ofNat 12 (byteField bs 4 2 / 16)) else .bad
  else .bad

/-- How far `b` lies behind `a`, modulo 4,096. -/
def seqBehind (a b : BitVec 12) : Nat := (a - b).toNat

/-! ### Messages as slots (Tables LINE-4 to LINE-8) -/

/-- The opcode of a snoop. -/
def SnpOp.num : SnpOp → Nat
  | .i => 0x10
  | .fs => 0x11
  | .fx => 0x12
  | .h => 0x13
  | .c => 0x14

/-- The opcode of a completion without data. -/
def CplOp.num : CplOp → Nat
  | .cmpO => 0x2C
  | .cmpW => 0x2D
  | .cmpWb => 0x2E
  | .cmpB => 0x2F

/-- The code of a status (Table LINE-9). -/
def Status.num : Status → Nat
  | .ok => 0
  | .zero => 1
  | .fogged => 2
  | .errAddr => 3
  | .errOpc => 4
  | .errField => 5
  | .scFail => 6

/-- The four data slots of a line. -/
def dataSlots (d : LineBits) : List (BitVec 128) :=
  (List.range 4).map (fun k => BitVec.ofNat 128 (d.toNat >>> (128 * k)))

/-- The slots of a message sent on a ZCL link; none for what goes elsewhere. -/
def msgSlots : TxMsg → List (BitVec 128)
  | .snp _ op htid rqa rqtx fgr l dl =>
    [BitVec.ofNat 128 (op.num + 2 ^ 6 * (htid % 2 ^ 13) + 2 ^ 19 * (rqa % 32) + 2 ^ 24 * rqtx.toNat + 2 ^ 36 * (fgr % 4) +
      2 ^ 38 * l.toNat + 2 ^ 84 * dl.toNat)]
  | .rsp _ op htid txid st =>
    [BitVec.ofNat 128 (op.num + 2 ^ 6 * (htid % 2 ^ 13) + 2 ^ 19 * txid.toNat + 2 ^ 31 * st.num)]
  | .dat a op htid txid fog st dl d =>
    BitVec.ofNat 128 (op.num.toNat + 2 ^ 6 * (htid % 2 ^ 13) + 2 ^ 19 * txid.toNat + 2 ^ 31 * (a % 32) + 2 ^ 36 * b2n fog +
      2 ^ 37 * st.num + 2 ^ 41 * dl.toNat) :: dataSlots d
  | _ => []

/-- Does a message need a snoop credit? -/
def isSnoopMsg : TxMsg → Bool
  | .snp .. => true
  | _ => false

/-- How many slots a received message takes, from its header; a reserved opcode takes one. -/
def msgLength (h : BitVec 128) : Nat :=
  let o := fld h 0 6
  if o = 0x04 then 5 else if o = 0x05 then 6 else if o = 0x07 then 2
  else if 0x18 ≤ o ∧ o ≤ 0x1C then (if h.getLsbD 6 then 6 else 5)
  else if 0x30 ≤ o ∧ o ≤ 0x34 then 5
  else 1

/-- The line that four data slots carry. -/
def slotsLine (l : List (BitVec 128)) : LineBits :=
  BitVec.ofNat 512 ((l.take 4).foldr (fun v acc => v.toNat + 2 ^ 128 * acc) 0)

/-- A REQ header of agent `a` (Table LINE-4). -/
def reqOfSlot (a : Nat) (h : BitVec 128) : Req :=
  { agent := a, txid := BitVec.ofNat 12 (fld h 8 12), stream := BitVec.ofNat 8 (fld h 20 8),
    size := BitVec.ofNat 4 (fld h 28 4), pgc := h.getLsbD 6, laddr := BitVec.ofNat 46 (fld h 32 46),
    offs := BitVec.ofNat 6 (fld h 78 6), deadline := BitVec.ofNat 32 (fld h 84 32) }

/-- A WBK of agent `a` (Tables LINE-4 and LINE-5). -/
def wbkOfSlots (a : Nat) (h : BitVec 128) (l : List (BitVec 128)) : Wbk :=
  let ptl := h.getLsbD 6
  { agent := a, txid := BitVec.ofNat 12 (fld h 8 12), laddr := BitVec.ofNat 46 (fld h 32 46),
    deadline := BitVec.ofNat 32 (fld h 84 32), ptl := ptl, fog := h.getLsbD 7,
    bmask := if ptl then (l.headD 0).setWidth 64 else 0, data := slotsLine (if ptl then l.drop 1 else l) }

/-- A DAT of agent `a` (Table LINE-8). -/
def datOfSlots (a : Nat) (h : BitVec 128) (l : List (BitVec 128)) : Dat :=
  { agent := a, htid := BitVec.ofNat 13 (fld h 6 13), txid := BitVec.ofNat 12 (fld h 19 12),
    dest := BitVec.ofNat 5 (fld h 31 5), fog := h.getLsbD 36, deadline := BitVec.ofNat 32 (fld h 41 32),
    data := slotsLine l }

/-! ### Lanes: scrambler and PAM4 (R286) -/

/-- The seed of a logical lane. -/
def scrSeed (j : Nat) : BitVec 23 := BitVec.ofNat 23 (Nat.xor 0x5A5A5A j)

/-- One bit of the scrambler of x^23 + x^21 + x^16 + x^8 + x^5 + x^2 + 1: its top bit goes out and is fed back. PRESUMED, log
entry 18. -/
def scrStep (r : BitVec 23) : Bool × BitVec 23 :=
  (r.getLsbD 22, (r <<< 1) ^^^ (if r.getLsbD 22 then 0x210125#23 else 0))

/-- One byte, bit 0 first: scrambled, or sent as it is, and the scrambler after it. -/
def scrByte (plain : Bool) (r : BitVec 23) (b : Byte) : Byte × BitVec 23 :=
  (List.range 8).foldl (fun acc i =>
    ((if scrStep acc.2 |>.1 then (if plain then acc.1 else acc.1 ^^^ BitVec.ofNat 8 (2 ^ i)) else acc.1), (scrStep acc.2).2)) (b, r)

/-- The bytes of one lane; the first `plain` of them, of a wedge's sync mark, are sent unscrambled. -/
def scrLane : Nat → BitVec 23 → List Byte → List Byte × BitVec 23
  | _, r, [] => ([], r)
  | n, r, b :: bs =>
    match scrByte (decide (0 < n)) r b with
    | (c, r) =>
      match scrLane (n - 1) r bs with
      | (l, r) => (c :: l, r)

/-- The PAM4 symbol of two bits, the lower-numbered first: Gray code 00, 01, 11, 10 from the lowest level up. PRESUMED, log
entry 18. -/
def gray (first second : Bool) : BitVec 2 := BitVec.ofBool first ++ BitVec.ofBool (first != second)

/-- The four symbols of a byte. -/
def pam4 (b : Byte) : List (BitVec 2) := (List.range 4).map (fun k => gray (b.getLsbD (2 * k)) (b.getLsbD (2 * k + 1)))

/-- The bytes of a position that travel on the k-th of w lanes (R285). -/
def laneBytes (bs : List Byte) (w k : Nat) : List Byte :=
  (List.range ((bs.length + w - 1 - k) / w)).map (fun i => bs.getD (k + w * i) 0)

/-! ### Wedges (R289, Table LINK-5) -/

/-- SYNC of a wedge. -/
def wedgeSync : Nat := 0xD3B245F8

/-- Is a decoded wedge good: its SYNC and its CRC are right (R291)? -/
def wedgeGood (bs : List Byte) : Bool := decide (byteField bs 0 4 = wedgeSync) && crcGood bs

end Sys2Proof.Machine
end

