-- ==== Sys2Proof/Machine/Timers.lean ====
section
/-! DEFINITION. Expiries, the park limit, the trap limit, and the sweeps on TS42 (R93 to R95, R97 to R100, R141, R157, R169,
R300). -/

namespace Sys2Proof.Machine

/-! ### T_SNOOP and T_CMP (R97 to R100) -/

/-- Does T_SNOOP run for an agent's answer or writeback (R97)? -/
def snoopTimer (x : Ctx) (a : Nat) : Bool :=
  x.owed.any (fun o => match o with
    | .ans b _ _ t => decide (b = a) && t
    | .wbk b t => decide (b = a) && t
    | _ => false)

/-- The TIMER event of a rule-run context: T_SNOOP of an agent (0) or T_CMP (1), with the fabric time of the expiry as its
deadline (R149, Tables DEV-2 and DEV-6). -/
def postTimer (c kind a : Nat) (s : State) : State :=
  match ctxOf s c with
  | some x =>
    postEvent { eventFor x c 41 0x3A#6 0 (w64 (0x3A + 2 ^ 6 * kind + 2 ^ 7 * (a % 32))) with
                  ed := BitVec.ofNat 32 (nowNs s) } s
  | none => s

/-- T_SNOOP: the line becomes FOGGED and the transaction ends as R99 states: by the rules of the TIMER event, in a context that
runs rules. From now on what it is owed arrives late (R101). -/
def opTSnoop (c a : Nat) (s : State) : State :=
  match ctxOf s c with
  | some x =>
    if isSafe s || decide (x.st = .quarantined) || x.expired || !snoopTimer x a then s
    else
      match fogLine (x.line.getD 0) (x.tray.getD 0) .tSnoop (some c) (some a) s with
      | (t, s) =>
        if x.byRule then go t (postTimer c 0 a (modCtx c (fun y => { stopSnoop a y with expired := true }) s))
        else
          match expireTxn c s with
          | (u, s) => go (t ++ u) s
  | none => s

/-- T_CMP: the line becomes FOGGED and the transaction RETIREs, owing its CMP (R100, R101): by the rules of the TIMER event, in a
context that runs rules. A CXL host never reaches it. -/
def opTCmp (c : Nat) (s : State) : State :=
  match ctxOf s c with
  | some x =>
    if isSafe s || decide (x.st = .quarantined) || !x.cmpTimer || x.cmpIn || x.form.isSome then s
    else
      match fogLine (x.line.getD 0) (x.tray.getD 0) .tCmp (some c) x.agent s with
      | (t, s) =>
        let s := modCtx c (fun y => { y with cmpTimer := false }) (oweMore c .cmp s)
        if x.byRule then go t (postTimer c 1 (x.agent.getD 0) s)
        else
          match retireCore c s with
          | (u, s) => go (t ++ u) s
  | none => s

/-! ### PARK_LONG and TRAP_STORM (R157, R169) -/

/-- Does T_SNOOP or T_CMP run for a context? -/
def anyTimer (x : Ctx) : Bool :=
  x.cmpTimer || x.owed.any (fun o => match o with
    | .ans _ _ _ t => t
    | .wbk _ t => t
    | _ => false)

/-- PARK_LONG: a context parked with no timer running traps. -/
def opParkLong (c : Nat) (s : State) : State :=
  match ctxOf s c with
  | some x =>
    if isSafe s || !x.byRule || decide (x.st ≠ .parked) || anyTimer x then s
    else trap c 0x7F06 x.lastRule.toNat s
  | none => s

/-- TRAP_STORM: more traps than the limit in the current interval (R169). -/
def opTrapStorm (s : State) : State :=
  if s.dev.trapWin = s.aon.ft.toNat / 4000000 ∧ rdf s 0x020018 0 16 < s.dev.trapCount then
    raise .trapStorm 0 (storeRec 10 false s.dev.trapCount) s
  else s

/-! ### Sweeps (R94, R141, R300) -/

/-- The stored ways of one set in the banks that a sweep visits. -/
def sweepKeys (s : State) (k : SweepKind) (set : Nat) : List Nat :=
  let keys := (s.sheet.ways.map (·.1) ++ s.sheet.errs.map (·.1)).dedup
  keys.filter (fun key => decide (key / 8 % 16384 = set) && (match k with
    | .drain b => decide (key / 131072 = b)
    | _ => true))

/-- Does an entry hold records of an agent? -/
def holdsAgent (e : Entry) (a : Nat) : Bool :=
  bitOf e.sv a || (List.range 4).any (fun k => (e.lst.get k).owned && decide (e.own.get k = a))

/-- Apply Table RACE-6 to an agent's records of one sector, but for its latent lines. -/
def sweepSector (a : Nat) (vol : Bool) (sec : Nat) (s : State) : State :=
  (List.range 4).foldl (fun s k =>
    if (holderOf s (4 * sec + k)).isSome then s else race6 (4 * sec + k) a vol none s) s

/-- Has a sweep something to do at an entry? -/
def sweepConcerns (s : State) (k : SweepKind) (sec : Nat) (e : Entry) : Bool :=
  match k with
  | .detach a _ _ => holdsAgent e a
  | .tray a t => decide (e.tray = t) && holdsAgent e a
  | .window a => holdsAgent e a && (holdingWindow s a (4 * sec)).isNone
  | .drain _ => !sectorLatent s sec

/-- A drain sweep at one entry: nothing while it has a latent line; false where it must wait for an eviction slot. -/
def drainEntry (key : Nat) (e : Entry) (s : State) : Bool × List Nat × State :=
  let bank := key / 131072
  let set := key / 8 % 16384
  let way := key % 8
  let sec := sectorOf bank set e.tag
  if sectorLatent s sec then (true, [], s)
  else if isIdle e && !e.spill then
    (true, [], quotaCheck e.tray (count 0x07 ⟨some e.tray, none, none⟩ 1 (putWay key none s)))
  else if evictReady s then
    match evictStart sec way e (quotaCheck e.tray (putWay key none s)) with
    | (t, s) => (true, t, s)
  else (false, [], s)

/-- What a sweep does at an entry that concerns it: whether it may move on, and contexts to run. -/
def sweepEntry (k : SweepKind) (key sec : Nat) (e : Entry) (s : State) : Bool × List Nat × State :=
  match k with
  | .detach a vol _ => (true, [], sweepSector a vol sec s)
  | .tray a _ => (true, [], sweepSector a false sec s)
  | .window a => (true, [], sweepSector a false sec s)
  | .drain _ => drainEntry key e s

/-- What a sweep does at one way. -/
def sweepWay (k : SweepKind) (key : Nat) (s : State) : Bool × List Nat × State :=
  let bank := key / 131072
  let set := key / 8 % 16384
  match readWay bank set (key % 8) s with
  | (r, s) =>
    match r.entry with
    | none => (true, [], s)
    | some e =>
      let sec := sectorOf bank set e.tag
      if sweepConcerns s k sec e then sweepEntry k key sec e s else (true, [], s)

/-- Visit the ways of a set in turn. -/
def sweepWays (k : SweepKind) : List Nat → State → Bool × List Nat × State
  | [], s => (true, [], s)
  | key :: keys, s =>
    match sweepWay k key s with
    | (ok, t, s) =>
      match sweepWays k keys s with
      | (ok', t', s) => (ok && ok', t ++ t', s)

/-- The end of a sweep: DETACH_DONE and the DetN's CmpW (R94, R95), or the end of a removal that R410 guards. A sweep
after a window commit raises nothing, and a drain waits for its evictions. -/
def sweepEnd (w : Sweep) (s : State) : State :=
  match w.kind with
  | .detach _ _ detn =>
    let s := raise0 .detachDone s
    (match detn with
     | some c =>
       (match endCpl c .cmpW (if w.fogged then .fogged else .ok) s with
        | (t, s) => go t s)
     | none => s)
  | .tray a t =>
    raise0 .detachDone (updCap (fun x => { x with removals := x.removals.map (fun r =>
      if r.tray = t ∧ r.agent = a then { r with swept := true } else r) }) s)
  | .window _ => s
  | .drain _ => s

/-! ### The sweep's events (Tables DEV-1, DEV-2 and DEV-6) -/

/-- The entries that concern a sweep among those stored at some ways, by key. -/
def sweepHits (s : State) (k : SweepKind) (keys : List Nat) : List (Nat × Entry) :=
  s.sheet.ways.filter (fun p => keys.contains p.1 &&
    sweepConcerns s k (sectorOf (p.1 / 131072) (p.1 / 8 % 16384) p.2.tag) p.2)

/-- The SWEEP event of one entry: a context of background work, of the entry's tray. -/
def postSweep (s : State) (p : Nat × Entry) : State :=
  let bank := p.1 / 131072
  let set := p.1 / 8 % 16384
  let ex := w64 (0x3C + 2 ^ 6 * bank + 2 ^ 11 * set + 2 ^ 25 * (p.1 % 8))
  (postWork (.sweep p.1) (some p.2.tray) 0x3C#6 (4 * sectorOf bank set p.2.tag) ex s).getD s

/-- Does a context of a sweep's event still work at one of these ways? -/
def sweepLives (s : State) (keys : List Nat) : Bool :=
  s.dev.ctxs.any (fun p => match p.2.kind with
    | .sweep key => keys.contains key && decide (p.2.st ≠ .quarantined)
    | _ => false)

/-- Where the reel runs its rules, a sweep raises SWEEP for each entry that concerns it as it reaches a set, and visits the set
when their handlers have ended. None: it may visit the set now. -/
def sweepRaise (i : Nat) (w : Sweep) (keys : List Nat) (s : State) : Option State :=
  if !s.dev.byRule || !s.dev.running then none
  else if w.raised then (if sweepLives s keys then some s else none)
  else
    let hits := sweepHits s w.kind keys
    if hits.isEmpty then none
    else if !entriesFor s hits.length then some s
    else
      let s := hits.foldl postSweep s
      some (updSheet (fun x => { x with sweeps := x.sweeps.set i { w with raised := true } }) s)

/-- The sweep visits its set. -/
def sweepVisit (i : Nat) (w : Sweep) (keys : List Nat) (s : State) : State :=
  match sweepWays w.kind keys s with
  | (ok, t, s) =>
    let drain := match w.kind with
      | .drain b => some b
      | _ => none
    let s := if ok then sweepScrubs (drain.getD 32) w.next s else s
    let fogged := ((s.sheet.sweeps[i]?).map (·.fogged)).getD w.fogged
    let w' : Sweep := { w with next := if ok then w.next + 1 else w.next, raised := !ok && w.raised, fogged := fogged }
    let last := decide (w'.next = 16384)
    let l := if last && drain.isNone then s.sheet.sweeps.eraseIdx i else s.sheet.sweeps.set i w'
    let s := go t (updSheet (fun x => { x with sweeps := l }) s)
    if !last then s else if drain.isSome then drainCheck s else sweepEnd w' s

/-- SWEEP: sweep `i` goes on at its next set. An uncorrectable way stops it as every GF fault does (R113). -/
def opSweep (i : Nat) (ups : List Upset) (s : State) : State :=
  match s.sheet.sweeps[i]? with
  | none => s
  | some w =>
    if isSafe s || decide (16384 ≤ w.next) then s
    else
      let s := upsetAll ups s
      match postDetach w s with
      | (posted, s) =>
        let w := { w with posted := posted }
        let s := updSheet (fun x => { x with sweeps := x.sweeps.set i w }) s
        let keys := sweepKeys s w.kind w.next
        match sweepRaise i w keys s with
        | some s => s
        | none => sweepVisit i w keys s

/-! ### Meanings -/

/-- T_SNOOP (R99). -/
def execTSnoop (c agent : Nat) (s : State) : Out := onUnit (okCtx c && okAgent agent) (live (opTSnoop c agent)) s

/-- T_CMP (R100). -/
def execTCmp (c : Nat) (s : State) : Out := onUnit (okCtx c) (live (opTCmp c)) s

/-- PARK_LONG (R157). -/
def execParkLong (c : Nat) (s : State) : Out := onUnit (okCtx c) (live (opParkLong c)) s

/-- TRAP_STORM (R169). -/
def execTrapStorm (s : State) : Out := .next (live opTrapStorm s)

/-- SWEEP (R94, R141, R300). -/
def execSweep (i : Nat) (ups : List Upset) (s : State) : Out := .next (live (opSweep i ups) s)

end Sys2Proof.Machine
end

