-- ==== Sys2Proof/Machine/Reel.lean ====
section
/-! DEFINITION. The engine's start, scratch and reel windows, VERIFY, SWITCH and CLEAR, refetches and refills, management
requests, and the crossbar's starvation log (R132, R151, R158 to R166, R195 to R198, R220). -/

namespace Sys2Proof.Machine

/-! ### Starting the engine (R132, ENG_CTRL) -/

/-- ENG_ENABLE: EN is set, and only a reset clears it. -/
def opEngEnable (s : State) : State := wrf s 0x020000 0 1 1

/-- ENGINE_START: dispatch begins when EN is set, the self-test has passed and a slot is ACTIVE. Contexts already bound
take the layer the engine runs on (log entry 5), and writebacks that waited go on. -/
def opEngineStart (byRule : Bool) (s : State) : State :=
  if s.dev.running || !engEn s || !bistPass s || !reelAny s || isSafe s then s
  else
    let layer := fun (x : Ctx) => match x.kind with
      | .req .detn => { x with byRule := false }
      | .mgmt _ => { x with byRule := true }
      | _ => { x with byRule := byRule }
    let s := updDev (fun d => { d with running := true, dispatched := true, byRule := byRule,
                                       ctxs := d.ctxs.map (fun p => (p.1, layer p.2)) }) s
    mreqAdvance (go (waitingWb s) s)

/-! ### The windows (R158, R164) -/

/-- SCRATCH_WRITE: a CAP write into the scratch window. -/
def opScratchWrite (off : Nat) (wide : Bool) (v : W64) (s : State) : State :=
  if !capAnswers s then capSilent s
  else if off < 0x600000 ∨ 0x640000 ≤ off then s
  else if !aligned off wide then capDone true 0 s
  else scratchCapWrite (off - 0x600000) wide v (capDone false 0 s)

/-- REEL_WRITE: a CAP write into a reel slot's window. -/
def opReelWrite (off : Nat) (wide : Bool) (v : W64) (s : State) : State :=
  if !capAnswers s then capSilent s
  else if off < 0x400000 ∨ 0x600000 ≤ off then s
  else if !aligned off wide then capDone true 0 s
  else reelCapWrite (decide (0x500000 ≤ off)) (off % 0x100000) wide v (capDone false 0 s)

/-! ### VERIFY (R165, R195 to R197) -/

/-- A refused reel command. -/
def reelRefuse (s : State) : State := raise0 .reelCmd s

/-- VERIFY: a LOADED slot starts its checks. -/
def opVerify (slotB : Bool) (s : State) : State :=
  if reelState s slotB = 1 then setReelState slotB 2 s else reelRefuse s

/-- The reserved bytes of a header: offset and size (Table RULE-14). -/
def hdrReserved : List (Nat × Nat) := [(0x006, 2), (0x016, 2), (0x041, 7), (0x0C8, 56), (0x108, 248), (0x260, 3392)]

/-- Bytes of a slot's header. -/
def hdrBytes (s : State) (slotB : Bool) (off n : Nat) : List Byte := memRead (reelBytes s slotB) (0x85000 + off) n

/-- A fused key slot of the copy loaded from the fuse map. -/
def keyOf (s : State) (k : Nat) : KeySlot := s.aon.fuseCopy.keys.get k

/-- Does a scratch range run beyond word 32,767? -/
def scrBeyond (s : State) (slotB : Bool) : Bool :=
  (List.range (hdr s slotB 0x40 1)).any (fun i =>
    decide (32768 < hdr s slotB (0x48 + 4 * i) 2 + hdr s slotB (0x4A + 4 * i) 2))

/-- Does the header pass (R197)? -/
def headerOk (s : State) (slotB : Bool) : Bool :=
  let k := keyOf s (hdr s slotB 0x15 1)
  decide (hdr s slotB 0x00 4 = 0x4C53525A) && decide (hdr s slotB 0x04 2 = 1) &&
  decide (1 ≤ hdr s slotB 0x10 4) && decide (hdr s slotB 0x10 4 ≤ 32768) && decide (hdr s slotB 0x14 1 ≠ 0) &&
  decide (hdr s slotB 0x1C 4 ≤ 8) && decide (hdr s slotB 0x40 1 ≤ 32) && !scrBeyond s slotB &&
  hdrReserved.all (fun p => (hdrBytes s slotB p.1 p.2).all (fun b => decide (b = 0))) &&
  decide (hdr s slotB 0x15 1 < 4) && k.prog && !k.revoke &&
  decide (sha384 (hdrBytes s slotB 0x200 96) = k.digest.toNat)

/-- Does every fetch line agree with its CRC? -/
def linesOk (s : State) (slotB : Bool) : Bool := (List.range 8512).all (lineGood s slotB)

/-- Does the signature verify over the image's digest (R196)? -/
def signatureOk (s : State) (slotB : Bool) : Bool :=
  ecdsaOk (natBe (hdrBytes s slotB 0x200 48)) (natBe (hdrBytes s slotB 0x230 48))
    (sha384 (memRead (reelBytes s slotB) 0 0x85FA0)) (natBe (hdrBytes s slotB 0xFA0 48))
    (natBe (hdrBytes s slotB 0xFD0 48))

/-- The first pool line of a slot's backing region. -/
def backingLine (s : State) (slotB : Bool) (k : Nat) : Nat := backingBase s slotB * 2 ^ 14 + k

/-- May a VERIFY write the backing copy: the region lies in the pool and no channel of it is DARK? -/
def backingOk (s : State) (slotB : Bool) : Bool :=
  (List.range 8512).all (fun k => (lineChan s (backingLine s slotB k)).isSome && !isDark s (backingLine s slotB k))

/-- Would a write of the backing copy have to wait: for a fill slot, or for a channel to run (R226, R264)? -/
def backingWaits (s : State) (slotB : Bool) : Bool :=
  !fillReady s (backingLine s slotB 0) ||
  (List.range 8512).any (fun k => !chanServes s (chanNo s (backingLine s slotB k)))

/-- Write one line of the block's own, behind every buffered write of it. -/
def ownWrite (line : Nat) (d : LineBits) (s : State) : State :=
  let out := fun (s : State) => (s.mem.pwb.filter (fun p => decide (p.line = line))).foldl (fun s p => drainLine p s) s
  let s := out s
  out (pwbEnter { ownLine line d false ldwEmpty s with close := false } s)

/-- Write the backing copy (R163). -/
def writeBacking (slotB : Bool) (s : State) : State :=
  (List.range 8512).foldl (fun s k => ownWrite (backingLine s slotB k) (lineOf (fetchBytes s slotB k)) s) s

/-- A VERIFY ends with a result: 1 OK, 2 HEADER, 3 SIGNATURE, 4 CRC, 5 BACKING. -/
def verifyEnd (slotB : Bool) (res : Nat) (s : State) : State :=
  let s := wrf s oReelSts 0 4 res
  raise0 .verifyDone (if res = 1 then setReelState slotB 3 (clearMisses slotB s) else setReelState slotB 6 s)

/-- VERIFY_DONE: the checks in R165's order, then the backing copy. -/
def opVerifyDone (slotB : Bool) (s : State) : State :=
  if reelState s slotB ≠ 2 then s
  else if !headerOk s slotB then verifyEnd slotB 2 s
  else if !linesOk s slotB then verifyEnd slotB 4 s
  else if !signatureOk s slotB then verifyEnd slotB 3 s
  else if backingSrc s slotB ≠ 1 then verifyEnd slotB 1 s
  else if !backingOk s slotB then verifyEnd slotB 5 s
  else if backingWaits s slotB then s
  else verifyEnd slotB 1 (writeBacking slotB s)

/-! ### SWITCH and CLEAR (R164 to R166, R198, R341) -/

/-- Do the headers allow a switch (R198)? -/
def compatible (s : State) (target : Bool) : Bool :=
  let old := hdr s (activeReel s) 0x18 4
  decide (hdr s target 0x18 4 = old) ||
  (List.range (min 8 (hdr s target 0x1C 4))).any (fun i => decide (hdr s target (0x20 + 4 * i) 4 = old))

/-- A refused SWITCH, with its result. -/
def switchRefuse (res : Nat) (s : State) : State := reelRefuse (wrf s oReelSts 4 4 res)

/-- SWITCH: the target becomes ACTIVE and the old slot DRAINING. -/
def opSwitch (slotB : Bool) (s : State) : State :=
  if isSafe s then reelRefuse s
  else if reelState s slotB ≠ 3 then switchRefuse 2 s
  else if reelState s (!slotB) = 5 then switchRefuse 3 s
  else if reelAny s && !compatible s slotB then switchRefuse 4 s
  else
    let had := reelAny s
    let s := setReelState slotB 4 (wrf s oReelSts 4 4 1)
    let s := wrf (wrf s oReel 17 1 1) oReel 16 1 (b2n slotB)
    if had then reelDrain (!slotB) (setReelState (!slotB) 5 s) else s

/-- CLEAR: a LOADED, READY or FAILED slot becomes EMPTY; its window then holds what an empty slot holds (log entry
8). -/
def opClear (slotB : Bool) (s : State) : State :=
  if reelState s slotB = 1 ∨ reelState s slotB = 3 ∨ reelState s slotB = 6 then
    let keep := fun (p : Nat × W32) => decide (8512 ≤ p.1) != slotB
    setReelState slotB 0 (updDev (fun d =>
      { d with reelA := if slotB then d.reelA else [], reelB := if slotB then [] else d.reelB,
               lineCrc := d.lineCrc.filter keep }) s)
  else reelRefuse s

/-! ### Refetch and refill (R162, R163) -/

/-- The contexts stalled on a line go on. -/
def unstallAll (key : Nat) (s : State) : State :=
  let mine := s.dev.stalled.filter (fun p => decide (p.2 = key))
  let s := updDev (fun d => { d with stalled := d.stalled.filter (fun p => decide (p.2 ≠ key)),
                                     refetch := d.refetch.filter (· ≠ key) }) s
  mine.foldl (fun s p => if isSafe s then s else unstall p.1 s) s

/-- A backing line has come: one that matches the stored CRC repairs the SRAM line, any other is a second mismatch. -/
def backingLands (key : Nat) (bs : Option (List Byte)) (s : State) : State :=
  let (slotB, k) := keyLine key
  let drop := updDev (fun d => { d with refetch := d.refetch.filter (· ≠ key) })
  match bs with
  | some bs =>
    if crc32 bs = lineCrcOf s slotB k then
      unstallAll key (raise0 .fetchCe (reelStore slotB (64 * k) bs s))
    else raise .fetchDouble 0 (storeRec 2 slotB k) (drop s)
  | none => raise .fetchDouble 0 (storeRec 2 slotB k) (drop s)

/-- REFETCH_DONE: the oldest refetch from a POOL backing copy completes. -/
def opRefetchDone (s : State) : State :=
  match s.dev.refetch.find? (fun key => decide (backingSrc s (keyLine key).1 = 1)) with
  | none => s
  | some key =>
    let line := backingLine s (keyLine key).1 (keyLine key).2
    if !ownReads s line false then s
    else
      match memReadLine line .txn false [] s with
      | (o, s) => backingLands key (if o.uncor then none else some (lineBytes o.data)) s

/-- The bytes of ENG_REFILL_DATA0 to 15. -/
def refillBytes (s : State) : List Byte :=
  (List.range 16).flatMap (fun j => bytesOf (rd s (0x020040 + 4 * j)) 4)

/-- The key of the line ENG_REFILL_REQ names. -/
def refillKey (s : State) : Nat := fetchKey (bitOf (rd s 0x020030) 30) (rdf s 0x020030 0 14)

/-- REFILL_GO: the refill line is checked as a backing line; the next refill may be asked for. -/
def opRefillGo (s : State) : State :=
  if !bitOf (rd s 0x020030) 31 then s
  else
    let key := refillKey s
    let bs := refillBytes s
    refillAsk (backingLands key (some bs) (wrf s 0x020030 31 1 0))

/-- FETCH_TIMEOUT: an outstanding CAP refill is late. -/
def opFetchTimeout (s : State) : State :=
  if !bitOf (rd s 0x020030) 31 then s
  else raise .fetchTimeout 0 (storeRec 2 (bitOf (rd s 0x020030) 30) (rdf s 0x020030 0 14)) s

/-! ### Management requests (chapter 06, ENG_MREQ) -/

/-- MREQ_GO: nothing in Safelight state or while BUSY; a line beyond the installed pool ends at once. -/
def opMreqGo (s : State) : State :=
  if isSafe s || bitOf (rd s 0x02020C) 31 then s
  else
    let a := rd s 0x020200
    if bitOf a 0 && decide (poolGib s * 2 ^ 24 ≤ fld a 6 36) then mreqEnd 3 s
    else
      let now := BitVec.ofNat 32 (nowNs s)
      mreqAdvance (updDev (fun d => { d with mreqAt := now }) (wr s 0x02020C (w64 (2 ^ 31))))

/-! ### The crossbar (R220) -/

/-- STARVE: an input whose request an output has not granted has waited beyond the limit. -/
def opStarve (i o : Nat) (s : State) : State :=
  if rdf s 0x040300 0 24 = 0 ∨ !holdsRequest s i o ∨ sFind s.xbar.grants o = some i then s
  else
    let s := raise0 .starve s
    if bitOf (rd s 0x040304) 31 then s else wr s 0x040304 (w64 (i + 2 ^ 8 * o + 2 ^ 31))

/-! ### Meanings -/

/-- ENG_ENABLE (R132). -/
def execEngEnable (s : State) : Out := .next (capCmd opEngEnable s)

/-- ENGINE_START (R132). -/
def execEngineStart (byRule : Bool) (s : State) : Out := .next (live (opEngineStart byRule) s)

/-- SCRATCH_WRITE (R158). -/
def execScratchWrite (off : BitVec 24) (w64 : Bool) (v : W64) (s : State) : Out :=
  .next (untimed (opScratchWrite off.toNat w64 v) s)

/-- REEL_WRITE (R164). -/
def execReelWrite (off : BitVec 24) (w64 : Bool) (v : W64) (s : State) : Out :=
  .next (untimed (opReelWrite off.toNat w64 v) s)

/-- VERIFY (R165). -/
def execVerify (slotB : Bool) (s : State) : Out := .next (capCmd (opVerify slotB) s)

/-- VERIFY_DONE (R165). -/
def execVerifyDone (slotB : Bool) (s : State) : Out := .next (live (opVerifyDone slotB) s)

/-- SWITCH (R165). -/
def execSwitch (slotB : Bool) (s : State) : Out := .next (capCmd (opSwitch slotB) s)

/-- CLEAR (R164). -/
def execClear (slotB : Bool) (s : State) : Out := .next (capCmd (opClear slotB) s)

/-- REFETCH_DONE (R162). -/
def execRefetchDone (s : State) : Out := .next (live opRefetchDone s)

/-- REFILL_GO (R163). -/
def execRefillGo (s : State) : Out := .next (capCmd opRefillGo s)

/-- FETCH_TIMEOUT (R163). -/
def execFetchTimeout (s : State) : Out := .next (live opFetchTimeout s)

/-- MREQ_GO (R151). -/
def execMreqGo (s : State) : Out := .next (capCmd opMreqGo s)

/-- STARVE (R220): 25 inputs, 24 outputs. -/
def execStarve (input output : Nat) (s : State) : Out :=
  onUnit (decide (input ≤ 24) && decide (output ≤ 23)) (live (opStarve input output)) s

end Sys2Proof.Machine
end

