-- ==== Sys2Proof/Machine/Links.lean ====
section
/-! DEFINITION. Links: their states and commands, training and recovery, flits, replay, credits and wedges, and the ports that
a stuck entry takes out of service (R96, R102, R278 to R299, R322, R372, R400). -/

namespace Sys2Proof.Machine

/-! ### States (R297 to R299, R372) -/

/-- Lanes of a link: eight, or four on a split port (R278). -/
def linkLanes (s : State) (a : Nat) : Nat := if bitOf (rd s (oPtCfg (a / 2))) 2 then 4 else 8

/-- The first of a link's logical lanes within its port. -/
def laneBase (a : Nat) : Nat := 4 * (a % 2)

/-- The port lane of a link's logical lane: counted upward from its lowest lane, or downward from its highest with REV
(R279). -/
def portLane (s : State) (a j : Nat) : Nat :=
  laneBase a + (if bitOf (rd s (oPtCfg (a / 2))) 3 then linkLanes s a - 1 - j else j)

/-- The aligned groups of a link's logical lanes, widest first: base and width (R279). -/
def laneGroups (n : Nat) : List (Nat × Nat) :=
  (if n = 8 then [(0, 8)] else []) ++ (List.range (n / 4)).map (fun k => (4 * k, 4)) ++
  (List.range (n / 2)).map (fun k => (2 * k, 2)) ++ (List.range n).map (fun k => (k, 1))

/-- The group a link uses: the widest, lowest one of which every lane trained (R279). -/
def laneGroup (n : Nat) (lanes : BitVec 8) : Option (Nat × Nat) :=
  (laneGroups n).find? (fun g => (List.range g.2).all (fun k => lanes.getLsbD (g.1 + k)))

/-- The code of a width: 1 x1, 2 x2, 3 x4, 4 x8. -/
def widthCode (w : Nat) : Nat := if w = 8 then 4 else if w = 4 then 3 else if w = 2 then 2 else if w = 1 then 1 else 0

/-- The width of PT_CFG.MINW. -/
def minWidth (s : State) (a : Nat) : Nat := 2 ^ rdf s (oPtCfg (a / 2)) 16 2

/-- WIDTH0 or WIDTH1 of PT_STATUS. -/
def linkWidth (s : State) (a : Nat) : Nat := rdf s (oPtStatus (a / 2)) (12 + 4 * (a % 2)) 3

/-- Write the width code of a link. -/
def setWidth (a w : Nat) (s : State) : State := wrf s (oPtStatus (a / 2)) (12 + 4 * (a % 2)) 3 w

/-- Set or clear the lock of a link's receiver and its LOCK bit. -/
def setLock (a : Nat) (b : Bool) (s : State) : State :=
  wrf (setLink a (fun l => { l with lock := b }) s) (oPtStatus (a / 2)) (8 + a % 2) 1 (b2n b)

/-- The LANES bits of a link. -/
def linkTrained (s : State) (a : Nat) : BitVec 8 :=
  BitVec.ofNat 8 (rdf s (oPtStatus (a / 2)) (24 + laneBase a) (linkLanes s a))

/-- Record the lanes that trained. -/
def setTrained (a : Nat) (lanes : BitVec 8) (s : State) : State :=
  wrf s (oPtStatus (a / 2)) (24 + laneBase a) (linkLanes s a) lanes.toNat

/-- The logical lanes that a link uses (R279). -/
def usedLanes (s : State) (a : Nat) : List Nat :=
  match laneGroup (linkLanes s a) (linkTrained s a) with
  | some (b, w) => (List.range w).map (b + ·)
  | none => []

/-- Clear what a link holds for its traffic: replay buffer, credits and sequence numbers; the agent's own marks stay
(R299). Messages not acknowledged are lost, and packets for the link are withdrawn (R219). -/
def clearLink (a : Nat) (s : State) : State :=
  let s := setLink a (fun l => { Link.reset with attached := l.attached, vol := l.vol, epoch := l.epoch, adv := l.adv,
                                                 advCur := l.advCur }) (withdraw (packetFor a) s)
  let s := wrf s (oPtStatus (a / 2)) (3 + 4 * (a % 2)) 1 0
  setWidth a 0 (setLock a false s)

/-- A link leaves service for a state, and its agent detaches when it is attached (R299). -/
def leaveService (a st : Nat) (s : State) : State := detachIfAttached a (clearLink a (setLinkState a st s))

/-- A link enters DOWN: LF PORT_DOWN, and the agent detaches (R299). -/
def enterDown (a : Nat) (s : State) : State :=
  leaveService a 4 (raise .portDown (a / 2) (unitRec (a / 2) 1 (a % 2) 4) s)

/-- A refused link command. -/
def portRefuse (n : Nat) (s : State) : State := raiseAt .portCmd n s

/-- Is a detach sweep of an agent running (R94)? -/
def sweeping (s : State) (a : Nat) : Bool :=
  s.sheet.sweeps.any (fun w => match w.kind with
    | .detach b _ _ => decide (b = a)
    | _ => false)

/-- The agent of a link that a command names: port and SUB. -/
def subAgent (n : Nat) (sub : Bool) : Nat := 2 * n + b2n sub

/-- ENABLE: refused in Safelight state, while the agent's detach sweep runs, and while R96 holds the agent detached
(R96, R297, R341). The port's island takes three steps when it is off, a further bank of lanes one (R347). -/
def opLinkEnable (n : Nat) (sub : Bool) (s : State) : State :=
  let a := subAgent n sub
  let st := linkState s a
  if !agentExists s a || !(decide (st = 0) || decide (st = 4) || decide (st = 5)) || isSafe s || sweeping s a then
    portRefuse n s
  else if 255 ≤ (linkOf s a).adv then portRefuse n (raise0 .epochWrap s)
  else
    let off := bitOf (rd s oIslSts) n && !stepsLeft s (portSteps n)
    beginSteps (portSteps n) (if off then 3 else 1) (setLinkState a 1 s)

/-- DISABLE: from TRAINING, or from UP, which detaches the agent (R299). -/
def opLinkDisable (n : Nat) (sub : Bool) (s : State) : State :=
  let a := subAgent n sub
  let st := linkState s a
  if !agentExists s a || !(decide (st = 1) || decide (st = 2)) then portRefuse n s
  else if st = 1 then clearLink a (setLinkState a 0 s)
  else leaveService a 0 s

/-- RETIRE: from UP or DOWN of the link named; both links of a split port enter RETIRED, and the port's island is gated in three
steps (R347, R378). -/
def opLinkRetire (n : Nat) (sub : Bool) (s : State) : State :=
  let a := subAgent n sub
  let st := linkState s a
  if !agentExists s a || !(decide (st = 2) || decide (st = 4)) then portRefuse n s
  else
    let both := if bitOf (rd s (oPtCfg n)) 2 then [2 * n, 2 * n + 1] else [2 * n]
    beginSteps (portSteps n) 3 (both.foldl (fun s b => leaveService b 5 s) s)

/-! ### Flit positions (R282 to R289, R295, R296) -/

/-- The replay buffer's share of a link (R278). -/
def replayShare (s : State) (a : Nat) : Nat := if bitOf (rd s (oPtCfg (a / 2))) 2 then 1024 else 2048

/-- The most REQ credits that a flit position may return: while the block throttles, LEVEL in the first of each four
positions (R350). -/
def creditCap (s : State) (pos : Nat) : Nat :=
  if !bitOf (rd s oPwrStatus) 12 then 15 else if pos % 4 = 0 then min 15 (rdf s 0x214 0 6) else 0

/-- A position's 256 bytes go out on the lanes that the link uses: each lane scrambled, bit 0 first, as PAM4 symbols. A wedge
seeds the scramblers, and its sync mark goes out as it is (R285, R286). -/
def onLanes (a : Nat) (wedge : Bool) (bs : List Byte) (s : State) : State :=
  let used := usedLanes s a
  let out := used.zipIdx.map (fun p =>
    let r := if wedge then scrSeed p.1 else sGet 0 (linkOf s a).scr p.1
    (p.1, scrLane (if wedge then (4 + used.length - 1 - p.2) / used.length else 0) r (laneBytes bs used.length p.2)))
  setLink a (fun l => { l with scr := out.foldl (fun m q => sPut 0 m q.1 q.2.2) l.scr,
                               wire := out.foldl (fun m q => sPut [] m (portLane s a q.1) (q.2.1.flatMap pam4)) [] }) s

/-- Send one flit in one position: its header carries the ACK and the credits still owed at that moment (R288). -/
def sendUnit (a : Nat) (bytes : BitVec 12 → BitVec 12 → Nat → Nat → List Byte) (s : State) : State :=
  let k := linkOf s a
  let rq := min (creditCap s k.pos) (reqCredits s a)
  let wk := if rq = 0 then min 15 (wbkCredits s a) else 0
  let bs := bytes k.txSeq k.rxAck (if rq ≠ 0 then 1 else if wk ≠ 0 then 3 else 0) (rq + wk)
  setLink a (fun x => { x with cumReq := (x.cumReq + rq) % 2 ^ 16, cumWbk := (x.cumWbk + wk) % 2 ^ 16, pos := x.pos + 1 })
    (emit (.flit a bs) (onLanes a false bs s))

/-- Send a REPLAY, or a flit again. -/
def sendJob (a : Nat) (j : FlitJob) (s : State) : State :=
  match j with
  | .replay fr => sendUnit a (replayFlit fr) s
  | .again q l => sendUnit a (fun _ ack ccl cnt => slotFlit q ack ccl cnt l) s

/-- Send what waits while positions are left before the next wedge. -/
def sendJobs : Nat → Nat → State → State
  | 0, _, s => s
  | n + 1, a, s =>
    match (linkOf s a).jobs with
    | [] => s
    | j :: l => if 31 ≤ (linkOf s a).pos then s else sendJobs n a (sendJob a j (setLink a (fun x => { x with jobs := l }) s))

/-- A REPLAY request: it takes the next position, and PT_REPLAY_CNT counts it. -/
def sendReplayReq (a : Nat) (fr : BitVec 12) (s : State) : State :=
  let o := portBase (a / 2) + 0x48
  let s := statAdd 0x101 3 (a / 2) 1 (wr s o (satInc32 (rd s o)))
  sendJobs 1 a (setLink a (fun x => { x with jobs := .replay fr :: x.jobs }) s)

/-- The link enters RECOVERY: it keeps its replay buffer and sequence numbers (R298). -/
def enterRecovery (a : Nat) (widen : Bool) (s : State) : State :=
  setLinkState a 3 (setLock a false (setLink a (fun l => { l with widen := widen, candidates := [], jobs := [] }) s))

/-- RETRAIN: from UP to RECOVERY. -/
def opRetrain (n : Nat) (sub : Bool) (s : State) : State :=
  let a := subAgent n sub
  if !agentExists s a || decide (linkState s a ≠ 2) then portRefuse n s else enterRecovery a true s

/-- Ask for the flits from FROM on, and discard until it comes. The request counts toward TRIES when it repeats the FROM that is
awaited; after TRIES of them without progress the link goes to RECOVERY instead (R296). -/
def askReplay (a : Nat) (fr : BitVec 12) (s : State) : State :=
  let l := linkOf s a
  let n := if l.want = some fr then l.tries else 0
  if rdf s (portBase (a / 2) + 0x18) 16 4 ≤ n then enterRecovery a false s
  else sendReplayReq a fr (setLink a (fun x => { x with want := some fr, tries := n + 1 }) s)

/-- Resend the flits of the replay buffer from FROM on, from the next position (R296). -/
def resend (a : Nat) (fr : BitVec 12) (s : State) : State :=
  let keep := fun (j : FlitJob) => match j with
    | .replay _ => true
    | .again _ _ => false
  sendJobs 2048 a (setLink a (fun l => { l with
    jobs := l.jobs.filter keep ++ (l.replayBuf.dropWhile (fun p => decide (p.1 ≠ fr))).map (fun p => .again p.1 p.2) }) s)

/-! ### Training and recovery (R290, R297 to R299, R372) -/

/-- LINK_UP: training locks at a width at or above MINW, and the agent attaches (R372); a ZCL receiver that has locked asks for
what follows its ACK (R290), and a CXL host has granted four BISnp credits (log entry 29). -/
def opLinkUp (a : Nat) (lanes : BitVec 8) (s : State) : State :=
  if linkState s a ≠ 1 then s
  else
    match laneGroup (linkLanes s a) lanes with
    | some (_, w) =>
      if w < minWidth s a then s
      else
        let s := clearLink a s
        let s := setWidth a (widthCode w) (setTrained a lanes (setLinkState a 2 s))
        let s := setLock a true (setLink a (fun l => { l with attached := true, vol := false,
                                                              cumSnp := if isZcl s a then 0 else 4 }) s)
        let s := raiseAt .linkUp (a / 2) s
        if isZcl s a then askReplay a ((linkOf s a).rxAck + 1) s else s
    | none => s

/-- TRAINING_TIMEOUT. -/
def opTrainingTimeout (a : Nat) (s : State) : State := if linkState s a = 1 then enterDown a s else s

/-- RECOVERY_TIMEOUT. -/
def opRecoveryTimeout (a : Nat) (s : State) : State := if linkState s a = 3 then enterDown a s else s

/-- RECOVERY_LOCK: the link is UP again, narrower when lanes did not lock, and each end replays (R298). -/
def opRecoveryLock (a : Nat) (lanes : BitVec 8) (s : State) : State :=
  if linkState s a ≠ 3 then s
  else
    let lanes := if (linkOf s a).widen then lanes else lanes &&& linkTrained s a
    match laneGroup (linkLanes s a) lanes with
    | some (_, w) =>
      if w < minWidth s a then s
      else
        let narrower := decide (widthCode w < linkWidth s a)
        let s := setWidth a (widthCode w) (setTrained a lanes (setLinkState a 2 s))
        let s := setLock a true (setLink a (fun l => { l with want := none, misses := 0, crcRun := 0, tries := 0, pos := 0,
                                                              jobs := [] }) s)
        let s := raiseAt .linkUp (a / 2) s
        let s := if narrower then raiseAt .degrade (a / 2) s else s
        if isZcl s a then
          let s := askReplay a ((linkOf s a).rxAck + 1) s
          (match (linkOf s a).replayBuf with
           | (q, _) :: _ => resend a q s
           | [] => s)
        else s
    | none => s

/-! ### Sending messages (R284, R287, R295) -/

/-- Choose the messages to pack: room in slots, and a credit for each snoop; the others keep their order. -/
def pickMsgs : Nat → Nat → List TxMsg → List TxMsg × List TxMsg
  | _, _, [] => ([], [])
  | room, cred, m :: ms =>
    let n := (msgSlots m).length
    if room < n then ([], m :: ms)
    else if isSnoopMsg m then
      (match cred with
       | 0 => (match pickMsgs room 0 ms with
               | (t, r) => (t, m :: r))
       | k + 1 => (match pickMsgs (room - n) k ms with
                   | (t, r) => (m :: t, r)))
    else
      match pickMsgs (room - n) cred ms with
      | (t, r) => (m :: t, r)

/-- Cut slots into flits of 15. -/
def chunk15 : Nat → List (BitVec 128) → List (List (BitVec 128))
  | 0, _ => []
  | _, [] => []
  | n + 1, l => l.take 15 :: chunk15 n (l.drop 15)

/-- Send slots of the stream in one sequenced flit, which the replay buffer keeps. -/
def sendSlots (a : Nat) (l : List (BitVec 128)) (s : State) : State :=
  setLink a (fun x => { x with txSeq := x.txSeq + 1, replayBuf := x.replayBuf ++ [(x.txSeq, l)] })
    (sendUnit a (fun seq ack ccl cnt => slotFlit seq ack ccl cnt l) s)

/-- IDLE flits in the positions that are left before the wedge. -/
def fillIdle (a : Nat) (s : State) : State :=
  (List.range (31 - (linkOf s a).pos)).foldl (fun s _ =>
    sendUnit a (fun seq ack ccl cnt => slotFlit seq ack ccl cnt []) s) s

/-- The 31 flits before a wedge: what waits to be sent again, then the messages whole in the egress staging, as the replay
buffer and the snoop credits allow, then IDLE flits. How messages fall on flit positions is a matter of timing: log entry 18. -/
def packFlits (a : Nat) (s : State) : State :=
  let s := sendJobs 32 a s
  let l := linkOf s a
  let room := min (31 - l.pos) (replayShare s a - l.replayBuf.length)
  let cred := (l.cumSnp + 2 ^ 16 - l.sentSnp) % 2 ^ 16
  let (now, later) := pickMsgs (15 * room) (if cred < 2 ^ 15 then cred else 0) l.txq
  let snps := (now.filter isSnoopMsg).length
  let s := setLink a (fun x => { x with txq := later, sentSnp := (x.sentSnp + snps) % 2 ^ 16 }) s
  fillIdle a ((chunk15 31 (now.flatMap msgSlots)).foldl (fun s f => sendSlots a f s) s)

/-! ### Receiving (R283, R288, R290, R291, R295, R296) -/

/-- The receiver loses lock (R290). -/
def loseLock (a : Nat) (s : State) : State :=
  setLock a false (setLink a (fun l => { l with candidates := [], misses := 0, crcRun := 0 }) s)

/-- The sender frees its replay buffer up to an ACK (R295). -/
def freeReplay (a : Nat) (ack : BitVec 12) (s : State) : State :=
  setLink a (fun l => { l with replayBuf := l.replayBuf.filter (fun p => decide (2048 ≤ seqBehind ack p.1)) }) s

/-- A credit count modulo 2^16. -/
def addSnp (a ccl ccnt : Nat) (s : State) : State :=
  if ccl = 2 then setLink a (fun l => { l with cumSnp := (l.cumSnp + ccnt) % 2 ^ 16 }) s else s

/-- Bytes that the FEC corrected, by lane: PT_MARGIN.ERRS and the next wedge's MARGIN (R285, Table LINK-5). Byte i travels
on logical lane i mod w. -/
def countLanes (a : Nat) (fixed : List Nat) (s : State) : State :=
  match laneGroup (linkLanes s a) (linkTrained s a) with
  | some (b, w) =>
    fixed.foldl (fun s i =>
      let j := b + i % w
      let o := portBase (a / 2) + 0x100 + 4 * portLane s a j
      let s := wrf s o 16 16 (min 0xFFFF (rdf s o 16 16 + 1))
      setLink a (fun l => { l with laneErrs := sUpd 0 l.laneErrs j (fun n => min 0xFFFF (n + 1)) }) s) s
  | none => s

/-- A flit that the FEC changed counts in PT_FEC_CNT. -/
def countFec (a : Nat) (fixed : List Nat) (s : State) : State :=
  if fixed.isEmpty then s
  else
    let o := portBase (a / 2) + 0x40
    countLanes a fixed (wr s o (satInc32 (rd s o)))

/-- A failed CRC: the flit is discarded, and with it every later sequenced one up to the next in order (R296). -/
def crcFail (a : Nat) (s : State) : State :=
  let o := portBase (a / 2) + 0x44
  let s := statAdd 0x100 3 (a / 2) 1 (wr s o (satInc32 (rd s o)))
  let s := raiseAt .crcErr (a / 2) s
  let s := setLink a (fun l => { l with crcRun := l.crcRun + 1 }) s
  let s := askReplay a ((linkOf s a).want.getD ((linkOf s a).rxSeq + 1)) s
  if 8 ≤ (linkOf s a).crcRun then loseLock a s else s

/-- A message whose opcode is reserved, or which no agent may send: discarded with PROTO; a REQ completes with ERR_OPC
(R37, R409). -/
def protoMsg (a : Nat) (h : BitVec 128) (s : State) : State :=
  let s := received a 1 s
  if detached s a then raiseAt .detached (a / 2) s
  else if 0x0C ≤ fld h 0 6 ∧ fld h 0 6 ≤ 0x0F then
    let s := creditUsed a false s
    let r := reqOfSlot a h
    if txidBusy s a r.txid then raiseAt .txidDup (a / 2) s
    else
      match nextSeq s with
      | (q, s) =>
        accept (mkPend q .flush r 0 0 0 0 none (errDeadline s) (some .errOpc) none false) (raiseAt .proto (a / 2) s)
  else raiseAt .proto (a / 2) s

/-- One whole message of the slot stream reaches its port, as its own command says. -/
def takeMsg (a : Nat) (h : BitVec 128) (l : List (BitVec 128)) (s : State) : State :=
  let s := wakeStandby s
  let r := reqOfSlot a h
  let hd := BitVec.ofNat 13 (fld h 6 13)
  match fld h 0 6 with
  | 0x00 => zclReq .rds r 0 0 0 s
  | 0x01 => zclReq .rdx r 0 0 0 s
  | 0x02 => zclReq .upg r 0 0 0 s
  | 0x03 => zclReq .rdc r 0 0 0 s
  | 0x04 => zclReq .wrl r 0 (slotsLine l) 0 s
  | 0x05 => zclReq .wrp r ((l.headD 0).setWidth 64) (slotsLine (l.drop 1)) 0 s
  | 0x06 => zclReq .atr r 0 0 0 s
  | 0x07 => zclReq .atc r 0 0 ((l.headD 0).setWidth 64) s
  | 0x08 => zclReq .flush r 0 0 0 s
  | 0x09 => noLineReq .stbV r s
  | 0x0A => noLineReq .stbD r s
  | 0x0B => noLineReq .detn r s
  | 0x18 => wbkArrive .mi (wbkOfSlots a h l) s
  | 0x19 => wbkArrive .ms (wbkOfSlots a h l) s
  | 0x1A => wbkArrive .me (wbkOfSlots a h l) s
  | 0x1B => wbkArrive .oi (wbkOfSlots a h l) s
  | 0x1C => wbkArrive .os (wbkOfSlots a h l) s
  | 0x20 => rspArrive a .rspI hd s
  | 0x21 => rspArrive a .rspS hd s
  | 0x22 => rspArrive a .rspE hd s
  | 0x23 => rspArrive a .miss hd s
  | 0x24 => rspArrive a .fwdI hd s
  | 0x25 => rspArrive a .fwdS hd s
  | 0x26 => rspArrive a .fwdO hd s
  | 0x27 => rspArrive a .dataI hd s
  | 0x28 => rspArrive a .dataK hd s
  | 0x29 => rspArrive a .wbPending hd s
  | 0x2A => cmpArrive a hd s
  | 0x30 => forward .s (datOfSlots a h l) s
  | 0x31 => forward .e (datOfSlots a h l) s
  | 0x32 => forward .m (datOfSlots a h l) s
  | 0x34 => datHArrive (datOfSlots a h l) s
  | _ => protoMsg a h s

/-- Take the whole messages off a link's slot stream (R284). -/
def drainSlots : Nat → Nat → State → State
  | 0, _, s => s
  | n + 1, a, s =>
    match (linkOf s a).slots with
    | [] => s
    | h :: l =>
      if l.length + 1 < msgLength h then s
      else
        let s := setLink a (fun x => { x with slots := l.drop (msgLength h - 1) }) s
        drainSlots n a (takeMsg a h (l.take (msgLength h - 1)) s)

/-- A sequenced flit that passed its CRC: delivered in order, dropped when delivered before, discarded while an earlier
one is awaited (R291, R296). A gap in SEQ is awaited as after a failed CRC. DEDUCED, log entry 18. -/
def takeSlots (a : Nat) (q : BitVec 12) (l : List (BitVec 128)) (s : State) : State :=
  let k := linkOf s a
  if (match k.want with
      | some w => decide (q ≠ w)
      | none => false) then s
  else
    let s := setLink a (fun x => { x with want := none, tries := 0 }) s
    if q = k.rxSeq + 1 then
      let s := setLink a (fun x => { x with rxSeq := q, slots := x.slots ++ l }) s
      drainSlots 32 a s
    else if seqBehind k.rxSeq q < 2048 then s
    else askReplay a (k.rxSeq + 1) s

/-- May a link receive flits and wedges: a ZCL link in UP? -/
def zclUp (s : State) (a : Nat) : Bool := isZcl s a && decide (linkState s a = 2)

/-- One more flit position since each candidate; none is kept beyond 32 (R290). -/
def nextPosition (l : List Nat) : List Nat := (l.map (· + 1)).filter (fun k => decide (k < 32))

/-- FLIT_RECEIVE: FEC, then CRC, then header, then content. Without lock it is one more position since the candidates. The
bytes are those that the lanes' symbols and scramblers deliver (R286, log entry 18). -/
def opFlitReceive (a : Nat) (raw : List Byte) (s : State) : State :=
  if !zclUp s a || decide (raw.length ≠ 256) then s
  else if !(linkOf s a).lock then
    setLink a (fun l => { l with candidates := nextPosition l.candidates }) s
  else
    match fecDecode raw with
    | (bs, fixed) =>
      let s := countFec a fixed s
      if !crcGood bs || decide (flitKind bs = .bad) then crcFail a s
      else
        let h := BitVec.ofNat 32 (byteField bs 0 4)
        let s := setLink a (fun l => { l with crcRun := 0 }) s
        let s := addSnp a (fld h 26 2) (fld h 28 4) (freeReplay a (BitVec.ofNat 12 (fld h 12 12)) s)
        match flitKind bs with
        | .slots l => takeSlots a (BitVec.ofNat 12 (fld h 0 12)) l s
        | .replay fr => resend a fr s
        | _ => s

/-- REPLAY: a received CTRL REPLAY makes the sender resend; on a CXL link the retry is counted (R296, R306). -/
def opReplay (a : Nat) (fr : BitVec 12) (s : State) : State :=
  if linkState s a ≠ 2 then s
  else if isZcl s a then resend a fr s
  else
    let o := portBase (a / 2) + 0x48
    wr s o (satInc32 (rd s o))

/-- REPLAY_TIMEOUT: the request is repeated, or after TRIES of them the link goes to RECOVERY (R296). -/
def opReplayTimeout (a : Nat) (s : State) : State :=
  let l := linkOf s a
  if !zclUp s a || l.want.isNone then s
  else askReplay a (l.want.getD 0) s

/-- LOCK_TIMEOUT: a receiver without lock for 64 wedge periods moves its link to RECOVERY (R290). -/
def opLockTimeout (a : Nat) (s : State) : State :=
  if zclUp s a && !(linkOf s a).lock then enterRecovery a false s else s

/-! ### Wedges (R289 to R294, R400) -/

/-- The one-way delay of R292 in 0.25 ns units. A flit time at width w is 64/7 units times 8/w on ZCL-112 and twice that
on ZCL-56; the rounding down is the model's, log entry 18. -/
def delayOf (s : State) (a : Nat) (echo hold : Nat) : Nat :=
  let w := match laneGroup (linkLanes s a) (linkTrained s a) with
    | some (_, w) => w
    | none => 8
  let flit : Nat := 64 * (if portMode s (a / 2) = 1 then 2 else 1) * 8 / w
  let d : Int := 7 * ((s.aon.ft.toNat : Int) - (echo : Int) - (hold : Int)) - 2 * (flit : Int)
  (d / 14).toNat % 2 ^ 32

/-- What a good wedge brings beside its ACK: credits, delay, margins and equalisation requests (R288, R292, R293). -/
def wedgeFields (a : Nat) (bs : List Byte) (s : State) : State :=
  let snp := byteField bs 32 2
  let s := if snp ≠ (linkOf s a).cumSnp then raiseAt .crdSync (a / 2) s else s
  let s := wr s (portBase (a / 2) + 0x30 + 4 * (a % 2)) (w64 (delayOf s a (byteField bs 18 8) (byteField bs 26 4)))
  let now := s.aon.ft
  let n := linkLanes s a
  let s := setLink a (fun l => { l with cumSnp := snp, echoFt := w64 (byteField bs 10 8), echoAt := now,
                                        eqIn := l.eqIn ++ (List.range n).map (fun j => (j, bs.getD (68 + j) 0)) }) s
  (List.range n).foldl (fun s j =>
    wr s (portBase (a / 2) + 0x120 + 4 * portLane s a j) (w64 (byteField bs (36 + 4 * j) 4))) s

/-- A missed wedge (R291). One whose CRC is wrong is also a CRC failure in its position (R290). DEDUCED, log entry 18. -/
def wedgeMiss (a : Nat) (crc : Bool) (s : State) : State :=
  let o := portBase (a / 2) + 0x4C
  let s := raiseAt .syncMiss (a / 2) (wr s o (satInc32 (rd s o)))
  let s := setLink a (fun l => { l with misses := l.misses + 1, crcRun := if crc then 0 else l.crcRun + 1 }) s
  let s := askReplay a ((linkOf s a).rxAck + 1) s
  if 2 ≤ (linkOf s a).misses ∨ 8 ≤ (linkOf s a).crcRun then loseLock a s else s

/-- WEDGE_RECEIVE: with lock, good or missed; without, a candidate, or the second of two 32 positions apart, which
is a good wedge (R290, R295). -/
def opWedgeReceive (a : Nat) (raw : List Byte) (s : State) : State :=
  if !zclUp s a || decide (raw.length ≠ 256) then s
  else
    match fecDecode raw with
    | (bs, fixed) =>
      if (linkOf s a).lock then
        let s := countLanes a fixed s
        if wedgeGood bs then
          let s := setLink a (fun l => { l with misses := 0, crcRun := 0, rxAck := l.rxSeq }) s
          wedgeFields a bs (freeReplay a (BitVec.ofNat 12 (byteField bs 8 2)) s)
        else wedgeMiss a (crcGood bs) s
      else if !wedgeGood bs then setLink a (fun l => { l with candidates := nextPosition l.candidates }) s
      else if (linkOf s a).candidates.contains 31 then
        let s := setLock a true (setLink a (fun l => { l with candidates := [], rxAck := l.rxSeq }) s)
        let s := wedgeFields a bs (freeReplay a (BitVec.ofNat 12 (byteField bs 8 2)) s)
        askReplay a ((linkOf s a).rxAck + 1) s
      else setLink a (fun l => { l with candidates := nextPosition l.candidates ++ [0] }) s

/-- Apply one lane's request to its taps, within the ranges of R400. -/
def applyEq (r : Byte) (t : Nat × Nat) : Nat × Nat :=
  let move := fun (q v top : Nat) => if q = 1 ∧ v < top then v + 1 else if q = 2 ∧ 0 < v then v - 1 else v
  (move (r.toNat % 4) t.1 15, move (r.toNat / 4 % 4) t.2 31)

/-- Apply the far side's requests at the wedge that is sent next (R293). -/
def applyEqs (a : Nat) (s : State) : State :=
  setLink a (fun l => { l with eqIn := [],
                               taps := l.eqIn.foldl (fun m p => sUpd (0, 0) m p.1 (applyEq p.2)) l.taps }) s

/-- The request byte of a direction: its tap and whether it increases. -/
def eqByte (d : Bool × Bool) : Nat := (if d.2 then 1 else 2) * (if d.1 then 4 else 1)

/-- The block's request for one lane that the link uses: none while AUTOEQ is 0, within 64 wedges of the last, or at the greatest height; in
the direction that last raised the height, or a chosen one while none has (R293, log entry 6). -/
def ownEq (a j : Nat) (s : State) : Nat × State :=
  let e := sGet (LaneEq.mk 0 none none 64) (linkOf s a).laneEq j
  let h := rdf s (portBase (a / 2) + 0x100 + 4 * portLane s a j) 0 8
  if !bitOf (rd s (oPtCfg (a / 2))) 12 || decide (e.since < 64) || decide (h = 255) then
    (0, setLink a (fun l => { l with laneEq := sSet l.laneEq j { e with since := e.since + 1 } }) s)
  else
    let up := match e.last with
      | some d => if e.height < h then some d else e.raised
      | none => e.raised
    let q := match up with
      | some d => (d, s)
      | none => (match choose 4 s with
                 | (k, s) => ((decide (k / 2 = 1), decide (k % 2 = 0)), s))
    let e' : LaneEq := { height := h, last := some q.1, raised := up, since := 1 }
    (eqByte q.1, setLink a (fun l => { l with laneEq := sSet l.laneEq j e' }) q.2)

/-- Is an agent the one that FM designates (R294)? -/
def isFm (s : State) (a : Nat) : Bool := agentExists s a && bitOf (rd s (oPtCfg (a / 2))) (8 + a % 2)

/-- TLHDR and TELEM toward an agent: a fragment of the Light Meter record, or zeros (R294, R322). -/
def telemetry (a : Nat) (s : State) : List Byte × List Byte :=
  let lm := s.meter.lm
  if isFm s a && lm.hasRec then
    let f := (linkOf s a).lmFrag % 16
    (bytesOf (BitVec.ofNat 32 (natOfBytes (memRead lm.record 8 2) + 2 ^ 16 * f + 2 ^ 20)) 4, memRead lm.record (128 * f) 128)
  else (List.replicate 4 0, List.replicate 128 0)

/-- The MARGIN word of a lane in a wedge: height, width, bytes corrected; 0 of a lane that the link does not use. -/
def marginWord (a j : Nat) (s : State) : List Byte :=
  let m := rdf s (portBase (a / 2) + 0x100 + 4 * portLane s a j) 0 16
  bytesOf (BitVec.ofNat 32 (m + 2 ^ 16 * sGet 0 (linkOf s a).laneErrs j)) 4

/-- The bytes of the wedge that leaves now (Table LINK-5). -/
def wedgeBytes (a : Nat) (eqs : List Nat) (s : State) : List Byte :=
  let l := linkOf s a
  let used := usedLanes s a
  let hold := if l.echoFt = 0 ∧ l.echoAt = 0 then 0 else (s.aon.ft - l.echoAt).toNat % 2 ^ 32
  let b := fun (k v : Nat) => bytesOf (BitVec.ofNat (8 * k) v) k
  let tl := telemetry a s
  flitSeal (b 4 wedgeSync ++ b 2 l.wnum.toNat ++ b 2 l.txSeq.toNat ++ b 2 l.rxAck.toNat ++ b 8 s.aon.ft.toNat ++
    b 8 l.echoFt.toNat ++ b 4 hold ++ b 2 l.cumReq ++ b 2 0 ++ b 2 l.cumWbk ++
    (List.range 8).flatMap (fun j => if used.contains j then marginWord a j s else List.replicate 4 0) ++
    (List.range 8).map (fun j => BitVec.ofNat 8 (eqs.getD j 0)) ++ List.replicate 32 0 ++ tl.1 ++ tl.2 ++
    List.replicate 4 0)

/-- The eye codes measured on the lanes that a link uses: height and width, by logical lane (R293, R400). -/
def measure (a : Nat) (eyes : List (Byte × Byte)) (s : State) : State :=
  ((usedLanes s a).filter (fun j => decide (j < eyes.length))).foldl (fun s j =>
    let e := eyes.getD j (0, 0)
    wrf s (portBase (a / 2) + 0x100 + 4 * portLane s a j) 0 16 (e.1.toNat + 256 * e.2.toNat)) s

/-- WEDGE_SEND: the flits of the 31 positions before it, then the wedge, and then what waits to be sent again. -/
def opWedgeSend (a : Nat) (eyes : List (Byte × Byte)) (s : State) : State :=
  if !zclUp s a then s
  else
    let s := applyEqs a (measure a eyes (packFlits a s))
    let r := (usedLanes s a).foldl (fun (acc : List Nat × State) j =>
      match ownEq a j acc.2 with
      | (q, s) => (acc.1.set j q, s)) (List.replicate 8 0, s)
    let bs := wedgeBytes a r.1 r.2
    let s := emit (.wedge a bs) (onLanes a true bs r.2)
    let frag := if isFm s a && s.meter.lm.hasRec then 1 else 0
    sendJobs 31 a (setLink a (fun l =>
      { l with wnum := l.wnum + 1, laneErrs := [], pos := 0, lmFrag := (l.lmFrag + frag) % 16 }) s)

/-! ### Stuck entries (R102) -/

/-- The agents that still owe a quarantined entry a message. -/
def owingAgents (x : Ctx) : List Nat :=
  (x.owed.filterMap (fun o => match o with
    | .ans a _ _ _ => some a
    | .wbk a _ => some a
    | .dath a => some a
    | .fwd a => some a
    | .cmp => x.agent
    | _ => none)).dedup

/-- HTID_STUCK: LF, and every link of the ports concerned that is not DOWN, DISABLED or RETIRED enters DOWN. -/
def opHtidStuck (c : Nat) (s : State) : State :=
  match ctxOf s c with
  | some x =>
    if x.st ≠ .quarantined ∨ (owingAgents x).isEmpty then s
    else
      let s := raise .htidStuck 0 (lineRec s (x.line.getD 0) (some c) (owingAgents x).head?) s
      ((owingAgents x).map (· / 2)).dedup.foldl (fun s n =>
        [2 * n, 2 * n + 1].foldl (fun s a =>
          let st := linkState s a
          if !agentExists s a || decide (st = 0) || decide (st = 4) || decide (st = 5) then s else enterDown a s) s) s
  | none => s

/-! ### Meanings -/

/-- LINK_ENABLE (R297). -/
def execLinkEnable (n : Nat) (sub : Bool) (s : State) : Out := onUnit (okPort n) (capCmd (opLinkEnable n sub)) s

/-- RETRAIN (R297). -/
def execRetrain (n : Nat) (sub : Bool) (s : State) : Out := onUnit (okPort n) (capCmd (opRetrain n sub)) s

/-- LINK_DISABLE (R297). -/
def execLinkDisable (n : Nat) (sub : Bool) (s : State) : Out := onUnit (okPort n) (capCmd (opLinkDisable n sub)) s

/-- LINK_RETIRE (R297). -/
def execLinkRetire (n : Nat) (sub : Bool) (s : State) : Out := onUnit (okPort n) (capCmd (opLinkRetire n sub)) s

/-- LINK_UP (R297). -/
def execLinkUp (agent : Nat) (lanes : BitVec 8) (s : State) : Out := onUnit (okAgent agent) (live (opLinkUp agent lanes)) s

/-- TRAINING_TIMEOUT (R297). -/
def execTrainingTimeout (agent : Nat) (s : State) : Out := onUnit (okAgent agent) (live (opTrainingTimeout agent)) s

/-- RECOVERY_LOCK (R298). -/
def execRecoveryLock (agent : Nat) (lanes : BitVec 8) (s : State) : Out :=
  onUnit (okAgent agent) (live (opRecoveryLock agent lanes)) s

/-- RECOVERY_TIMEOUT (R298). -/
def execRecoveryTimeout (agent : Nat) (s : State) : Out := onUnit (okAgent agent) (live (opRecoveryTimeout agent)) s

/-- FLIT_RECEIVE (R285). -/
def execFlitReceive (agent : Nat) (bytes : List Byte) (s : State) : Out :=
  onUnit (okAgent agent) (live (opFlitReceive agent bytes)) s

/-- WEDGE_RECEIVE (R291). -/
def execWedgeReceive (agent : Nat) (bytes : List Byte) (s : State) : Out :=
  onUnit (okAgent agent) (live (opWedgeReceive agent bytes)) s

/-- LOCK_TIMEOUT (R290). -/
def execLockTimeout (agent : Nat) (s : State) : Out := onUnit (okAgent agent) (live (opLockTimeout agent)) s

/-- REPLAY (R296). -/
def execReplay (agent : Nat) (fromSeq : BitVec 12) (s : State) : Out :=
  onUnit (okAgent agent) (live (opReplay agent fromSeq)) s

/-- REPLAY_TIMEOUT (R296). -/
def execReplayTimeout (agent : Nat) (s : State) : Out := onUnit (okAgent agent) (live (opReplayTimeout agent)) s

/-- WEDGE_SEND (R289). -/
def execWedgeSend (agent : Nat) (eyes : List (Byte × Byte)) (s : State) : Out :=
  onUnit (okAgent agent) (live (opWedgeSend agent eyes)) s

/-- HTID_STUCK (R102). -/
def execHtidStuck (c : Nat) (s : State) : Out := onUnit (okCtx c) (live (opHtidStuck c)) s

end Sys2Proof.Machine
end

