-- ==== Sys2Proof/Machine/Meter.lean ====
section
/-! DEFINITION. Counting windows, overflow and capture, and the Light Meter (R317 to R320). -/

namespace Sys2Proof.Machine

/-! ### Counters -/

/-- COUNTER_WINDOW: each WIN counter takes its accumulator, which restarts from 0 (R317). -/
def opCounterWindow (s : State) : State :=
  let s' := (ctrConfigured s).foldl (fun t p =>
    if fld p.2 24 2 = 1 then wr t (oCtrVal p.1) (sGet 0 s.meter.ctrAcc p.1) else t) s
  updMeter (fun m => { m with ctrAcc := [] }) s'

/-- OVF: a SAMPLE counter that holds the largest value counts one more and wraps (R317). -/
def opOvf (c : Nat) (s : State) : State :=
  if fld (rd s (oCtrCfg c)) 24 2 = 2 ∧ rd s (oCtrVal c) = 0xFFFFFFFFFFFFFFFF#64 then ctrWrap c (wr s (oCtrVal c) 0) else s

/-- SAMPLE: the block captures one of the first 64 rule executions at or after the wrap; which of them is not defined, so the
command names it (R318). -/
def opSample (ts c : Nat) (rule : BitVec 15) (s : State) : State :=
  match s.meter.sampleReq, s.meter.runs.find? (fun r => decide (r.ts = ts ∧ r.ctx = c ∧ r.rule = rule)) with
  | some n, some r =>
    if bitOf (rd s 0x342010) 31 then s
    else
      let s := wr s 0x342010 (w64 (2 ^ 31 + 2 ^ 16 * (n % 256) + ts % 64))
      let s := wr s 0x342014 (w64 (2 ^ 31 * b2n r.reelB + 2 ^ 16 * (c % 2 ^ 14) + rule.toNat))
      let s := wr (wr s 0x342018 r.ft) 0x342020 r.ea
      raise0 .sample (updMeter (fun m => { m with sampleReq := none, runs := [] }) s)
  | _, _ => s

/-! ### The Light Meter -/

/-- A count of the last ms in a field of `k` bytes, saturating (R319). -/
def lmCount (s : State) (ev scope unit k : Nat) : List Byte :=
  bytesOf (BitVec.ofNat (8 * k) (min (sGet 0 s.meter.stats (statKey ev scope unit)) (2 ^ (8 * k) - 1))) k

/-- A number in a field of `k` bytes. -/
def lmNum (v k : Nat) : List Byte := bytesOf (BitVec.ofNat (8 * k) v) k

/-- Zeros. -/
def lmZero (k : Nat) : List Byte := List.replicate k 0

/-- Bytes 0x000 to 0x07F. -/
def lmHead (s : State) : List Byte :=
  lmNum 0x524D4C5A 4 ++ lmNum 1 2 ++ lmNum (b2n (isSafe s) + 2 * rdf s oPwrStatus 0 3) 2 ++
  lmNum s.meter.lm.recnum.toNat 4 ++ lmZero 4 ++ lmNum s.aon.ft.toNat 8 ++ lmNum (irqSum s) 4 ++ lmZero 36 ++
  (List.range 16).flatMap (fun i => lmNum (rdf s (0x220 + 4 * (i / 2)) (16 * (i % 2)) 16) 2) ++
  (List.range 8).flatMap (fun i => lmCount s 0x105 5 i 2) ++
  (List.range 8).flatMap (fun m => lmNum (rdf s (chanBase m + 0x44) 8 3) 1) ++ lmZero 8

/-- Port n: 16 bytes. -/
def lmPort (s : State) (n : Nat) : List Byte :=
  let st := rd s (oPtStatus n)
  lmCount s 0x10 3 n 4 ++ lmCount s 0x11 3 n 4 ++ lmNum (fld st 0 3 + 16 * fld st 4 3) 1 ++
  lmNum (fld st 12 3 + 16 * fld st 16 3) 1 ++ lmCount s 0x100 3 n 2 ++ lmCount s 0x101 3 n 2 ++ lmZero 2

/-- Lane l: two bytes. -/
def lmLane (s : State) (l : Nat) : List Byte := lmNum (rdf s (portBase (l / 8) + 0x100 + 4 * (l % 8)) 0 16) 2

/-- Channel m: 16 bytes. -/
def lmChan (s : State) (m : Nat) : List Byte :=
  let st := regView s (oMcStatus m)
  lmCount s 0x18 4 m 4 ++ lmCount s 0x19 4 m 4 ++ lmNum (fld st 0 3) 1 ++ lmNum (fld st 5 1 + 2 * fld st 4 1) 1 ++
  lmCount s 0x102 4 m 2 ++ lmCount s 0x103 4 m 2 ++ lmZero 2

/-- Bytes 0x300 to 0x3FF. -/
def lmEngine (s : State) : List Byte :=
  lmCount s 0x01 0 0 4 ++ lmCount s 0x02 0 0 4 ++ lmCount s 0x03 0 0 4 ++ lmCount s 0x05 0 0 4 ++
  lmNum s.sheet.ways.length 4 ++ lmNum (ctxUsed s) 2 ++ lmCount s 0x0C 0 0 2 ++ lmZero 232

/-- Tray t: 16 bytes. -/
def lmTray (s : State) (t : Nat) : List Byte :=
  lmNum (occupancy s t) 4 ++ lmCount s 0x02 1 t 4 ++ lmCount s 0x18 1 t 4 ++ lmCount s 0x08 1 t 2 ++
  lmCount s 0x0B 1 t 2

/-- The 2,048 bytes of a record (Table TRAY-5). -/
def lmBytes (s : State) : List Byte :=
  lmHead s ++ (List.range 16).flatMap (lmPort s) ++ (List.range 128).flatMap (lmLane s) ++
  (List.range 8).flatMap (lmChan s) ++ lmEngine s ++ (List.range 64).flatMap (lmTray s)

/-- The lines of the ring slot of a record, in the order they are written. -/
def ringSlot (s : State) (bs : List Byte) : List (Nat × LineBits) :=
  let base := (rdf s 0x342108 0 31 + s.meter.lm.recnum.toNat % rdf s 0x342104 0 16) * 32
  (((List.range 31).map (· + 1)) ++ [0]).map (fun k => (base + k, lineOf ((bs.drop (64 * k)).take 64)))

/-- The ring's share of a record: none in Safelight state or STANDBY, and lost while the last is still being written. -/
def ringWrite (bs : List Byte) (s : State) : State :=
  if rdf s 0x342104 0 16 = 0 ∨ isSafe s ∨ rdf s oPwrStatus 0 3 ≠ 0 then s
  else if !s.meter.lm.writing.isEmpty then
    raise0 .lmLost (wrf s 0x342110 16 16 (min 0xFFFF (rdf s 0x342110 16 16 + 1)))
  else
    let l := ringSlot s bs
    ringAdvance (updMeter (fun m => { m with lm := { m.lm with writing := l } }) s)

/-- LM_RECORD: the record of the last ms, its ring slot, and its first telemetry fragment next (R319, R320, R322). -/
def opLmRecord (s : State) : State :=
  if !bitOf (rd s 0x342100) 0 then s
  else
    let bs := lmBytes s
    let s := ringWrite bs (ringAdvance s)
    let s := updMeter (fun m => { m with stats := [], lm := { m.lm with recnum := m.lm.recnum + 1, hasRec := true,
                                                                        record := memWrite [] 0 bs } }) s
    s.links.foldl (fun s p => setLink p.1 (fun l => { l with lmFrag := 0 }) s) s

/-! ### Meanings -/

/-- COUNTER_WINDOW (R317). -/
def execCounterWindow (s : State) : Out := .next (live opCounterWindow s)

/-- OVF (R317). -/
def execOvf (c : Nat) (s : State) : Out := onUnit (decide (c < 256)) (live (opOvf c)) s

/-- SAMPLE (R318). -/
def execSample (ts c : Nat) (rule : BitVec 15) (s : State) : Out :=
  onUnit (decide (ts < 64) && okCtx c) (live (opSample ts c rule)) s

/-- LM_RECORD (R319). -/
def execLmRecord (s : State) : Out := .next (live opLmRecord s)

end Sys2Proof.Machine
end

