-- ==== Sys2Proof/Machine/Safelight.lean ====
section
/-! DEFINITION. Safelight state: the software fault, the sequencer that finishes contexts, and the writebacks after it
(R337 to R341, Tables FAULT-6, FAULT-7). -/

namespace Sys2Proof.Machine

/-- A context number that no context has: what the sequencer itself applies is absorbed by it. -/
def noCtx : Nat := Config.contexts

/-! ### The sequencer (R339, Table FAULT-7) -/

/-- Record a line FOGGED, but in a suspect bank; no cause is raised, and the line is counted (R327, R339). -/
def safeFog (line tray : Nat) (s : State) : State :=
  if bankSuspect s (bankOf (line / 4)) || decide ((recOf s line).lst = .fogged) then s
  else
    let s := (fogMark line tray s).2
    { s with safe := { s.safe with fogged := s.safe.fogged + 1 } }

/-- The lines a context makes FOGGED when it ends. -/
def safeFogCtx (x : Ctx) (s : State) : State := x.held.foldl (fun s l => safeFog l (x.tray.getD 0) s) s

/-- The writeback slots of a context that ends: one applied already awaits its write; the others wait (R340). -/
def safeSlots (c : Nat) (x : Ctx) (s : State) : State :=
  updHome (fun h => { h with wslots := h.wslots.map (fun p =>
    let own := decide (x.kind = .wb p.1)
    if p.2.place = .absorbed c then (p.1, { p.2 with place := .absorbed noCtx })
    else if own && decide (x.phase = .write) then (p.1, { p.2 with place := .absorbed noCtx })
    else if own || decide (p.2.place = .joined c) then (p.1, { p.2 with place := .waiting })
    else p) }) s

/-- Free a context, or quarantine it with what it still owes; its lines are latent no more, and its events are
dropped. -/
def safeRelease (c : Nat) (owed : List Owed) (s : State) : State :=
  match ctxOf s c with
  | none => s
  | some x =>
    let s := safeSlots c x (discardEarly c x s)
    let s := match x.req with
      | some p => if owed.contains .cmp then s else delPend p.seq s
      | none => s
    let s := updDev (fun d => { d with ready := d.ready.filter (fun e => decide (e.ctx ≠ c)),
                                       stalled := d.stalled.filter (fun p => decide (p.1 ≠ c)) }) s
    let s := x.held.foldl (fun s l =>
      let s := (freeLent l s).2
      if holderOf s l = some (.ctx c) then delHolder l s else s) s
    if owed.isEmpty then delCtx c s
    else setCtx c { x with st := .quarantined, owed := owed, inFlight := none, stall := none, opRes := none,
                           job := none, events := [], parkedAt := s.aon.ft } s

/-- The completion R99 lays down. -/
def safeExpire (c : Nat) (x : Ctx) (s : State) : State :=
  if x.cplSent || x.fwdPass then s
  else
    match x.req with
    | some p => if p.op.isRead then completeDat c .i fogZero .fogged s else completeCpl c p.op.cplOp .fogged s
    | none => s

/-- The data at the home that a completion would carry: the writeback's, the DatH's, or the memory read's. -/
def safeData (x : Ctx) : LineData :=
  match x.wbd, x.hbuf with
  | none, some h => h
  | _, _ => (homeData x).getD fogZero

/-- The write of a context has to be in DRAM first, unless it was acknowledged early. -/
def safeWrites (s : State) (c : Nat) : List PwbLine := s.mem.pwb.filter (fun p => decide (p.src = c) && !p.acked)

/-- Finish one context by its row of Table FAULT-7. -/
def finishRow (c row : Nat) (s : State) : State :=
  match ctxOf s c with
  | none => s
  | some x =>
    if x.st = .quarantined then s
    else
      match row with
      | 0 => safeRelease c [] s
      | 1 => safeRelease c x.owed (safeFogCtx x s)
      | 2 => safeRelease c x.owed (safeFogCtx x (completeDat c .i (safeData x) .ok s))
      | 3 =>
        let s := (safeWrites s c).foldl (fun s p => pwbDrain p s) s
        safeRelease c (x.owed.filter (fun o => decide (o ≠ .mwrc))) (completeCpl c .cmpW .ok s)
      | 4 =>
        let s := dropWaitingWrites c s
        let owed := ((ctxOf s c).map (fun y => y.owed)).getD []
        safeRelease c owed (safeFogCtx x (safeExpire c x s))
      | 5 =>
        let s := match x.bathTo with
          | some (a, tx) => if detached s a then s else sendCpl a .cmpB c tx .fogged none false x.tray x.deadline s
          | none => completeCpl c .cmpB .fogged s
        safeRelease c [] s
      | 6 => safeRelease c x.owed (safeFogCtx x (dropWaitingWrites c s))
      | 8 => safeRelease c x.owed (mreqEnd 2 (safeFogCtx x s))
      | 9 => safeRelease c (x.owed.filter (fun o => decide (o ≠ .mwrc))) s
      | _ => safeRelease c [] s

/-- Complete the REQs that have not begun, in the order of arrival, and empty the wait chains (R338). -/
def answerWaiting (s : State) : State :=
  let held := s.home.reqs.filter (fun p => match p.place with
    | .begun _ => false
    | .window => false
    | _ => true)
  let s := held.foldl (fun s p => delPend p.seq (match p.portCpl with
    | some st => portComplete p st s
    | none => safeComplete p s)) s
  updHome (fun h => { h with chains := [], latent := h.latent.filter (fun q => match q.2 with
    | .handover _ _ => false
    | _ => true) }) s

/-- Finish the contexts of a list, then the REQs that have not begun; the ring's record ends, and so do sweeps. -/
def finishAll (l : List (Nat × Nat)) (s : State) : State :=
  let s := l.foldl (fun s p => finishRow p.1 p.2 s) s
  let s := answerWaiting s
  let s := updSheet (fun x => { x with sweeps := [] }) s
  let s := updMeter (fun m => { m with lm := { m.lm with writing := [] } }) s
  let s := updMem (fun m => { m with rewrites := [] }) s
  reelDrain true (reelDrain false s)

/-- May the sequencer finish: the writes it has to wait for can reach their channels? -/
def safeReady (s : State) : Bool :=
  s.safe.bound.all (fun p => decide (p.2 ≠ 3) || (safeWrites s p.1).all (fun w => chanServes s (chanNo s w.line)))

/-- The SAFE record (Table FAULT-10). -/
def safeRec (n : Nat) (s : State) : PsRec := ⟨7, 0xFF, s.safe.entrySeq.toNat, n, s.safe.fogged, s.safe.answered⟩

/-- SAFE_DONE: the sequencer has finished every context bound at entry. -/
def opSafeDone (s : State) : State :=
  if !isSafe s || bitOf (rd s oFltStatus) 1 || !safeReady s then s
  else
    let n := s.safe.bound.length
    let s := finishAll s.safe.bound s
    let s := wrf s oFltStatus 1 1 1
    psWrite .safeDone .none (safeRec n s) (raise0 .safeDone { s with safe := { s.safe with bound := [] } })

/-- SWI: a write of FLT_SWI.GO (R345). -/
def opSwi (s : State) : State := raise0 .swi s

/-! ### Writebacks after SAFE_DONE (R340) -/

/-- Write a writeback's data with an LDW; its CmpWb follows the write. With an empty mask the line keeps its bytes, and the status
is ZERO (R13). -/
def safeWrite (w : Nat) (p : WSlot) (d : LineData) (ldw : W32) (s : State) : State :=
  let st : Status := if d.fog then .fogged else .ok
  let s := modSlot w (fun q => { q with data := d.data, fog := d.fog, status := wbStatus p st }) s
  issueWrite noCtx (pwbLine noCtx p.line d ldw false (.wbk p.agent p.seq) p.deadline (!p.empty)) s

/-- The data that a WBK makes, and the memory line it needs for it (R69). -/
def safeMerged (p : WSlot) (o : ReadOut) : LineData :=
  if p.ptl then wbMerge p { data := o.data, fog := o.fog || o.uncor } else { data := p.data, fog := p.fog }

/-- A stale writeback (R73). An RwD of a host that is not the recorded owner is a write-through, a REQ that has not begun: nothing
is written, and its status is FOGGED (R47, R338). -/
def safeStale (w : Nat) (p : WSlot) (s : State) : State :=
  if p.cxl.isSome then slotDone w (wbStatus p .fogged) s
  else slotDone w (wbStatus p .ok) (count 0x09 ⟨some p.tray, some p.agent, none⟩ 1 s)

/-- The LDW of a spilled line whose owner has written it back: LST and OWN change as Table TXN-5 gives, and a line
recorded O becomes S. -/
def safeLdw (p : WSlot) (fog : Bool) (l : W32) : W32 :=
  let cur := (ldwLst l).getD .i
  let next : Lst := if fog then .fogged else if cur = .o then .s else wbNext cur p.op false
  BitVec.ofNat 32 (fld l 0 8 + 2 ^ 8 * lstCode next + (if next = .e then 2 ^ 11 * fld l 11 5 else 0) +
    2 ^ 16 * fld l 16 16)

/-- A writeback whose sector the sheet does not hold. -/
def safeMiss (w : Nat) (p : WSlot) (s : State) : State :=
  if !traySpill s p.tray then safeStale w p s
  else
    match memReadLine p.line .ldw false [] s with
    | (o, s) =>
      let owned := match ldwLst o.ldw with
        | some l => l.owned
        | none => false
      if !o.uncor && decide (ldwKind o.ldw = 6) && owned && decide (fld o.ldw 11 5 = p.agent) &&
          decide (fld o.ldw 16 8 = (linkOf s p.agent).epoch.toNat) then
        if p.empty then
          safeWrite w p { data := o.data, fog := o.fog } (safeLdw p o.fog o.ldw) s
        else
          let d := safeMerged p o
          safeWrite w p d (safeLdw p d.fog o.ldw) s
      else safeStale w p s

/-- A writeback whose sector lies in a suspect bank; one with an empty mask writes nothing (R13). -/
def safeSuspect (w : Nat) (p : WSlot) (s : State) : State :=
  if p.empty then slotDone w .zero s
  else
  match (if p.ptl then memReadLine p.line .txn false [] s else (ReadOut.zero, s)) with
  | (o, s) =>
    let d := safeMerged p o
    safeWrite w p d (dataLdw d.fog) s

/-- A writeback whose sector the sheet holds. -/
def safeHit (w : Nat) (p : WSlot) (s : State) : State :=
  match wbCase s p with
  | .merge =>
    (match currentData p.line s with
     | (b, s) => wbWrite noCtx w p (wbMerge p b) (wbNextOf s p none) s)
  | .through => safeStale w p s
  | _ => wbApply noCtx w p none s

/-- Apply one waiting writeback. -/
def safeApply (w : Nat) (p : WSlot) (s : State) : State :=
  let s := modSlot w (fun q => { q with place := .absorbed noCtx }) s
  if isDark s p.line then slotDone w (wbStatus p .fogged) s
  else if bankSuspect s (bankOf (p.line / 4)) then safeSuspect w p s
  else
    match lookup (p.line / 4) s with
    | (.noResult, s) => modSlot w (fun q => { q with place := .waiting }) s
    | (.hit _ _, s) => safeHit w p s
    | (.miss, s) => safeMiss w p s

/-- The CmpWb of a writeback whose write has completed. -/
def safeAck (w : Nat) (s : State) : State := delSlot w (sendCmpWb w s)

/-- SAFELIGHT_WBK: in order of arrival, the first writeback with something to do: one whose write has completed is
acknowledged, one that waits is applied, and acknowledged when its write is done. -/
def opSafelightWbk (s : State) : State :=
  if !isSafe s || !bitOf (rd s oFltStatus) 1 then s
  else
    let able := s.home.wslots.filter (fun p => decide (p.2.place = .absorbed noCtx) && p.2.written ||
      (decide (p.2.place = .waiting) && ownReads s p.2.line false))
    match firstSlot able with
    | none => s
    | some (w, p) =>
      if p.place = .waiting then
        let s := safeApply w p s
        match slotOf s w with
        | some q => if q.written && decide (q.place = .absorbed noCtx) then safeAck w s else s
        | none => s
      else safeAck w s

/-! ### Meanings -/

/-- SWI (R345). -/
def execSwi (s : State) : Out := .next (capCmd opSwi s)

/-- SAFE_DONE (R339). -/
def execSafeDone (s : State) : Out := .next (live opSafeDone s)

/-- SAFELIGHT_WBK (R340). -/
def execSafelightWbk (s : State) : Out := .next (live opSafelightWbk s)

end Sys2Proof.Machine
end

