-- ==== Sys2Proof/Machine/Reset.lean ====
section
/-! DEFINITION. Resets: the cold reset, the steps of a warm reset, and what each keeps (R342, R360 to R363, Tables PWR-4,
PWR-5). A warm reset is one step here, with the agents' answers to its recalls as an operand: log entry 23. -/

namespace Sys2Proof.Machine

/-! ### Steps 1 and 2: the work in hand is finished -/

/-- Rows of Table FAULT-7 for the contexts bound now: those of the entry to Safelight state where the sequencer has not
finished yet, else as each context stands. -/
def finishRows (s : State) : List (Nat × Nat) :=
  if isSafe s then (if bitOf (rd s oFltStatus) 1 then [] else s.safe.bound)
  else (s.dev.ctxs.filter (fun p => p.2.st ≠ .quarantined)).map (fun p =>
    (p.1, safeRow (s.mem.pwbWait.any (fun q => decide (q.ctx = p.1))) p.2))

/-- Every line of the posted write buffer is written to DRAM; a line of a DARK channel is dropped (R227). -/
def writeOut (s : State) : State :=
  s.mem.pwb.foldl (fun s p => if s.mem.pwb.contains p then drainLine p s else s) s

/-- Apply the writebacks that wait, in order of arrival, and acknowledge each once its write is in DRAM (R340). -/
def applyWbks : Nat → State → State
  | 0, s => s
  | n + 1, s =>
    match firstSlot (s.home.wslots.filter (fun p => decide (p.2.place = .waiting))) with
    | none => s
    | some (w, p) =>
      let s := writeOut (safeApply w p s)
      let s := match slotOf s w with
        | some q => if q.place = .waiting then modSlot w (fun r => { r with place := .absorbed noCtx }) s
                    else if q.written then safeAck w s else s
        | none => s
      applyWbks n s

/-- Acknowledge the writebacks whose write is done. -/
def ackWritten (s : State) : State :=
  (s.home.wslots.filter (fun p => p.2.written && decide (p.2.place = .absorbed noCtx))).foldl (fun s p => safeAck p.1 s) s

/-- Steps QUIESCE and FINISH: no rule runs any more; the contexts and the REQs are answered under R338 and Table FAULT-7;
the posted write buffer is written to DRAM, and what still waited to enter it is not written (R362). -/
def warmFinish (s : State) : State :=
  let s := updDev (fun d => { d with running := false }) s
  let s := finishAll (finishRows s) s
  let s := ackWritten (writeOut s)
  let s := updMem (fun m => { m with pwbWait := [], memq := [] }) s
  applyWbks 512 s

/-! ### Step 3: the sheet is drained -/

/-- Let the eviction's contexts act: a drain runs no rules, and a GF raised meanwhile does not stop it (R361). What has been
raised is noted in PREV_SAFE, for the end of the reset. -/
def drainMode (s : State) : State :=
  let s := if isSafe s then wrf (wrf s oFltStatus 3 1 1) oFltStatus 0 1 0 else s
  updDev (fun d => { d with running := true, byRule := false }) s

/-- Keep the entry fields of the first entry to Safelight state. -/
def keepEntry (f : State → State) (s : State) : State :=
  if bitOf (rd s oFltStatus) 3 then
    let e := rdf s oFltStatus 23 9
    wrf (f s) oFltStatus 23 9 e
  else f s

/-- Walk a fill to its end where a write needs a fill slot and none is free: the write waits for it (R264). -/
def fillRoom : Nat → State → State
  | 0, s => s
  | n + 1, s =>
    if s.mem.fills.length < Config.fillSlots then s
    else
      match s.mem.fills with
      | [] => s
      | p :: _ => fillRoom n (writeOut (opFill p.1 s))

/-- One agent's answer to the recall of a line: data at the home, or none. -/
def recallAnswer (c : Nat) (dat : Option (Bool × LineBits)) (s : State) : State :=
  modCtx c (fun x => { x with
    owed := x.owed.filter (fun o => match o with
      | .ans _ _ _ _ => false
      | _ => true),
    hbuf := match dat with
      | some (f, d) => some { data := d, fog := f }
      | none => x.hbuf }) s

/-- The answers a context awaits: given with the reset, or T_SNOOP for the first agent that owes one (R99). -/
def recallEnd (ans : List Recalled) (c : Nat) (s : State) : State :=
  match ctxOf s c with
  | none => s
  | some x =>
    if !owesAnswer x then s
    else
      match ans.find? (fun r => decide (some r.line = x.line)) with
      | some r => go [c] (recallAnswer c r.dat s)
      | none =>
        match x.owed.find? (fun o => match o with
          | .ans _ _ _ _ => true
          | _ => false) with
        | some (.ans a _ _ _) => opTSnoop c a s
        | _ => s

/-- Evict an entry: its LDWs are written, or its recalls are sent, answered and written. -/
def drainOut (ans : List Recalled) (sec way : Nat) (e : Entry) (s : State) : State :=
  match evictStart sec way e (fillRoom 16384 s) with
  | (l, s) =>
    let s := go l s
    let s := l.foldl (fun s c => recallEnd ans c s) s
    writeOut s

/-- Drain one stored way. An entry that cannot be read is lost, which raises SHEET_UE; an idle entry with SPILL 0 needs no
write (R113, R124). The banks that FLUSH_REQ and FLT_SUSPECT name are discarded (R342). -/
def drainWay (ans : List Recalled) (key : Nat) (s : State) : State :=
  let bank := key / 131072
  let set := key / 8 % 16384
  if bitOf (rd s oFltStatus) 2 && bankSuspect s bank then s
  else
    match keepEntry (fun s => (readWay bank set (key % 8) s).2) s, readWay bank set (key % 8) s with
    | s', (r, _) =>
      let s' := drainMode (putWay key none s')
      match r.entry with
      | none => s'
      | some e =>
        if isIdle e && !e.spill then s' else keepEntry (drainOut ans (sectorOf bank set e.tag) (key % 8) e) s'

/-- Write what an eviction slot still holds. -/
def drainSlot (ans : List Recalled) (k : Nat) (s : State) : State :=
  match sFind s.sheet.evSlots k with
  | none => s
  | some v =>
    let s := updSheet (fun x => { x with evSlots := sDel x.evSlots k }) s
    if bitOf (rd s oFltStatus) 2 && bankSuspect s (bankOf v.sector) then s
    else drainMode (keepEntry (drainOut ans v.sector 0 v.entry) (drainMode s))

/-- Step SHEET. -/
def warmSheet (ans : List Recalled) (s : State) : State :=
  let s := drainMode s
  let s := (List.range Config.evictSlots).foldl (fun s k => drainSlot ans k s) s
  let keys := (s.sheet.ways.map (·.1) ++ s.sheet.errs.map (·.1)).dedup
  let s := keys.foldl (fun s key => drainWay ans key s) s
  updDev (fun d => { d with running := false }) (drainMode s)

/-! ### Steps 4 to 6 -/

/-- Step LINKS: a link goes to DISABLED; its agent stays attached and its epoch stands. -/
def Link.warm (l : Link) : Link :=
  { Link.reset with attached := l.attached, vol := l.vol, epoch := l.epoch, adv := l.adv, advCur := l.advCur }

/-- Step SREF: a channel in RUN or PAUSED enters SREF (R245). A partial array loses its regions (R247). -/
def warmSref (m : Nat) (s : State) : State :=
  if (chanState s m = 1 ∨ chanState s m = 2) ∧ !chanOff s m then
    enterSref m (if losesUsed s m then s else blankLost m s)
  else s

/-- The bits of a register that a warm reset keeps: RW and RWC fields, and what their maps or chapters keep (Table PWR-4): the
self-test's log among them (R135). -/
def warmKeep (r : Nat) : W64 :=
  let all := BitVec.allOnes 64
  if 0x300 ≤ r ∧ r < 0x400 then all
  else if r = oReel ∨ r = oRmpSts ∨ r = oPsSeq then all
  else if 0x010400 ≤ r ∧ r < 0x010800 then all
  else if r = 0x030040 ∨ (0x030400 ≤ r ∧ r < 0x030500) then all
  else if 0x20A000 ≤ r ∧ r < 0x20E000 then all
  else if r = oFltStatus then 0xFF800000#64
  else
    match regDesc r with
    | some d => w64 d.rw ||| w64 d.rwc
    | none => 0

/-- A register after a warm reset. -/
def warmReg (r : Nat) (v : W64) : W64 := (v &&& warmKeep r) ||| (regReset r &&& ~~~warmKeep r)

/-- The register file after a warm reset. -/
def warmRegs (m : Sparse W64) : Sparse W64 :=
  (m.map (fun p => (p.1, warmReg p.1 p.2))).filter (fun p => decide (p.2 ≠ regReset p.1))

/-- A channel after a warm reset: delays in effect, mode registers and rearmed thresholds stay. -/
def Chan.warm (c : Chan) : Chan := { Chan.reset with mode := c.mode, drift := c.drift, thresh := c.thresh }

/-- The scrubbers begin their laps anew: those of the sheet, of every channel, and the pool's (R136, R270). -/
def startLaps (s : State) : State :=
  let now := s.aon.ft
  let s := updSheet (fun x => { x with scrubLapStart := now }) s
  let s := updMem (fun m => { m with poolStart := now }) s
  (List.range 8).foldl (fun s m => setChan m (fun c => { c with lapStart := now }) s) s

/-- The state of every channel and the reel slots over the reset of their islands: SREF, DARK and INIT stay; a DRAINING slot
becomes READY (R166, R227). -/
def warmKept (t s : State) : State :=
  let s := (List.range 8).foldl (fun s m =>
    let st := chanState t m
    if st = 4 then wr s (oMcStatus m) (rd t (oMcStatus m)) else setChanState m st s) s
  [false, true].foldl (fun s b => if reelState s b = 5 then setReelState b 3 (clearMisses b s) else s) s

/-- Step RESET: every island but the always-on island is reset, and keeps what Table PWR-4 lists. -/
def warmIslands (s : State) : State :=
  let z := State.reset
  let ended := isSafe s || bitOf (rd s oFltStatus) 3
  let t : State :=
    { s with
      regs := warmRegs s.regs
      cap := { z.cap with removals := s.cap.removals.map (fun r => { r with swept := true }) }
      aon := { s.aon with standbyWait := false, standbyChans := [] }
      sheet := { z.sheet with seqCtr := s.sheet.seqCtr }
      dev := { z.dev with scratch := s.dev.scratch, reelA := s.dev.reelA, reelB := s.dev.reelB,
                          lineCrc := s.dev.lineCrc, misMatch := s.dev.misMatch }
      home := { z.home with seqNo := s.home.seqNo }
      mem := { s.mem with pwb := [], pwbWait := [], memq := [], rewrites := [],
                          chans := s.mem.chans.map (fun p => (p.1, p.2.warm)) }
      links := s.links.map (fun p => (p.1, p.2.warm))
      meter := { z.meter with lm := { z.meter.lm with recnum := s.meter.lm.recnum } }
      safe := z.safe
      xbar := z.xbar }
  wrf (warmKept s t) oFltStatus 3 1 (b2n ended)

/-- Steps 1 to 6 of Table PWR-5. -/
def warmSteps (ans : List Recalled) (s : State) : State :=
  let s := wrf s oFltStatus 3 1 0
  let s := warmSheet ans (warmFinish s)
  let s := (List.range 8).foldl (fun s m => warmSref m s) (writeOut s)
  warmIslands s

/-- Step RESTART: every step of the islands is taken (R347), the scrubbers start again, and the block is in RUN. -/
def warmRestart (s : State) : State :=
  reportLatched (raise0 .pstateDone (wrf (stepsTaken (startLaps s)) oPwrStatus 0 3 0))

/-- A warm reset: WRST_N is asserted. In STANDBY it wakes the block first; in RETAIN and OFF it is a wake (R356). -/
def opWarmReset (ans : List Recalled) (s : State) : State :=
  let s := if rdf s oPwrStatus 0 3 = 1 then noteWake 0 true (wakeStandby s) else s
  warmRestart (warmSteps ans s)

/-! ### Cold reset (R360, Table PWR-6) -/

/-- PORST_N low: everything is at its reset value, and FT is 0; the fuses stay, and the copy of them until it is read again.
The test port stays as it is. DESIGN CHOICE, log entry 4. -/
def opColdReset (s : State) : State :=
  let z := State.reset
  { z with pending := s.pending, tx := s.tx, picks := s.picks, draws := s.draws,
           aon := { z.aon with porstLow := true, fuses := s.aon.fuses, fuseCopy := s.aon.fuseCopy, tap := s.aon.tap } }

/-- PORST_N rises: the fuse map is read, FT starts, and TESTEN selects factory test mode unless TEST_LOCK is 1 (R366, R396,
R398). -/
def opPorstRelease (testen : Bool) (s : State) : State :=
  if !s.aon.porstLow then s
  else updAon (fun a => { a with porstLow := false, fuseCopy := a.fuses, ft := 0, ftFrac := 0,
                                 testMode := testen && !a.fuses.testLock }) s

/-! ### Meanings -/

/-- WARM_RESET (R361, R362). -/
def execWarmReset (ans : List Recalled) (s : State) : Out := .next (live (opWarmReset ans) s)

/-- COLD_RESET (R360). -/
def execColdReset (s : State) : Out := .next (opColdReset s)

/-- PORST_RELEASE (R366). -/
def execPorstRelease (testen : Bool) (s : State) : Out := .next (opPorstRelease testen s)

end Sys2Proof.Machine
end

