-- ==== Sys2Proof/Machine/Power.lean ====
section
/-! DEFINITION. Power states, wakes, the always-on comparators, heat and droop (R350 to R358, Tables PWR-2, PWR-3). -/

namespace Sys2Proof.Machine

/-! ### Power commands (R353) -/

/-- PWR_STATUS.STATE. -/
def pwrState (s : State) : Nat := rdf s oPwrStatus 0 3

/-- A power command that is refused: RESULT REFUSED and PSTATE_DONE, nothing else. -/
def pwrRefuse (s : State) : State := raise0 .pstateDone (wrf s oPwrStatus 8 3 2)

/-- A command that Table PWR-2 allows from one state, outside Safelight state. -/
def pwrCmd (from_ : Nat) (f : State → State) (s : State) : State :=
  if isSafe s || decide (pwrState s ≠ from_) then pwrRefuse s else f s

/-- STANDBY: the block stops returning REQ credits and waits (R354). -/
def opStandby (s : State) : State := pwrCmd 0 (updAon (fun a => { a with standbyWait := true })) s

/-- Has what STANDBY waits for come about? -/
def standbyQuiet (s : State) : Bool :=
  s.dev.ctxs.all (fun p => decide (p.2.st = .quarantined)) && s.home.reqs.isEmpty && s.mem.pwb.isEmpty &&
  s.mem.pwbWait.isEmpty

/-- A channel in RUN enters SREF; a partial array loses its regions, unless one of them is in use (R245, R247, R354). -/
def standbySref (m : Nat) (s : State) : State :=
  if chanState s m = 1 then
    let s := updAon (fun a => { a with standbyChans := a.standbyChans ++ [m] }) s
    enterSref m (if losesUsed s m then drainChannel m s else blankLost m (drainChannel m s))
  else s

/-- STANDBY_ENTER: the channels enter SREF, the core and sheet clocks stop, a step each; RESULT DONE, PSTATE_DONE (R347, R353,
R354). -/
def opStandbyEnter (s : State) : State :=
  if !s.aon.standbyWait || isSafe s || !standbyQuiet s then s
  else
    let s := updAon (fun a => { a with standbyWait := false }) s
    let s := beginSteps clockSteps 2 ((List.range 8).foldl (fun s m => standbySref m s) s)
    raise0 .pstateDone (wrf (wrf s oPwrStatus 0 3 1) oPwrStatus 8 3 1)

/-- STANDBY_TIMEOUT: credits are returned again and the block stays in RUN, RESULT TIMEOUT (R354). -/
def opStandbyTimeout (s : State) : State :=
  if !s.aon.standbyWait then s
  else wrf (updAon (fun a => { a with standbyWait := false }) s) oPwrStatus 8 3 3

/-- RUN: a wake from STANDBY. -/
def opRun (s : State) : State := pwrCmd 1 wakeStandby s

/-! ### RETAIN and OFF (R355, R356) -/

/-- RETAIN: steps 1 to 6 of Table PWR-5, then every island but the always-on island stops, and SHK_PGATE is high. -/
def opRetain (ans : List Recalled) (s : State) : State :=
  pwrCmd 0 (fun s => updAon (fun a => { a with pgate := true }) (wrf (warmSteps ans s) oPwrStatus 0 3 2)) s

/-- The block as OFF leaves it, which is how it restarts: as after a cold reset, but that FT goes on and the always-on
registers keep their values, and the SEQ counter its value; every region is blank (R123, R356). -/
def offState (s : State) : State :=
  let z := State.reset
  { z with pending := s.pending, tx := s.tx, picks := s.picks, draws := s.draws,
           regs := s.regs.filter (fun p => decide (0x300 ≤ p.1) && decide (p.1 < 0x400)),
           sheet := { z.sheet with seqCtr := s.sheet.seqCtr },
           aon := { s.aon with standbyWait := false, standbyChans := [] } }

/-- OFF: steps 1 to 3 of Table PWR-5 and the posted write buffer; then the islands are gated, and SHK_PGATE is high. -/
def opOff (ans : List Recalled) (s : State) : State :=
  pwrCmd 0 (fun s => updAon (fun a => { a with pgate := true })
    (wrf (offState (writeOut (warmSheet ans (warmFinish s)))) oPwrStatus 0 3 3)) s

/-! ### Wakes (R354 to R356) -/

/-- Is this a wake event now: a comparator that is enabled and has tripped, WRST_N, or, in STANDBY only, a message or a RUN
command? -/
def wakes (src : WakeSrc) (s : State) : Bool :=
  match src with
  | .comparator i => decide (i < 6) && bitOf (rd s 0x300) i && bitOf (rd s oAonSts) i
  | .wrst => true
  | .message => decide (pwrState s = 1)
  | .runCmd => decide (pwrState s = 1) && !isSafe s

/-- What AON_STS shows of a wake. -/
def noteOf (src : WakeSrc) (s : State) : State :=
  match src with
  | .comparator i => noteWake (2 ^ i) false s
  | .wrst => noteWake 0 true s
  | .message => noteWake 0 false s
  | .runCmd => noteWake 0 false s

/-- SHK_PGATE clears and the block restarts: step 7 of Table PWR-5 after RETAIN; as after a cold reset, with the fuse map
read again, after OFF. The scrubbers start their laps (R270). RESULT reads DONE, PSTATE_DONE (R353, R355, R356, R396). -/
def restart (s : State) : State :=
  let s := updAon (fun a => { a with pgate := false,
                                     fuseCopy := if pwrState s = 3 then a.fuses else a.fuseCopy }) s
  backInRun (stepsTaken (startLaps s))

/-- A wake from any state but RUN. -/
def wakeUp (src : WakeSrc) (s : State) : State :=
  if s.aon.porstLow || !wakes src s then s
  else
    match pwrState s with
    | 1 => noteOf src (wakeStandby s)
    | 2 => noteOf src (restart s)
    | 3 => noteOf src (restart s)
    | _ => s

/-! ### Comparators (R358) -/

/-- A comparator trips: its output is 1, its cause is raised, or latched while the core is stopped; and where AON_WAKE
enables it, the block wakes. -/
def trip (c : Cause) (s : State) : State :=
  let i := c.bit
  let s := wrf s oAonSts i 1 1
  let s := if pwrState s = 0 then raise0 c s
           else updAon (fun a => { a with latched := Nat.lor a.latched (2 ^ i) }) s
  wakeUp (.comparator i) s

/-- The comparators work in every power state, once PORST_N is high. -/
def awake (f : State → State) (s : State) : State := if s.aon.porstLow then s else untimed f s

/-- VCORE_LO is masked in RETAIN and OFF. -/
def opVcoreLo (s : State) : State := if deepState s then s else trip .vcoreLo s

/-- VDDQ_LO is masked in OFF. -/
def opVddqLo (s : State) : State := if pwrState s = 3 then s else trip .vddqLo s

/-- LANE_WAKE: activity on a selected lane, where any lane is selected. -/
def opLaneWake (s : State) : State := if rd s 0x310 = 0 then s else trip .laneWake s

/-- TIME_ALARM trips once for each value written, when FT reaches it. -/
def opTimeAlarm (s : State) : State :=
  if !s.aon.alarmArmed || decide (s.aon.ft < rd s 0x318) then s
  else trip .timeAlarm (updAon (fun a => { a with alarmArmed := false }) s)

/-! ### Heat and droop (R350 to R352) -/

/-- A sensor's reading shows in PWR_TEMP, and in PWR_TMAX where it is the highest since last written. -/
def takeTemp (sensor : Nat) (t : BitVec 16) (s : State) : State :=
  let s := wrf s (0x220 + 4 * (sensor / 2)) (16 * (sensor % 2)) 16 t.toNat
  if signedOf (rdf s 0x240 0 16) 16 < t.toInt then wrf (wrf s 0x240 0 16 t.toNat) 0x240 16 4 sensor else s

/-- THR_ON: throttling starts at a reading at or above PWR_THR.ON. -/
def opThrOn (sensor : Nat) (t : BitVec 16) (s : State) : State :=
  let s := takeTemp sensor t s
  if bitOf (rd s oPwrStatus) 12 || decide (t.toInt < signedOf (rdf s 0x210 0 16) 16) then s
  else raise0 .thrOn (wrf s oPwrStatus 12 1 1)

/-- Readings of sensors 0 upward. -/
def takeTemps : Nat → List (BitVec 16) → State → State
  | _, [], s => s
  | i, t :: ts, s => if i < 16 then takeTemps (i + 1) ts (takeTemp i t s) else s

/-- THR_OFF: throttling ends when every sensor reads at or below PWR_THR.OFF. -/
def opThrOff (ts : List (BitVec 16)) (s : State) : State :=
  let s := takeTemps 0 ts s
  let off := signedOf (rdf s 0x210 16 16) 16
  let all := (List.range 16).all (fun i =>
    decide (signedOf (rdf s (0x220 + 4 * (i / 2)) (16 * (i % 2)) 16) 16 ≤ off))
  if !bitOf (rd s oPwrStatus) 12 || !all then s else raise0 .thrOff (wrf s oPwrStatus 12 1 0)

/-- TJ_CRIT: a sensor at 115.0 °C or above is a GF fault, with a SENSOR record (R351, Table FAULT-10). -/
def opTjCrit (sensor : Nat) (t : BitVec 16) (s : State) : State :=
  let s := takeTemp sensor t s
  if t.toInt < 920 then s else raise .tjCrit 0 ⟨8, 0xFF, sensor, t.toNat, 0, 0⟩ s

/-- DROOP: counted, and raised; the clock stretch changes only timing (R352). -/
def opDroop (d : Nat) (s : State) : State :=
  raise0 .droop (statAdd 0x105 5 d 1 (wr s 0x244 (satInc32 (rd s 0x244))))

/-- While the core clock runs. -/
def coreRuns (f : State → State) (s : State) : State := live (fun s => if pwrState s = 0 then f s else s) s

/-! ### Meanings -/

/-- STANDBY (R354). -/
def execStandby (s : State) : Out := .next (capCmd opStandby s)

/-- STANDBY_ENTER (R354). -/
def execStandbyEnter (s : State) : Out := .next (live opStandbyEnter s)

/-- STANDBY_TIMEOUT (R354). -/
def execStandbyTimeout (s : State) : Out := .next (live opStandbyTimeout s)

/-- RUN (R354). -/
def execRun (s : State) : Out := .next (capCmd opRun s)

/-- RETAIN (R355). -/
def execRetain (ans : List Recalled) (s : State) : Out := .next (capCmd (opRetain ans) s)

/-- OFF (R356). -/
def execOff (ans : List Recalled) (s : State) : Out := .next (capCmd (opOff ans) s)

/-- WAKE (R356). -/
def execWake (src : WakeSrc) (s : State) : Out := .next (awake (wakeUp src) s)

/-- TEMP_HI (R358). -/
def execTempHi (s : State) : Out := .next (awake (trip .tempHi) s)

/-- TEMP_LO (R358). -/
def execTempLo (s : State) : Out := .next (awake (trip .tempLo) s)

/-- VCORE_LO (R358). -/
def execVcoreLo (s : State) : Out := .next (awake opVcoreLo s)

/-- VDDQ_LO (R358). -/
def execVddqLo (s : State) : Out := .next (awake opVddqLo s)

/-- LANE_WAKE (R358). -/
def execLaneWake (s : State) : Out := .next (awake opLaneWake s)

/-- TIME_ALARM (R358). -/
def execTimeAlarm (s : State) : Out := .next (awake opTimeAlarm s)

/-- THR_ON (R350). -/
def execThrOn (sensor : Nat) (reading : BitVec 16) (s : State) : Out :=
  onUnit (decide (sensor < 16)) (live (opThrOn sensor reading)) s

/-- THR_OFF (R350). -/
def execThrOff (readings : List (BitVec 16)) (s : State) : Out := .next (live (opThrOff readings) s)

/-- TJ_CRIT (R351). -/
def execTjCrit (sensor : Nat) (reading : BitVec 16) (s : State) : Out :=
  onUnit (decide (sensor < 16)) (live (opTjCrit sensor reading)) s

/-- DROOP (R352). -/
def execDroop (detector : Nat) (s : State) : Out := onUnit (decide (detector < 8)) (coreRuns (opDroop detector)) s

end Sys2Proof.Machine
end

