-- ==== Sys2Proof/Machine/RuleAlu.lean ====
section
/-! DEFINITION. The ALU and scratch operations of OPER (R158, R159, R174, R179 to R181, Table RULE-7). All arithmetic is
modulo 2^64 and every comparison unsigned. -/

namespace Sys2Proof.Machine

/-- An operation that writes D: it traps ILL_OPC where D may not be written, or where the opcode is reserved (R174,
R180). -/
def writesD (c opc : Nat) (o : Oper) (reserved : Bool) (f : Ctx → W64) (s : State) : State :=
  atOper c (fun w => decide (w = operField o opc)) (fun x r s =>
    if reserved || !canWrite o.d then ill c r s else modCtx c (putOpd o.d (f x)) s) s

/-- D ← f A B, under the I = 0 opcode `opc` and the next one. -/
def binary (opc : Nat) (f : W64 → W64 → W64) (c : Nat) (o : Oper) (s : State) : State :=
  writesD c opc o false (fun x => f (opd x o.a) (valB x o)) s

/-- D ← f A, an operation with no immediate form. -/
def unary (opc : Nat) (f : W64 → W64) (c : Nat) (o : Oper) (s : State) : State :=
  writesD c opc o o.imm (fun x => f (opd x o.a)) s

/-- CMP: 0 when A = B, 1 when A < B, 2 when A > B. -/
def cmpVal (a b : W64) : W64 := if a = b then 0 else if a < b then 1 else 2

/-- FFS: the index of the lowest 1 bit; 64 when A is 0. -/
def ffsVal (a : W64) : W64 := w64 ((lowestOne a).getD 64)

/-- The OPER opcodes of Table RULE-6. -/
def operOpcodes : List Nat :=
  [0x00, 0x02, 0x03, 0x04, 0x05, 0x06, 0x07, 0x08, 0x09, 0x0A, 0x0B, 0x0C, 0x0D, 0x0E, 0x0F, 0x10, 0x12, 0x13, 0x14,
   0x15, 0x16, 0x18, 0x1A, 0x1B, 0x1C, 0x1D, 0x1E, 0x1F, 0x20, 0x22, 0x23, 0x25, 0x26, 0x28, 0x2A, 0x2C]

/-- NOP does nothing; every opcode that Table RULE-6 does not list raises ILL_OPC (R180). A rule with another listed opcode is no
NOP. -/
def opNop (c : Nat) (opc : BitVec 6) (s : State) : State :=
  atOper c (fun w => decide (w / 2 ^ 26 = opc.toNat) && (decide (opc = 0) || !operOpcodes.contains opc.toNat)) (fun _ r s =>
    if operOpcodes.contains opc.toNat then s else ill c r s) s

/-- LDI: the immediate, or a word of the constant pool, whose fetch line must agree with its CRC (R161, R181). -/
def opLdi (c : Nat) (o : Oper) (s : State) : State :=
  atOper c (fun w => decide (w = operField o 0x12)) (fun x r s =>
    let idx := fld o.b 0 9
    if !canWrite o.d then ill c r s
    else if o.imm then modCtx c (putOpd o.d (immSx o)) s
    else if lineGood s x.reelB (8448 + idx / 8) then
      modCtx c (putOpd o.d (w64 (reelNat s x.reelB (0x84000 + 8 * idx) 8))) s
    else mismatch c x.reelB (8448 + idx / 8) .const s) s

/-- MSK: POS is bits [12:7] and LEN bits [6:0]; LEN 0 writes nothing, LEN above 64 raises ILL_OPC. -/
def opMsk (c : Nat) (o : Oper) (s : State) : State :=
  atOper c (fun w => decide (w = operField o 0x1A)) (fun x r s =>
    let v := rawB x o
    let pos := fld v 7 6
    let len := fld v 0 7
    if !canWrite o.d ∨ 64 < len then ill c r s
    else if len = 0 then s
    else modCtx c (putOpd o.d (w64 ((opd x o.a).toNat / 2 ^ pos % 2 ^ len))) s) s

/-- The scratch word that A + B names. -/
def scratchIx (x : Ctx) (o : Oper) : Nat := (opd x o.a + valB x o).toNat % 32768

/-- LDS: an unwritten word traps SCR_UNINIT; `bits` wrong bits in the stored word are corrected and written back with
SCR_CE when one, and a GF fault with SCR_UE when more (R159). -/
def opLds (c : Nat) (o : Oper) (bits : Nat) (s : State) : State :=
  atOper c (fun w => decide (w = operField o 0x1C)) (fun x r s =>
    let w := scratchIx x o
    if !canWrite o.d then ill c r s
    else
      match sFind s.dev.scratch w with
      | none => trap c 0x7F02 r.addr.toNat s
      | some v =>
        if 2 ≤ bits then raise .scrUe 0 (storeRec 1 x.reelB w) s
        else
          let s := if bits = 1 then raise0 .scrCe s else s
          modCtx c (putOpd o.d v) s) s

/-- STS: D names a source; ZR stores 0. -/
def opSts (c : Nat) (o : Oper) (s : State) : State :=
  atOper c (fun w => decide (w = operField o 0x1E)) (fun x _ s => scratchPut (scratchIx x o) (opd x o.d) s) s

/-! ### Meanings -/

/-- NOP (R180, R181). -/
def execNop (c : Nat) (opc : BitVec 6) (s : State) : Out := onUnit (okCtx c) (live (opNop c opc)) s

/-- ADD (R181). -/
def execAdd (c : Nat) (o : Oper) (s : State) : Out := onUnit (okCtx c) (live (binary 0x02 (· + ·) c o)) s

/-- SUB (R181). -/
def execSub (c : Nat) (o : Oper) (s : State) : Out := onUnit (okCtx c) (live (binary 0x04 (· - ·) c o)) s

/-- AND (R181). -/
def execAnd (c : Nat) (o : Oper) (s : State) : Out := onUnit (okCtx c) (live (binary 0x06 (· &&& ·) c o)) s

/-- OR (R181). -/
def execOr (c : Nat) (o : Oper) (s : State) : Out := onUnit (okCtx c) (live (binary 0x08 (· ||| ·) c o)) s

/-- XOR (R181). -/
def execXor (c : Nat) (o : Oper) (s : State) : Out := onUnit (okCtx c) (live (binary 0x0A (· ^^^ ·) c o)) s

/-- SHL (R181): by B[5:0]. -/
def execShl (c : Nat) (o : Oper) (s : State) : Out :=
  onUnit (okCtx c) (live (binary 0x0C (fun a b => a <<< fld b 0 6) c o)) s

/-- SHR (R181): by B[5:0], with zero fill. -/
def execShr (c : Nat) (o : Oper) (s : State) : Out :=
  onUnit (okCtx c) (live (binary 0x0E (fun a b => a >>> fld b 0 6) c o)) s

/-- MOV (R181). -/
def execMov (c : Nat) (o : Oper) (s : State) : Out := onUnit (okCtx c) (live (unary 0x10 id c o)) s

/-- LDI (R181). -/
def execLdi (c : Nat) (o : Oper) (s : State) : Out := onUnit (okCtx c) (live (opLdi c o)) s

/-- OPER_CMP (R181). -/
def execOperCmp (c : Nat) (o : Oper) (s : State) : Out := onUnit (okCtx c) (live (binary 0x14 cmpVal c o)) s

/-- POPC (R181). -/
def execPopc (c : Nat) (o : Oper) (s : State) : Out :=
  onUnit (okCtx c) (live (unary 0x16 (fun a => w64 (popCount a)) c o)) s

/-- FFS (R181). -/
def execFfs (c : Nat) (o : Oper) (s : State) : Out := onUnit (okCtx c) (live (unary 0x18 ffsVal c o)) s

/-- MSK (R181). -/
def execMsk (c : Nat) (o : Oper) (s : State) : Out := onUnit (okCtx c) (live (opMsk c o)) s

/-- LDS (R181). -/
def execLds (c : Nat) (o : Oper) (bits : Nat) (s : State) : Out := onUnit (okCtx c) (live (opLds c o bits)) s

/-- STS (R181). -/
def execSts (c : Nat) (o : Oper) (s : State) : Out := onUnit (okCtx c) (live (opSts c o)) s

end Sys2Proof.Machine
end

