-- ==== Sys2Proof/Machine/Write.lean ====
section
/-! DEFINITION. A CAP write wherever it lands: fields by access type, the registers that carry a command, and fabric time's
LOAD (R7, R21 to R23, R206, R393). -/

namespace Sys2Proof.Machine

/-! ### FT_LOAD (R206) -/

/-- A LOAD while the ENGINE is RUNNING changes nothing and raises FT_LOAD; else FT takes GLB_FT_LOAD. -/
def opFtLoad (s : State) : State :=
  if s.dev.running then raise0 .ftLoad s
  else
    let v := rd s 0x108
    wrf (updAon (fun a => { a with ft := v, ftFrac := 0 }) s) 0x110 1 1 1

/-! ### Registers that carry a command -/

/-- The low 32 bits: what an access to one 32-bit register reaches. -/
def reach32 : W64 := 0xFFFFFFFF#64

/-- GLOBAL. -/
def writeGlobal (x : Nat) (v : W64) (s : State) : State :=
  match x with
  | 0x010 => if bitOf v 0 then opCommit s else s
  | 0x110 =>
    let s := regWrite x reach32 v s
    if bitOf v 0 then opFtLoad s else s
  | 0x200 =>
    (match fld v 0 3 with
     | 1 => opStandby s
     | 2 => opRetain [] s
     | 3 => opOff [] s
     | 4 => opRun s
     | _ => s)
  | 0x280 =>
    (match fld v 8 2 with
     | 1 => opIslandOff (fld v 0 3) s
     | 2 => opIslandOn (fld v 0 3) s
     | _ => regWrite x reach32 v s)
  | _ => regWrite x reach32 v s

/-- The ENGINE. -/
def writeEngine (x : Nat) (v : W64) (s : State) : State :=
  match x with
  | 0x000 => if bitOf v 0 then opEngEnable s else s
  | 0x010 =>
    (match fld v 0 3 with
     | 1 => opVerify (bitOf v 4) s
     | 2 => opSwitch (bitOf v 4) s
     | 3 => opClear (bitOf v 4) s
     | _ => s)
  | 0x034 => if bitOf v 0 then opRefillGo s else s
  | 0x208 =>
    let s := regWrite 0x020208 reach32 v s
    if bitOf v 31 then opMreqGo s else s
  | _ => regWrite (0x020000 + x) reach32 v s

/-- The Contact Sheet. -/
def writeSheet (x : Nat) (v : W64) (s : State) : State :=
  if x = 0x000 then (if bitOf v 0 then opBistGo s else s)
  else if x = 0x028 then
    (if bitOf v 31 then opPeek (fld v 0 5) (fld v 8 14) (fld v 5 3) s else regWrite 0x030028 reach32 v s)
  else if inRow x 0x100 4 32 then
    (let b := (x - 0x100) / 4
     match fld v 4 3 with
     | 1 => opDrain b s
     | 2 => opOffline b s
     | 3 => opOnline b s
     | 4 => opCancel b s
     | _ => s)
  else if inRow x 0x1000 4 512 || inRow x 0x2000 4 512 then
    (let b := 16 * (x / 0x1000 - 1) + x % 0x1000 / 0x80
     opSoftRepair b (x % 0x80 / 4) (lo32 v) s)
  else regWrite (0x030000 + x) reach32 v s

/-- A port. -/
def writePort (n x : Nat) (v : W64) (s : State) : State :=
  if x = 0 then
    (match fld v 0 3 with
     | 1 => opLinkEnable n (bitOf v 4) s
     | 2 => opRetrain n (bitOf v 4) s
     | 3 => opLinkDisable n (bitOf v 4) s
     | 4 => opLinkRetire n (bitOf v 4) s
     | _ => s)
  else regWrite (portBase n + x) reach32 v s

/-- A channel command (MC_CTRL). -/
def writeMcCtrl (m : Nat) (v : W64) (s : State) : State :=
  match fld v 0 3 with
  | 1 => opStart m s
  | 2 => opPause m s
  | 3 => opResume m s
  | 4 => opSref m s
  | 5 => opExit m s
  | 6 => opExitInit m s
  | 7 => opDarken m s
  | _ => s

/-- A memory channel. -/
def writeChan (m x : Nat) (v : W64) (s : State) : State :=
  let o := chanBase m + x
  if x = 0 then writeMcCtrl m v s
  else if x = 0x2000 then
    (let s := regWrite o reach32 v s
     if bitOf v 31 then trnGo m (fld v 0 4) (lo32 v) s else s)
  else if isDelay x then opDelayWrite m x (lo32 v) s
  else if inRow x 0x8020 4 16 then opErasure m ((x - 0x8020) / 0x20) ((x - 0x8020) % 0x20 / 4) (lo32 v) s
  else if 0x8100 ≤ x ∧ x < 0x8300 then rearmThresh m x (regWriteAll o reach32 v s)
  else if m = 0 ∧ x = 0x9000 then
    (match fld v 30 2 with
     | 1 => opBlank (BitVec.ofNat 22 v.toNat) s
     | 2 => opQuery (BitVec.ofNat 22 v.toNat) s
     | _ => blankRegion (BitVec.ofNat 22 v.toNat) s)
  else if m = 0 ∧ x = 0x9028 then
    (match fld v 0 2 with
     | 1 => opCopy s
     | 2 => opLoad s
     | _ => s)
  else regWriteAll o reach32 v s

/-- The alarm trips once for each value written. -/
def armAlarm (s : State) : State := updAon (fun a => { a with alarmArmed := true }) s

/-- A write that reaches an active register, or the upper half of one. -/
def writeActive (r : Nat) (hi : Bool) (v : W64) (s : State) : State :=
  if hi then
    let s := regWriteAll r (halfMask true) (inHalf true v) s
    if r = 0x318 then armAlarm s else s
  else if r < 0x010000 then
    let s := writeGlobal r v s
    if r = 0x318 then armAlarm s else s
  else if r = 0x010018 then (if bitOf v 0 then opSwi s else s)
  else if 0x020000 ≤ r ∧ r < 0x030000 then writeEngine (r - 0x020000) v s
  else if 0x030000 ≤ r ∧ r < 0x040000 then writeSheet (r - 0x030000) v s
  else if 0x100000 ≤ r ∧ r < 0x200000 then writePort ((r - 0x100000) / 0x10000) (r % 0x10000) v s
  else if 0x200000 ≤ r ∧ r < 0x280000 then writeChan ((r - 0x200000) / 0x10000) (r % 0x10000) v s
  else regWriteAll r reach32 v s

/-- A 32-bit write to an offset that may hold an active register or a shadow. While a commit is applied a shadow write is
held (R11). -/
def write32 (off : Nat) (v : W64) (s : State) : State :=
  match coverReg off with
  | some (r, hi) => writeActive r hi v s
  | none =>
    if s.cap.commitBusy && (coverShadow off).isSome then
      capSilent (updCap (fun c => { c with heldShadow := c.heldShadow ++ [(off, false, v)] }) s)
    else shadow32 off v s

/-- REGISTER_WRITE: the CAP acknowledges, and each register that the access reaches takes its half. -/
def opRegisterWrite (off : Nat) (wide : Bool) (v : W64) (s : State) : State :=
  if !capAnswers s then capSilent s
  else if !aligned off wide then capDone true 0 s
  else if !(assigned off || (wide && assigned (off + 4))) then decodeEvent s
  else
    let s := capDone false 0 s
    if 0x400000 ≤ off ∧ off < 0x600000 then reelCapWrite (decide (0x500000 ≤ off)) (off % 0x100000) wide v s
    else if 0x600000 ≤ off ∧ off < 0x640000 then scratchCapWrite (off - 0x600000) wide v s
    else if wide then write32 (off + 4) (v >>> 32) (write32 off (v &&& reach32) s)
    else write32 off (v &&& reach32) s

/-! ### Meanings -/

/-- REGISTER_WRITE (R7). Only the access to GLB_FT_CTRL can set FT (R206). -/
def execRegisterWrite (off : BitVec 24) (w64 : Bool) (v : W64) (s : State) : Out :=
  if testAccess s off.toNat && aligned off.toNat w64 then .refused .factoryTestUndocumented
  else if off.toNat = 0x110 then .next (within (opRegisterWrite off.toNat w64 v) s)
  else .next (untimed (opRegisterWrite off.toNat w64 v) s)

/-- FT_LOAD (R206). -/
def execFtLoad (s : State) : Out :=
  .next (if capAnswers s then within opFtLoad (capDone false 0 s) else capSilent s)

end Sys2Proof.Machine
end

