-- ==== Sys2Proof/Machine/Dispatch.lean ====
section
/-! DEFINITION. The commands and their meanings, one arm each. -/

namespace Sys2Proof.Machine

/-- The effect of a command on everything but the queue. -/
def exec (i : Instr) (s : State) : Host.Outcome State Fault Refusal :=
  match i with
  -- CAP
  | .registerWrite off w64 v => Sys2Proof.Machine.execRegisterWrite off w64 v s
  | .capMisaligned off w64 we v => Sys2Proof.Machine.execCapMisaligned off w64 we v s
  | .capDecode off w64 we v => Sys2Proof.Machine.execCapDecode off w64 we v s
  | .shadowWrite off w64 v => Sys2Proof.Machine.execShadowWrite off w64 v s
  | .commit => Sys2Proof.Machine.execCommit s
  | .commitApply => Sys2Proof.Machine.execCommitApply s
  | .ftLoad => Sys2Proof.Machine.execFtLoad s
  -- Contact Sheet
  | .sheetBistGo => Sys2Proof.Machine.execSheetBistGo s
  | .sheetBistDone fails => Sys2Proof.Machine.execSheetBistDone fails s
  | .sheetPeek bank set way => Sys2Proof.Machine.execSheetPeek bank set way s
  | .sheetPeekDone errs => Sys2Proof.Machine.execSheetPeekDone errs s
  | .softRepairWrite bank r v => Sys2Proof.Machine.execSoftRepairWrite bank r v s
  | .drain bank => Sys2Proof.Machine.execDrain bank s
  | .offline bank => Sys2Proof.Machine.execOffline bank s
  | .online bank => Sys2Proof.Machine.execOnline bank s
  | .cancel bank => Sys2Proof.Machine.execCancel bank s
  | .quiesceComplete bank => Sys2Proof.Machine.execQuiesceComplete bank s
  | .spareTestDone bank fails => Sys2Proof.Machine.execSpareTestDone bank fails s
  | .sheetScrubVisit ups => Sys2Proof.Machine.execSheetScrubVisit ups s
  | .sheetScrubRecheck bank set way errs => Sys2Proof.Machine.execSheetScrubRecheck bank set way errs s
  | .allocRetry c => Sys2Proof.Machine.execAllocRetry c s
  -- requests
  | .rds r => Sys2Proof.Machine.execRds r s
  | .rdx r => Sys2Proof.Machine.execRdx r s
  | .upg r => Sys2Proof.Machine.execUpg r s
  | .rdc r => Sys2Proof.Machine.execRdc r s
  | .wrl r data => Sys2Proof.Machine.execWrl r data s
  | .wrp r bmask data => Sys2Proof.Machine.execWrp r bmask data s
  | .atr r => Sys2Proof.Machine.execAtr r s
  | .atc r value => Sys2Proof.Machine.execAtc r value s
  | .flush r => Sys2Proof.Machine.execFlush r s
  | .stbV r => Sys2Proof.Machine.execStbV r s
  | .stbD r => Sys2Proof.Machine.execStbD r s
  | .detn r => Sys2Proof.Machine.execDetn r s
  | .detnDispatch agent => Sys2Proof.Machine.execDetnDispatch agent s
  | .streamRelease agent stream => Sys2Proof.Machine.execStreamRelease agent stream s
  | .reqTakeEntry agent txid => Sys2Proof.Machine.execReqTakeEntry agent txid s
  | .chainHeadDispatch line => Sys2Proof.Machine.execChainHeadDispatch line s
  -- writebacks
  | .wbMI w => Sys2Proof.Machine.execWbMI w s
  | .wbMS w => Sys2Proof.Machine.execWbMS w s
  | .wbME w => Sys2Proof.Machine.execWbME w s
  | .wbOI w => Sys2Proof.Machine.execWbOI w s
  | .wbOS w => Sys2Proof.Machine.execWbOS w s
  -- responses
  | .rspI agent htid => Sys2Proof.Machine.execRspI agent htid s
  | .rspS agent htid => Sys2Proof.Machine.execRspS agent htid s
  | .rspE agent htid => Sys2Proof.Machine.execRspE agent htid s
  | .rspMiss agent htid => Sys2Proof.Machine.execRspMiss agent htid s
  | .rspFwdI agent htid => Sys2Proof.Machine.execRspFwdI agent htid s
  | .rspFwdS agent htid => Sys2Proof.Machine.execRspFwdS agent htid s
  | .rspFwdO agent htid => Sys2Proof.Machine.execRspFwdO agent htid s
  | .rspDataI agent htid => Sys2Proof.Machine.execRspDataI agent htid s
  | .rspDataK agent htid => Sys2Proof.Machine.execRspDataK agent htid s
  | .rspWbPending agent htid => Sys2Proof.Machine.execRspWbPending agent htid s
  | .cmp agent htid => Sys2Proof.Machine.execCmp agent htid s
  -- data
  | .datH d => Sys2Proof.Machine.execDatH d s
  | .datS d => Sys2Proof.Machine.execDatS d s
  | .datE d => Sys2Proof.Machine.execDatE d s
  | .datM d => Sys2Proof.Machine.execDatM d s
  -- CXL
  | .memRd q => Sys2Proof.Machine.execMemRd q s
  | .memRdData q => Sys2Proof.Machine.execMemRdData q s
  | .memInv q => Sys2Proof.Machine.execMemInv q s
  | .memInvNT q => Sys2Proof.Machine.execMemInvNT q s
  | .memClnEvct q => Sys2Proof.Machine.execMemClnEvct q s
  | .memSpecRd q => Sys2Proof.Machine.execMemSpecRd q s
  | .memRdFwd q => Sys2Proof.Machine.execMemRdFwd q s
  | .memWrFwd q => Sys2Proof.Machine.execMemWrFwd q s
  | .memWr w => Sys2Proof.Machine.execMemWr w s
  | .memWrPtl w => Sys2Proof.Machine.execMemWrPtl w s
  | .biRspI agent htid => Sys2Proof.Machine.execBiRspI agent htid s
  | .biRspS agent htid => Sys2Proof.Machine.execBiRspS agent htid s
  | .biRspE agent htid => Sys2Proof.Machine.execBiRspE agent htid s
  | .biConflict agent tag => Sys2Proof.Machine.execBiConflict agent tag s
  | .cxlCmpEvent agent htid => Sys2Proof.Machine.execCxlCmpEvent agent htid s
  | .biDisable agent => Sys2Proof.Machine.execBiDisable agent s
  | .hdmDecoderWrite agent dec v => Sys2Proof.Machine.execHdmDecoderWrite agent dec v s
  | .identify agent opc => Sys2Proof.Machine.execIdentify agent opc s
  | .backgroundOperationStatus agent opc => Sys2Proof.Machine.execBackgroundOperationStatus agent opc s
  | .getEventRecords agent opc => Sys2Proof.Machine.execGetEventRecords agent opc s
  | .clearEventRecords agent opc => Sys2Proof.Machine.execClearEventRecords agent opc s
  | .getSupportedLogs agent opc => Sys2Proof.Machine.execGetSupportedLogs agent opc s
  | .getLog agent opc => Sys2Proof.Machine.execGetLog agent opc s
  | .identifyMemoryDevice agent opc => Sys2Proof.Machine.execIdentifyMemoryDevice agent opc s
  | .getPartitionInfo agent opc => Sys2Proof.Machine.execGetPartitionInfo agent opc s
  | .getHealthInfo agent opc => Sys2Proof.Machine.execGetHealthInfo agent opc s
  -- the Developer
  | .eventDispatch ts flip => Sys2Proof.Machine.execEventDispatch ts flip s
  | .sheetOpResult c => Sys2Proof.Machine.execSheetOpResult c s
  | .nop c opc => Sys2Proof.Machine.execNop c opc s
  | .add c o => Sys2Proof.Machine.execAdd c o s
  | .sub c o => Sys2Proof.Machine.execSub c o s
  | .and c o => Sys2Proof.Machine.execAnd c o s
  | .or c o => Sys2Proof.Machine.execOr c o s
  | .xor c o => Sys2Proof.Machine.execXor c o s
  | .shl c o => Sys2Proof.Machine.execShl c o s
  | .shr c o => Sys2Proof.Machine.execShr c o s
  | .mov c o => Sys2Proof.Machine.execMov c o s
  | .ldi c o => Sys2Proof.Machine.execLdi c o s
  | .operCmp c o => Sys2Proof.Machine.execOperCmp c o s
  | .popc c o => Sys2Proof.Machine.execPopc c o s
  | .ffs c o => Sys2Proof.Machine.execFfs c o s
  | .msk c o => Sys2Proof.Machine.execMsk c o s
  | .lds c o bits => Sys2Proof.Machine.execLds c o bits s
  | .sts c o => Sys2Proof.Machine.execSts c o s
  | .slk c o => Sys2Proof.Machine.execSlk c o s
  | .sup c o => Sys2Proof.Machine.execSup c o s
  | .sall c o => Sys2Proof.Machine.execSall c o s
  | .sevt c o => Sys2Proof.Machine.execSevt c o s
  | .ltb c o => Sys2Proof.Machine.execLtb c o s
  | .ltw c o => Sys2Proof.Machine.execLtw c o s
  | .ltwHead line => Sys2Proof.Machine.execLtwHead line s
  | .lte c o => Sys2Proof.Machine.execLte c o s
  | .send c sop args => Sys2Proof.Machine.execSend c sop args s
  | .snpv c args => Sys2Proof.Machine.execSnpv c args s
  | .mrd c args => Sys2Proof.Machine.execMrd c args s
  | .mwr c args => Sys2Proof.Machine.execMwr c args s
  | .mwrd c args => Sys2Proof.Machine.execMwrd c args s
  | .fog c args => Sys2Proof.Machine.execFog c args s
  | .ctr c args => Sys2Proof.Machine.execCtr c args s
  | .stpb c args => Sys2Proof.Machine.execStpb c args s
  | .chain c tt ft => Sys2Proof.Machine.execChain c tt ft s
  | .await c ft => Sys2Proof.Machine.execAwait c ft s
  | .retire c ft => Sys2Proof.Machine.execRetire c ft s
  | .trap c code ft => Sys2Proof.Machine.execTrap c code ft s
  | .stopBathComplete c => Sys2Proof.Machine.execStopBathComplete c s
  -- memory events and timers
  | .mrdc c errs => Sys2Proof.Machine.execMrdc c errs s
  | .mwrc c => Sys2Proof.Machine.execMwrc c s
  | .ldwc c errs => Sys2Proof.Machine.execLdwc c errs s
  | .postedWriteDone line => Sys2Proof.Machine.execPostedWriteDone line s
  | .postedWriteResume => Sys2Proof.Machine.execPostedWriteResume s
  | .tSnoop c agent => Sys2Proof.Machine.execTSnoop c agent s
  | .tCmp c => Sys2Proof.Machine.execTCmp c s
  | .parkLong c => Sys2Proof.Machine.execParkLong c s
  | .htidStuck c => Sys2Proof.Machine.execHtidStuck c s
  | .trapStorm => Sys2Proof.Machine.execTrapStorm s
  | .sweep k ups => Sys2Proof.Machine.execSweep k ups s
  | .engEnable => Sys2Proof.Machine.execEngEnable s
  | .engineStart byRule => Sys2Proof.Machine.execEngineStart byRule s
  | .scratchWrite off w64 v => Sys2Proof.Machine.execScratchWrite off w64 v s
  | .reelWrite off w64 v => Sys2Proof.Machine.execReelWrite off w64 v s
  | .verify slotB => Sys2Proof.Machine.execVerify slotB s
  | .verifyDone slotB => Sys2Proof.Machine.execVerifyDone slotB s
  | .switch slotB => Sys2Proof.Machine.execSwitch slotB s
  | .clear slotB => Sys2Proof.Machine.execClear slotB s
  | .refetchDone => Sys2Proof.Machine.execRefetchDone s
  | .refillGo => Sys2Proof.Machine.execRefillGo s
  | .fetchTimeout => Sys2Proof.Machine.execFetchTimeout s
  | .mreqGo => Sys2Proof.Machine.execMreqGo s
  | .starve input output => Sys2Proof.Machine.execStarve input output s
  -- memory channels
  | .start m => Sys2Proof.Machine.execStart m s
  | .pause m => Sys2Proof.Machine.execPause m s
  | .resume m => Sys2Proof.Machine.execResume m s
  | .pauseTimeout m => Sys2Proof.Machine.execPauseTimeout m s
  | .sref m => Sys2Proof.Machine.execSref m s
  | .srefDone m => Sys2Proof.Machine.execSrefDone m s
  | .exit m => Sys2Proof.Machine.execExit m s
  | .exitInit m => Sys2Proof.Machine.execExitInit m s
  | .darken m => Sys2Proof.Machine.execDarken m s
  | .batchRecoverEnd m => Sys2Proof.Machine.execBatchRecoverEnd m s
  | .refresh m rank => Sys2Proof.Machine.execRefresh m rank s
  | .refreshPoll m rates => Sys2Proof.Machine.execRefreshPoll m rates s
  | .alertN m sc => Sys2Proof.Machine.execAlertN m sc s
  | .caReplayEnd m sc failed => Sys2Proof.Machine.execCaReplayEnd m sc failed s
  | .mrw m v => Sys2Proof.Machine.execMrw m v s
  | .mrr m v => Sys2Proof.Machine.execMrr m v s
  | .caloop m v => Sys2Proof.Machine.execCaloop m v s
  | .wlvl m v => Sys2Proof.Machine.execWlvl m v s
  | .rcven m v => Sys2Proof.Machine.execRcven m v s
  | .wrpat m v => Sys2Proof.Machine.execWrpat m v s
  | .rdcmp m v => Sys2Proof.Machine.execRdcmp m v s
  | .rdcap m v => Sys2Proof.Machine.execRdcap m v s
  | .trnDone m res => Sys2Proof.Machine.execTrnDone m res s
  | .delayWrite m off v => Sys2Proof.Machine.execDelayWrite m off v s
  | .driftWrite m off v => Sys2Proof.Machine.execDriftWrite m off v s
  | .erasureDeclare m sc rank v => Sys2Proof.Machine.execErasureDeclare m sc rank v s
  | .devThresh m sc rank dev => Sys2Proof.Machine.execDevThresh m sc rank dev s
  | .blank region => Sys2Proof.Machine.execBlank region s
  | .query region => Sys2Proof.Machine.execQuery region s
  | .fillLine slot => Sys2Proof.Machine.execFillLine slot s
  | .patrolScrubRead m sc errs => Sys2Proof.Machine.execPatrolScrubRead m sc errs s
  | .scrubRewrite line errs => Sys2Proof.Machine.execScrubRewrite line errs s
  | .copy => Sys2Proof.Machine.execCopy s
  | .remapCopySector errs => Sys2Proof.Machine.execRemapCopySector errs s
  | .load => Sys2Proof.Machine.execLoad s
  -- links
  | .linkEnable n sub => Sys2Proof.Machine.execLinkEnable n sub s
  | .retrain n sub => Sys2Proof.Machine.execRetrain n sub s
  | .linkDisable n sub => Sys2Proof.Machine.execLinkDisable n sub s
  | .linkRetire n sub => Sys2Proof.Machine.execLinkRetire n sub s
  | .linkUp agent lanes => Sys2Proof.Machine.execLinkUp agent lanes s
  | .trainingTimeout agent => Sys2Proof.Machine.execTrainingTimeout agent s
  | .recoveryLock agent lanes => Sys2Proof.Machine.execRecoveryLock agent lanes s
  | .recoveryTimeout agent => Sys2Proof.Machine.execRecoveryTimeout agent s
  | .flitReceive agent bytes => Sys2Proof.Machine.execFlitReceive agent bytes s
  | .wedgeReceive agent bytes => Sys2Proof.Machine.execWedgeReceive agent bytes s
  | .lockTimeout agent => Sys2Proof.Machine.execLockTimeout agent s
  | .replay agent fromSeq => Sys2Proof.Machine.execReplay agent fromSeq s
  | .replayTimeout agent => Sys2Proof.Machine.execReplayTimeout agent s
  | .wedgeSend agent eyes => Sys2Proof.Machine.execWedgeSend agent eyes s
  -- counters and the Light Meter
  | .counterWindow => Sys2Proof.Machine.execCounterWindow s
  | .ovf c => Sys2Proof.Machine.execOvf c s
  | .sample ts c rule => Sys2Proof.Machine.execSample ts c rule s
  | .lmRecord => Sys2Proof.Machine.execLmRecord s
  -- faults and Safelight state
  | .swi => Sys2Proof.Machine.execSwi s
  | .safeDone => Sys2Proof.Machine.execSafeDone s
  | .safelightWbk => Sys2Proof.Machine.execSafelightWbk s
  -- power, clocks, resets
  | .standby => Sys2Proof.Machine.execStandby s
  | .standbyEnter => Sys2Proof.Machine.execStandbyEnter s
  | .standbyTimeout => Sys2Proof.Machine.execStandbyTimeout s
  | .run => Sys2Proof.Machine.execRun s
  | .retain ans => Sys2Proof.Machine.execRetain ans s
  | .off ans => Sys2Proof.Machine.execOff ans s
  | .wake src => Sys2Proof.Machine.execWake src s
  | .tempHi => Sys2Proof.Machine.execTempHi s
  | .tempLo => Sys2Proof.Machine.execTempLo s
  | .vcoreLo => Sys2Proof.Machine.execVcoreLo s
  | .vddqLo => Sys2Proof.Machine.execVddqLo s
  | .laneWake => Sys2Proof.Machine.execLaneWake s
  | .timeAlarm => Sys2Proof.Machine.execTimeAlarm s
  | .thrOn sensor reading => Sys2Proof.Machine.execThrOn sensor reading s
  | .thrOff readings => Sys2Proof.Machine.execThrOff readings s
  | .tjCrit sensor reading => Sys2Proof.Machine.execTjCrit sensor reading s
  | .droop detector => Sys2Proof.Machine.execDroop detector s
  | .coldReset => Sys2Proof.Machine.execColdReset s
  | .porstRelease testen => Sys2Proof.Machine.execPorstRelease testen s
  | .warmReset ans => Sys2Proof.Machine.execWarmReset ans s
  | .islandOff m => Sys2Proof.Machine.execIslandOff m s
  | .islandOn m => Sys2Proof.Machine.execIslandOn m s
  | .islOff k => Sys2Proof.Machine.execIslOff k s
  | .islOn k => Sys2Proof.Machine.execIslOn k s
  -- JTAG
  | .idcode => Sys2Proof.Machine.execIdcode s
  | .samplePreload pins => Sys2Proof.Machine.execSamplePreload pins s
  | .extest cells => Sys2Proof.Machine.execExtest cells s
  | .extestPulse => Sys2Proof.Machine.execExtestPulse s
  | .extestTrain => Sys2Proof.Machine.execExtestTrain s
  | .fuseread => Sys2Proof.Machine.execFuseread s
  | .fuseprog op => Sys2Proof.Machine.execFuseprog op s
  | .bypass code tdi => Sys2Proof.Machine.execBypass code tdi s
  | .biEnable agent => Sys2Proof.Machine.execBiEnable agent s
  | .birspBlockForm agent => Sys2Proof.Machine.execBirspBlockForm agent s

end Sys2Proof.Machine
end

