-- ==== Sys2Proof/WellFormed.lean ====
section
/-! DEFINITION. Well-formed commands: those that name only units the block has (Table POOL-1, R155, R225, R278). -/

namespace Sys2Proof

/-- Agents A0 to A31. -/
def hasAgent (a : Nat) : Bool := decide (a < 32)
/-- Memory channels M0 to M7. -/
def hasChan (m : Nat) : Bool := decide (m < 8)
/-- Sheet banks SB0 to SB31. -/
def hasBank (b : Nat) : Bool := decide (b < 32)
/-- Contexts: 8,192 transaction contexts and 512 writeback contexts. -/
def hasCtx (c : Nat) : Bool := decide (c < 8704)
/-- Ports P0 to P15. -/
def hasPort (n : Nat) : Bool := decide (n < 16)
/-- Lines of the pool address space. -/
def hasLine (l : Nat) : Bool := decide (l < 2 ^ 36)
/-- A subchannel of a channel. -/
def hasSub (m sc : Nat) : Bool := hasChan m && decide (sc < 2)
/-- A rank of a subchannel. -/
def hasRank (m sc rank : Nat) : Bool := hasSub m sc && decide (rank < 8)

/-- A port or channel island. -/
def hasIsland (i : Island) : Bool :=
  match i with
  | .port n => hasPort n
  | .chan m => hasChan m

/-- A fuse operation on a key slot that exists. -/
def hasFuse (op : FuseOp) : Bool :=
  match op with
  | .key k _ => decide (k < 4)
  | .revoke k => decide (k < 4)
  | .mfr _ => true
  | .testLock => true

/-- Is `x` one of `n` offsets from `b`, four apart? -/
def offRow (x b n : Nat) : Bool := decide (b ≤ x) && decide (x < b + 4 * n) && decide ((x - b) % 4 = 0)

/-- An offset within the delay sets of both subchannels (chapter 09). -/
def delaySets (x : Nat) : Bool := decide (x / 0x800 = 6) || decide (x / 0x800 = 8)

/-- MC_DRIFT. -/
def driftOff (x : Nat) : Bool := delaySets x && offRow (x % 0x100) 0xF4 3

/-- The delay registers of R241. -/
def delayOff (x : Nat) : Bool :=
  offRow x 0x2100 5 || offRow x 0x2120 5 ||
  (delaySets x && (offRow (x % 0x100) 0x00 5 || offRow (x % 0x100) 0x20 5 || offRow (x % 0x100) 0x40 10 ||
    offRow (x % 0x100) 0x80 10 || offRow (x % 0x100) 0xC0 5 || offRow (x % 0x100) 0xE0 5))

/-- Does a command name only units that exist? -/
def Instr.wf (i : Instr) : Bool :=
  match i with
  | .registerWrite _ _ _ => true
  | .capMisaligned _ _ _ _ => true
  | .capDecode _ _ _ _ => true
  | .shadowWrite _ _ _ => true
  | .commit => true
  | .commitApply => true
  | .ftLoad => true
  | .sheetBistGo => true
  | .sheetBistDone _ => true
  | .sheetPeek bank set way => hasBank bank && decide (set < 16384) && decide (way < 8)
  | .sheetPeekDone _ => true
  | .softRepairWrite bank r _ => hasBank bank && decide (r < 32)
  | .drain bank => hasBank bank
  | .offline bank => hasBank bank
  | .online bank => hasBank bank
  | .cancel bank => hasBank bank
  | .quiesceComplete bank => hasBank bank
  | .spareTestDone bank _ => hasBank bank
  | .sheetScrubVisit _ => true
  | .sheetScrubRecheck bank set way _ => hasBank bank && decide (set < 16384) && decide (way < 8)
  | .allocRetry c => hasCtx c
  | .rds r => hasAgent r.agent
  | .rdx r => hasAgent r.agent
  | .upg r => hasAgent r.agent
  | .rdc r => hasAgent r.agent
  | .wrl r _ => hasAgent r.agent
  | .wrp r _ _ => hasAgent r.agent
  | .atr r => hasAgent r.agent
  | .atc r _ => hasAgent r.agent
  | .flush r => hasAgent r.agent
  | .stbV r => hasAgent r.agent
  | .stbD r => hasAgent r.agent
  | .detn r => hasAgent r.agent
  | .detnDispatch agent => hasAgent agent
  | .streamRelease agent _ => hasAgent agent
  | .reqTakeEntry agent _ => hasAgent agent
  | .chainHeadDispatch line => hasLine line
  | .wbMI w => hasAgent w.agent
  | .wbMS w => hasAgent w.agent
  | .wbME w => hasAgent w.agent
  | .wbOI w => hasAgent w.agent
  | .wbOS w => hasAgent w.agent
  | .rspI agent _ => hasAgent agent
  | .rspS agent _ => hasAgent agent
  | .rspE agent _ => hasAgent agent
  | .rspMiss agent _ => hasAgent agent
  | .rspFwdI agent _ => hasAgent agent
  | .rspFwdS agent _ => hasAgent agent
  | .rspFwdO agent _ => hasAgent agent
  | .rspDataI agent _ => hasAgent agent
  | .rspDataK agent _ => hasAgent agent
  | .rspWbPending agent _ => hasAgent agent
  | .cmp agent _ => hasAgent agent
  | .datH d => hasAgent d.agent
  | .datS d => hasAgent d.agent
  | .datE d => hasAgent d.agent
  | .datM d => hasAgent d.agent
  | .memRd q => hasAgent q.agent
  | .memRdData q => hasAgent q.agent
  | .memInv q => hasAgent q.agent
  | .memInvNT q => hasAgent q.agent
  | .memClnEvct q => hasAgent q.agent
  | .memSpecRd q => hasAgent q.agent
  | .memRdFwd q => hasAgent q.agent
  | .memWrFwd q => hasAgent q.agent
  | .memWr w => hasAgent w.agent
  | .memWrPtl w => hasAgent w.agent
  | .biRspI agent _ => hasAgent agent
  | .biRspS agent _ => hasAgent agent
  | .biRspE agent _ => hasAgent agent
  | .biConflict agent _ => hasAgent agent
  | .cxlCmpEvent agent _ => hasAgent agent
  | .biDisable agent => hasAgent agent
  | .hdmDecoderWrite agent _ _ => hasAgent agent
  | .identify agent _ => hasAgent agent
  | .backgroundOperationStatus agent _ => hasAgent agent
  | .getEventRecords agent _ => hasAgent agent
  | .clearEventRecords agent _ => hasAgent agent
  | .getSupportedLogs agent _ => hasAgent agent
  | .getLog agent _ => hasAgent agent
  | .identifyMemoryDevice agent _ => hasAgent agent
  | .getPartitionInfo agent _ => hasAgent agent
  | .getHealthInfo agent _ => hasAgent agent
  | .eventDispatch ts _ => decide (ts < 44)
  | .sheetOpResult c => hasCtx c
  | .nop c _ => hasCtx c
  | .add c _ => hasCtx c
  | .sub c _ => hasCtx c
  | .and c _ => hasCtx c
  | .or c _ => hasCtx c
  | .xor c _ => hasCtx c
  | .shl c _ => hasCtx c
  | .shr c _ => hasCtx c
  | .mov c _ => hasCtx c
  | .ldi c _ => hasCtx c
  | .operCmp c _ => hasCtx c
  | .popc c _ => hasCtx c
  | .ffs c _ => hasCtx c
  | .msk c _ => hasCtx c
  | .lds c _ _ => hasCtx c
  | .sts c _ => hasCtx c
  | .slk c _ => hasCtx c
  | .sup c _ => hasCtx c
  | .sall c _ => hasCtx c
  | .sevt c _ => hasCtx c
  | .ltb c _ => hasCtx c
  | .ltw c _ => hasCtx c
  | .ltwHead line => hasLine line
  | .lte c _ => hasCtx c
  | .send c _ _ => hasCtx c
  | .snpv c _ => hasCtx c
  | .mrd c _ => hasCtx c
  | .mwr c _ => hasCtx c
  | .mwrd c _ => hasCtx c
  | .fog c _ => hasCtx c
  | .ctr c _ => hasCtx c
  | .stpb c _ => hasCtx c
  | .chain c _ _ => hasCtx c
  | .await c _ => hasCtx c
  | .retire c _ => hasCtx c
  | .trap c _ _ => hasCtx c
  | .stopBathComplete c => hasCtx c
  | .mrdc c _ => hasCtx c
  | .mwrc c => hasCtx c
  | .ldwc c _ => hasCtx c
  | .postedWriteDone line => hasLine line
  | .postedWriteResume => true
  | .tSnoop c agent => hasCtx c && hasAgent agent
  | .tCmp c => hasCtx c
  | .parkLong c => hasCtx c
  | .htidStuck c => hasCtx c
  | .trapStorm => true
  | .sweep _ _ => true
  | .engEnable => true
  | .engineStart _ => true
  | .scratchWrite _ _ _ => true
  | .reelWrite _ _ _ => true
  | .verify _ => true
  | .verifyDone _ => true
  | .switch _ => true
  | .clear _ => true
  | .refetchDone => true
  | .refillGo => true
  | .fetchTimeout => true
  | .mreqGo => true
  | .starve input output => decide (input ≤ 24) && decide (output ≤ 23)
  | .start m => hasChan m
  | .pause m => hasChan m
  | .resume m => hasChan m
  | .pauseTimeout m => hasChan m
  | .sref m => hasChan m
  | .srefDone m => hasChan m
  | .exit m => hasChan m
  | .exitInit m => hasChan m
  | .darken m => hasChan m
  | .batchRecoverEnd m => hasChan m
  | .refresh m _ => hasChan m
  | .refreshPoll m _ => hasChan m
  | .alertN m sc => hasSub m sc
  | .caReplayEnd m sc _ => hasSub m sc
  | .mrw m _ => hasChan m
  | .mrr m _ => hasChan m
  | .caloop m _ => hasChan m
  | .wlvl m _ => hasChan m
  | .rcven m _ => hasChan m
  | .wrpat m _ => hasChan m
  | .rdcmp m _ => hasChan m
  | .rdcap m _ => hasChan m
  | .trnDone m _ => hasChan m
  | .delayWrite m o _ => hasChan m && delayOff o.toNat
  | .driftWrite m o _ => hasChan m && driftOff o.toNat
  | .erasureDeclare m sc rank _ => hasRank m sc rank
  | .devThresh m sc rank dev => hasRank m sc rank && decide (dev < 10)
  | .blank _ => true
  | .query _ => true
  | .fillLine slot => decide (slot < 16)
  | .patrolScrubRead m sc _ => hasSub m sc
  | .scrubRewrite line _ => hasLine line
  | .copy => true
  | .remapCopySector _ => true
  | .load => true
  | .linkEnable n _ => hasPort n
  | .retrain n _ => hasPort n
  | .linkDisable n _ => hasPort n
  | .linkRetire n _ => hasPort n
  | .linkUp agent _ => hasAgent agent
  | .trainingTimeout agent => hasAgent agent
  | .recoveryLock agent _ => hasAgent agent
  | .recoveryTimeout agent => hasAgent agent
  | .flitReceive agent _ => hasAgent agent
  | .wedgeReceive agent _ => hasAgent agent
  | .lockTimeout agent => hasAgent agent
  | .replay agent _ => hasAgent agent
  | .replayTimeout agent => hasAgent agent
  | .wedgeSend agent _ => hasAgent agent
  | .counterWindow => true
  | .ovf c => decide (c < 256)
  | .sample ts c _ => decide (ts < 64) && hasCtx c
  | .lmRecord => true
  | .swi => true
  | .safeDone => true
  | .safelightWbk => true
  | .standby => true
  | .standbyEnter => true
  | .standbyTimeout => true
  | .run => true
  | .retain _ => true
  | .off _ => true
  | .wake _ => true
  | .tempHi => true
  | .tempLo => true
  | .vcoreLo => true
  | .vddqLo => true
  | .laneWake => true
  | .timeAlarm => true
  | .thrOn sensor _ => decide (sensor < 16)
  | .thrOff _ => true
  | .tjCrit sensor _ => decide (sensor < 16)
  | .droop detector => decide (detector < 8)
  | .coldReset => true
  | .porstRelease _ => true
  | .warmReset _ => true
  | .islandOff m => hasChan m
  | .islandOn m => hasChan m
  | .islOff i => hasIsland i
  | .islOn i => hasIsland i
  | .idcode => true
  | .samplePreload _ => true
  | .extest _ => true
  | .extestPulse => true
  | .extestTrain => true
  | .fuseread => true
  | .fuseprog op => hasFuse op
  | .bypass _ _ => true
  | .biEnable agent => hasAgent agent
  | .birspBlockForm agent => hasAgent agent

end Sys2Proof
end

