-- ==== Sys2Proof/Safety.lean ====
section
/-! DEFINITION. What counts as a safe run, in the terms the statements use. -/

namespace Sys2Proof.Machine

/-- The block runs: PORST_N is high, and it is not in RETAIN or OFF. -/
def Awake (s : State) : Prop := asleep s = false

/-- A cause is set at a unit. -/
def Caused (s : State) (c : Cause) (unit : Nat) : Prop := bitOf (rd s (causeReg c.domain unit)) c.bit = true

/-- Every byte store and the register file are in canonical form: keys strictly rising, no entry that equals what an
unlisted key reads as. -/
def Canonical (s : State) : Prop :=
  Memory.wf s.mem.dram = true ∧ Memory.wf s.dev.reelA = true ∧ Memory.wf s.dev.reelB = true ∧ Regs.wf s.regs = true

/-- While PORST_N is low the block is held as a cold reset leaves it (R360): every register at its reset value, FT at 0, and
every array clear. The CAP's last answer, the queue, the messages sent and the model's own choices are no part of it. -/
def HeldInReset (s : State) : Prop :=
  s.aon.porstLow = true →
    s.regs = [] ∧ s.shadow = [] ∧ s.aon.ft = 0 ∧ s.aon.testMode = false ∧ s.sheet = State.reset.sheet ∧
    s.dev = State.reset.dev ∧ s.home = State.reset.home ∧ s.mem = State.reset.mem ∧ s.links = [] ∧
    s.meter = State.reset.meter ∧ s.safe = State.reset.safe ∧ s.xbar = State.reset.xbar

/-! ### Frames: what a command leaves alone -/

/-- A side of the state. -/
inductive Side where
  | pending | regs | shadow | cap | aon | sheet | dev | home | mem | links | meter | safe | xbar | tx | picks | draws
  deriving DecidableEq, Repr

/-- Two states agree on a side. -/
def SameSide (x : Side) (s t : State) : Prop :=
  match x with
  | .pending => t.pending = s.pending
  | .regs => t.regs = s.regs
  | .shadow => t.shadow = s.shadow
  | .cap => t.cap = s.cap
  | .aon => t.aon = s.aon
  | .sheet => t.sheet = s.sheet
  | .dev => t.dev = s.dev
  | .home => t.home = s.home
  | .mem => t.mem = s.mem
  | .links => t.links = s.links
  | .meter => t.meter = s.meter
  | .safe => t.safe = s.safe
  | .xbar => t.xbar = s.xbar
  | .tx => t.tx = s.tx
  | .picks => t.picks = s.picks
  | .draws => t.draws = s.draws

/-- Nothing but the sides listed has changed: every register, buffer, memory byte and message of every other side stays. -/
def Only (k : List Side) (s t : State) : Prop := ∀ x, x ∉ k → SameSide x s t

/-- No register but those that meet `p` has changed. -/
def RegsOnly (p : Nat → Prop) (s t : State) : Prop := ∀ o, ¬ p o → rd t o = rd s o

/-- The offsets of the FAULT block: causes, class counters, FLT_STATUS and the Proof Strip. -/
def FaultReg (o : Nat) : Prop := 0x010000 ≤ o ∧ o < 0x010800

/-- The CAP has acknowledged the access, with no error and no data. -/
def Acked (s t : State) : Prop := t.cap = { s.cap with resp := { ack := true, err := false, rdata := 0 } }

/-- The CAP has completed an access, and the state is otherwise `s`. -/
def answered (err : Bool) (data : W64) (s : State) : State :=
  { s with cap := { s.cap with resp := { ack := true, err := err, rdata := data } } }

/-- No counter is configured, so that an event counts nowhere but in the Light Meter. -/
def NoCounter (s : State) : Prop := ctrConfigured s = []

/-- The block runs, in power state RUN, outside Safelight state, with no counter configured. -/
def InRun (s : State) : Prop := asleep s = false ∧ rdf s oPwrStatus 0 3 = 0 ∧ isSafe s = false ∧ NoCounter s

/-- A block that dispatches by the rules of its reel, with nothing in hand and an empty sheet. -/
def Fresh (s : State) : Prop :=
  InRun s ∧ s.dev.running = true ∧ s.dev.byRule = true ∧ s.dev.ctxs = [] ∧ s.dev.ready = [] ∧ s.home.reqs = [] ∧
  s.home.wslots = [] ∧ s.home.latent = [] ∧ s.home.chains = [] ∧ s.sheet.ways = [] ∧ s.sheet.errs = [] ∧
  s.sheet.evSlots = [] ∧ s.picks = []

/-- The port of an attached agent takes a REQ of its class that names line `line` of tray `t`: every check of R409 passes, the
line is no window page, and its bank serves (R142). -/
def PortTakes (s : State) (op : ReqOp) (r : Req) (line t : Nat) : Prop :=
  r.agent < 32 ∧ detached s r.agent = false ∧ maySend s r.agent op = true ∧
  portResolve s r.agent r.laddr = some (line, t) ∧ fieldsOk op r = true ∧ windowTray s line = none ∧
  bankHeld s (bankOf (line / 4)) = false

/-- A transaction runs in context `c` for a REQ: the line is latent for it, the context holds its header, and its event waits
for an issue slot. -/
def Dispatched (t : State) (c : Nat) (op : ReqOp) (agent : Nat) (txid : BitVec 12) (line tray : Nat) : Prop :=
  holderOf t line = some (.ctx c) ∧ ∃ x e, ctxOf t c = some x ∧ x.kind = .req op ∧ x.agent = some agent ∧ x.txid = txid ∧
    x.line = some line ∧ x.tray = some tray ∧ x.ea = w64 (64 * line) ∧
    x.code = (codeOf t line (recOf t line) (some tray)).num ∧ t.dev.ready = [e] ∧ e.ctx = c ∧ e.ts = agent ∧
    e.typ = op.num ∧ e.ea = w64 (64 * line)

/-- The registers that a REQ's arrival may change: the deadline clamp count and its cause, and the contexts' high-water mark. -/
def ReqReg (o : Nat) : Prop := o = 0x040308 ∨ o = 0x010128 ∨ o = 0x020008

/-! ### Rules in flight -/

/-- Rule `r` of context `c` has come to step `n` (0 OPER, 1 SEND, 2 STEER), and nothing holds it up. -/
def AtRule (s : State) (c : Nat) (x : Ctx) (r : InFlight) (n : Nat) : Prop :=
  c < 8704 ∧ asleep s = false ∧ isSafe s = false ∧ s.dev.running = true ∧ ctxOf s c = some x ∧ x.st = .run ∧
  x.byRule = true ∧ x.stall = none ∧ x.opRes = none ∧ x.job = none ∧ x.inFlight = some r ∧ r.stage = n

/-- The OPER has written `v` to D, the rule has come to its SEND, and nothing else has changed. -/
def Opered (s t : State) (c : Nat) (x : Ctx) (r : InFlight) (d : BitVec 4) (v : W64) : Prop :=
  ctxOf t c = some { putOpd d v x with inFlight := some { r with stage := 1 } } ∧
  (∀ k, k ≠ c → ctxOf t k = ctxOf s k) ∧ t = { s with dev := { s.dev with ctxs := t.dev.ctxs } }

/-- With the result written to D, neither the SEND nor the STEER of the rule traps (R167). -/
def RuleClear (s : State) (c : Nat) (d : BitVec 4) (v : W64) : Prop := laterFault c (modCtx c (putOpd d v) s) = none

/-- Rule `r` of context `c`, its GUARD true, has come to its OPER, which is operation `o` with I = 0 opcode `opc`. -/
def AtOper (s : State) (c : Nat) (x : Ctx) (r : InFlight) (o : Oper) (opc : Nat) : Prop :=
  AtRule s c x r 0 ∧ r.guard = true ∧ r.oper = operField o opc

/-- The rule sends nothing, and its STEER is AWAIT. -/
def Harmless (r : InFlight) : Prop := r.send / 2 ^ 34 = 0 ∧ r.steer / 2 ^ 30 = 1

/-- The SEND of a rule with a true GUARD goes out: the rule word holds it, it waits for no read, and neither it nor the STEER
traps. -/
def SendReady (s : State) (c : Nat) (x : Ctx) (r : InFlight) (sop : Nat) (args : BitVec 34) : Prop :=
  AtRule s c x r 1 ∧ r.guard = true ∧ r.send = sop * 2 ^ 34 + args.toNat ∧ sendWaits s x.seen sop args = false ∧
  sendFault s x.seen sop args = none ∧ ownSteerFault s x r = none

/-- The context after its SEND, but for what the SEND itself has changed in it. -/
def sent (x : Ctx) (r : InFlight) : Ctx := { x with inFlight := some { r with stage := 2 } }

/-- No channel has changed but for what the batch policy, where it is in force, has seen of its queues (R235). -/
def ChansKept (s t : State) : Prop := ∀ m, batching s m = false → chanOf t m = chanOf s m

/-- The STEER of a rule comes next, and the rule word holds it. -/
def AtSteer (s : State) (c : Nat) (x : Ctx) (r : InFlight) (mode : Nat) (tt ft : BitVec 15) : Prop :=
  AtRule s c x r (if r.guard then 2 else 0) ∧ ownSteer r mode tt ft = true ∧ x.phase ≠ .bath

/-- A sector has one entry: way `w` holds it, and no other way of its set has its tag. -/
def OneEntry (s : State) (sec w : Nat) (e : Entry) : Prop :=
  (setWays s (bankOf sec) (setOf sec)).filter (fun p => decide (p.2.tag = tagOf sec)) = [(w, e)]

/-- A sector has no entry in its set. -/
def NoEntry (s : State) (sec : Nat) : Prop :=
  (setWays s (bankOf sec) (setOf sec)).filter (fun p => decide (p.2.tag = tagOf sec)) = []

/-- The reel slot of a context is not being drained, and no sheet bank is. -/
def Settled (s : State) (x : Ctx) : Prop := reelState s x.reelB ≠ 5 ∧ ∀ b, b < 32 → bankState s b = 0

/-- No fuse bit that is set in `f` is clear in `g` (R397). -/
def FusesGrow (f g : Fuses) : Prop :=
  (∀ k, k < 4 → (f.keys.get k).prog = true → (g.keys.get k).prog = true ∧ (g.keys.get k).digest = (f.keys.get k).digest) ∧
  (∀ k, k < 4 → (f.keys.get k).revoke = true → (g.keys.get k).revoke = true) ∧
  (∀ k, k < 4 → (f.keys.get k).digest &&& (g.keys.get k).digest = (f.keys.get k).digest) ∧
  f.mfr &&& g.mfr = f.mfr ∧ (f.testLock = true → g.testLock = true) ∧ g.rows = f.rows

/-- A link has left service in state `st` (R299): it holds nothing for its traffic, its agent is detached, and where the agent
was attached its epoch has advanced, its requests that had not begun are gone and its sweep has started. -/
def LinkLeft (s t : State) (a st : Nat) : Prop :=
  linkState t a = st ∧ detached t a = true ∧ linkWidth t a = 0 ∧ (linkOf t a).lock = false ∧ (linkOf t a).replayBuf = [] ∧
  (linkOf t a).txq = [] ∧ (linkOf t a).slots = [] ∧ (linkOf t a).jobs = [] ∧
  (detached s a = true → (linkOf t a).epoch = (linkOf s a).epoch) ∧
  (detached s a = false → (linkOf t a).epoch = (linkOf s a).epoch + 1 ∧
    (∀ p ∈ t.home.reqs, p.req.agent = a → ∃ c, p.place = .begun c) ∧
    ∃ w ∈ t.sheet.sweeps, w.kind = .detach a false none ∧ w.next = 0)

/-- A CTRL REPLAY with FROM `fr` has taken link `a`'s next flit position, or waits for the one after the wedge (R283, R296). -/
def Requested (s t : State) (a : Nat) (fr ack : BitVec 12) : Prop :=
  let k := linkOf s a
  (k.pos < 31 → ∃ ccl cnt, t.tx = s.tx ++ [.flit a (replayFlit fr k.txSeq ack ccl cnt)]) ∧
  (31 ≤ k.pos → t.tx = s.tx ∧ (linkOf t a).jobs = .replay fr :: k.jobs)

/-- The flits `l` of link `a` have gone out again in the positions left before its wedge, and those after them wait (R296). -/
def Resent (s t : State) (a : Nat) (l : List (BitVec 12 × List (BitVec 128))) : Prop :=
  let k := linkOf s a
  ∃ fl, t.tx = s.tx ++ fl ∧ fl.length = min (31 - k.pos) l.length ∧
    (∀ i p, i < 31 - k.pos → l[i]? = some p → ∃ c n, fl[i]? = some (.flit a (slotFlit p.1 k.rxAck c n p.2))) ∧
    (linkOf t a).jobs = (l.drop (31 - k.pos)).map (fun p => .again p.1 p.2)

/-- Nothing is in hand: no context, request, writeback, waiting write or sheet entry. -/
def Quiet (s : State) : Prop :=
  s.dev.ctxs = [] ∧ s.home.reqs = [] ∧ s.home.wslots = [] ∧ s.home.latent = [] ∧ s.home.chains = [] ∧ s.mem.pwb = [] ∧
  s.mem.pwbWait = [] ∧ s.mem.memq = [] ∧ s.sheet.ways = [] ∧ s.sheet.errs = [] ∧ s.sheet.evSlots = []

/-- The offsets of the always-on registers (R355). -/
def AonReg (o : Nat) : Prop := 0x300 ≤ o ∧ o < 0x400

end Sys2Proof.Machine
end

