-- ==== Sys2Proof/Certificates/Slice0/Obligations.lean ====
section
/-! DEFINITION. The statements for the provers. The rules of the spec that a docstring names in parentheses are
those the statement is drawn from, whole or in part; OBLIGATIONS.json says which statements state a rule whole. -/

open Sys2Proof Sys2Proof.Machine

/-! ### The queue, the step, and what every command keeps -/

/-- A step on a queue whose front is `c` is `exec c` on the state with the queue's rest. -/
def Obligations.StepRunsFront : Prop :=
  ∀ (c : Instr) (s : State), step { s with pending := c :: s.pending } = exec c s

/-- The state after reset: every register at its reset value, FT at 0, no byte written, no line recorded, no agent attached,
the queue empty; it is in canonical form. -/
def Obligations.ResetState : Prop :=
  (∀ o, rd State.reset o = regReset o) ∧ State.reset.pending = [] ∧ State.reset.aon.ft = 0 ∧
  (∀ a, memGet State.reset.mem.dram a = memDefault) ∧ (∀ a, (linkOf State.reset a).attached = false) ∧
  (∀ a, linkState State.reset a = 0) ∧ (∀ m, chanState State.reset m = 0) ∧ Canonical State.reset ∧
  rd State.reset 0x000 = 0x00C11280#64 ∧ rd State.reset 0x004 = 0x00000B2E#64

/-- On an empty queue FT advances by one unit, or by one edge of 122,070.3125 units in STANDBY, RETAIN and OFF, scaled by
1 + TRIM × 10^-8, the fraction carried; while PORST_N is low nothing changes at all. That a step on an empty queue is this
advance of FT is the model's choice (log entry 1).

Such a step carries two slots of the crossbar. Of two packets that request one output, the one with the nearer deadline sends
both, whatever their inputs; a packet that ends is whole in its port's egress staging (from R217, R218).

R206: a LOAD while the ENGINE is RUNNING changes nothing and raises FT_LOAD; else FT takes GLB_FT_LOAD. -/
def Obligations.FabricTime : Prop :=
  (∀ s : State, s.pending = [] →
    (s.aon.porstLow = true → step s = .next s) ∧
    (s.aon.porstLow = false → ∃ (n f : Nat) (t : State), f < 1600000000 ∧
      n * 1600000000 + f = s.aon.ftFrac + (if 1 ≤ rdf s 0x204 0 3 ∧ rdf s 0x204 0 3 ≤ 3 then 1953125 else 16) *
        ((100000000 : Int) + signedOf (rdf s 0x114 0 16) 16).toNat ∧
      step s = .next t ∧ t.aon = { s.aon with ft := s.aon.ft + BitVec.ofNat 64 n, ftFrac := f, stepQ := t.aon.stepQ,
                                              stepWait := t.aon.stepWait } ∧
      Only [.aon, .dev, .home, .mem, .links, .meter, .xbar] s t)) ∧
  (∀ (p q : Packet) (s : State), s.pending = [] → asleep s = false → rdf s 0x204 0 3 = 0 → s.aon.ftFrac < 1600000000 →
    s.xbar.mute = [] → s.xbar.half = 0 → s.xbar.packets = [q, p] → p.input < 25 → q.input < 25 → p.input ≠ q.input →
    p.output < 24 → q.output = p.output → nowNs s ≤ p.deadline.toNat → p.deadline.toNat < q.deadline.toNat →
    q.deadline.toNat < nowNs s + 2 ^ 29 → p.sent + 2 < p.slots →
    ∃ t, step s = .next t ∧ t.xbar.packets = [q, { p with sent := p.sent + 2 }] ∧
      sFind t.xbar.grants p.output = some p.input) ∧
  (∀ (p : Packet) (m : TxMsg) (s : State), s.pending = [] → asleep s = false → rdf s 0x204 0 3 = 0 →
    s.aon.ftFrac < 1600000000 → s.xbar.mute = [] → s.xbar.half = 0 → s.xbar.packets = [p] → p.input < 25 → p.output < 24 →
    p.msg = some m → destOf m < 32 → isZcl s (destOf m) = true → p.sent + 1 = p.slots →
    ∃ t, step s = .next t ∧ t.xbar.packets = [] ∧ (linkOf t (destOf m)).txq = (linkOf s (destOf m)).txq ++ [m]) ∧
  (∀ s : State, capAnswers s = true →
    (s.dev.running = true →
      exec .ftLoad s = .next (wr (answered false 0 s) 0x010128 (rd s 0x010128 ||| 8#64))) ∧
    (s.dev.running = false → ∃ t, exec .ftLoad s = .next t ∧ t.aon = { s.aon with ft := rd s 0x108, ftFrac := 0 } ∧
      Acked s t ∧ Only [.cap, .aon, .regs] s t ∧ RegsOnly (· = 0x110) s t))

/-- A command runs, whatever the state, exactly when every unit it names exists; the one thing refused is an access to the
TEST range that factory test mode has opened. -/
def Obligations.CommandsComplete : Prop :=
  ∀ (c : Instr) (s : State),
    (c.wf = false → exec c s = .fault .noSuchUnit) ∧
    (c.wf = true → (∃ t, exec c s = .next t) ∨
      (s.aon.testMode = true ∧ exec c s = .refused .factoryTestUndocumented))

/-- No command touches the queue.

FT is set by a LOAD and by a cold reset or its end, and by no other command. -/
def Obligations.QueueAndFtStand : Prop :=
  (∀ (c : Instr) (s t : State), exec c s = .next t → t.pending = s.pending) ∧
  (∀ (c : Instr) (s t : State), exec c s = .next t →
    (t.aon.ft = s.aon.ft ∧ t.aon.ftFrac = s.aon.ftFrac) ∨ c = .ftLoad ∨ (∃ w v, c = .registerWrite 0x110#24 w v) ∨
    c = .coldReset ∨ ∃ b, c = .porstRelease b)

/-- While PORST_N is low every step leaves the block as the cold reset left it. -/
def Obligations.HeldInResetKept : Prop :=
  ∀ s t : State, HeldInReset s → step s = .next t → HeldInReset t

/-- Fuse bits are only ever set, and only by FUSEPROG while PORST_N is low. -/
def Obligations.FusesOnlyGrow : Prop :=
  ∀ s t : State, step s = .next t →
    FusesGrow s.aon.fuses t.aon.fuses ∧
    (t.aon.fuses ≠ s.aon.fuses → s.aon.porstLow = true ∧ ∃ op rest, s.pending = .fuseprog op :: rest)

/-- While the block is asleep (PORST_N low, RETAIN or OFF) no command but those of the always-on island, of the test port and
of the resets changes anything beside the CAP's answer. -/
def Obligations.AsleepKeeps : Prop :=
  ∀ (c : Instr) (s t : State), asleep s = true → exec c s = .next t →
    Only [.cap] s t ∨
    c ∈ [.tempHi, .tempLo, .vcoreLo, .vddqLo, .laneWake, .timeAlarm, .coldReset, .idcode, .extestPulse, .extestTrain,
         .fuseread] ∨
    (∃ w, c = .wake w) ∨ (∃ b, c = .porstRelease b) ∨ (∃ p, c = .samplePreload p) ∨ (∃ p, c = .extest p) ∨
    (∃ op, c = .fuseprog op) ∨ (∃ k b, c = .bypass k b)

/-- R23: an aligned access to an unassigned offset completes with a normal response that reads 0, records CAP_DECODE, and
changes nothing else; outside factory test mode every offset of the TEST range is unassigned. -/
def Obligations.UnassignedAccess : Prop :=
  (∀ (off : BitVec 24) (wide we : Bool) (v : W64) (s : State),
    capAnswers s = true → s.aon.testMode = false → off.toNat % (if wide then 8 else 4) = 0 →
    assigned off.toNat = false → (wide = true → assigned (off.toNat + 4) = false) →
    let t := wr (answered false 0 s) 0x010100 (rd s 0x010100 ||| 1#64)
    exec (.capDecode off wide we v) s = .next t ∧ exec (.registerWrite off wide v) s = .next t) ∧
  (∀ off, 0xF00000 ≤ off → assigned off = false)

/-- R25: a commit in Safelight state changes nothing but GLB_COMMIT_STS, which reads REJECTED, SAFELIGHT, offset 0, whatever
the shadows hold. -/
def Obligations.SafelightCommitRejected : Prop :=
  ∀ s : State, capAnswers s = true → s.cap.commitBusy = false → isSafe s = true →
    exec .commit s = .next (wr (answered false 0 s) 0x14 0x2B#64)

/-! ### The CAP -/

/-- A 32-bit write to an order, tray, counter or fault register that carries no command changes exactly the RW bits to the
value written and clears the W1C bits written as 1; RWC fields and every other register stay (from R7).

A misaligned access completes with the error response and no effect, a register or shadow write among them.

A shadow write reaches only the RWC fields of its register's shadow, and no active value; while a commit is applied it
is held, without an acknowledge (from R7, R11, R22). -/
def Obligations.RegisterAccesses : Prop :=
  (∀ (off : BitVec 24) (v : W32) (d : RegDesc) (s : State),
    capAnswers s = true → off.toNat % 4 = 0 → off.toNat % 0x1000 < 0x800 → regDesc off.toNat = some d → d.wide = false →
    (0x010000 ≤ off.toNat ∧ off.toNat < 0x020000 ∧ off.toNat ≠ 0x010018 ∨ 0x040000 ≤ off.toNat ∧ off.toNat < 0x050000 ∨
      0x300000 ≤ off.toNat ∧ off.toNat < 0x350000) →
    let old := rd s off.toNat
    let low := 0xFFFFFFFF#64
    let new := ((old &&& ~~~(w64 d.rw &&& low)) ||| (v.setWidth 64 &&& w64 d.rw)) &&& ~~~(v.setWidth 64 &&& w64 d.w1c)
      ||| (v.setWidth 64 &&& w64 d.w1s)
    exec (.registerWrite off false (v.setWidth 64)) s = .next (wr (answered false 0 s) off.toNat new)) ∧
  (∀ (off : BitVec 24) (wide we : Bool) (v : W64) (s : State),
    capAnswers s = true → off.toNat % (if wide then 8 else 4) ≠ 0 →
    exec (.capMisaligned off wide we v) s = .next (answered true 0 s) ∧
    exec (.capDecode off wide we v) s = .next (answered true 0 s) ∧
    exec (.shadowWrite off wide v) s = .next (answered true 0 s) ∧
    exec (.registerWrite off wide v) s = .next (answered true 0 s)) ∧
  (∀ (off : BitVec 24) (v : W64) (d : RegDesc) (r : Nat) (s : State),
    capAnswers s = true → off.toNat = r + 0x800 → r < 0x400000 → r % 0x1000 < 0x800 → r % 4 = 0 →
    regDesc r = some d → d.rwc ≠ 0 → d.rwc < 2 ^ 32 →
    (s.cap.commitBusy = false →
      exec (.shadowWrite off false v) s = .next
        (wrShadow (answered false 0 s) r ((rdShadow s r &&& ~~~(w64 d.rwc)) ||| (v &&& w64 d.rwc)))) ∧
    (s.cap.commitBusy = true →
      exec (.shadowWrite off false v) s = .next
        { s with cap := { s.cap with resp := { ack := false, err := false, rdata := 0 },
                                     heldShadow := s.cap.heldShadow ++ [(off.toNat, false, v)] } }))

/-- R15 outside Safelight state, and R9: a commit that changes nothing completes with ZERO; one whose checks all pass is
under way, BUSY; one with a failing check is REJECTED at the lowest offset. No active value and no shadow changes.

A commit that changes order registers or counter configurations, at a rule boundary: it is applied whole, every RWC field takes its shadow's
value, a counter whose configuration changes starts at 0, the result is DONE and the commit is counted; while a rule is in flight it waits (from R9, R10, R317). -/
def Obligations.Commits : Prop :=
  (∀ s : State, capAnswers s = true → s.cap.commitBusy = false → isSafe s = false →
    (changedRegs s (candidate s) = [] → exec .commit s = .next (wr (answered false 0 s) 0x14 4#64)) ∧
    (changedRegs s (candidate s) ≠ [] → commitFails s = [] →
      ∃ t, exec .commit s = .next t ∧ t.cap.commitBusy = true ∧ t = { wr s 0x14 1#64 with cap := t.cap } ∧
        Acked { s with cap := { s.cap with commitBusy := true } } t) ∧
    (∀ f, f ∈ commitFails s → changedRegs s (candidate s) ≠ [] →
      ∃ off code, (off, code) ∈ commitFails s ∧ off ≤ f.1 ∧ (off = f.1 → code ≤ f.2) ∧
        exec .commit s = .next (wr (answered false 0 s) 0x14 (w64 (3 + 8 * code + 256 * off))))) ∧
  (∀ (c : Nat) (x : Ctx) (s : State), ctxOf s c = some x → x.inFlight.isSome = true → exec .commitApply s = .next s) ∧
  (∀ s : State, asleep s = false → s.cap.commitBusy = true → s.cap.heldShadow = [] →
    (∀ p ∈ s.dev.ctxs, p.2.inFlight = none) → (∀ p ∈ s.home.reqs, p.place ≠ .chain) →
    (∀ r ∈ changedRegs s (candidate s), 0x040000 ≤ r ∧ r < 0x050000 ∨ 0x341000 ≤ r ∧ r < 0x341400) →
    ∃ t, exec .commitApply s = .next t ∧ t.cap.commitBusy = false ∧
      (∀ r, rwcMask r ≠ 0 → rdShadow s r &&& ~~~rwcMask r = 0 →
        rd t r = (rd s r &&& ~~~rwcMask r) ||| rdShadow s r) ∧
      (∀ r, rwcMask r = 0 → r ≠ 0x14 → r ≠ 0x18 → (∀ c, c < 256 → r ≠ 0x340000 + 8 * c) → rd t r = rd s r) ∧
      rd t 0x14 = 2#64 ∧ rd t 0x18 = w64 ((rd s 0x18 + 1).toNat % 2 ^ 32) ∧
      (∀ c, c < 256 → rd s (0x341000 + 4 * c) ≠ rd t (0x341000 + 4 * c) → rd t (0x340000 + 8 * c) = 0) ∧
      t.shadow = s.shadow ∧ t.home = s.home ∧ t.mem = s.mem ∧ t.sheet = s.sheet ∧ t.dev = s.dev ∧ t.tx = s.tx)

/-! ### The Contact Sheet -/

/-- SHEET_BIST_GO starts the self-test: RUNNING, with the last result and log cleared; while one runs, and once the block
has dispatched, it does nothing (from R132, R135).

SHEET_BIST_DONE leaves every entry invalid. With no failing row in use and no failing checker pattern it gives PASS and every
bank is ONLINE; with one it gives FAIL, records the bank, raises BIST_FAIL and enters Safelight state (from R133 to R135). -/
def Obligations.SelfTests : Prop :=
  (∀ s : State, capAnswers s = true →
    (rdf s 0x030000 1 2 ≠ 1 → s.dev.dispatched = false →
      ∃ t, exec .sheetBistGo s = .next t ∧ rdf t 0x030000 1 2 = 1 ∧ t.sheet = { s.sheet with bistRun := true } ∧
        rd t 0x030004 = 0 ∧ rd t 0x030008 = 0 ∧ rd t 0x030040 = 0 ∧ (∀ i, i < 64 → rd t (0x030400 + 4 * i) = 0) ∧
        Acked s t ∧ Only [.cap, .regs, .sheet] s t ∧
        RegsOnly (fun o => o = 0x030000 ∨ o = 0x030004 ∨ o = 0x030008 ∨ o = 0x030040 ∨ 0x030400 ≤ o ∧ o < 0x030500) s t) ∧
    (rdf s 0x030000 1 2 = 1 ∨ s.dev.dispatched = true → exec .sheetBistGo s = .next (answered false 0 s))) ∧
  (∀ (fails : List BistFail) (s : State), asleep s = false → s.sheet.bistRun = true →
    ((∀ f ∈ fails, failReal f = true → rowInUse s f.bank f.row = false ∧ f.step = 1) →
      ∃ t, exec (.sheetBistDone fails) s = .next t ∧ rdf t 0x030000 1 2 = 2 ∧ (∀ b, b < 32 → bankState t b = 0) ∧
        t.sheet.ways = [] ∧ t.sheet.errs = [] ∧ t.sheet.bistRun = false ∧ Only [.regs, .sheet] s t) ∧
    (∀ f ∈ fails, failReal f = true → rowInUse s f.bank f.row = true ∨ 2 ≤ f.step →
      ∃ t, exec (.sheetBistDone fails) s = .next t ∧ rdf t 0x030000 1 2 = 3 ∧ bitOf (rd t 0x030004) f.bank = true ∧
        Caused t .bistFail 0 ∧ isSafe t = true ∧ t.sheet.ways = [] ∧ t.sheet.bistRun = false ∧
        Only [.regs, .sheet, .safe] s t))

/-- SHEET_PEEK names a way and asks for its read; SHEET_PEEK_DONE fills D0 to D2 with its 96 data bits, corrected where one to
three symbols are wrong (then CE is counted and raised), and sets DONE (from R112, R113).

SOFT_REPAIR_WRITE, while the bank is OFFLINE or FAILED: the register takes ROW, SPARE and VALID, unless the value
conflicts, which raises SR_CONFLICT alone, and what was wrong in a row replaced shows no more; in any other state of the bank it raises BANK_CMD alone (from R139). -/
def Obligations.PeekAndSoftRepair : Prop :=
  ((∀ (bank set way : Nat) (s : State), bank < 32 → set < 16384 → way < 8 → capAnswers s = true →
    exec (.sheetPeek bank set way) s = .next
      { wr (answered false 0 s) 0x030028 (w64 (bank + 2 ^ 5 * way + 2 ^ 8 * set)) with
        sheet := { s.sheet with peek := true } }) ∧
  (∀ (errs : List SymErr) (s : State), asleep s = false → s.sheet.peek = true →
    let v := rd s 0x030028
    let key := wayKey (fld v 0 5) (fld v 8 14) (fld v 5 3)
    let bad := addErrs (sGet [] s.sheet.errs key) errs
    let bits := wayBits (sFind s.sheet.ways key)
    bad.length ≤ 3 →
      ∃ t, exec (.sheetPeekDone errs) s = .next t ∧ rd t 0x030030 = w64 (fld bits 0 32) ∧
        rd t 0x030034 = w64 (fld bits 32 32) ∧ rd t 0x030038 = w64 (fld bits 64 32) ∧ bitOf (rd t 0x030028) 30 = true ∧
        t.sheet.peek = false ∧ (∀ k, sFind t.sheet.ways k = sFind s.sheet.ways k) ∧
        (bad ≠ [] → Caused t .sheetCe 0 ∧ rd t 0x030018 = satInc32 (rd s 0x030018) ∧ sGet [] t.sheet.errs key = []) ∧
        Only [.regs, .sheet] s t)) ∧
  (∀ (b r : Nat) (v : W32) (s : State), b < 32 → r < 32 → capAnswers s = true →
    let w := v.setWidth 64 &&& 0x803F3FFF#64
    let a := answered false 0 s
    ((bankState s b = 3 ∨ bankState s b = 4) → repairConflict s b r w = false →
      ∃ t, exec (.softRepairWrite b r v) s = .next t ∧ t.regs = (wr a (oSr b r) w).regs ∧ Acked s t ∧
        t.sheet = { s.sheet with errs := t.sheet.errs } ∧
        (∀ k e, (k, e) ∈ t.sheet.errs → (k, e) ∈ s.sheet.errs ∧ (k / 131072 = b →
          rowOf t b (k / 8 % 16384) = rowOf s b (k / 8 % 16384))) ∧
        (∀ p ∈ s.sheet.errs, p.1 / 131072 ≠ b → p ∈ t.sheet.errs) ∧ Only [.cap, .regs, .sheet] s t) ∧
    ((bankState s b = 3 ∨ bankState s b = 4) → repairConflict s b r w = true →
      exec (.softRepairWrite b r v) s = .next (wr a 0x010118 (rd s 0x010118 ||| 0x100#64))) ∧
    (bankState s b ≠ 3 → bankState s b ≠ 4 →
      exec (.softRepairWrite b r v) s = .next (wr a 0x010118 (rd s 0x010118 ||| 0x200#64))))

/-- The bank commands outside Safelight state, each from a state that allows it (from R140 to R143): DRAIN starts the bank's sweep,
after start-up only while every other bank is ONLINE (that start-up ends as the self-test passes is the model's reading, log
entry 35), OFFLINE moves it to QUIESCE, CANCEL back to ONLINE, ONLINE starts the test of its spare rows; an empty bank in QUIESCE
becomes OFFLINE. Only this bank's state changes.

A bank command in Safelight state, or in a state of the banks that does not allow it, raises BANK_CMD and changes nothing
else (from R140, R341).

SPARE_TEST_DONE: the bank is ONLINE and BANK_ONLINE is raised; a failing spare row that a valid soft-repair register
selects makes it FAILED, logged, with SR_FAIL (from R143). -/
def Obligations.BankCommandsAndSpareTest : Prop :=
  (∀ (b : Nat) (s : State), b < 32 → capAnswers s = true → isSafe s = false →
    (bankState s b = 0 → rdf s 0x030000 1 2 ≠ 2 ∨ (∀ k, k < 32 → bankState s k = 0) →
      ∃ t, exec (.drain b) s = .next t ∧ bankState t b = 1 ∧ Acked s t ∧
        t.sheet = { s.sheet with sweeps := s.sheet.sweeps ++
          [{ kind := .drain b, next := 0, fogged := false, posted := true, raised := false }] } ∧
        Only [.cap, .regs, .sheet] s t ∧ RegsOnly (· = oBank b) s t) ∧
    (bankState s b = 1 → ∃ t, exec (.offline b) s = .next t ∧ bankState t b = 2 ∧ Acked s t ∧ Only [.cap, .regs] s t ∧
      RegsOnly (· = oBank b) s t) ∧
    (bankState s b = 1 ∨ bankState s b = 2 → s.dev.ctxs = [] →
      ∃ t, exec (.cancel b) s = .next t ∧ bankState t b = 0 ∧ Acked s t ∧
        t.sheet = { s.sheet with sweeps := s.sheet.sweeps.filter (fun w => decide (w.kind ≠ .drain b)) } ∧
        Only [.cap, .regs, .sheet] s t ∧ RegsOnly (· = oBank b) s t) ∧
    (bankState s b = 3 ∨ bankState s b = 4 →
      ∃ t, exec (.online b) s = .next t ∧ b ∈ t.sheet.spareTest ∧ rd t 0x030008 = 0 ∧ rd t 0x030040 = 0 ∧ Acked s t ∧
        Only [.cap, .regs, .sheet] s t ∧
        RegsOnly (fun o => o = 0x030008 ∨ o = 0x030040 ∨ 0x030400 ≤ o ∧ o < 0x030500) s t) ∧
    (bankState s b = 2 → bankBusy s b = false →
      exec (.quiesceComplete b) s = .next (wrf s (oBank b) 0 3 3))) ∧
  (∀ (b : Nat) (s : State), b < 32 → capAnswers s = true →
    let t := wr (answered false 0 s) 0x010118 (rd s 0x010118 ||| 0x200#64)
    (isSafe s = true ∨ bankState s b ≠ 0 ∨ (rdf s 0x030000 1 2 = 2 ∧ ∃ k, k < 32 ∧ bankState s k ≠ 0) →
      exec (.drain b) s = .next t) ∧
    (isSafe s = true ∨ bankState s b ≠ 1 → exec (.offline b) s = .next t) ∧
    (isSafe s = true ∨ bankState s b ≠ 1 ∧ bankState s b ≠ 2 → exec (.cancel b) s = .next t) ∧
    (isSafe s = true ∨ bankState s b ≠ 3 ∧ bankState s b ≠ 4 → exec (.online b) s = .next t)) ∧
  (∀ (b : Nat) (fails : List BistFail) (s : State), b < 32 → asleep s = false → b ∈ s.sheet.spareTest →
    ((∀ f ∈ fails, ¬ (failReal f = true ∧ f.bank = b ∧ 16384 ≤ f.row ∧ f.row - 16384 ∈ softSpares s b)) →
      s.dev.ctxs = [] →
      ∃ t, exec (.spareTestDone b fails) s = .next t ∧ bankState t b = 0 ∧ Caused t .bankOnline 0 ∧ b ∉ t.sheet.spareTest ∧
        Only [.regs, .sheet] s t ∧ RegsOnly (fun o => o = oBank b ∨ o = 0x010118) s t) ∧
    (∀ f ∈ fails, failReal f = true → f.bank = b → 16384 ≤ f.row → f.row - 16384 ∈ softSpares s b →
      ∃ t, exec (.spareTestDone b fails) s = .next t ∧ bankState t b = 4 ∧ Caused t .srFail 0 ∧ b ∉ t.sheet.spareTest ∧
        bitOf (rd t 0x030008) 31 = true ∧ rd t 0x010028 = satInc32 (rd s 0x010028) ∧ Only [.regs, .sheet] s t))

/-- A scrub visit of sound ways changes nothing but the set to visit next; the last set of a lap records the lap's time and
raises SCRUB_LAP. A symbol found wrong again at a recheck raises ROW_HARD and is logged (from R136 to R138). -/
def Obligations.ScrubVisits : Prop :=
  (∀ s : State, asleep s = false → rdf s 0x204 0 3 = 0 → s.sheet.errs = [] → s.sheet.scrubSeen = [] → bitOf (rd s 0x030010) 31 = true →
    (s.sheet.scrubSet + 1 < 16384 →
      exec (.sheetScrubVisit []) s = .next { s with sheet := { s.sheet with scrubSet := s.sheet.scrubSet + 1 } }) ∧
    (s.sheet.scrubSet = 16383 →
      ∃ t, exec (.sheetScrubVisit []) s = .next t ∧
        t.sheet = { s.sheet with scrubSet := 0, scrubLapStart := s.aon.ft } ∧ Caused t .scrubLap 0 ∧
        rd t 0x030014 = w64 (((s.aon.ft - s.sheet.scrubLapStart).toNat + 3999) / 4000 % 2 ^ 32) ∧
        Only [.regs, .sheet] s t ∧ RegsOnly (fun o => o = 0x030014 ∨ o = 0x010118) s t)) ∧
  (∀ (bank set way i : Nat) (x : Byte) (s : State), bank < 32 → set < 16384 → way < 8 → asleep s = false → x ≠ 0 →
    let key := wayKey bank set way
    (key, i) ∈ s.sheet.recheck → sGet [] s.sheet.errs key = [] → i < 18 →
    (sGet [] s.aon.fuseCopy.rows bank).length ≤ 64 →
      ∃ t, exec (.sheetScrubRecheck bank set way [(i, x)]) s = .next t ∧ Caused t .rowHard 0 ∧ Caused t .sheetCe 0 ∧
        bitOf (rd t 0x03001C) 31 = true ∧ sGet [] t.sheet.errs key = [] ∧
        (∀ k, sFind t.sheet.ways k = sFind s.sheet.ways k) ∧ Only [.regs, .sheet] s t)

/-- A SUP that waits for an entry goes on once a way of its set is free: the entry is installed with the line's new state
(from R121, R183). -/
def Obligations.AllocationRetried : Prop :=
  ∀ (c : Nat) (x : Ctx) (l : Lst) (own : Nat) (extra : BitVec 32) (s : State),
    c < 8704 → InRun s → s.dev.running = true → ctxOf s c = some x → x.byRule = true → x.owed = [] →
    (∀ w, x.kind ≠ .wb w) → x.job = some (.sup l own extra) → l ∈ [.s, .o] → s.sheet.fogWait = [] → s.sheet.ways = [] → s.sheet.evSlots = [] →
    ∃ t y, exec (.allocRetry c) s = .next t ∧ ctxOf t c = some y ∧ y.job = none ∧
      (recOf t x.eaLine).lst = l ∧ (recOf t x.eaLine).sv = extra ∧ (recOf t x.eaLine).tray = some (x.tray.getD 0) ∧
      Only [.regs, .sheet, .dev, .meter] s t

/-! ### Requests -/

/-- A REQ that its port takes begins its transaction in a fresh block: the line is latent for context 0, which holds the
header and the line-state code, and the event of its opcode is ready on the agent's channel; nothing is sent, and neither
memory nor the sheet changes (from R53, R150, R409). -/
def Obligations.RequestDispatched : Prop :=
  ∀ (r : Req) (data : LineBits) (mask : BitVec 64) (v : W64) (line tray : Nat) (s : State), Fresh s →
    ∀ p ∈ [(Instr.rds r, ReqOp.rds), (.rdx r, .rdx), (.upg r, .upg), (.rdc r, .rdc), (.wrl r data, .wrl),
           (.wrp r mask data, .wrp), (.atr r, .atr), (.atc r v, .atc), (.flush r, .flush)],
      PortTakes s p.2 r line tray →
      ∃ t q, exec p.1 s = .next t ∧ Dispatched t 0 p.2 r.agent r.txid line tray ∧ t.home.reqs = [q] ∧ q.req = r ∧
        q.place = .begun 0 ∧ q.line = line ∧ (linkOf t r.agent).rxReqs = ((linkOf s r.agent).rxReqs + 1) % 2 ^ 16 ∧
        Only [.regs, .dev, .home, .links, .meter] s t ∧ RegsOnly ReqReg s t

/-- What the port of an agent does with a REQ that fails a check of R409, in order: from a detached agent it is discarded
with DETACHED, with a TXID in use with TXID_DUP; an opcode the class may not send is completed with ERR_OPC and PROTO, an
address in no tray of the agent with ERR_ADDR, a bad SIZE or OFFS with ERR_FIELD.

A WBK that its port turns away: from a detached agent with DETACHED, from an agent that caches nothing with PROTO; one
whose address lies in no window is completed with CmpWb ERR_ADDR, its data discarded (from R40, R409, R411). -/
def Obligations.MessagesTurnedAway : Prop :=
  (∀ (r : Req) (data : LineBits) (mask : BitVec 64) (v : W64) (s : State), InRun s → r.agent < 32 →
    ∀ p ∈ [(Instr.rds r, ReqOp.rds), (.rdx r, .rdx), (.upg r, .upg), (.rdc r, .rdc), (.wrl r data, .wrl),
           (.wrp r mask data, .wrp), (.atr r, .atr), (.atc r v, .atc), (.flush r, .flush)],
      (detached s r.agent = true →
        ∃ t, exec p.1 s = .next t ∧ Caused t .detached (r.agent / 2) ∧ Only [.regs, .links, .meter] s t) ∧
      (detached s r.agent = false → txidBusy s r.agent r.txid = true →
        ∃ t, exec p.1 s = .next t ∧ Caused t .txidDup (r.agent / 2) ∧ Only [.regs, .links, .meter] s t) ∧
      (detached s r.agent = false → s.home.reqs = [] → s.home.wslots = [] → maySend s r.agent p.2 = false →
        ∃ t, exec p.1 s = .next t ∧ Caused t .proto (r.agent / 2) ∧ t.tx = s.tx ++ [.rsp r.agent .cmpW 0 r.txid .errOpc] ∧
          t.home = { s.home with seqNo := s.home.seqNo + 1 } ∧ Only [.regs, .links, .meter, .tx, .xbar, .home] s t) ∧
      (detached s r.agent = false → s.home.reqs = [] → s.home.wslots = [] → maySend s r.agent p.2 = true →
        portResolve s r.agent r.laddr = none →
        ∃ t, exec p.1 s = .next t ∧ Caused t .errAddr 0 ∧ t.tx = s.tx ++ [.rsp r.agent .cmpW 0 r.txid .errAddr] ∧
          t.home = { s.home with seqNo := s.home.seqNo + 1 } ∧ Only [.regs, .links, .meter, .tx, .xbar, .home] s t) ∧
      (detached s r.agent = false → s.home.reqs = [] → s.home.wslots = [] → maySend s r.agent p.2 = true →
        (portResolve s r.agent r.laddr).isSome = true → fieldsOk p.2 r = false →
        ∃ t, exec p.1 s = .next t ∧ t.tx = s.tx ++ [.rsp r.agent .cmpW 0 r.txid .errField] ∧
          t.home = { s.home with seqNo := s.home.seqNo + 1 } ∧ Only [.regs, .links, .meter, .tx, .xbar, .home] s t)) ∧
  (∀ (m : Wbk) (s : State), InRun s → m.agent < 32 →
    ∀ c ∈ [Instr.wbMI m, .wbMS m, .wbME m, .wbOI m, .wbOS m],
      (detached s m.agent = true →
        ∃ t, exec c s = .next t ∧ Caused t .detached (m.agent / 2) ∧ Only [.regs, .links, .meter] s t) ∧
      (detached s m.agent = false → txidBusy s m.agent m.txid = false → isCachingZcl s m.agent = false →
        ∃ t, exec c s = .next t ∧ Caused t .proto (m.agent / 2) ∧ Only [.regs, .links, .meter] s t) ∧
      (detached s m.agent = false → txidBusy s m.agent m.txid = false → isCachingZcl s m.agent = true →
        resolve s m.agent m.laddr = none →
        ∃ t, exec c s = .next t ∧ Caused t .errAddr 0 ∧ t.tx = s.tx ++ [.rsp m.agent .cmpWb 0 m.txid .errAddr] ∧
          Only [.regs, .links, .meter, .tx, .xbar] s t))

/-- A stop bath begins a transaction that makes no line latent; a DetN waits for its dispatch conditions (from R212, R406). When
they hold, DETN_DISPATCH detaches the agent voluntarily: its epoch stands, its reservations go, its sweep starts, and the DETACH event is ready on TS42 (from R91, R92, R95, R145). -/
def Obligations.BathsAndDetach : Prop :=
  (∀ (r : Req) (tray : Nat) (s : State), Fresh s → r.agent < 32 → detached s r.agent = false →
    lowestTray s r.agent = some tray →
    (∀ p ∈ [(Instr.stbV r, ReqOp.stbV), (.stbD r, .stbD)], isZcl s r.agent = true →
      ∃ t x e, exec p.1 s = .next t ∧ ctxOf t 0 = some x ∧ x.kind = .req p.2 ∧ x.agent = some r.agent ∧ x.txid = r.txid ∧
        x.line = none ∧ t.home.latent = [] ∧ t.dev.ready = [e] ∧ e.ctx = 0 ∧ e.typ = p.2.num ∧
        Only [.regs, .dev, .home, .links, .meter] s t ∧ RegsOnly ReqReg s t) ∧
    (isCachingZcl s r.agent = true →
      ∃ t q, exec (.detn r) s = .next t ∧ t.home.reqs = [q] ∧ q.op = .detn ∧ q.req = r ∧ q.place = .detn ∧ t.dev = s.dev ∧
        Only [.regs, .home, .links, .meter] s t ∧ RegsOnly ReqReg s t)) ∧
  (∀ (a : Nat) (p : Pend) (s : State), a < 32 → s.home.reqs = [p] → p.req.agent = a → p.op = .detn → p.place = .detn →
    Fresh { s with home := { s.home with reqs := [] } } →
    ∃ t, exec (.detnDispatch a) s = .next t ∧ detached t a = true ∧ (linkOf t a).vol = true ∧
      (linkOf t a).epoch = (linkOf s a).epoch ∧ (∀ q ∈ t.home.resv, q.agent ≠ a) ∧
      t.sheet.sweeps = s.sheet.sweeps ++
        [{ kind := .detach a true (some 0), next := 0, fogged := false, posted := true, raised := false }] ∧
      (∃ y e, ctxOf t 1 = some y ∧ y.kind = .detach ∧ t.dev.ready = [e] ∧ e.ctx = 1 ∧ e.ts = 42 ∧ e.typ = 0x3F#6 ∧
        e.ex = w64 (0x3F + 2 ^ 6 + 2 ^ 7 * a)) ∧
      (∀ b, b ≠ a → linkOf t b = linkOf s b) ∧ t.mem = s.mem ∧ t.tx = s.tx)

/-- A REQ held for its stream, or for an entry, its bank or the start of dispatch, begins once nothing holds it; the REQ at the
head of a chain whose line has been handed over begins with the code the handover recorded (from R53, R85, R142, R207). -/
def Obligations.HeldRequestsBegin : Prop :=
  ∀ (p : Pend) (tray : Nat) (s : State), Fresh { s with home := { s.home with reqs := [], latent := [], chains := [] } } →
    s.home.reqs = [p] → p.op.noLine = false → p.tray = some tray → p.req.agent < 32 → p.line < 2 ^ 36 →
    (p.portCpl = none → windowTray s p.line = none → bankHeld s (bankOf (p.line / 4)) = false →
      s.home.latent = [] → s.home.chains = [] →
      (p.place = .stream → ∃ t, exec (.streamRelease p.req.agent p.req.stream) s = .next t ∧
        Dispatched t 0 p.op p.req.agent p.req.txid p.line tray ∧ Only [.regs, .dev, .home, .meter] s t) ∧
      (p.place ∈ [.entry, .bank, .engine] → ∃ t, exec (.reqTakeEntry p.req.agent p.req.txid) s = .next t ∧
        Dispatched t 0 p.op p.req.agent p.req.txid p.line tray ∧ Only [.regs, .dev, .home, .meter] s t)) ∧
    (∀ (w : Waiter) (code : Code), w.who = .req p.seq → s.home.latent = [(p.line, .handover none code)] →
      s.home.chains = [(p.line, [w])] → waiterLost s p = false →
      ∃ t x e, exec (.chainHeadDispatch p.line) s = .next t ∧ holderOf t p.line = some (.ctx 0) ∧ chainOf t p.line = [] ∧
        ctxOf t 0 = some x ∧ x.kind = .req p.op ∧ x.agent = some p.req.agent ∧ x.line = some p.line ∧ x.code = code.num ∧
        t.dev.ready = [e] ∧ e.ctx = 0 ∧ e.typ = p.op.num ∧ Only [.regs, .dev, .home, .meter] s t)

/-! ### Writebacks, responses, data -/

/-- A WBK of a caching agent for a line that is not latent takes its agent's first slot, which holds its opcode, data and mark,
and begins a writeback transaction in that slot's context, whose event is ready (from R35, R54). -/
def Obligations.WritebackBegins : Prop :=
  ∀ (m : Wbk) (line tray : Nat) (s : State), Fresh s → m.agent < 32 → detached s m.agent = false →
    isCachingZcl s m.agent = true → portResolve s m.agent m.laddr = some (line, tray) →
    windowTray s line = none → bankHeld s (bankOf (line / 4)) = false →
    ∀ p ∈ [(Instr.wbMI m, WbOp.mi), (.wbMS m, .ms), (.wbME m, .me), (.wbOI m, .oi), (.wbOS m, .os)],
      let w := 16 * m.agent
      let c := 8192 + w
      ∃ t q x e, exec p.1 s = .next t ∧ slotOf t w = some q ∧ q.op = p.2 ∧ q.agent = m.agent ∧ q.txid = m.txid ∧
        q.line = line ∧ q.ptl = m.ptl ∧ q.fog = m.fog ∧ q.bmask = m.bmask ∧ q.data = m.data ∧ q.place = .txn ∧
        q.acked = false ∧ holderOf t line = some (.ctx c) ∧ ctxOf t c = some x ∧ x.kind = .wb w ∧ x.wbd = some w ∧
        t.dev.ready = [e] ∧ e.ctx = c ∧ e.typ = p.2.num ∧
        (linkOf t m.agent).rxWbks = ((linkOf s m.agent).rxWbks + 1) % 2 ^ 16 ∧
        Only [.regs, .dev, .home, .links, .meter] s t ∧ RegsOnly ReqReg s t

/-- A snoop response, or a CMP, for a rule-run transaction that is parked becomes the ready event of its opcode, and the timer
for it stops (after an RspWbPending, only where the WBK has come); a response that a quarantined entry still awaits is
consumed, and an entry that then owes nothing is free again (from R97, R98, R101, R153, R177).

DatH fills the transaction's DatH buffer, with its mark, and crosses to its line's channel; its event is ready. A forwarded DAT
crosses to its DEST, for a CXL host in the form of its request, and the transaction is marked forwarded (from R42, R43, R50,
R187). That the STATUS sent is OK is the model's choice (log entry 52). -/
def Obligations.ResponsesAndData : Prop :=
  (∀ (a : Nat) (h : BitVec 13) (x : Ctx) (s : State), a < 32 → InRun s → detached s a = false →
    ctxOf s h.toNat = some x → outOfTray s a x = false → x.expired = false →
    (x.st = .parked → x.byRule = true → x.stall = none → s.dev.ready = [] →
      (∀ p ∈ [(Instr.rspI a h, 0x20#6), (.rspS a h, 0x21#6), (.rspE a h, 0x22#6), (.rspMiss a h, 0x23#6),
              (.rspFwdI a h, 0x24#6), (.rspFwdS a h, 0x25#6), (.rspFwdO a h, 0x26#6), (.rspDataI a h, 0x27#6),
              (.rspDataK a h, 0x28#6), (.rspWbPending a h, 0x29#6)],
        ∃ t, exec p.1 s = .next t ∧ t.dev.ready = [eventFor x h.toNat a p.2 a (p.2.setWidth 64)] ∧
          ctxOf t h.toNat = some (if p.2 = 0x29#6 ∧ wbkHere s h.toNat a = false then x else stopSnoop a x) ∧
          (∀ k, k ≠ h.toNat → ctxOf t k = ctxOf s k) ∧
          t.dev = { s.dev with ready := t.dev.ready, ctxs := t.dev.ctxs } ∧ Only [.dev, .meter] s t) ∧
      (∀ q, x.agent = some a → x.cmpIn = false → Owed.cmp ∉ x.owed → x.req = some q → s.home.reqs = [q] →
        ∃ t, exec (.cmp a h) s = .next t ∧ t.home = { s.home with reqs := [] } ∧
          t.dev.ready = [eventFor x h.toNat a 0x2A#6 a 0x2A] ∧ Only [.dev, .home, .meter] s t)) ∧
    (∀ op tm, x.st = .quarantined → x.owed = [.ans a op false tm] → x.req = none → s.home.wslots = [] →
      ∀ c ∈ [Instr.rspI a h, .rspS a h, .rspE a h, .rspMiss a h],
        ∃ t, exec c s = .next t ∧ ctxOf t h.toNat = none ∧ (∀ d, d ≠ h.toNat → ctxOf t d = ctxOf s d) ∧ t.tx = s.tx ∧
          Only [.dev, .home, .meter] s t)) ∧
  (∀ (d : Dat) (x : Ctx) (s : State), d.agent < 32 → InRun s → detached s d.agent = false →
    ctxOf s d.htid.toNat = some x → outOfTray s d.agent x = false → x.expired = false → x.st ≠ .quarantined →
    (x.st = .parked → x.byRule = true → x.stall = none → s.dev.ready = [] →
      ∃ t, exec (.datH d) s = .next t ∧
        ctxOf t d.htid.toNat = some { x with hbuf := some { data := d.data, fog := d.fog } } ∧
        t.xbar = { s.xbar with packets := s.xbar.packets ++
          [{ input := d.agent / 2, output := 16 + chanNo s (x.line.getD 0), deadline := d.deadline, slots := 5, sent := 0,
             msg := none, line := some (x.line.getD 0) }] } ∧
        t.dev.ready = [eventFor x d.htid.toNat d.agent 0x34#6 d.agent (w64 (0x34 + 64 * b2n d.fog))] ∧
        (∀ k, k ≠ d.htid.toNat → ctxOf t k = ctxOf s k) ∧ Only [.dev, .meter, .xbar] s t) ∧
    (muted s d.dest.toNat x.tray x.line.isSome = false →
      ∀ p ∈ [(Instr.datS d, DatOp.s), (.datE d, .e), (.datM d, .m)],
        ∃ t, exec p.1 s = .next t ∧
          ctxOf t d.htid.toNat = some { payFwd d.agent x with fwdPass := true, staging := none } ∧
          (x.form = none →
            t.tx = s.tx ++ [.dat d.dest.toNat p.2 d.htid.toNat d.txid d.fog .ok d.deadline d.data]) ∧
          (∀ f, x.form = some f → x.agent = some d.dest.toNat → x.isUpg = false →
            t.tx = s.tx ++ .memData d.dest.toNat f.tag d.fog false (devLoad s d.dest.toNat) d.data ::
              (if f.meta0 then [.ndr d.dest.toNat f.tag (some (if p.2 = .s then .s else .e)) (devLoad s d.dest.toNat)]
               else [])) ∧
          (∀ k, k ≠ d.htid.toNat → ctxOf t k = ctxOf s k) ∧ Only [.dev, .meter, .tx, .xbar] s t))

/-! ### CXL hosts -/

/-- The block request of a MemRd of a CXL-G6 host, row by row of Table LINE-12. -/
def memRdRow (m : Bool) (v : MetaValue) (n : SnpType) : ReqOp :=
  match m, v, n with
  | true, .shared, _ => .rds
  | true, .anyV, _ => .rdx
  | true, .invalid, _ => .rdc
  | false, _, .snpData => .rds
  | false, _, .snpInv => .rdx
  | false, _, .snpCur => .rdc
  | false, _, .noOp => .rdc

/-- A request of an attached CXL-G6 host with Back-Invalidate enabled begins the transaction that Table LINE-12 gives, with the
tag as TXID; on CXL-G5 reads begin RdC and writes WrL and WrP; the poison of a write goes
with its data (from R46, R47, R51, R205, R208, R302). -/
def Obligations.CxlRequestsDispatched : Prop :=
  ∀ (q : M2SReq) (w : M2SRwD) (line tray : Nat) (s : State), Fresh s → windowTray s line = none →
    bankHeld s (bankOf (line / 4)) = false →
    (q.agent < 32 → detached s q.agent = false → portResolve s q.agent q.laddr = some (line, tray) →
      (isG6 s q.agent = true → biOn s q.agent = true →
        ∀ p ∈ [(Instr.memRd q, some (memRdRow q.meta0 q.metaV q.snp)), (.memRdData q, some .rds),
               (.memInv q, if q.metaV = .anyV then some .upg else if q.metaV = .invalid then some .flush else none),
               (.memInvNT q, if q.metaV = .anyV then some .upg else if q.metaV = .invalid then some .flush else none)],
          ∀ op, p.2 = some op →
            ∃ t, exec p.1 s = .next t ∧ Dispatched t 0 op q.agent q.tag line tray ∧ Only [.regs, .dev, .home, .links, .meter] s t) ∧
      (isG5 s q.agent = true →
        ∀ c ∈ [Instr.memRd q, .memRdData q],
          ∃ t, exec c s = .next t ∧ Dispatched t 0 .rdc q.agent q.tag line tray ∧ Only [.regs, .dev, .home, .links, .meter] s t)) ∧
    (w.agent < 32 → detached s w.agent = false → portResolve s w.agent w.laddr = some (line, tray) →
      isG5 s w.agent = true ∨ isG6 s w.agent = true ∧ biOn s w.agent = true ∧ traySpill s tray = false →
        ∀ p ∈ [(Instr.memWr w, ReqOp.wrl), (.memWrPtl w, .wrp)],
          ∃ t r, exec p.1 s = .next t ∧ Dispatched t 0 p.2 w.agent w.tag line tray ∧ t.home.reqs = [r] ∧ r.data = w.data ∧
            r.bmask = w.be ∧ r.fog = w.poison ∧ Only [.regs, .dev, .home, .links, .meter] s t)

/-- CXL messages that begin no transaction: MemClnEvct completes at once, MemSpecRd is ignored, MemRdFwd and MemWrFwd raise
PROTO and get no response; each uses a credit; a G6 host without Back-Invalidate is refused with BI_OFF (from R46, R305). -/
def Obligations.CxlMessagesWithoutTransaction : Prop :=
  ∀ (q : M2SReq) (s : State), q.agent < 32 → InRun s → isZcl s q.agent = false → detached s q.agent = false →
    (∀ c ∈ [Instr.memRdFwd q, .memWrFwd q],
      ∃ t, exec c s = .next t ∧ Caused t .proto (q.agent / 2) ∧ Only [.regs, .links, .meter] s t) ∧
    (isG6 s q.agent = false ∨ biOn s q.agent = true →
      (∃ t, exec (.memClnEvct q) s = .next t ∧ t.tx = s.tx ++ [.ndr q.agent q.tag none (devLoad s q.agent)] ∧
        Only [.tx, .xbar, .links, .meter] s t) ∧
      (∃ t, exec (.memSpecRd q) s = .next t ∧ (linkOf t q.agent).rxReqs = ((linkOf s q.agent).rxReqs + 1) % 2 ^ 16 ∧
        Only [.links, .meter] s t)) ∧
    (isG6 s q.agent = true → biOn s q.agent = false →
      (∃ t, exec (.memSpecRd q) s = .next t ∧ Caused t .biOff (q.agent / 2) ∧ Only [.regs, .links, .meter] s t) ∧
      (∃ t, exec (.memClnEvct q) s = .next t ∧ Caused t .biOff (q.agent / 2) ∧
        t.tx = s.tx ++ [.ndr q.agent q.tag none (devLoad s q.agent)] ∧ Only [.regs, .tx, .xbar, .links, .meter] s t) ∧
      (∃ t, exec (.memRd q) s = .next t ∧ Caused t .biOff (q.agent / 2) ∧
        t.tx = s.tx ++ [.memData q.agent q.tag true false (devLoad s q.agent) 0] ∧
        Only [.regs, .tx, .xbar, .links, .meter] s t))

/-- A BIRsp of a G6 host reaches its transaction as the snoop response of its kind, and the port raises a CXL host's CMP; a
BIConflict is answered with BIConflictAck; a BIRsp of a block form is discarded with PROTO; Back-Invalidate is enabled and
disabled in PT_STATUS, and disabling it while the link is not UP changes only that bit (from R48, R49, R305). That a BIRsp gives
back the credit of its BISnp is the model's choice (log entry 29). -/
def Obligations.BackInvalidate : Prop :=
  ∀ (a : Nat) (h : BitVec 13) (tag : BitVec 12) (s : State), a < 32 → InRun s → isG6 s a = true → detached s a = false →
    (∀ x, ctxOf s h.toNat = some x → outOfTray s a x = false → x.expired = false → x.st = .parked → x.byRule = true →
      x.stall = none → s.dev.ready = [] →
      (∀ p ∈ [(Instr.biRspI a h, 0x20#6), (.biRspS a h, 0x21#6), (.biRspE a h, 0x22#6)],
        ∃ t, exec p.1 s = .next t ∧ t.dev.ready = [eventFor x h.toNat a p.2 a (p.2.setWidth 64)] ∧
          ctxOf t h.toNat = some (stopSnoop a x) ∧ (∀ k, k ≠ h.toNat → ctxOf t k = ctxOf s k) ∧
          (linkOf t a).cumSnp = ((linkOf s a).cumSnp + 1) % 2 ^ 16 ∧ Only [.dev, .links, .meter] s t) ∧
      (∀ q, x.agent = some a → x.cmpIn = false → Owed.cmp ∉ x.owed → x.req = some q → s.home.reqs = [q] →
        ∃ t, exec (.cxlCmpEvent a h) s = .next t ∧ t.home = { s.home with reqs := [] } ∧
          t.dev.ready = [eventFor x h.toNat a 0x2A#6 a 0x2A] ∧ Only [.dev, .home] s t)) ∧
    (∃ t, exec (.biConflict a tag) s = .next t ∧ t.tx = s.tx ++ [.biConflictAck a tag (devLoad s a)] ∧ Only [.tx, .xbar, .meter] s t) ∧
    (∃ t, exec (.birspBlockForm a) s = .next t ∧ Caused t .proto (a / 2) ∧ Only [.regs, .meter] s t) ∧
    (∃ t, exec (.biEnable a) s = .next t ∧ biOn t a = true ∧ Only [.regs] s t ∧ RegsOnly (· = oPtStatus (a / 2)) s t) ∧
    (linkState s a ≠ 2 → ∃ t, exec (.biDisable a) s = .next t ∧ biOn t a = false ∧ Only [.regs] s t ∧
      RegsOnly (· = oPtStatus (a / 2)) s t)

/-- The mailbox of a host whose link is UP: each command of Table LINK-9 is answered as supported, any other opcode as
Unsupported; nothing but the answer leaves. What the answers carry is the model's layout (log entry 17). A write of a host's own
HDM decoder has no effect; the endpoint shows eight decoders, each with the base and size of a window, committed and locked where
the window is valid (from R303, R304). -/
def Obligations.MailboxAnswers : Prop :=
  ∀ (a : Nat) (opc : BitVec 16) (v : W64) (s : State), a < 32 → InRun s → isZcl s a = false →
    (∀ c ∈ [Instr.identify a opc, .backgroundOperationStatus a opc, .getEventRecords a opc, .clearEventRecords a opc,
            .getSupportedLogs a opc, .getLog a opc, .identifyMemoryDevice a opc, .getPartitionInfo a opc, .getHealthInfo a opc],
      let known := decide (opc.toNat ∈ [0x0001, 0x0002, 0x0100, 0x0101, 0x0400, 0x0401, 0x4000, 0x4100, 0x4200])
      (linkState s a = 2 → ∃ t payload, exec c s = .next t ∧ t.tx = s.tx ++ [.mailbox a opc known payload] ∧
        (known = false → payload = []) ∧ Only [.tx] s t) ∧
      (linkState s a ≠ 2 → exec c s = .next s)) ∧
    (∀ k, exec (.hdmDecoderWrite a k v) s = .next s) ∧
    (∀ w, w < 8 → ∃ e d, endpointOf s a = some e ∧ e.decoders.length = 8 ∧ e.decoders[w]? = some d ∧
      windowOf s a w = (d.committed, (windowOf s a w).2.1, d.base, d.size) ∧ d.locked = d.committed)

/-! ### Rules: OPER -/

/-- With a false GUARD neither the OPER nor the SEND of a rule does anything (from R172). -/
def Obligations.FalseGuardDoesNothing : Prop :=
  ∀ (c n : Nat) (o : Oper) (bits : Nat) (opc sop : BitVec 6) (args : BitVec 34) (x : Ctx) (r : InFlight) (s : State),
    AtRule s c x r n → r.guard = false →
    ∀ p ∈ [Instr.nop c opc, .add c o, .sub c o, .and c o, .or c o, .xor c o, .shl c o, .shr c o, .mov c o, .ldi c o,
           .operCmp c o, .popc c o, .ffs c o, .msk c o, .lds c o bits, .sts c o, .slk c o, .sup c o, .sall c o, .sevt c o,
           .ltb c o, .ltw c o, .lte c o, .send c sop args, .snpv c args, .mrd c args, .mwr c args, .mwrd c args,
           .fog c args, .ctr c args, .stpb c args],
      exec p s = .next s

/-- The ALU operations write their result, modulo 2^64, to D, and change nothing else; ZR discards it (from R174, R181).

LDI writes its immediate, or a word of the constant pool whose fetch line is good; MSK takes a field of A; NOP writes
nothing (from R161, R180, R181). -/
def Obligations.AluResults : Prop :=
  (∀ (c : Nat) (o : Oper) (x : Ctx) (r : InFlight) (s : State), canWrite o.d = true →
    let a := opd x.seen o.a
    let b := valB x.seen o
    (∀ p ∈ [(Instr.add c o, 0x02, a + b), (.sub c o, 0x04, a - b), (.and c o, 0x06, a &&& b), (.or c o, 0x08, a ||| b),
            (.xor c o, 0x0A, a ^^^ b), (.shl c o, 0x0C, a <<< (b.toNat % 64)), (.shr c o, 0x0E, a >>> (b.toNat % 64)),
            (.operCmp c o, 0x14, if a = b then 0 else if a.toNat < b.toNat then 1 else 2)],
      AtOper s c x r o p.2.1 → RuleClear s c o.d p.2.2 → ∃ t, exec p.1 s = .next t ∧ Opered s t c x r o.d p.2.2) ∧
    (o.imm = false →
      (∀ p ∈ [(Instr.mov c o, 0x10, a), (.popc c o, 0x16, w64 ((List.range 64).countP (bitOf a)))],
        AtOper s c x r o p.2.1 → RuleClear s c o.d p.2.2 → ∃ t, exec p.1 s = .next t ∧ Opered s t c x r o.d p.2.2) ∧
      (∀ n, (a = 0 ∧ n = 64 ∨ n < 64 ∧ bitOf a n = true ∧ ∀ k, k < n → bitOf a k = false) → AtOper s c x r o 0x18 →
        RuleClear s c o.d (w64 n) → ∃ t, exec (.ffs c o) s = .next t ∧ Opered s t c x r o.d (w64 n)))) ∧
  (∀ (c : Nat) (o : Oper) (x : Ctx) (r : InFlight) (s : State),
    (AtOper s c x r o 0x12 → canWrite o.d = true → o.imm = true → RuleClear s c o.d (o.b.signExtend 64) →
      ∃ t, exec (.ldi c o) s = .next t ∧ Opered s t c x r o.d (o.b.signExtend 64)) ∧
    (let idx := o.b.toNat % 512
     let v := w64 (natOfBytes (memRead (if x.reelB then s.dev.reelB else s.dev.reelA) (0x84000 + 8 * idx) 8))
     AtOper s c x r o 0x12 → canWrite o.d = true → o.imm = false → lineGood s x.reelB (8448 + idx / 8) = true → RuleClear s c o.d v →
      ∃ t, exec (.ldi c o) s = .next t ∧ Opered s t c x r o.d v) ∧
    (let f := rawB x.seen o
     let pos := f.toNat / 128 % 64
     let len := f.toNat % 128
     let v := w64 ((opd x.seen o.a).toNat / 2 ^ pos % 2 ^ len)
     AtOper s c x r o 0x1A → canWrite o.d = true → 0 < len → len ≤ 64 → RuleClear s c o.d v →
      ∃ t, exec (.msk c o) s = .next t ∧ Opered s t c x r o.d v) ∧
    (AtOper s c x r o 0x1A → laterFault c s = none →
      (rawB x.seen o).toNat % 128 = 0 → canWrite o.d = true →
      ∃ t, exec (.msk c o) s = .next t ∧ Opered s t c x r 0xF#4 0) ∧
    (AtRule s c x r 0 → r.guard = true → r.oper / 2 ^ 26 = 0 → laterFault c s = none → ∃ t, exec (.nop c 0) s = .next t ∧ Opered s t c x r 0xF#4 0))

/-- STS stores D in the scratch word A + B modulo 32768; LDS reads one that is written, writes a corrected one back with
SCR_CE, and enters Safelight state with SCR_UE where it cannot be corrected (from R159). -/
def Obligations.ScratchOperations : Prop :=
  ∀ (c : Nat) (o : Oper) (x : Ctx) (r : InFlight) (s : State),
    let w := (opd x.seen o.a + valB x.seen o).toNat % 32768
    (AtOper s c x r o 0x1E → laterFault c s = none →
      ∃ t, exec (.sts c o) s = .next t ∧ sFind t.dev.scratch w = some (opd x.seen o.d) ∧
        (∀ k, k ≠ w → sFind t.dev.scratch k = sFind s.dev.scratch k) ∧
        ctxOf t c = some { x with inFlight := some { r with stage := 1 } } ∧ (∀ k, k ≠ c → ctxOf t k = ctxOf s k) ∧
        t = { s with dev := { s.dev with ctxs := t.dev.ctxs, scratch := t.dev.scratch } }) ∧
    (∀ v, AtOper s c x r o 0x1C → canWrite o.d = true → sFind s.dev.scratch w = some v → RuleClear s c o.d v →
      (∃ t, exec (.lds c o 0) s = .next t ∧ Opered s t c x r o.d v) ∧
      (Harmless r → ∃ t, exec (.lds c o 1) s = .next t ∧ Caused t .scrCe 0 ∧ t.dev.scratch = s.dev.scratch ∧
        ctxOf t c = some { putOpd o.d v x with inFlight := some { r with stage := 1 } } ∧ Only [.dev, .regs] s t) ∧
      (∀ bits, 2 ≤ bits → Harmless r →
        ∃ t, exec (.lds c o bits) s = .next t ∧ Caused t .scrUe 0 ∧ isSafe t = true ∧ t.dev.scratch = s.dev.scratch ∧
          Only [.dev, .regs, .safe] s t))

/-- SLK looks a sector up: 1 and the entry where one way of the set holds it, 0 where none does; the answer goes to D and to
the context's copy when its result arrives (from R173, R182). SEVT answers 0 for a sector without an entry.

SEVT with a free slot moves the sector's entry into an eviction slot: it leaves the sheet, its four lines become latent
for four new contexts, and the answer is 1 (from R121, R182). -/
def Obligations.SheetLookupsAndEviction : Prop :=
  (∀ (c : Nat) (o : Oper) (x : Ctx) (r : InFlight) (s : State), Harmless r →
    NoCounter s → o.imm = false → canWrite o.d = true → s.sheet.errs = [] →
    let line := (opd x.seen o.a).toNat / 64 % 2 ^ 36
    let sec := line / 4
    (∀ w e, AtOper s c x r o 0x20 → OneEntry s sec w e →
      ∃ t, exec (.slk c o) s = .next t ∧ t.sheet = s.sheet ∧ Only [.dev, .meter] s t ∧
        ctxOf t c = some { x with
          inFlight := some { r with stage := 1 },
          opRes := some ⟨o.d, 1, some (e.sv, soOf e, ssOf (some e) (line % 4)), none⟩ }) ∧
    (NoEntry s sec →
      (AtOper s c x r o 0x20 → ∃ t, exec (.slk c o) s = .next t ∧ Only [.dev, .meter] s t ∧
        ctxOf t c = some { x with
          inFlight := some { r with stage := 1 }, opRes := some ⟨o.d, 0, some (0, 0, ssOf none (line % 4)), none⟩ }) ∧
      (AtOper s c x r o 0x26 → ∃ t, exec (.sevt c o) s = .next t ∧ Only [.dev] s t ∧
        ctxOf t c = some { x with inFlight := some { r with stage := 1 }, opRes := some ⟨o.d, 0, none, none⟩ }))) ∧
  (∀ (c w : Nat) (e : Entry) (o : Oper) (x : Ctx) (r : InFlight) (s : State), AtOper s c x r o 0x26 →
    Harmless r → NoCounter s → s.dev.byRule = true → s.dev.ctxs = [(c, x)] → s.sheet.evSlots = [] → s.picks = [] →
    s.home.latent = [] → o.imm = false → canWrite o.d = true →
    let sec := (opd x.seen o.a).toNat / 64 % 2 ^ 36 / 4
    OneEntry s sec w e →
    ∃ t v, exec (.sevt c o) s = .next t ∧ sFind t.sheet.evSlots 0 = some v ∧ v.sector = sec ∧ v.entry = e ∧ v.left = 4 ∧
      sFind t.sheet.ways (wayKey (bankOf sec) (setOf sec) w) = none ∧
      (∀ k, k ≠ wayKey (bankOf sec) (setOf sec) w → sFind t.sheet.ways k = sFind s.sheet.ways k) ∧
      (∀ k, k < 4 → ∃ d y, d ≠ c ∧ holderOf t (4 * sec + k) = some (.ctx d) ∧ ctxOf t d = some y ∧
        y.kind = .evict 0 (4 * sec + k)) ∧
      ctxOf t c = some { x with inFlight := some { r with stage := 1 }, opRes := some ⟨o.d, 1, none, none⟩ } ∧
      Only [.regs, .sheet, .dev, .home, .meter] s t)

/-- SUP records the state, and the owner, of the line of EA in its sector's entry; no other line's state changes. SALL
installs an entry with four states in an empty sheet (from R115, R182, R183). -/
def Obligations.SheetUpdates : Prop :=
  ∀ (c : Nat) (o : Oper) (x : Ctx) (r : InFlight) (s : State), Harmless r → NoCounter s → s.sheet.evSlots = [] →
    let line := x.ea.toNat / 64 % 2 ^ 36
    let sec := line / 4
    (∀ w e l a, AtOper s c x r o 0x22 → OneEntry s sec w e → lstOfCode ((rawB x.seen o).toNat % 8) = some l →
      (agentSel x.seen o.d = .nobody ∧ l.owned = false ∨ ∃ tx, agentSel x.seen o.d = .agent a tx) →
      ∃ t, exec (.sup c o) s = .next t ∧ (recOf t line).lst = l ∧ (recOf t line).own = (if l.owned then a else 0) ∧
        (∀ k, k < 2 ^ 36 → k ≠ line → (recOf t k).lst = (recOf s k).lst) ∧ Only [.regs, .sheet, .dev, .home, .meter] s t) ∧
    (let bits := (opd x.seen o.d).toNat % 2 ^ 32
     AtOper s c x r o 0x24 → o.imm = true → s.sheet.ways = [] → (∀ k, k < 4 → bits / 8 ^ k % 8 ≤ 5) →
      ((∃ k, k < 4 ∧ bits / 8 ^ k % 8 ≠ 0) ∨ bitOf o.b 0 = true) →
      ∃ t, exec (.sall c o) s = .next t ∧
        (∀ k, k < 4 → lstCode (recOf t (4 * sec + k)).lst = bits / 8 ^ k % 8 ∧
          (recOf t (4 * sec + k)).tray = some (x.tray.getD 0) ∧ (recOf t (4 * sec + k)).hit = true) ∧
        (∀ k, k < 2 ^ 36 → k / 4 ≠ sec → (recOf t k).lst = .i) ∧ Only [.regs, .sheet, .dev, .meter] s t)

/-- LTB makes a line that nobody holds latent for the context, with an entry of the latent table, and answers 1; of a line that is
latent already it makes nothing and answers 0 (from R184).

LTE ends the latency of a line that the context gained and writes 1; of any other line it changes nothing and writes 0 (from
R184).

LTW queues the context for a line, with the transaction's deadline, and answers 1; one that nobody holds is handed over at once.
In a context that holds a line it queues nothing and answers 0 (from R184).

LTW_HEAD makes the line latent for the context at the head of its chain and dispatches that context's current event again, on its
channel, with the code derived afresh (from R27, R85, R184). -/
def Obligations.LinesGainedAndAwaited : Prop :=
  (∀ (c : Nat) (o : Oper) (x : Ctx) (r : InFlight) (s : State), Harmless r → o.imm = false → canWrite o.d = true →
    AtOper s c x r o 0x28 →
    let line := (opd x.seen o.a).toNat / 64 % 2 ^ 36
    (holderOf s line = none → x.lines.length < 4 → (∀ w, x.kind ≠ .wb w) → (takeEntry s).isSome = true →
      ∃ t, exec (.ltb c o) s = .next t ∧ holderOf t line = some (.ctx c) ∧
        ctxOf t c = some { x with
          inFlight := some { r with stage := 1 }, opRes := some ⟨o.d, 1, none, none⟩, lines := x.lines ++ [line] } ∧
        (∃ e y, e ≠ c ∧ ctxOf s e = none ∧ ctxOf t e = some y ∧ y.kind = .back ∧ y.line = some line) ∧
        (∀ k, k ≠ line → holderOf t k = holderOf s k) ∧ Only [.regs, .dev, .home, .picks] s t) ∧
    ((holderOf s line).isSome = true →
      ∃ t, exec (.ltb c o) s = .next t ∧ Only [.dev] s t ∧ (∀ k, k ≠ c → ctxOf t k = ctxOf s k) ∧
        ctxOf t c = some { x with inFlight := some { r with stage := 1 }, opRes := some ⟨o.d, 0, none, none⟩ })) ∧
  (∀ (c : Nat) (o : Oper) (x : Ctx) (r : InFlight) (s : State), Harmless r → o.imm = false → canWrite o.d = true →
    AtOper s c x r o 0x2C →
    let line := (opd x.seen o.a).toNat / 64 % 2 ^ 36
    (line ∈ x.lines → x.kind ≠ .back → chainOf s line = [] → s.home.wslots = [] →
      ∃ t, exec (.lte c o) s = .next t ∧ holderOf t line = none ∧
        ctxOf t c = some { putOpd o.d 1 x with inFlight := some { r with stage := 1 }, lines := x.lines.erase line } ∧
        (∀ k, k ≠ line → holderOf t k = holderOf s k) ∧ Only [.dev, .home] s t) ∧
    (line ∉ x.lines → RuleClear s c o.d 0 → ∃ t, exec (.lte c o) s = .next t ∧ Opered s t c x r o.d 0)) ∧
  (∀ (c : Nat) (o : Oper) (x : Ctx) (r : InFlight) (s : State), Harmless r → o.imm = false → canWrite o.d = true →
    AtOper s c x r o 0x2A →
    let line := (opd x.seen o.a).toNat / 64 % 2 ^ 36
    (x.line = none → x.lines = [] → (∀ w, x.kind ≠ .wb w) → holderOf s line = none → chainOf s line = [] →
      ∃ t w k, exec (.ltw c o) s = .next t ∧ chainOf t line = [w] ∧ w.who = .ctx c ∧ w.deadline = x.deadline ∧
        holderOf t line = some (.handover none k) ∧ (∀ k, k ≠ line → holderOf t k = holderOf s k) ∧
        ctxOf t c = some { x with inFlight := some { r with stage := 1 }, opRes := some ⟨o.d, 1, none, none⟩ } ∧
        Only [.dev, .home] s t) ∧
    (x.line.isSome = true ∨ x.lines ≠ [] →
      ∃ t, exec (.ltw c o) s = .next t ∧ Only [.dev] s t ∧ (∀ k, k ≠ c → ctxOf t k = ctxOf s k) ∧
        ctxOf t c = some { x with inFlight := some { r with stage := 1 }, opRes := some ⟨o.d, 0, none, none⟩ })) ∧
  (∀ (c line : Nat) (k : Code) (w : Waiter) (x : Ctx) (s : State), line < 2 ^ 36 → InRun s → s.dev.running = true →
    holderOf s line = some (.handover none k) → chainOf s line = [w] → w.who = .ctx c → ctxOf s c = some x →
    x.st = .parked → x.stall = none → s.dev.ready = [] → (takeEntry s).isSome = true →
    ∃ t y e, exec (.ltwHead line) s = .next t ∧ holderOf t line = some (.ctx c) ∧ chainOf t line = [] ∧
      ctxOf t c = some y ∧ y.lines = x.lines ++ [line] ∧ y.code = (codeNow s line).num ∧ y.sv = x.sv ∧ y.so = x.so ∧
      y.ss = x.ss ∧ t.dev.ready = [e] ∧ e.ctx = c ∧ e.ts = x.ts ∧ e.ea = x.ea ∧ e.ex = x.ex ∧
      Only [.regs, .dev, .home, .picks] s t)

/-! ### Rules: SEND -/

/-- SEND of a snoop goes to an agent that serves the line, whose answer is then owed: SnpH and SnpC claim the DatH buffer, SnpFS
and SnpFX name the agent to forward to and reserve staging space at its port, and a CXL host gets a Back-Invalidate snoop. For an
agent that does not serve the line the block answers RspI at once. SNPV sends SnpI to every agent of its operand (from R33, R48,
R92, R177, R185 to R187). -/
def Obligations.SnoopsSent : Prop :=
  ∀ (c : Nat) (args : BitVec 34) (x : Ctx) (r : InFlight) (s : State), NoCounter s →
    let line := x.ea.toNat / 64 % 2 ^ 36
    let kept := fun (a : Nat) (t : State) => t.home = { s.home with wslots := s.home.wslots.map (fun p =>
      if p.2.place = .absorbed c ∧ p.2.agent = a ∧ p.2.acked = true then (p.1, { p.2 with hold := true }) else p) }
    (∀ a tx, SendReady s c x r 1 args → agentSel x.seen (BitVec.ofNat 4 (args.toNat / 2 ^ 24)) = .agent a tx →
      (∀ q ∈ [(0x10, SnpOp.i), (0x13, .h), (0x14, .c)], args.toNat / 2 ^ 28 = q.1 → serves s a x.tray line = true →
        ∃ t, exec (.send c 1 args) s = .next t ∧
          t.tx = s.tx ++ [if isG6 s a then .biSnp a (if q.2 = .c then .cur else .inv) c (toAgentAddr s a line)
                          else .snp a q.2 c 0 0 0 (toAgentAddr s a line) x.deadline] ∧
          ctxOf t c = some { sent x r with owed := x.owed ++ [.ans a q.2 false true],
                                           hclaim := if q.2 = .i then x.hclaim else some a,
                                           hbuf := if q.2 = .i then x.hbuf else none } ∧
          (∀ k, k ≠ c → ctxOf t k = ctxOf s k) ∧ kept a t ∧ Only [.dev, .home, .tx, .xbar, .meter] s t) ∧
      (∀ q ∈ [(0x11, SnpOp.fs), (0x12, .fx)], ∀ b bx, args.toNat / 2 ^ 28 = q.1 → serves s a x.tray line = true →
        isG6 s a = false → agentSel x.seen (BitVec.ofNat 4 (args.toNat / 2 ^ 20)) = .agent b bx →
        ∃ t, exec (.send c 1 args) s = .next t ∧
          t.tx = s.tx ++ [.snp a q.2 c b bx (args.toNat / 2 ^ 14 % 4) (toAgentAddr s a line) x.deadline] ∧
          ctxOf t c = some { sent x r with owed := x.owed ++ [.ans a q.2 false true], staging := some (b / 2) } ∧
          (∀ k, k ≠ c → ctxOf t k = ctxOf s k) ∧ kept a t ∧ Only [.dev, .home, .tx, .xbar, .meter] s t) ∧
      (args.toNat / 2 ^ 28 = 0x10 → serves s a x.tray line = false →
        ∃ t, exec (.send c 1 args) s = .next t ∧
          ctxOf t c = some { sent x r with
            owed := x.owed ++ [.ans a .i false false], events := x.events ++ [eventFor x c a 0x20#6 a 0x20] } ∧
          (∀ k, k ≠ c → ctxOf t k = ctxOf s k) ∧ Only [.dev] s t)) ∧
    (SendReady s c x r 2 args → ∀ l, agentsOf (lo32 (argOpd x.seen args)) = l →
      (∀ a ∈ l, serves s a x.tray line = true ∧ isG6 s a = false) →
      ∃ t, exec (.snpv c args) s = .next t ∧
        t.tx = s.tx ++ l.map (fun a => .snp a .i c 0 0 0 (toAgentAddr s a line) x.deadline) ∧
        ctxOf t c = some { sent x r with owed := x.owed ++ l.map (fun a => .ans a .i false true) } ∧
        (∀ k, k ≠ c → ctxOf t k = ctxOf s k) ∧ t.home = { s.home with wslots := t.home.wslots } ∧
        Only [.dev, .home, .tx, .xbar, .meter] s t)

/-- SEND of a completion to the requester of a REQ: CmpW, or a DAT of zero data with its mark and status. The REQ has then been
processed at the home (from R186, R188, R213). -/
def Obligations.CompletionsSent : Prop :=
  ∀ (c a : Nat) (tx : BitVec 12) (st : Status) (args : BitVec 34) (p : Pend) (x : Ctx) (r : InFlight) (s : State),
    SendReady s c x r 1 args → NoCounter s → agentSel x.seen (BitVec.ofNat 4 (args.toNat / 2 ^ 24)) = .agent a tx →
    statusOfNum (args.toNat / 2 ^ 16 % 16) = some st → st ≠ .errAddr → x.agent = some a → x.req = some p →
    p.cxl = none → s.home.reqs = [p] → s.home.wslots = [] → muted s a x.tray x.line.isSome = false →
    (args.toNat / 2 ^ 28 = 0x2D →
      ∃ t, exec (.send c 1 args) s = .next t ∧ t.tx = s.tx ++ [.rsp a .cmpW c tx st] ∧ ctxOf t c = some (sent x r) ∧
        (∀ k, k ≠ c → ctxOf t k = ctxOf s k) ∧ t.home = { s.home with reqs := [{ p with processed := true }] } ∧
        Only [.dev, .home, .tx, .xbar, .meter] s t) ∧
    (∀ q ∈ [(0x30, DatOp.s), (0x31, .e), (0x32, .m), (0x33, .i)], args.toNat / 2 ^ 28 = q.1 →
      args.toNat / 2 ^ 12 % 4 = 3 → x.kind ≠ .req .atr →
      ∃ t, exec (.send c 1 args) s = .next t ∧ t.tx = s.tx ++ [.dat a q.2 c tx (bitOf args 11) st x.deadline 0] ∧
        ctxOf t c = some { sent x r with cplSent := true, cmpTimer := !owesAnswer x } ∧
        (∀ k, k ≠ c → ctxOf t k = ctxOf s k) ∧ t.home = { s.home with reqs := [{ p with processed := true }] } ∧
        Only [.dev, .home, .tx, .xbar, .meter] s t)

/-- MRD issues the line's memory read, which is owed unless it is early; MWR and MWRD put a line into the posted write buffer: MWR the
source's data with no tracking, its five slots on their way to the channel; MWRD the line's current data with the LDW of its operand,
the poison mark kept (from R123, R189, R216). -/
def Obligations.MemoryOperationsSent : Prop :=
  ∀ (c : Nat) (args : BitVec 34) (x : Ctx) (r : InFlight) (s : State),
    let line := (argOpd x.seen args).toNat / 64 % 2 ^ 36
    let fog := bitOf args 20
    let n := s.mem.opSeq
    (SendReady s c x r 3 args → x.mem = none → readAtOnce s line = false → bitOf args 20 = false →
      let early := bitOf args 21
      let close := if args.toNat / 2 ^ 22 % 4 = 0 then x.pgc else decide (args.toNat / 2 ^ 22 % 4 = 2)
      ∃ t, exec (.mrd c args) s = .next t ∧
        t.mem = { s.mem with memq := s.mem.memq ++ [⟨c, line, early, false, close, false, n⟩], opSeq := n + 1,
                             chans := t.mem.chans } ∧ ChansKept s t ∧
        ctxOf t c = some { sent x r with
          mem := some ⟨line, n, early, none, false, 0, false⟩, owed := if early then x.owed else x.owed ++ [.mrdc] } ∧
        (∀ k, k ≠ c → ctxOf t k = ctxOf s k) ∧ Only [.dev, .mem] s t) ∧
    (isDark s line = false → regionBlank s (line / 2 ^ 14) = false → pwbFree s = true → ewa s line = false →
      (SendReady s c x r 4 args → args.toNat / 2 ^ 22 % 4 = 3 → bitOf args 21 = false →
        ∃ t i, exec (.mwr c args) s = .next t ∧
          t.mem = { s.mem with
            pwb := s.mem.pwb ++ [⟨line, 0, fog, if fog then 9 else 0, x.pgc, c, x.placer, x.deadline, false, false, n⟩],
            opSeq := n + 1, chans := t.mem.chans } ∧ ChansKept s t ∧
          t.xbar = { s.xbar with packets := s.xbar.packets ++
            [{ input := i, output := 16 + chanNo s line, deadline := x.deadline, slots := 5, sent := 0, msg := none,
               line := some line }] } ∧
          ctxOf t c = some { sent x r with owed := x.owed ++ [.mwrc] } ∧ (∀ k, k ≠ c → ctxOf t k = ctxOf s k) ∧
          Only [.dev, .mem, .xbar] s t) ∧
      (∀ p, SendReady s c x r 5 args → pwbFind s line = some p → p.seq < n →
        let v := lo32 (opd x.seen (BitVec.ofNat 4 (args.toNat / 2 ^ 20)))
        let mark := p.fog || ldwFogged p.ldw
        ∃ t, exec (.mwrd c args) s = .next t ∧
          t.mem = { s.mem with
            pwb := s.mem.pwb ++ [⟨line, p.data, mark, ldwMark mark v, false, c, .block, x.deadline, false, false, n + 1⟩],
            opSeq := n + 2, chans := t.mem.chans } ∧ ChansKept s t ∧
          ctxOf t c = some { sent x r with owed := x.owed ++ [.mwrc] } ∧ (∀ k, k ≠ c → ctxOf t k = ctxOf s k) ∧
          Only [.dev, .mem] s t))

/-- FOG makes the line FOGGED with the cause its argument names, which counts as a DE; CTR adds to a counter whose EVENT is
REEL; STPB hands the transaction's stop bath to the block (from R190, R191, R316).

A stop bath handed to the block completes with CmpB once every earlier REQ of its agent has been processed and none of its
early-acknowledged writes is left in the posted write buffer: FOGGED where a drop that it covers came first. The STEER of its rule,
which has waited, may then take effect (from R191, R213 to R215). -/
def Obligations.FogCtrAndStopBaths : Prop :=
  (∀ (c : Nat) (args : BitVec 34) (x : Ctx) (r : InFlight) (s : State),
    (let line := (argOpd x.seen args).toNat / 64 % 2 ^ 36
     ∀ w e k, SendReady s c x r 6 args → NoCounter s → OneEntry s (line / 4) w e → (recOf s line).lst ≠ .fogged →
      fogCause (args.toNat / 2 ^ 20 % 16) = some k →
      ∃ t, exec (.fog c args) s = .next t ∧ (recOf t line).lst = .fogged ∧ Caused t k 0 ∧
        rd t 0x010024 = satInc32 (rd s 0x010024) ∧
        (∀ j, j < 2 ^ 36 → j ≠ line → (recOf t j).lst = (recOf s j).lst) ∧ (∀ j, j ≠ c → ctxOf t j = ctxOf s j) ∧
        (∃ y, ctxOf t c = some y ∧ y.job = none ∧ y.inFlight = some { r with stage := 2 } ∧
          (line / 4 = x.eaLine / 4 → (y.sv, y.so, y.ss) = sheetCopy t x.eaLine)) ∧
        Only [.regs, .sheet, .dev, .meter] s t) ∧
    (let num := args.toNat / 2 ^ 26
     let add := if bitOf args 25 then (opd x.seen (BitVec.ofNat 4 (args.toNat / 2 ^ 21))).toNat else 1
     SendReady s c x r 7 args →
      (fld (rd s (oCtrCfg num)) 0 11 = 0x30 → fld (rd s (oCtrCfg num)) 24 2 = 0 →
        ∃ t, exec (.ctr c args) s = .next t ∧ rd t (oCtrVal num) = rd s (oCtrVal num) + w64 add ∧
          RegsOnly (· = oCtrVal num) s t ∧ ctxOf t c = some (sent x r) ∧ (∀ k, k ≠ c → ctxOf t k = ctxOf s k) ∧
          Only [.regs, .dev] s t) ∧
      (fld (rd s (oCtrCfg num)) 0 8 ≠ 0x30 →
        ∃ t, exec (.ctr c args) s = .next t ∧ ctxOf t c = some (sent x r) ∧ (∀ k, k ≠ c → ctxOf t k = ctxOf s k) ∧
          Only [.dev] s t)) ∧
    (∀ a tx, SendReady s c x r 8 args → (x.kind = .req .stbV ∨ x.kind = .req .stbD) →
      agentSel x.seen (BitVec.ofNat 4 (args.toNat / 2 ^ 24)) = .agent a tx →
      ∃ t, exec (.stpb c args) s = .next t ∧ ctxOf t c = some { sent x r with bathTo := some (a, tx), phase := .bath } ∧
        (∀ k, k ≠ c → ctxOf t k = ctxOf s k) ∧ Only [.dev] s t)) ∧
  (∀ (c a b : Nat) (tx : BitVec 12) (p : Pend) (x : Ctx) (s : State), c < 8704 → InRun s → ctxOf s c = some x →
    x.byRule = true → x.phase = .bath → x.req = some p → x.agent = some a → p.req.agent = a → p.place = .begun c →
    x.cplSent = false → p.op.bath = true → s.home.reqs = [p] → s.mem.pwb = [] → x.bathTo = some (b, tx) →
    detached s b = false →
    let st : Status := if s.home.bathFog.any (fun q => decide (q.1 = a) && decide (q.2 < p.seq)) then .fogged else .ok
    ∃ t, exec (.stopBathComplete c) s = .next t ∧ t.tx = s.tx ++ [.rsp b .cmpB c tx st] ∧
      ctxOf t c = some { x with cplSent := true, cmpTimer := false, phase := .cmp } ∧
      (∀ k, k ≠ c → ctxOf t k = ctxOf s k) ∧ t.home.reqs = [{ p with processed := true }] ∧
      (∀ q ∈ t.home.bathFog, q.1 = a → p.seq ≤ q.2) ∧ Only [.dev, .home, .tx, .xbar, .meter] s t)

/-! ### Rules: STEER, dispatch and results -/

/-- CHAIN: the true target is entered, its GUARD evaluated on what the context then holds; target 0 and AWAIT park the context,
whose oldest pending event becomes ready. With a false GUARD every STEER goes on at its false target in the same way (from R157,
R172, R192). -/
def Obligations.ChainAndAwait : Prop :=
  ∀ (c : Nat) (tt ft : BitVec 15) (x : Ctx) (r : InFlight) (s : State),
    ∀ p ∈ [(Instr.chain c tt ft, 0), (.await c ft, 1), (.retire c ft, 2), (.trap c tt ft, 3)], AtSteer s c x r p.2 tt ft →
      (∀ u : BitVec 15, (r.guard = true ∧ p.2 = 0 ∧ u = tt ∨ r.guard = false ∧ u = ft) → u ≠ 0 →
        u.toNat < reelRules s x.reelB → x.chain < 8 → lineGood s x.reelB (u.toNat / 4) = true → NoCounter s →
        ∃ t, exec p.1 s = .next t ∧
          ctxOf t c = some { x with
            chain := x.chain + 1, lastRule := u,
            inFlight := some ⟨u, BitVec.ofNat 128 (ruleWord s x.reelB u.toNat),
              guardHolds s x (ruleWord s x.reelB u.toNat / 2 ^ 104), 0, x.sv, x.so, x.ss, x.code⟩ } ∧
          (∀ k, k ≠ c → ctxOf t k = ctxOf s k) ∧ Only [.dev, .meter] s t) ∧
      ((r.guard = true ∧ (p.2 = 0 ∧ tt = 0 ∨ p.2 = 1) ∨ r.guard = false ∧ ft = 0) →
        ∃ t, exec p.1 s = .next t ∧
          ctxOf t c = some { x with
            st := .parked, inFlight := none, chain := 0, parkedAt := s.aon.ft, events := x.events.drop 1 } ∧
          (∀ k, k ≠ c → ctxOf t k = ctxOf s k) ∧
          t.dev.ready = s.dev.ready ++ x.events.take 1 ∧ Only [.dev] s t)

/-- RETIRE of a REQ's transaction: with nothing owed the context is free, the line is not latent any more and the REQ has left
its buffer; with something owed the context stays, quarantined (from R101, R193).

TRAP with a code of the reel's own, in a management request that holds no line: the trap is counted, ENG_TRAP takes it
where it holds none, and the request ends with TRAP (from R157, R167). -/
def Obligations.RetireAndTrapEnd : Prop :=
  (∀ (c line : Nat) (op : ReqOp) (p : Pend) (ft : BitVec 15) (x : Ctx) (r : InFlight) (s : State), AtSteer s c x r 2 0 ft →
    Settled s x → r.guard = true → x.kind = .req op → x.req = some p → x.line = some line → x.lines = [] →
    x.mem = none → x.events = [] → holderOf s line = some (.ctx c) → s.home.wslots = [] → s.home.chains = [] →
    s.home.reqs = [p] →
    ∃ t, exec (.retire c ft) s = .next t ∧ holderOf t line = none ∧ (∀ k, k ≠ c → ctxOf t k = ctxOf s k) ∧
      (∀ k, k ≠ line → holderOf t k = holderOf s k) ∧ Only [.dev, .home] s t ∧
      (x.owed = [] → ctxOf t c = none ∧ t.home.reqs = []) ∧
      (x.owed ≠ [] → (∃ y, ctxOf t c = some y ∧ y.st = .quarantined ∧ y.owed = x.owed) ∧
        (Owed.cmp ∈ x.owed → t.home.reqs = [p]))) ∧
  (∀ (c : Nat) (code ft : BitVec 15) (x : Ctx) (r : InFlight) (s : State), AtSteer s c x r 3 code ft → Settled s x →
    NoCounter s → r.guard = true → x.kind = .mgmt false → x.line = none → x.lines = [] → x.owed = [] → x.mem = none →
    x.req = none → x.events = [] → (∀ e ∈ s.dev.ready, e.ctx ≠ c) → s.home.wslots = [] → code.toNat < 0x7F00 →
    ∃ t, exec (.trap c code ft) s = .next t ∧ ctxOf t c = none ∧ (∀ k, k ≠ c → ctxOf t k = ctxOf s k) ∧
      rd t 0x020108 = satInc32 (rd s 0x020108) ∧ Caused t .mreqDone 0 ∧ rd t 0x02020C = 2 ∧
      (bitOf (rd s 0x020100) 31 = false →
        rd t 0x020100 = w64 (code.toNat + 2 ^ 16 * x.ts + 2 ^ 30 * b2n x.reelB + 2 ^ 31) ∧
        rd t 0x020104 = w64 (r.addr.toNat + 2 ^ 16 * c)) ∧
      (bitOf (rd s 0x020100) 31 = true → rd t 0x020100 = rd s 0x020100 ∧ rd t 0x020104 = rd s 0x020104) ∧
      Only [.regs, .dev, .home, .meter] s t)

/-- EVENT_DISPATCH, on a channel with no chain to continue, loads the channel's event into its context and enters the rule that its
dispatch entry names: index variant, event type, line-state code (from R149, R151, R152, R156). The result of a sheet operation reaches the context as it leaves (from R173). -/
def Obligations.EventsAndResults : Prop :=
  (∀ (ts : Nat) (e : Event) (x : Ctx) (s : State), ts < 43 → InRun s → s.dev.running = true → s.dev.ready = [e] →
    continues s ts = false →
    e.ts = ts → ctxOf s e.ctx = some x → x.byRule = true → x.st = .parked → 0x0C ≤ e.typ.toNat →
    (e.typ.toNat < 0x18 ∨ 0x1C < e.typ.toNat) → (∀ p, x.req = some p → p.op ≠ .atc) →
    let idx := x.variant.toNat * 1024 + e.typ.toNat * 16 + (e.code.getD x.code).toNat
    let k := reelNat s x.reelB (0x80000 + 2 * idx) 2
    k / 2 ^ 15 = 1 → k % 2 ^ 15 < reelRules s x.reelB → lineGood s x.reelB (8192 + idx / 32) = true →
    lineGood s x.reelB (k % 2 ^ 15 / 4) = true →
    ∃ t y f, exec (.eventDispatch ts none) s = .next t ∧ t.dev.ready = [] ∧ ctxOf t e.ctx = some y ∧ y.ea = e.ea ∧
      y.ts = ts ∧ y.es = e.es ∧ y.ed = e.ed ∧ y.ex = e.ex ∧ y.st = .run ∧ y.chain = 1 ∧ y.w = x.w ∧ y.inFlight = some f ∧
      f.addr.toNat = k % 2 ^ 15 ∧ f.stage = 0 ∧ (∀ j, j ≠ e.ctx → ctxOf t j = ctxOf s j) ∧ Only [.dev, .meter] s t) ∧
  (∀ (c : Nat) (d : BitVec 4) (v : W64) (sv : BitVec 32) (so : BitVec 20) (ss : BitVec 22) (code : Option (BitVec 4))
      (x : Ctx) (s : State), c < 8704 → asleep s = false → ctxOf s c = some x →
    x.opRes = some ⟨d, v, some (sv, so, ss), code⟩ →
    ∃ t, exec (.sheetOpResult c) s = .next t ∧
      ctxOf t c = some { putOpd d v x with sv := sv, so := so, ss := ss, code := code.getD x.code, opRes := none } ∧
      (∀ k, k ≠ c → ctxOf t k = ctxOf s k) ∧ Only [.dev] s t)

/-! ### Memory completions -/

/-- MRDC: a read of a written line, once its command may issue, brings the stored line with its LDW to the transaction, whose event
is ready on the line's channel; no byte of memory changes (from R128, R189, R257).

MWRC, and POSTED_WRITE_DONE: the buffered line, once its command may issue, is stored with its LDW and leaves the buffer, every
other byte of memory stays, and the writing transaction's MWRC event is ready (from R70, R71, R189).

POSTED_WRITE_RESUME: a write that waited for a line of the buffer enters it once there is room, and one that stores bytes clears the
reservations of its granule then (from R70, R78).

LDWC: four lines whose LDWs are EMPTY install an entry with every line I and SPILL 1, and the transaction's event carries
the code that the entry gives (from R28, R129, R130). That a CXL-G5 host's request installs none is the model's reading (log entry
50). -/
def Obligations.MemoryCompletes : Prop :=
  (∀ (c m co line n : Nat) (close : Bool) (b : MemBuf) (x : Ctx) (s : State), c < 8704 → InRun s → ctxOf s c = some x →
    x.byRule = true → x.st = .parked → x.stall = none → s.dev.ready = [] → x.mem = some b → b.line = line → b.seq = n →
    s.mem.memq = [⟨c, line, false, false, close, false, n⟩] → readReady s ⟨c, line, false, false, close, false, n⟩ = true →
    lineChan s line = some (m, co) → isDark s line = false → regionBlank s (line / 2 ^ 14) = false → pwbFind s line = none →
    let a := m * 2 ^ 39 + co
    let w := sGet 0 s.mem.ldws (a / 64)
    sGet [] s.mem.burstErr (a / 64) = [] → ldwInvalid w = false →
    ∃ t e, exec (.mrdc c []) s = .next t ∧ t.mem.memq = [] ∧
      ctxOf t c = some { x with
        mem := some { b with got := some ⟨lineOf (memRead s.mem.dram a 64), ldwFogged w⟩, uncor := false, ldw := w } } ∧
      t.dev.ready = [e] ∧ e.ctx = c ∧ e.typ = 0x38#6 ∧ e.ts = 32 + m ∧ t.mem.dram = s.mem.dram ∧
      t.mem.ldws = s.mem.ldws ∧ t.mem.pwb = s.mem.pwb ∧ Only [.dev, .mem, .meter] s t) ∧
  (∀ (c m co : Nat) (p : PwbLine) (x : Ctx) (s : State), c < 8704 → p.line < 2 ^ 36 → InRun s → ctxOf s c = some x →
    x.byRule = true → x.st = .parked → x.stall = none → (∀ w, x.kind ≠ .wb w) → s.dev.ready = [] → s.mem.pwb = [p] →
    p.src = c → p.acked = false → drainReady s p = true → lineChan s p.line = some (m, co) →
    let a := m * 2 ^ 39 + co
    ∀ cmd ∈ [Instr.mwrc c, .postedWriteDone p.line],
      ∃ t e, exec cmd s = .next t ∧ t.mem.pwb = [] ∧ (∀ i, i < 64 → memGet t.mem.dram (a + i) = byteAt p.data i) ∧
        (∀ b, (b < a ∨ a + 64 ≤ b) → memGet t.mem.dram b = memGet s.mem.dram b) ∧
        sGet 0 t.mem.ldws (a / 64) = p.ldw ∧ sFind t.mem.burstErr (a / 64) = none ∧
        t.dev.ready = [e] ∧ e.ctx = c ∧ e.typ = 0x39#6 ∧ e.ts = 32 + m ∧ Only [.dev, .home, .mem, .meter, .xbar] s t) ∧
  (∀ (c : Nat) (e : PwbLine) (x : Ctx) (s : State), asleep s = false → s.mem.pwbWait = [⟨c, e, false⟩] →
    isDark s e.line = false → regionBlank s (e.line / 2 ^ 14) = false → pwbFree s = true →
    ewa s e.line = false → e.acked = false → ctxOf s c = some x → x.byRule = true → x.st ≠ .quarantined →
    (∀ w, x.kind ≠ .wb w) →
    ∃ t, exec .postedWriteResume s = .next t ∧
      t.mem = { s.mem with pwbWait := [], pwb := s.mem.pwb ++ [{ e with seq := s.mem.opSeq }], opSeq := s.mem.opSeq + 1,
                           chans := t.mem.chans } ∧ ChansKept s t ∧
      t.home = { s.home with resv := if e.clears then s.home.resv.filter (fun q =>
        !(decide (q.base ≤ e.line) && decide (e.line < q.base + q.size))) else s.home.resv } ∧ Only [.mem, .home] s t) ∧
  (∀ (c line n : Nat) (close : Bool) (b : MemBuf) (x : Ctx) (s : State), c < 8704 → InRun s → s.dev.running = true →
    ctxOf s c = some x → x.byRule = true → x.st = .parked → x.stall = none → (∀ w, x.kind ≠ .wb w) →
    (∀ a, x.agent = some a → isG5 s a = false) → s.dev.ready = [] →
    x.mem = some b → b.line = line → b.seq = n → line < 2 ^ 36 → x.owed = [.ldwc] →
    s.mem.memq = [⟨c, line, false, true, close, false, n⟩] → readReady s ⟨c, line, false, true, close, false, n⟩ = true →
    (∀ k, k < 4 → isDark s (line / 4 * 4 + k) = false) → s.mem.ldws = [] → s.mem.burstErr = [] → s.mem.pwb = [] →
    s.sheet.ways = [] → s.sheet.evSlots = [] →
    ∃ t e, exec (.ldwc c []) s = .next t ∧ t.mem.memq = [] ∧ t.dev.ready = [e] ∧ e.ctx = c ∧ e.typ = 0x3E#6 ∧
      e.code = some (codeOf t line (recOf t line) x.tray).num ∧
      (∀ k, k < 4 → (recOf t (line / 4 * 4 + k)).lst = .i ∧ (recOf t (line / 4 * 4 + k)).hit = true) ∧
      t.sheet.ways.map (fun p => (p.2.tray, p.2.sv, p.2.spill)) = [(x.tray.getD 0, 0, true)] ∧
      t.mem.dram = s.mem.dram ∧ Only [.regs, .sheet, .dev, .mem, .meter] s t)

/-! ### Expiries -/

/-- T_SNOOP in a read that has not completed: the line is FOGGED with T_SNOOP, and the requester gets DatI, FOG 1 and status
FOGGED; what the data then holds is the model's choice (from R97, R99, log entry 16).

T_CMP: the line is FOGGED with T_CMP, and the transaction RETIREs: its context stays, quarantined, owing the CMP, and the
line is not latent any more (from R100, R101).

In a context that runs rules either expiry fogs the line and posts the TIMER event on TS41, whose rules end the transaction (from
R97, R145, R146, Table DEV-6; log entry 5).

PARK_LONG traps a context parked with no timer running; HTID_STUCK is an LF fault; more traps than
the limit in one interval are a GF fault (from R102, R157, R169).

A sweep after a detach visits one set: the agent's records of every line that is not latent end as Table RACE-6 says, E under
the voluntary column as I, every other owned state FOGGED with DETACH_DIRTY; its last set raises DETACH_DONE. Where the reel runs its
rules the sweep first raises SWEEP on TS42 for an entry with records of the agent, with its bank, set and way (from R93 to R95, R146). -/
def Obligations.TimersExpire : Prop :=
  (∀ (c a b w line : Nat) (tx : BitVec 12) (cov : Bool) (op : SnpOp) (e : Entry) (p : Pend) (x : Ctx) (s : State),
    c < 8704 → a < 32 → InRun s → ctxOf s c = some x → x.st ≠ .quarantined → x.expired = false →
    x.owed = [.ans a op cov true] → x.kind = .req p.op → p.op.isRead = true → x.req = some p → s.home.reqs = [p] →
    p.cxl = none → x.agent = some b → muted s b x.tray true = false → x.txid = tx → x.line = some line → x.lines = [] →
    x.cplSent = false → x.fwdPass = false → x.cmpIn = false → x.byRule = false → s.home.wslots = [] → OneEntry s (line / 4) w e → (recOf s line).lst ≠ .fogged →
    ∃ t y, exec (.tSnoop c a) s = .next t ∧ (recOf t line).lst = .fogged ∧ Caused t .tSnoop 0 ∧
      t.tx = s.tx ++ [.dat b .i c tx true .fogged x.deadline 0] ∧ ctxOf t c = some y ∧ y.expired = true ∧
      y.cplSent = true ∧ y.owed = x.owed ∧ (∀ k, k ≠ c → ctxOf t k = ctxOf s k) ∧
      Only [.regs, .sheet, .dev, .home, .tx, .xbar, .meter] s t) ∧
  (∀ (c w line : Nat) (e : Entry) (p : Pend) (x : Ctx) (s : State), c < 8704 → InRun s → Settled s x →
    ctxOf s c = some x → x.st ≠ .quarantined → x.cmpTimer = true → x.cmpIn = false → x.owed = [] → x.kind = .req p.op →
    x.req = some p → s.home.reqs = [p] → p.cxl = none → x.line = some line → x.lines = [] → x.mem = none → x.byRule = false →
    (∀ e ∈ s.dev.ready, e.ctx ≠ c) → holderOf s line = some (.ctx c) → s.home.wslots = [] → s.home.chains = [] →
    OneEntry s (line / 4) w e → (recOf s line).lst ≠ .fogged →
    ∃ t y, exec (.tCmp c) s = .next t ∧ (recOf t line).lst = .fogged ∧ Caused t .tCmp 0 ∧ ctxOf t c = some y ∧
      y.st = .quarantined ∧ y.owed = [.cmp] ∧ holderOf t line = none ∧ t.home.reqs = [p] ∧
      (∀ k, k ≠ c → ctxOf t k = ctxOf s k) ∧ Only [.regs, .sheet, .dev, .home, .meter] s t) ∧
  (∀ (c a w line : Nat) (e : Entry) (x : Ctx) (s : State), c < 8704 → InRun s → ctxOf s c = some x → x.byRule = true →
    x.st = .parked → x.stall = none → s.dev.ready = [] → x.expired = false → x.line = some line → x.form = none →
    OneEntry s (line / 4) w e → (recOf s line).lst ≠ .fogged →
    let left := fun (t : State) (k : Cause) => (recOf t line).lst = .fogged ∧ Caused t k 0 ∧ t.tx = s.tx ∧
      holderOf t line = holderOf s line ∧ (∀ j, j ≠ c → ctxOf t j = ctxOf s j) ∧ Only [.regs, .sheet, .dev, .meter] s t
    let timer := fun (kind b : Nat) =>
      { eventFor x c 41 0x3A#6 0 (w64 (0x3A + 2 ^ 6 * kind + 2 ^ 7 * b)) with ed := BitVec.ofNat 32 (nowNs s) }
    (a < 32 → snoopTimer x a = true →
      ∃ t, exec (.tSnoop c a) s = .next t ∧ left t .tSnoop ∧ ctxOf t c = some { stopSnoop a x with expired := true } ∧
        t.dev.ready = [timer 0 a]) ∧
    (x.agent = some a → a < 32 → x.cmpTimer = true → x.cmpIn = false →
      ∃ t, exec (.tCmp c) s = .next t ∧ left t .tCmp ∧
        ctxOf t c = some { x with cmpTimer := false, owed := x.owed ++ [.cmp] } ∧ t.dev.ready = [timer 1 a])) ∧
  ((∀ (c : Nat) (x : Ctx) (s : State), c < 8704 → InRun s → Settled s x → ctxOf s c = some x → x.byRule = true →
    x.st = .parked → x.cmpTimer = false → x.kind = .mgmt false → x.line = none → x.lines = [] → x.owed = [] →
    x.mem = none → x.req = none → x.events = [] → (∀ e ∈ s.dev.ready, e.ctx ≠ c) → s.home.wslots = [] →
    bitOf (rd s 0x020100) 31 = false →
    ∃ t, exec (.parkLong c) s = .next t ∧ ctxOf t c = none ∧ rd t 0x020108 = satInc32 (rd s 0x020108) ∧
      rd t 0x020100 = w64 (0x7F06 + 2 ^ 16 * x.ts + 2 ^ 30 * b2n x.reelB + 2 ^ 31) ∧
      rd t 0x020104 = w64 (x.lastRule.toNat + 2 ^ 16 * c) ∧ Caused t .mreqDone 0 ∧
      Only [.regs, .dev, .home, .meter] s t) ∧
  (∀ (c a : Nat) (x : Ctx) (s : State), c < 8704 → asleep s = false → ctxOf s c = some x → x.st = .quarantined →
    owingAgents x = [a] → linkState s (2 * (a / 2)) = 0 → linkState s (2 * (a / 2) + 1) = 0 →
    ∃ t, exec (.htidStuck c) s = .next t ∧ Caused t .htidStuck 0 ∧ rd t 0x010028 = satInc32 (rd s 0x010028) ∧
      Only [.regs] s t) ∧
  (∀ s : State, asleep s = false → isSafe s = false → s.dev.trapWin = s.aon.ft.toNat / 4000000 →
    (rdf s 0x020018 0 16 < s.dev.trapCount →
      ∃ t, exec .trapStorm s = .next t ∧ Caused t .trapStorm 0 ∧ isSafe t = true ∧ Only [.regs, .safe] s t) ∧
    (s.dev.trapCount ≤ rdf s 0x020018 0 16 → exec .trapStorm s = .next s))) ∧
  ((∀ (a sec way : Nat) (vol : Bool) (n : Option Nat) (e : Entry) (w : Sweep) (s : State), asleep s = false →
    isSafe s = false → NoCounter s → s.dev.byRule = false → sec < 2 ^ 34 → way < 8 →
    s.sheet.sweeps = [w] → w.kind = .detach a vol n →
    w.next = setOf sec → w.next < 16383 → s.sheet.ways = [(wayKey (bankOf sec) (setOf sec) way, e)] →
    e.tag = tagOf sec → s.sheet.errs = [] → s.sheet.evSlots = [] → s.home.latent = [] →
    let gone := fun k => (e.lst.get k).owned && decide (e.own.get k = a)
    let dirty := fun k => gone k && !(vol && decide (e.lst.get k = .e))
    ∃ t, exec (.sweep 0 []) s = .next t ∧
      (∀ k, k < 4 → (recOf t (4 * sec + k)).lst =
        if gone k then (if dirty k then .fogged else .i) else e.lst.get k) ∧
      ((∃ k, k < 4 ∧ dirty k = true) → Caused t .detachDirty 0) ∧
      t.sheet.sweeps = [{ w with next := w.next + 1, posted := true, raised := false,
                                 fogged := w.fogged || dirty 0 || dirty 1 || dirty 2 || dirty 3 }] ∧
      Only [.regs, .sheet, .meter] s t) ∧
  (∀ (a sec way : Nat) (vol : Bool) (n : Option Nat) (e : Entry) (w : Sweep) (s : State), InRun s → s.dev.byRule = true →
    s.dev.running = true → sec < 2 ^ 34 → way < 8 → s.sheet.sweeps = [w] → w.kind = .detach a vol n → w.posted = true →
    w.raised = false → w.next = setOf sec → s.sheet.ways = [(wayKey (bankOf sec) (setOf sec) way, e)] → e.tag = tagOf sec →
    holdsAgent e a = true → s.dev.ctxs = [] → s.dev.ready = [] → s.home.latent = [] → s.picks = [] →
    let key := wayKey (bankOf sec) (setOf sec) way
    ∃ t x v, exec (.sweep 0 []) s = .next t ∧ ctxOf t 0 = some x ∧ x.kind = .sweep key ∧ x.tray = some e.tray ∧
      t.dev.ready = [v] ∧ v.ctx = 0 ∧ v.ts = 42 ∧ v.typ = 0x3C#6 ∧
      v.ex = w64 (0x3C + 2 ^ 6 * bankOf sec + 2 ^ 11 * setOf sec + 2 ^ 25 * way) ∧
      t.sheet = { s.sheet with sweeps := [{ w with raised := true }] } ∧ Only [.regs, .sheet, .dev] s t) ∧
  (∀ (a : Nat) (vol : Bool) (w : Sweep) (s : State), asleep s = false → isSafe s = false →
    (w.posted = true ∨ s.dev.byRule = false) → s.sheet.sweeps = [w] → w.kind = .detach a vol none → w.next = 16383 →
    s.sheet.ways = [] → s.sheet.errs = [] →
    ∃ t, exec (.sweep 0 []) s = .next t ∧ t.sheet.sweeps = [] ∧ Caused t .detachDone 0 ∧
      Only [.regs, .sheet] s t ∧ RegsOnly (fun o => o = 0x010150 ∨ o = 0x010118 ∨ o = 0x030014) s t))

/-! ### The engine and its reel -/

/-- ENG_ENABLE sets EN; dispatch starts once EN is set, the self-test has passed and a slot is ACTIVE, and not before (from R132).
The layer that dispatch runs on is the model's (log entry 5).

MREQ_GO: a request without a line is BUSY and begins in a context of its own, its event ready on TS43; one whose line lies
beyond the installed pool ends at once; while one is BUSY, and in Safelight state, it does nothing (from R150, R151).

STARVE raises its cause for an input that requests an output and has no grant, and names the first such input and output since
VALID was cleared; with the limit at 0 nothing is logged (from R220). -/
def Obligations.EngineStartsAndManages : Prop :=
  (∀ (byRule : Bool) (s : State), asleep s = false →
    (∃ t, exec .engEnable s = .next t ∧ engEn t = true ∧ Acked s t ∧ Only [.cap, .regs] s t ∧
      RegsOnly (· = 0x020000) s t) ∧
    (s.dev.running = false → engEn s = true → bistPass s = true → reelAny s = true → isSafe s = false → s.dev.ctxs = [] →
      bitOf (rd s 0x02020C) 31 = false →
      exec (.engineStart byRule) s = .next
        { s with dev := { s.dev with running := true, dispatched := true, byRule := byRule } }) ∧
    (s.dev.running = true ∨ engEn s = false ∨ bistPass s = false ∨ reelAny s = false ∨ isSafe s = true →
      exec (.engineStart byRule) s = .next s)) ∧
  (∀ s : State, capAnswers s = true →
    (isSafe s = false → bitOf (rd s 0x02020C) 31 = false → bitOf (rd s 0x020200) 0 = false → s.dev.running = true →
      s.dev.ctxs = [] → s.dev.ready = [] → s.home.latent = [] → s.home.chains = [] → s.picks = [] →
      ∃ t x e, exec .mreqGo s = .next t ∧ rd t 0x02020C = 0x80000000#64 ∧ ctxOf t 0 = some x ∧ x.kind = .mgmt false ∧
        x.byRule = true ∧ x.line = none ∧ t.dev.ready = [e] ∧ e.ctx = 0 ∧ e.ts = 43 ∧ e.typ = 0x3D#6 ∧
        Only [.cap, .regs, .dev] s t) ∧
    (isSafe s = false → bitOf (rd s 0x02020C) 31 = false → bitOf (rd s 0x020200) 0 = true →
      poolGib s * 2 ^ 24 ≤ fld (rd s 0x020200) 6 36 →
      ∃ t, exec .mreqGo s = .next t ∧ rd t 0x02020C = 3 ∧ Caused t .mreqDone 0 ∧ Only [.cap, .regs] s t) ∧
    (isSafe s = true ∨ bitOf (rd s 0x02020C) 31 = true → exec .mreqGo s = .next (answered false 0 s))) ∧
  (∀ (i o : Nat) (s : State), i ≤ 24 → o ≤ 23 → asleep s = false →
    (rdf s 0x040300 0 24 ≠ 0 → holdsRequest s i o = true → sFind s.xbar.grants o ≠ some i →
      ∃ t, exec (.starve i o) s = .next t ∧ Caused t .starve 0 ∧
      rd t 0x040304 = (if bitOf (rd s 0x040304) 31 then rd s 0x040304 else w64 (i + 2 ^ 8 * o + 2 ^ 31)) ∧
      Only [.regs] s t ∧ RegsOnly (fun r => r = 0x040304 ∨ r = 0x010128) s t) ∧
    (rdf s 0x040300 0 24 = 0 ∨ holdsRequest s i o = false ∨ sFind s.xbar.grants o = some i →
      exec (.starve i o) s = .next s))

/-- SCRATCH_WRITE completes at every aligned offset of the window: a 64-bit write replaces its word, a 32-bit write one half of it,
the other half of an unwritten word being 0 (from R158).

REEL_WRITE completes in an EMPTY, LOADED, READY or FAILED slot, which becomes LOADED: its bytes are stored with the fetch line's CRC
renewed, and no other byte of either slot changes; any other state of the slot raises REEL_WR alone (from R161, R164).

VERIFY completes on a LOADED slot, which goes into its checks, and is refused with REEL_CMD on any other; VERIFY_DONE makes the slot
READY with result OK, or FAILED with the result of the first check that fails: header, CRC, signature, backing region; with a POOL
backing copy it waits until the copy can be written (from R163, R165, R195 to R197).

SWITCH completes on a READY slot, which becomes the ACTIVE one; the other becomes DRAINING, or READY at once where no context holds it.
CLEAR completes on a LOADED, READY or FAILED slot, which it empties, and leaves the other alone; both are refused from other states
(from R164, R166, R198). -/
def Obligations.ScratchAndReelWindows : Prop :=
  (∀ (off : BitVec 24) (v : W64) (s : State), capAnswers s = true → 0x600000 ≤ off.toNat → off.toNat < 0x640000 →
    let w := (off.toNat - 0x600000) / 8
    (off.toNat % 8 = 0 →
      ∃ t, exec (.scratchWrite off true v) s = .next t ∧ sFind t.dev.scratch w = some v ∧
        (∀ k, k ≠ w → sFind t.dev.scratch k = sFind s.dev.scratch k) ∧ Acked s t ∧
        t.dev = { s.dev with scratch := t.dev.scratch } ∧ Only [.cap, .dev] s t) ∧
    (off.toNat % 4 = 0 →
      ∃ t u, exec (.scratchWrite off false v) s = .next t ∧ sFind t.dev.scratch w = some u ∧
        fld u (8 * (off.toNat % 8)) 32 = v.toNat % 2 ^ 32 ∧
        fld u (32 - 8 * (off.toNat % 8)) 32 = fld ((sFind s.dev.scratch w).getD 0) (32 - 8 * (off.toNat % 8)) 32 ∧
        (∀ k, k ≠ w → sFind t.dev.scratch k = sFind s.dev.scratch k) ∧ Acked s t ∧
        t.dev = { s.dev with scratch := t.dev.scratch } ∧ Only [.cap, .dev] s t)) ∧
  (∀ (off : BitVec 24) (wide : Bool) (v : W64) (s : State), capAnswers s = true → 0x400000 ≤ off.toNat →
    off.toNat < 0x600000 → off.toNat % 0x100000 < 0x86000 → off.toNat % (if wide then 8 else 4) = 0 →
    let slotB := decide (0x500000 ≤ off.toNat)
    let x := off.toNat % 0x100000
    let n := if wide then 8 else 4
    ((reelState s slotB = 0 ∨ reelState s slotB = 1 ∨ reelState s slotB = 3 ∨ reelState s slotB = 6) →
      ∃ t, exec (.reelWrite off wide v) s = .next t ∧ reelState t slotB = 1 ∧
        (∀ i, i < n → memGet (reelBytes t slotB) (x + i) = byteAt v i) ∧
        (∀ a, (a < x ∨ x + n ≤ a) → memGet (reelBytes t slotB) a = memGet (reelBytes s slotB) a) ∧
        reelBytes t (!slotB) = reelBytes s (!slotB) ∧ (x / 64 < 8512 → lineGood t slotB (x / 64) = true) ∧
        (∀ k, k < 8512 → k ≠ x / 64 → lineCrcOf t slotB k = lineCrcOf s slotB k) ∧ Acked s t ∧
        Only [.cap, .regs, .dev] s t ∧ RegsOnly (· = 0x020010) s t) ∧
    (reelState s slotB ≠ 0 → reelState s slotB ≠ 1 → reelState s slotB ≠ 3 → reelState s slotB ≠ 6 →
      exec (.reelWrite off wide v) s = .next (wr (answered false 0 s) 0x010120 (rd s 0x010120 ||| 0x400#64)))) ∧
  (∀ (slotB : Bool) (s : State), capAnswers s = true →
    (reelState s slotB = 1 → ∃ t, exec (.verify slotB) s = .next t ∧ reelState t slotB = 2 ∧ Acked s t ∧
      Only [.cap, .regs] s t ∧ RegsOnly (· = 0x020010) s t) ∧
    (reelState s slotB ≠ 1 →
      exec (.verify slotB) s = .next (wr (answered false 0 s) 0x010120 (rd s 0x010120 ||| 0x800#64)))) ∧
  (∀ (slotB : Bool) (s : State), asleep s = false →
    let ended := fun (t : State) (res : Nat) => reelState t slotB = (if res = 1 then 3 else 6) ∧ rdf t 0x020014 0 4 = res ∧
      Caused t .verifyDone 0 ∧ reelBytes t true = reelBytes s true ∧ reelBytes t false = reelBytes s false
    let shape := headerOk s slotB && linesOk s slotB && signatureOk s slotB
    (reelState s slotB = 2 → (shape = false ∨ backingSrc s slotB ≠ 1 ∨ backingOk s slotB = false) →
      let res := if !headerOk s slotB then 2 else if !linesOk s slotB then 4 else if !signatureOk s slotB then 3
        else if backingSrc s slotB ≠ 1 then 1 else 5
      ∃ t, exec (.verifyDone slotB) s = .next t ∧ ended t res ∧ Only [.regs, .dev] s t ∧
        t.dev = { s.dev with misMatch := t.dev.misMatch } ∧
        RegsOnly (fun r => r = 0x020010 ∨ r = 0x020014 ∨ r = 0x010120) s t) ∧
    (reelState s slotB = 2 → shape = true → backingSrc s slotB = 1 → backingOk s slotB = true →
      (backingWaits s slotB = true → exec (.verifyDone slotB) s = .next s) ∧
      (backingWaits s slotB = false → s.mem.pwb = [] → NoCounter s →
        ∃ t, exec (.verifyDone slotB) s = .next t ∧ ended t 1 ∧ t.mem.pwb = [] ∧
          Only [.regs, .dev, .mem, .meter, .xbar, .picks] s t)) ∧
    (reelState s slotB ≠ 2 → exec (.verifyDone slotB) s = .next s)) ∧
  (∀ (slotB : Bool) (s : State), capAnswers s = true →
    (isSafe s = false → reelState s slotB = 3 → reelState s (!slotB) ≠ 5 → (reelAny s = true → compatible s slotB = true) →
      ∃ t, exec (.switch slotB) s = .next t ∧ reelState t slotB = 4 ∧ activeReel t = slotB ∧ reelAny t = true ∧
        rdf t 0x020014 4 4 = 1 ∧
        (reelAny s = true → reelHeld s (!slotB) = true → reelState t (!slotB) = 5) ∧
        (reelAny s = true → reelHeld s (!slotB) = false → reelState t (!slotB) = 3 ∧ Caused t .reelDrained 0) ∧
        (reelAny s = false → reelState t (!slotB) = reelState s (!slotB)) ∧ Acked s t ∧
        t.dev = { s.dev with misMatch := t.dev.misMatch } ∧ Only [.cap, .regs, .dev] s t ∧
        RegsOnly (fun r => r = 0x020010 ∨ r = 0x020014 ∨ r = 0x010120) s t) ∧
    (reelState s slotB = 1 ∨ reelState s slotB = 3 ∨ reelState s slotB = 6 →
      ∃ t, exec (.clear slotB) s = .next t ∧ reelState t slotB = 0 ∧ reelBytes t slotB = [] ∧
        reelBytes t (!slotB) = reelBytes s (!slotB) ∧ Acked s t ∧ Only [.cap, .regs, .dev] s t ∧
        RegsOnly (· = 0x020010) s t) ∧
    (reelState s slotB ≠ 1 → reelState s slotB ≠ 3 → reelState s slotB ≠ 6 →
      exec (.clear slotB) s = .next (wr (answered false 0 s) 0x010120 (rd s 0x010120 ||| 0x800#64))))

/-- REFETCH_DONE completes once the backing line can be read, from the posted write buffer or from DRAM, and REFILL_GO once a refill is
asked for: a line that matches its stored CRC replaces the line of the slot and raises FETCH_CE; any other enters Safelight state
with FETCH_DOUBLE. FETCH_TIMEOUT, of a refill that is late, enters it too (from R162, R163). -/
def Obligations.RefetchAndRefill : Prop :=
  (∀ (key : Nat) (s : State), asleep s = false → isSafe s = false → NoCounter s → key < 17024 → s.dev.refetch = [key] →
    s.dev.stalled = [] → backingSrc s (keyLine key).1 = 1 →
    let line := backingLine s (keyLine key).1 (keyLine key).2
    isDark s line = false → lineBlank s line = false →
    let repaired := fun (bs : List Byte) => lineCrcOf s (keyLine key).1 (keyLine key).2 = crc32 bs →
      ∃ t, exec .refetchDone s = .next t ∧ t.dev.refetch = [] ∧ Caused t .fetchCe 0 ∧
        fetchBytes t (keyLine key).1 (keyLine key).2 = bs ∧
        reelBytes t (!(keyLine key).1) = reelBytes s (!(keyLine key).1) ∧ t.mem.dram = s.mem.dram ∧
        Only [.regs, .dev, .mem, .meter] s t
    let second := fun (bs : List Byte) => lineCrcOf s (keyLine key).1 (keyLine key).2 ≠ crc32 bs →
      ∃ t, exec .refetchDone s = .next t ∧ Caused t .fetchDouble 0 ∧ isSafe t = true ∧
        reelBytes t true = reelBytes s true ∧ reelBytes t false = reelBytes s false ∧ t.mem.dram = s.mem.dram ∧
        Only [.regs, .dev, .safe, .mem, .meter] s t
    (∀ p, pwbFind s line = some p → p.seq < s.mem.opSeq → repaired (lineBytes p.data) ∧ second (lineBytes p.data)) ∧
    (∀ m co, pwbFind s line = none → ownReads s line false = true → lineChan s line = some (m, co) →
      let a := m * 2 ^ 39 + co
      sGet [] s.mem.burstErr (a / 64) = [] → ldwInvalid (sGet 0 s.mem.ldws (a / 64)) = false →
      repaired (memRead s.mem.dram a 64) ∧ second (memRead s.mem.dram a 64))) ∧
  (∀ s : State, asleep s = false → isSafe s = false → bitOf (rd s 0x020030) 31 = true →
    (let slotB := bitOf (rd s 0x020030) 30
     let k := rdf s 0x020030 0 14
     k < 8512 → s.dev.refetch = [fetchKey slotB k] → s.dev.stalled = [] →
     (lineCrcOf s slotB k = crc32 (refillBytes s) →
       ∃ t, exec .refillGo s = .next t ∧ t.dev.refetch = [] ∧ bitOf (rd t 0x020030) 31 = false ∧ Caused t .fetchCe 0 ∧
         fetchBytes t slotB k = refillBytes s ∧ reelBytes t (!slotB) = reelBytes s (!slotB) ∧ Acked s t ∧
         Only [.cap, .regs, .dev] s t) ∧
     (lineCrcOf s slotB k ≠ crc32 (refillBytes s) →
       ∃ t, exec .refillGo s = .next t ∧ Caused t .fetchDouble 0 ∧ isSafe t = true ∧ Acked s t ∧
         Only [.cap, .regs, .dev, .safe] s t)) ∧
    (∃ t, exec .fetchTimeout s = .next t ∧ Caused t .fetchTimeout 0 ∧ isSafe t = true ∧ Only [.regs, .safe] s t))

/-! ### Memory channels -/

/-- The channel commands, each from the state that accepts it: START, RESUME and EXIT lead to RUN, EXIT_INIT to INIT, PAUSE to
PAUSED where the park limit is above the pause limit. From any other state, with the island off, or during a self-refresh
entry, each raises MC_CMD and does nothing else (from R225, R228, R245, R248, R379).

SREF starts an entry when it would lose no used region, and SREF_DONE ends it in SREF; a pause that lasts too long ends in RUN
with PAUSE_TIMEOUT; the batch policy ends with its time (from R228, R235, R245 to R247).

DARKEN, from every state but DARK: the channel is DARK, an LF fault is counted, and with nothing queued nothing else is
lost (from R227, R332). -/
def Obligations.ChannelStates : Prop :=
  (∀ (m : Nat) (s : State), m < 8 → capAnswers s = true →
    ∀ p ∈ [(Instr.start m, 0, 1), (.resume m, 2, 1), (.exit m, 3, 1), (.exitInit m, 3, 0), (.pause m, 1, 2)],
      (chanOff s m = false → chanState s m = p.2.1 → srefPend s m = false →
        (p.1 = .pause m → rdf s (chanBase m + 0x50) 0 8 < rdf s 0x02001C 0 20) →
        ∃ t, exec p.1 s = .next t ∧ chanState t m = p.2.2 ∧ (chanOf t m).openRow = [] ∧
          (∀ k, k ≠ m → chanOf t k = chanOf s k) ∧ t.mem = { s.mem with chans := t.mem.chans } ∧ Acked s t ∧
          Only [.cap, .regs, .mem] s t ∧ RegsOnly (· = oMcStatus m) s t) ∧
      (chanOff s m = true ∨ chanState s m ≠ p.2.1 ∨ srefPend s m = true →
        exec p.1 s = .next (wr (answered false 0 s) (0x010300 + 8 * m) (rd s (0x010300 + 8 * m) ||| 0x100#64)))) ∧
  (∀ (m : Nat) (s : State), m < 8 → asleep s = false →
    (chanOff s m = false → chanState s m = 1 → srefPend s m = false → losesUsed s m = false → s.mem.memq = [] →
      s.mem.pwb = [] → s.mem.pwbWait = [] →
      ∃ t, exec (.sref m) s = .next t ∧ srefPend t m = true ∧ chanState t m = 1 ∧ Acked s t ∧
        (∀ r, r ∈ t.mem.written ↔ r ∈ s.mem.written ∧ ¬ ∃ g ∈ lostSegments s m, g.1 ≤ r ∧ r < g.1 + g.2) ∧
        Only [.cap, .regs, .mem] s t ∧ RegsOnly (· = oMcStatus m) s t) ∧
    (losesUsed s m = true →
      exec (.sref m) s = .next (wr (answered false 0 s) (0x010300 + 8 * m) (rd s (0x010300 + 8 * m) ||| 0x100#64))) ∧
    (srefPend s m = true →
      ∃ t, exec (.srefDone m) s = .next t ∧ chanState t m = 3 ∧ srefPend t m = false ∧ Caused t .srefDone m ∧
        (chanOf t m).openRow = [] ∧ Only [.regs, .mem] s t) ∧
    (chanOff s m = false → chanState s m = 2 → srefPend s m = false →
      ∃ t, exec (.pauseTimeout m) s = .next t ∧ chanState t m = 1 ∧ Caused t .pauseTimeout m ∧ Only [.regs] s t ∧
        RegsOnly (fun o => o = oMcStatus m ∨ o = 0x010300 + 8 * m) s t) ∧
    (∃ t, exec (.batchRecoverEnd m) s = .next t ∧ chanOf t m = { chanOf s m with recover := false } ∧
      (∀ k, k ≠ m → chanOf t k = chanOf s k) ∧ Only [.mem] s t)) ∧
  (∀ (m : Nat) (s : State), m < 8 → capAnswers s = true →
    (chanOff s m = false → chanState s m ≠ 4 → s.mem.memq = [] → s.mem.pwb = [] → s.mem.pwbWait = [] →
      (∀ k, (chanOf s k).lapInPool = false) →
      ∃ t, exec (.darken m) s = .next t ∧ chanState t m = 4 ∧ Caused t .chDark m ∧
        rd t 0x010028 = satInc32 (rd s 0x010028) ∧ t.mem = { s.mem with chans := t.mem.chans } ∧ Acked s t ∧
        Only [.cap, .regs, .mem] s t) ∧
    (chanState s m = 4 →
      exec (.darken m) s = .next (wr (answered false 0 s) (0x010300 + 8 * m) (rd s (0x010300 + 8 * m) ||| 0x100#64))))

/-- REFRESH, where no replay runs and R248 leaves it room, closes the rank's rows and lets its drift offsets take effect; REFRESH_POLL records the highest rate code, raises
REF_HOT as the channel becomes hot, and REF_COOL at the second cool poll (from R238, R239, R243, R248).

An alert starts a replay: counted, with CA_PARITY; one during a replay counts a failed replay and starts the next; the
fourth failed one in a row darkens the channel with CA_FAIL. A good replay issues the buffered commands again, a write's burst with
them, and clears the count (from R249, R250). -/
def Obligations.RefreshAndReplays : Prop :=
  (∀ (m rank : Nat) (r : RankRate) (s : State), m < 8 → asleep s = false → refreshing s m = true → rank < chanRanks s m →
    ((∀ sc, sc < 2 → replaying s m sc = false ∧ windowRoom s m sc 2 = true) → ∃ t, exec (.refresh m rank) s = .next t ∧
      (chanOf t m).openRow =
        (chanOf s m).openRow.filter (fun p => decide (p.1 / 32 ≠ rank) && decide (p.1 / 32 ≠ 8 + rank)) ∧
      (∀ sc q, sc < 2 → q < 3 → sGet 0 (chanOf t m).drift ((sc * 8 + rank) * 3 + q) =
        lo32 (rd s (chanBase m + 0x3000 + 0x1000 * sc + 0x100 * rank + 0xF4 + 4 * q))) ∧
      (∀ k, k ≠ m → chanOf t k = chanOf s k) ∧ Only [.mem] s t) ∧
    (r.crit = false →
      (r.hot = true → bitOf (rd s (oMcStatus m)) 5 = false →
        ∃ t, exec (.refreshPoll m [r]) s = .next t ∧ bitOf (rd t (oMcStatus m)) 5 = true ∧ Caused t .refHot m ∧
          rdf t (chanBase m + 0x44) 8 3 = r.code.toNat ∧ rdf t (chanBase m + 0x44) 12 3 = 0 ∧ Only [.regs, .mem] s t) ∧
      (r.hot = false → bitOf (rd s (oMcStatus m)) 5 = true → 1 ≤ (chanOf s m).cool →
        ∃ t, exec (.refreshPoll m [r]) s = .next t ∧ bitOf (rd t (oMcStatus m)) 5 = false ∧ Caused t .refCool m ∧
          rdf t (chanBase m + 0x44) 8 3 = r.code.toNat ∧ Only [.regs, .mem] s t) ∧
      (r.hot = false → bitOf (rd s (oMcStatus m)) 5 = true → (chanOf s m).cool = 0 →
        ∃ t, exec (.refreshPoll m [r]) s = .next t ∧ bitOf (rd t (oMcStatus m)) 5 = true ∧ (chanOf t m).cool = 1 ∧
          Only [.regs, .mem] s t))) ∧
  (∀ (m sc : Nat) (s : State), m < 8 → sc < 2 → asleep s = false → chanOff s m = false →
    let cnt := fun (u : State) => rdf u (oMcStatus m) (8 + 4 * sc) 3
    (chanState s m < 3 → replaying s m sc = false →
      ∃ t, exec (.alertN m sc) s = .next t ∧ replaying t m sc = true ∧ Caused t .caParity m ∧
        rd t (chanBase m + 0x74) = satInc32 (rd s (chanBase m + 0x74)) ∧ cnt t = cnt s ∧ chanState t m = chanState s m ∧
        Only [.regs, .mem] s t) ∧
    (replaying s m sc = true → cnt s < 3 →
      ∀ c ∈ [Instr.alertN m sc, .caReplayEnd m sc true], (c = .alertN m sc → chanState s m < 3) →
        ∃ t, exec c s = .next t ∧ replaying t m sc = true ∧ cnt t = cnt s + 1 ∧ Caused t .caParity m ∧
          chanState t m = chanState s m ∧ Only [.regs, .mem] s t) ∧
    (replaying s m sc = true → 3 ≤ cnt s → s.mem.memq = [] → s.mem.pwb = [] → s.mem.pwbWait = [] →
      (∀ k, (chanOf s k).lapInPool = false) →
      ∃ t, exec (.caReplayEnd m sc true) s = .next t ∧ chanState t m = 4 ∧ Caused t .caFail m ∧
        Only [.regs, .mem] s t) ∧
    (replaying s m sc = true → NoCounter s →
      ∃ t, exec (.caReplayEnd m sc false) s = .next t ∧ replaying t m sc = false ∧ cnt t = 0 ∧
        (chanOf t m).recover = decide (rdf s (chanBase m + 0x30) 20 8 ≠ 0) ∧ t.mem.dram = s.mem.dram ∧
        t.mem.ldws = s.mem.ldws ∧ Only [.regs, .mem, .meter] s t ∧ RegsOnly (· = oMcStatus m) s t ∧
        (∀ k, (schedOf s m sc).retry = [k] → k.op = .wr →
          sFind t.mem.burstErr (cmdBurst s m sc k) = none ∧
          sFind (chanOf t m).openRow (cmdBank sc k) = some k.row)))

/-! ### Training and delays -/

/-- A training primitive with a count starts in a state that Table MEM-7 allows: BUSY until TRN_DONE; with a count of 0 its
result is ZERO; from another state, or while one runs, its result is REFUSED with MC_CMD (from R240).

TRN_DONE ends the primitive with DONE: MRW has written a mode register of the device it names; MRR and RDCAP have captured a
burst, RDCAP the 80 bytes stored at MC_TRN_ADDR but for the bits that the transfer turned; CALOOP, WLVL and RCVEN report their pins or
nibbles; RDCMP, over a transfer without an error, reports the lanes on which the stored burst differs from the pattern, in each of its
COUNT reads; WRPAT has stored its pattern's 80 bytes (from R240, R253, R254, Table MEM-7).

A delay register takes a write in INIT and PAUSED and refuses it with MC_CMD in any other state; a drift register takes one in
every state (from R241, R243). -/
def Obligations.TrainingAndDelays : Prop :=
  (∀ (m : Nat) (v : W32) (s : State), m < 8 → capAnswers s = true →
    ∀ p ∈ [(Instr.mrw m v, 1), (.mrr m v, 2), (.caloop m v, 3), (.wlvl m v, 4), (.rcven m v, 5), (.wrpat m v, 6),
           (.rdcmp m v, 7), (.rdcap m v, 8)],
      let able := chanOff s m = false ∧ srefPend s m = false ∧
        (chanState s m = 0 ∨ chanState s m = 2 ∧ (p.2 ≤ 2 ∨ 7 ≤ p.2)) ∧ bitOf (rd s (oTrnSts m)) 31 = false
      (able → v.toNat / 2 ^ 14 % 2 ^ 16 ≠ 0 →
        ∃ t, exec p.1 s = .next t ∧ rd t (oTrnSts m) = 0x80000000#64 ∧ (chanOf t m).trn = some (p.2, v) ∧
          (∀ k, k ≠ m → chanOf t k = chanOf s k) ∧ Acked s t ∧ Only [.cap, .regs, .mem] s t ∧
          RegsOnly (fun o => o = oTrnSts m ∨ o = oTrnCtrl m) s t) ∧
      (able → v.toNat / 2 ^ 14 % 2 ^ 16 = 0 →
        ∃ t, exec p.1 s = .next t ∧ rdf t (oTrnSts m) 28 3 = 2 ∧ bitOf (rd t (oTrnSts m)) 31 = false ∧ Acked s t ∧
          Only [.cap, .regs] s t) ∧
      (¬ able →
        ∃ t, exec p.1 s = .next t ∧ rdf t (oTrnSts m) 28 3 = 3 ∧ Caused t .mcCmd m ∧ Acked s t ∧ Only [.cap, .regs] s t)) ∧
  (∀ (m op : Nat) (v : W32) (res : TrnResult) (s : State), m < 8 → asleep s = false → (chanOf s m).trn = some (op, v) →
    let sc := v.toNat / 2 ^ 12 % 2
    let rank := v.toNat / 2 ^ 9 % 8
    let cnt := v.toNat / 2 ^ 14 % 2 ^ 16
    let a := m * 2 ^ 39 + trnOffset s m sc rank
    ∃ t, exec (.trnDone m res) s = .next t ∧ rdf t (oTrnSts m) 28 3 = 1 ∧ bitOf (rd t (oTrnSts m)) 31 = false ∧
      (chanOf t m).trn = none ∧ Only [.regs, .mem] s t ∧
      (op = 1 → sGet 0 (chanOf t m).mode (modeKey sc rank (v.toNat / 2 ^ 13 % 2) (rdf s (chanBase m + 0x2008) 0 8)) =
        BitVec.ofNat 8 (rdf s (chanBase m + 0x2008) 8 8)) ∧
      (op = 2 → ∀ j, j < 20 → rd t (chanBase m + 0x2080 + 4 * j) = (res.burst.getD j 0).setWidth 64) ∧
      (op = 8 → trnExists s m sc rank = true → ∀ i, i < 80 →
        fld (rd t (chanBase m + 0x2080 + 4 * (i / 4))) (8 * (i % 4)) 8 =
          ((rawBurst s a).getD i 0 ^^^ (trnBytes res.burst).getD i 0).toNat) ∧
      ((op = 4 ∨ op = 5 ∨ op = 3 ∧ res.errs ≠ 0 ∧ cnt ≠ 0) → rd t (chanBase m + 0x2010) = w64 (res.lanes.toNat % 2 ^ 10)) ∧
      (op = 3 → rdf t (oTrnSts m) 0 16 = if res.lanes.toNat % 2 ^ 10 = 0 then 0 else min res.errs cnt) ∧
      (op = 7 → res.errs = 0 → trnExists s m sc rank = true →
        let l := lanesOf (bitOf (rd s (oMcCfg m)) 4) (rawBurst s a) (trnPattern s m)
        rd t (chanBase m + 0x2010) = w64 (l.toNat % 2 ^ 32) ∧ rd t (chanBase m + 0x2014) = w64 (l.toNat / 2 ^ 32) ∧
          rdf t (oTrnSts m) 0 16 = if l = 0 then 0 else cnt) ∧
      (op = 6 → trnExists s m sc rank = true →
        (∀ i, i < 64 → memGet t.mem.dram (a + i) = (trnPattern s m).getD i 0) ∧ rawBurst t a = trnPattern s m ∧
        (∀ b, (b < a ∨ a + 64 ≤ b) → memGet t.mem.dram b = memGet s.mem.dram b)) ∧
      (op ≠ 6 → t.mem.dram = s.mem.dram)) ∧
  (∀ (m : Nat) (off : BitVec 16) (v : W32) (d : RegDesc) (s : State), m < 8 → capAnswers s = true →
    regDesc (chanBase m + off.toNat) = some d → d.w1c = 0 → d.w1s = 0 →
    let o := chanBase m + off.toNat
    let new := (rd s o &&& ~~~(w64 d.rw &&& 0xFFFFFFFF#64)) ||| (v.setWidth 64 &&& (w64 d.rw &&& 0xFFFFFFFF#64))
    (isDelay off.toNat = true →
      (chanState s m = 0 ∨ chanState s m = 2 ∧ srefPend s m = false →
        exec (.delayWrite m off v) s = .next (wr (answered false 0 s) o new)) ∧
      (chanState s m = 1 ∨ 3 ≤ chanState s m →
        exec (.delayWrite m off v) s = .next
          (wr (answered false 0 s) (0x010300 + 8 * m) (rd s (0x010300 + 8 * m) ||| 0x100#64)))) ∧
    (isDrift off.toNat = true → exec (.driftWrite m off v) s = .next (wr (answered false 0 s) o new)))

/-! ### The line code, blank regions, the scrubber and page retirement -/

/-- ERASURE_DECLARE takes the register's fields unless it would declare a device on a rank of x8 devices or a device that does
not exist, which raises CD_CMD; DEV_THRESH is raised once for a counter at or above its threshold (from R260, R261).

BLANK makes a region blank again: every line of it reads BLANK and every other region stays, unless a tray range, a backing
region or the spare range holds it; QUERY reports a region's state (from R263, R267).

FILL_LINE writes the walk's next line of a developing region as zero with an EMPTY LDW and marks it filled (from R265). -/
def Obligations.LineCodeCommands : Prop :=
  (∀ (m sc rank dev : Nat) (v : W32) (s : State), m < 8 → sc < 2 → rank < 8 → dev < 10 → asleep s = false →
    let o := chanBase m + 0x8020 + 0x20 * sc + 4 * rank
    let bad := bitOf v 31 = true ∧ (bitOf (rd s (oMcCfg m)) 4 = true ∨ 9 < v.toNat % 16)
    let cnt := rdf s (chanBase m + 0x8100 + 0x100 * sc + 0x20 * rank + 4 * (dev / 2)) (16 * (dev % 2)) 16
    let t0 := rdf s (chanBase m + 0x8018) 0 16
    (¬ bad → ∃ t, exec (.erasureDeclare m sc rank v) s = .next t ∧ bitOf (rd t o) 31 = bitOf v 31 ∧
      rdf t o 0 4 = v.toNat % 16 ∧ Acked s t ∧ Only [.cap, .regs] s t ∧ RegsOnly (· = o) s t) ∧
    (bad → exec (.erasureDeclare m sc rank v) s = .next
      (wr (answered false 0 s) (0x010300 + 8 * m) (rd s (0x010300 + 8 * m) ||| 0x20000#64))) ∧
    (t0 ≠ 0 → t0 ≤ cnt → (chanOf s m).thresh = [] →
      ∃ t, exec (.devThresh m sc rank dev) s = .next t ∧ Caused t .devThresh m ∧
        (chanOf t m).thresh = [devKey sc rank dev] ∧ Only [.regs, .mem] s t ∧ RegsOnly (· = 0x010300 + 8 * m) s t) ∧
    (t0 = 0 ∨ cnt < t0 ∨ devKey sc rank dev ∈ (chanOf s m).thresh → exec (.devThresh m sc rank dev) s = .next s)) ∧
  (∀ (g : BitVec 22) (s : State), capAnswers s = true →
    (blankRefused s g.toNat = false →
      ∃ t, exec (.blank g) s = .next t ∧ rdf t 0x209004 0 2 = 1 ∧ (∀ l, l / 2 ^ 14 = g.toNat → lineBlank t l = true) ∧
        (∀ l, l / 2 ^ 14 ≠ g.toNat → lineBlank t l = lineBlank s l) ∧ t.mem.dram = s.mem.dram ∧ Acked s t ∧
        Only [.cap, .regs, .mem] s t ∧ RegsOnly (fun o => o = 0x209000 ∨ o = 0x209004) s t) ∧
    (blankRefused s g.toNat = true →
      ∃ t, exec (.blank g) s = .next t ∧ rdf t 0x209004 0 2 = 2 ∧ Caused t .cdCmd 0 ∧ t.mem = s.mem ∧ Acked s t ∧
        Only [.cap, .regs] s t) ∧
    (∃ t, exec (.query g) s = .next t ∧ rdf t 0x209004 0 2 = 1 ∧ Acked s t ∧ Only [.cap, .regs] s t ∧
      rdf t 0x209004 4 2 =
        if regionBlank s g.toNat = false then 0 else if (fillOf s g.toNat).isSome then 2 else 1)) ∧
  (∀ (slot : Nat) (f : Fill) (s : State), slot < 16 → InRun s → s.mem.fills = [(slot, f)] →
    regionBlank s f.region = true → f.walk < 16384 → f.filled.length < 16383 →
    let l := f.region * 16384 + f.walk
    l ∉ f.filled → holderOf s l = none → entriesFor s 1 = true → isDark s l = false → pwbFree s = true →
    ∃ t p, exec (.fillLine slot) s = .next t ∧ t.mem.pwb = s.mem.pwb ++ [p] ∧ p.line = l ∧ p.data = 0 ∧ p.fog = false ∧
      p.ldw = 0 ∧ t.mem.fills = [(slot, { f with filled := l :: f.filled, walk := (f.walk + 1) % 16384 })] ∧
      t.mem.dram = s.mem.dram ∧ Only [.mem] s t)

/-- PATROL_SCRUB_READ, where no replay runs and R248 leaves it room, visits the next location: a corrected symbol raises MEM_CE and asks for a rewrite of the line with the data
it found; where no region has bursts the lap of the subchannel ends (from R248, R268 to R270).

SCRUB_REWRITE writes the line again where a second read agrees with the first, and drops the request where it does not
(from R269).

COPY takes the lowest free entry of the remap table and is BUSY; LOAD, before dispatch, makes it valid at once; both are
refused with CD_CMD where R272 refuses them (from R272, R274).

REMAP_COPY_SECTOR copies the next sector: a line that holds data reaches the new page with its LDW, a line that reads BLANK
writes nothing; the sixteenth sector makes the entry valid and raises RMP_DONE (from R272, R273). -/
def Obligations.ScrubAndRemap : Prop :=
  (∀ (m : Nat) (s : State), m < 8 → InRun s → bitOf (rd s (chanBase m + 0x8000)) 31 = true →
    chanServes s m = true → chanPresent s m = true → (chanOf s m).lap0 = false → ownRoom s m 0 = true →
    (∀ (i co line : Nat) (x : Byte), i < 64 → x ≠ 0 → (chanOf s m).pos0 < subLines s m →
      patrolNext s m 0 (chanOf s m).pos0 = (chanOf s m).pos0 →
      patrolNext s m 0 ((chanOf s m).pos0 + 1) < subLines s m →
      heldLine s (locLine s m 0 (chanOf s m).pos0) = some line → regionBlank s (line / 2 ^ 14) = false →
      pwbFind s line = none → lineChan s line = some (m, co) →
      let a := m * 2 ^ 39 + co
      let w := sGet 0 s.mem.ldws (a / 64)
      sGet [] s.mem.burstErr (a / 64) = [] → ldwInvalid w = false →
      bitOf (rd s (chanBase m + 0x8020 + 0x20 * (coordOf s m co).sc + 4 * (coordOf s m co).rank)) 31 = false →
      ∃ t, exec (.patrolScrubRead m 0 [(i, x)]) s = .next t ∧ Caused t .memCe m ∧
        rd t (chanBase m + 0x8010) = satInc32 (rd s (chanBase m + 0x8010)) ∧
        sFind t.mem.rewrites line = some (lineOf (memRead s.mem.dram a 64), w) ∧
        (chanOf t m).pos0 = (chanOf s m).pos0 + 1 ∧ t.mem.dram = s.mem.dram ∧ Only [.regs, .mem, .meter] s t) ∧
    (scrubRegions s m = [] → (chanOf s m).lap1 = false →
      ∃ t, exec (.patrolScrubRead m 0 []) s = .next t ∧ (chanOf t m).lap0 = true ∧ Only [.mem] s t)) ∧
  (∀ (line : Nat) (d : LineBits) (w : W32) (p : PwbLine) (s : State), line < 2 ^ 36 → asleep s = false → isSafe s = false →
    sFind s.mem.rewrites line = some (d, w) → holderOf s line = none → entriesFor s 1 = true → isDark s line = false →
    regionBlank s (line / 2 ^ 14) = false → pwbFree s = true → pwbFind s line = some p → p.seq < s.mem.opSeq →
    (heldEntry s (line / 4)).isSome = true →
    (p.data = d → p.ldw = w →
      ∃ t q, exec (.scrubRewrite line []) s = .next t ∧ t.mem.pwb = s.mem.pwb ++ [q] ∧ q.line = line ∧ q.data = d ∧
        q.ldw = w ∧ sFind t.mem.rewrites line = none ∧ Only [.mem] s t) ∧
    (p.data ≠ d ∨ p.ldw ≠ w →
      ∃ t, exec (.scrubRewrite line []) s = .next t ∧ t.mem.pwb = s.mem.pwb ∧ sFind t.mem.rewrites line = none ∧
        Only [.mem] s t)) ∧
  (∀ (e : Nat) (s : State), capAnswers s = true → rmpFree s = some e →
    let old := rdf s 0x209020 0 30
    let new := rdf s 0x209024 0 30
    (rmpRefused s old new = false →
      (s.dev.running = true → isSafe s = false →
        ∃ t, exec .copy s = .next t ∧ rd t (oRmp e) = w64 (2 ^ 62 + 2 ^ 32 * new + old) ∧
          bitOf (rd t 0x20902C) 31 = true ∧ rdf t 0x20902C 0 5 = 0 ∧ rdf t 0x20902C 5 10 = e ∧
          rdf t 0x20902C 28 3 = 0 ∧ Acked s t ∧ Only [.cap, .regs] s t ∧
          RegsOnly (fun o => o = oRmp e ∨ o = 0x20902C) s t) ∧
      (s.dev.running = false →
        ∃ t, exec .load s = .next t ∧ rd t (oRmp e) = w64 (2 ^ 63 + 2 ^ 32 * new + old) ∧ rdf t 0x20902C 28 3 = 1 ∧
          Acked s t ∧ Only [.cap, .regs] s t ∧ RegsOnly (fun o => o = oRmp e ∨ o = 0x20902C) s t)) ∧
    ((rmpRefused s old new = true ∨ s.dev.running = false ∨ isSafe s = true) →
      ∃ t, exec .copy s = .next t ∧ rdf t 0x20902C 28 3 = 2 ∧ Caused t .cdCmd 0 ∧ Acked s t ∧ Only [.cap, .regs] s t) ∧
    ((rmpRefused s old new = true ∨ s.dev.running = true) →
      ∃ t, exec .load s = .next t ∧ rdf t 0x20902C 28 3 = 2 ∧ Caused t .cdCmd 0 ∧ Acked s t ∧ Only [.cap, .regs] s t)) ∧
  (∀ (m co m2 co2 : Nat) (s : State), InRun s →
    let e := rdf s 0x20902C 5 10
    let old := rdf s (oRmp e) 0 30
    let new := rdf s (oRmp e) 32 30
    let k := rdf s 0x20902C 0 5
    let l := old * 64 + 4 * k
    bitOf (rd s 0x20902C) 31 = true → k < 16 → copyReady s old new k = true →
    (∀ i, 1 ≤ i → i < 4 → lineBlank s (l + i) = true) → lineBlank s l = false → lineChan s l = some (m, co) →
    mapAddr s ((new * 64 + 4 * k) * 64) = some (m2, co2) → chanState s m = 1 → chanState s m2 = 1 →
    let a := m * 2 ^ 39 + co
    let b := m2 * 2 ^ 39 + co2
    let w := sGet 0 s.mem.ldws (a / 64)
    sGet [] s.mem.burstErr (a / 64) = [] → ldwInvalid w = false →
    ∃ t, exec (.remapCopySector []) s = .next t ∧
      (∀ i, i < 64 → memGet t.mem.dram (b + i) = memGet s.mem.dram (a + i)) ∧
      (∀ x, (x < b ∨ b + 64 ≤ x) → memGet t.mem.dram x = memGet s.mem.dram x) ∧
      sGet 0 t.mem.ldws (b / 64) = w ∧
      (k < 15 → rdf t 0x20902C 0 5 = k + 1 ∧ bitOf (rd t 0x20902C) 31 = true ∧ rd t (oRmp e) = rd s (oRmp e)) ∧
      (k = 15 → bitOf (rd t 0x20902C) 31 = false ∧ rdf t 0x20902C 28 3 = 1 ∧ bitOf (rd t (oRmp e)) 63 = true ∧
        bitOf (rd t (oRmp e)) 62 = false ∧ Caused t .rmpDone 0) ∧
      Only [.regs, .mem, .meter] s t)

/-! ### Links -/

/-- The link commands: ENABLE leads to TRAINING, or is refused with EPOCH_WRAP after 255 advances of the epoch; RETRAIN leads from
UP to RECOVERY; DISABLE and RETIRE take a link, or both links of a port, out of service, from UP with its agents. A command from
any other state raises PORT_CMD and does nothing else. ENABLE and RETIRE take the island's steps (from R96, R297 to R299, R347).

Training that locks enough lanes brings the link UP and attaches its agent; training or recovery that lasts too long takes the
link DOWN with an LF fault; a recovery that locks brings it UP again, narrower where lanes are missing, and each end asks for a
replay and replays (from R279, R290, R297 to R299, R372). -/
def Obligations.LinkStates : Prop :=
  (∀ (n : Nat) (sub : Bool) (s : State), n < 16 → capAnswers s = true → s.dev.ctxs = [] → s.home.latent = [] →
    s.dev.byRule = false →
    let a := subAgent n sub
    let st := linkState s a
    let refused := Host.Outcome.next (wr (answered false 0 s) (0x010200 + 8 * n) (rd s (0x010200 + 8 * n) ||| 0x1000#64))
    let idle := agentExists s a = true ∧ (st = 0 ∨ st = 4 ∨ st = 5) ∧ isSafe s = false ∧ sweeping s a = false
    let steps := if bitOf (rd s oIslSts) n && !stepsLeft s n then 3 else 1
    let stepped := fun (t : State) (k : Nat) =>
      if s.aon.stepQ = [] ∧ s.aon.stepWait = 0 then
        t.aon = { s.aon with stepQ := List.replicate (k - 1) n, stepWait := 1000 } ∧ RegsOnly (· = oPtStatus n) s t
      else t.aon = { s.aon with stepQ := s.aon.stepQ ++ List.replicate k n } ∧ Caused t .stepHold 0
    (idle → (linkOf s a).adv < 255 →
      ∃ t, exec (.linkEnable n sub) s = .next t ∧ linkState t a = 1 ∧ stepped t steps ∧ Acked s t ∧
        Only [.cap, .regs, .aon] s t) ∧
    (idle → 255 ≤ (linkOf s a).adv →
      ∃ t, exec (.linkEnable n sub) s = .next t ∧ Caused t .epochWrap 0 ∧ Caused t .portCmd n ∧ linkState t a = st ∧
        Acked s t ∧ Only [.cap, .regs] s t) ∧
    (¬ idle → exec (.linkEnable n sub) s = refused) ∧
    (agentExists s a = true → st = 2 →
      ∃ t, exec (.retrain n sub) s = .next t ∧ linkState t a = 3 ∧ (linkOf t a).lock = false ∧
        (linkOf t a).replayBuf = (linkOf s a).replayBuf ∧ detached t a = detached s a ∧ Acked s t ∧
        Only [.cap, .regs, .links] s t ∧ RegsOnly (· = oPtStatus n) s t) ∧
    (agentExists s a = false ∨ st ≠ 2 → exec (.retrain n sub) s = refused) ∧
    (agentExists s a = true → st = 1 →
      ∃ t, exec (.linkDisable n sub) s = .next t ∧ linkState t a = 0 ∧ detached t a = detached s a ∧
        (linkOf t a).epoch = (linkOf s a).epoch ∧ (linkOf t a).txq = [] ∧ (∀ b, b ≠ a → linkOf t b = linkOf s b) ∧
        Acked s t ∧ Only [.cap, .regs, .links, .xbar] s t ∧ RegsOnly (· = oPtStatus n) s t) ∧
    (agentExists s a = true → st = 2 →
      ∃ t, exec (.linkDisable n sub) s = .next t ∧ LinkLeft s t a 0 ∧ (∀ b, b ≠ a → linkOf t b = linkOf s b) ∧ Acked s t ∧
        Only [.cap, .regs, .links, .home, .sheet, .xbar] s t ∧ RegsOnly (· = oPtStatus n) s t) ∧
    (agentExists s a = false ∨ st ≠ 1 ∧ st ≠ 2 → exec (.linkDisable n sub) s = refused) ∧
    (agentExists s a = true → st = 2 ∨ st = 4 →
      ∃ t, exec (.linkRetire n sub) s = .next t ∧ LinkLeft s t (2 * n) 5 ∧
        (bitOf (rd s (oPtCfg n)) 2 = true → LinkLeft s t (2 * n + 1) 5) ∧ (∀ b, b / 2 ≠ n → linkOf t b = linkOf s b) ∧
        stepped t 3 ∧ Acked s t ∧ Only [.cap, .regs, .links, .home, .sheet, .xbar, .aon] s t) ∧
    (agentExists s a = false ∨ st ≠ 2 ∧ st ≠ 4 → exec (.linkRetire n sub) s = refused)) ∧
  (∀ (a : Nat) (lanes : BitVec 8) (s : State), a < 32 → agentExists s a = true → asleep s = false → s.dev.ctxs = [] →
    s.home.latent = [] → s.dev.byRule = false →
    let tries := rdf s (portBase (a / 2) + 0x18) 16 4
    (∀ b w, linkState s a = 1 → laneGroup (linkLanes s a) lanes = some (b, w) → minWidth s a ≤ w →
      (isZcl s a = true → tries ≠ 0) →
      ∃ t, exec (.linkUp a lanes) s = .next t ∧ linkState t a = 2 ∧ detached t a = false ∧ linkWidth t a = widthCode w ∧
        (linkTrained t a).toNat = lanes.toNat % 2 ^ linkLanes s a ∧ (linkOf t a).lock = true ∧
        (linkOf t a).epoch = (linkOf s a).epoch ∧ (linkOf t a).replayBuf = [] ∧ Caused t .linkUp (a / 2) ∧
        (isZcl s a = true → (linkOf t a).want = some 0 ∧
          ∃ ccl cnt, t.tx = s.tx ++ [.flit a (replayFlit 0 0 0xFFF ccl cnt)]) ∧
        (isZcl s a = false → t.tx = s.tx) ∧ Only [.regs, .links, .meter, .tx, .xbar] s t) ∧
    (∀ p ∈ [(Instr.trainingTimeout a, 1), (.recoveryTimeout a, 3)], linkState s a = p.2 →
      ∃ t, exec p.1 s = .next t ∧ LinkLeft s t a 4 ∧ Caused t .portDown (a / 2) ∧
        rd t 0x010028 = satInc32 (rd s 0x010028) ∧ Only [.regs, .links, .home, .sheet, .xbar] s t) ∧
    (∀ b w, linkState s a = 3 →
      laneGroup (linkLanes s a) (if (linkOf s a).widen then lanes else lanes &&& linkTrained s a) = some (b, w) →
      minWidth s a ≤ w → (isZcl s a = true → tries ≠ 0) →
      let k := linkOf s a
      ∃ t, exec (.recoveryLock a lanes) s = .next t ∧ linkState t a = 2 ∧ linkWidth t a = widthCode w ∧
        (linkOf t a).lock = true ∧ (linkOf t a).replayBuf = k.replayBuf ∧ Caused t .linkUp (a / 2) ∧
        (widthCode w < linkWidth s a → Caused t .degrade (a / 2)) ∧
        (isZcl s a = true → ∃ ccl cnt fl,
          t.tx = s.tx ++ .flit a (replayFlit (k.rxAck + 1) k.txSeq k.rxAck ccl cnt) :: fl ∧
          fl.length = min 30 k.replayBuf.length ∧
          (∀ i p, i < 30 → k.replayBuf[i]? = some p → ∃ c n, fl[i]? = some (.flit a (slotFlit p.1 k.rxAck c n p.2))) ∧
          (linkOf t a).jobs = (k.replayBuf.drop 30).map (fun p => .again p.1 p.2)) ∧
        (isZcl s a = false → t.tx = s.tx) ∧ Only [.regs, .links, .meter, .tx] s t))

/-- A ZCL receiver without lock moves its link to RECOVERY when its time is up; a replay request resends the flits from FROM on, or
is counted on a CXL link; a request not answered in time is repeated, and TRIES of them lead to RECOVERY (from R290, R296).

FLIT_RECEIVE: without lock only a position passes. With lock, a flit that fails its CRC is discarded and requested again; an IDLE
flit acknowledges flits and returns snoop credits; a CTRL REPLAY resends; the next flit in order delivers its slots, of which a
reserved opcode is discarded with PROTO, or DETACHED; one delivered before is dropped; a gap is requested (from R285, R287, R295,
R296, R409). -/
def Obligations.FlitsAndReplays : Prop :=
  (∀ (a : Nat) (fr : BitVec 12) (s : State), a < 32 → asleep s = false → linkState s a = 2 →
    let k := linkOf s a
    let tries := rdf s (portBase (a / 2) + 0x18) 16 4
    (isZcl s a = true → k.lock = false →
      ∃ t, exec (.lockTimeout a) s = .next t ∧ linkState t a = 3 ∧ (linkOf t a).replayBuf = k.replayBuf ∧
        Only [.regs, .links] s t ∧ RegsOnly (· = oPtStatus (a / 2)) s t) ∧
    (isZcl s a = true → (∀ j ∈ k.jobs, ∃ q l, j = .again q l) →
      ∃ t, exec (.replay a fr) s = .next t ∧ Resent s t a (k.replayBuf.dropWhile (fun p => decide (p.1 ≠ fr))) ∧
        (linkOf t a).replayBuf = k.replayBuf ∧ Only [.links, .tx] s t) ∧
    (isZcl s a = false →
      exec (.replay a fr) s = .next (wr s (portBase (a / 2) + 0x48) (satInc32 (rd s (portBase (a / 2) + 0x48))))) ∧
    (∀ w, isZcl s a = true → k.want = some w →
      (k.tries < tries →
        ∃ t, exec (.replayTimeout a) s = .next t ∧ Requested s t a w k.rxAck ∧ (linkOf t a).want = some w ∧
          (linkOf t a).tries = k.tries + 1 ∧ (linkOf t a).replayBuf = k.replayBuf ∧
          rd t (portBase (a / 2) + 0x48) = satInc32 (rd s (portBase (a / 2) + 0x48)) ∧
          Only [.regs, .links, .meter, .tx] s t) ∧
      (tries ≤ k.tries →
        ∃ t, exec (.replayTimeout a) s = .next t ∧ linkState t a = 3 ∧ (linkOf t a).lock = false ∧ t.tx = s.tx ∧
          Only [.regs, .links] s t))) ∧
  (∀ (a : Nat) (raw : List Byte) (s : State), a < 32 → InRun s → zclUp s a = true → raw.length = 256 →
    let k := linkOf s a
    let tries := rdf s (portBase (a / 2) + 0x18) 16 4
    let bs := (fecDecode raw).1
    let h := BitVec.ofNat 32 (byteField bs 0 4)
    let q := BitVec.ofNat 12 (fld h 0 12)
    let kept := k.replayBuf.filter (fun p => decide (2048 ≤ seqBehind (BitVec.ofNat 12 (fld h 12 12)) p.1))
    let failed := crcGood bs = false ∨ flitKind bs = .bad
    let asked := if k.want.isSome then k.tries else 0
    (k.lock = false →
      exec (.flitReceive a raw) s = .next (setLink a (fun l => { l with candidates := nextPosition l.candidates }) s)) ∧
    (k.lock = true → failed →
      ∃ t, exec (.flitReceive a raw) s = .next t ∧ Caused t .crcErr (a / 2) ∧
        rd t (portBase (a / 2) + 0x44) = satInc32 (rd s (portBase (a / 2) + 0x44)) ∧ (linkOf t a).rxSeq = k.rxSeq ∧
        (linkOf t a).slots = k.slots ∧
        (asked < tries → Requested s t a (k.want.getD (k.rxSeq + 1)) k.rxAck ∧
          (linkOf t a).want = some (k.want.getD (k.rxSeq + 1)) ∧ (linkOf t a).tries = asked + 1 ∧
          (linkOf t a).lock = decide (k.crcRun + 1 < 8)) ∧
        (tries ≤ asked → t.tx = s.tx ∧ linkState t a = 3) ∧ Only [.regs, .links, .meter, .tx] s t) ∧
    (k.lock = true → ¬ failed → flitKind bs = .idle →
      ∃ t, exec (.flitReceive a raw) s = .next t ∧ (linkOf t a).crcRun = 0 ∧ (linkOf t a).rxSeq = k.rxSeq ∧
        (linkOf t a).replayBuf = kept ∧
        (linkOf t a).cumSnp = (if fld h 26 2 = 2 then (k.cumSnp + fld h 28 4) % 2 ^ 16 else k.cumSnp) ∧
        Only [.regs, .links] s t) ∧
    (∀ fr, k.lock = true → ¬ failed → flitKind bs = .replay fr → (∀ j ∈ k.jobs, ∃ q l, j = .again q l) →
      ∃ t, exec (.flitReceive a raw) s = .next t ∧ Resent s t a (kept.dropWhile (fun p => decide (p.1 ≠ fr))) ∧
        (linkOf t a).replayBuf = kept ∧ Only [.regs, .links, .tx] s t) ∧
    (∀ m l, k.lock = true → ¬ failed → flitKind bs = .slots l → (k.want = none ∨ k.want = some q) →
      (q = k.rxSeq + 1 → k.slots = [] → l = [m] → fld m 0 6 = 0x15 →
        ∃ t, exec (.flitReceive a raw) s = .next t ∧
          Caused t (if detached s a then .detached else .proto) (a / 2) ∧ (linkOf t a).rxSeq = q ∧
          (linkOf t a).slots = [] ∧ (linkOf t a).want = none ∧ Only [.regs, .links, .meter] s t) ∧
      (q ≠ k.rxSeq + 1 → seqBehind k.rxSeq q < 2048 →
        ∃ t, exec (.flitReceive a raw) s = .next t ∧ (linkOf t a).rxSeq = k.rxSeq ∧ (linkOf t a).slots = k.slots ∧
          Only [.regs, .links] s t) ∧
      (q ≠ k.rxSeq + 1 → 2048 ≤ seqBehind k.rxSeq q → tries ≠ 0 →
        ∃ t, exec (.flitReceive a raw) s = .next t ∧ Requested s t a (k.rxSeq + 1) k.rxAck ∧
          (linkOf t a).rxSeq = k.rxSeq ∧ (linkOf t a).slots = k.slots ∧ (linkOf t a).want = some (k.rxSeq + 1) ∧
          Only [.regs, .links, .meter, .tx] s t)))

/-- WEDGE_RECEIVE: with lock, a good wedge frees what it acknowledges and states the snoop credits, with CRD_SYNC where the counts
differ; a missed one is counted and its flits requested, and the second in a row loses lock. Without lock, a good wedge is a
candidate, and the second of two a period apart gains lock (from R288, R290, R291, R295).

WEDGE_SEND: the positions left before the wedge all go out as flits, then a wedge of 256 bytes that is good and carries SYNC,
WEDGE_NUM, the SEQ of the next flit, the link's ACK and FT, its lanes scrambled from their seeds after the sync mark; the next
wedge's number is one higher, and what waits to be sent again follows it (from R286, R289, R291, R296, Table LINK-5). -/
def Obligations.Wedges : Prop :=
  (∀ (a : Nat) (raw : List Byte) (s : State), a < 32 → asleep s = false → zclUp s a = true → raw.length = 256 →
    let k := linkOf s a
    let tries := rdf s (portBase (a / 2) + 0x18) 16 4
    let bs := (fecDecode raw).1
    let snp := byteField bs 32 2
    let heard := fun (t : State) => (linkOf t a).cumSnp = snp ∧ (linkOf t a).echoFt = w64 (byteField bs 10 8) ∧
      (linkOf t a).echoAt = s.aon.ft ∧ (snp ≠ k.cumSnp → Caused t .crdSync (a / 2)) ∧
      (linkOf t a).replayBuf =
        k.replayBuf.filter (fun p => decide (2048 ≤ seqBehind (BitVec.ofNat 12 (byteField bs 8 2)) p.1)) ∧
      (linkOf t a).eqIn = k.eqIn ++ (List.range (linkLanes s a)).map (fun j => (j, bs.getD (68 + j) 0)) ∧
      (∀ j, j < linkLanes s a →
        rd t (portBase (a / 2) + 0x120 + 4 * portLane s a j) = w64 (byteField bs (36 + 4 * j) 4))
    (k.lock = true → wedgeGood bs = true →
      ∃ t, exec (.wedgeReceive a raw) s = .next t ∧ heard t ∧ (linkOf t a).misses = 0 ∧ (linkOf t a).crcRun = 0 ∧
        (linkOf t a).rxAck = k.rxSeq ∧ (linkOf t a).lock = true ∧ Only [.regs, .links] s t) ∧
    (k.lock = true → wedgeGood bs = false → (if k.want = some (k.rxAck + 1) then k.tries else 0) < tries →
      ∃ t, exec (.wedgeReceive a raw) s = .next t ∧ Caused t .syncMiss (a / 2) ∧
        rd t (portBase (a / 2) + 0x4C) = satInc32 (rd s (portBase (a / 2) + 0x4C)) ∧
        Requested s t a (k.rxAck + 1) k.rxAck ∧ (linkOf t a).want = some (k.rxAck + 1) ∧
        (linkOf t a).lock = (decide (k.misses = 0) && (crcGood bs || decide (k.crcRun + 1 < 8))) ∧
        (linkOf t a).rxAck = k.rxAck ∧ Only [.regs, .links, .meter, .tx] s t) ∧
    (k.lock = false → wedgeGood bs = false →
      exec (.wedgeReceive a raw) s = .next (setLink a (fun l => { l with candidates := nextPosition l.candidates }) s)) ∧
    (k.lock = false → wedgeGood bs = true → 31 ∉ k.candidates →
      exec (.wedgeReceive a raw) s = .next (setLink a (fun l =>
        { l with candidates := nextPosition l.candidates ++ [0] }) s)) ∧
    (k.lock = false → wedgeGood bs = true → 31 ∈ k.candidates →
      (if k.want = some (k.rxSeq + 1) then k.tries else 0) < tries →
      ∃ t, exec (.wedgeReceive a raw) s = .next t ∧ heard t ∧ (linkOf t a).lock = true ∧ (linkOf t a).rxAck = k.rxSeq ∧
        (linkOf t a).want = some (k.rxSeq + 1) ∧ Requested s t a (k.rxSeq + 1) k.rxSeq ∧
        Only [.regs, .links, .meter, .tx] s t)) ∧
  (∀ (a : Nat) (eyes : List (Byte × Byte)) (s : State), a < 32 → asleep s = false → zclUp s a = true →
    let k := linkOf s a
    ∃ t fl bs more, exec (.wedgeSend a eyes) s = .next t ∧ t.tx = s.tx ++ fl ++ .wedge a bs :: more ∧
      fl.length = 31 - k.pos ∧ more.length = min 31 (k.jobs.length - (31 - k.pos)) ∧ (linkOf t a).pos = more.length ∧
      (∀ m ∈ fl ++ more, ∃ b, m = .flit a b) ∧ bs.length = 256 ∧ wedgeGood bs = true ∧ byteField bs 0 4 = 0xD3B245F8 ∧
      byteField bs 4 2 = k.wnum.toNat ∧ byteField bs 6 2 = (linkOf t a).txSeq.toNat ∧
      byteField bs 8 2 = k.rxAck.toNat ∧ byteField bs 10 8 = s.aon.ft.toNat ∧
      (linkOf t a).wnum = k.wnum + 1 ∧ (linkOf t a).laneErrs = [] ∧ (linkOf t a).eqIn = [] ∧
      (more = [] → ∀ p ∈ (usedLanes s a).zipIdx, sGet [] (linkOf t a).wire (portLane s a p.1) =
        ((scrLane ((4 + (usedLanes s a).length - 1 - p.2) / (usedLanes s a).length) (scrSeed p.1)
          (laneBytes bs (usedLanes s a).length p.2)).1).flatMap pam4) ∧
      (∀ b, b ≠ a → linkOf t b = linkOf s b) ∧ Only [.regs, .links, .tx, .picks] s t)

/-! ### Counters and the Light Meter -/

/-- A counting window ends: every WIN counter takes its count, and counting restarts from 0. A SAMPLE counter that passes its
largest value wraps, with its CTR_OVF bit and OVF, and asks for a capture, which SAMPLE fills in with a rule execution since the
wrap. A record takes RECNUM, and its 2,048 bytes are those of the last ms (from R317 to R320, Table TRAY-5). -/
def Obligations.CountersAndRecords : Prop :=
  ∀ s : State, asleep s = false →
    (∃ t, exec .counterWindow s = .next t ∧ t.meter = { s.meter with ctrAcc := [] } ∧
      (∀ k, k < 256 → rdf s (oCtrCfg k) 24 2 = 1 → rd t (oCtrVal k) = sGet 0 s.meter.ctrAcc k) ∧ Only [.regs, .meter] s t ∧
      (Regs.wf s.regs = true → RegsOnly (fun o => ∃ k, k < 256 ∧ rdf s (oCtrCfg k) 24 2 = 1 ∧ o = oCtrVal k) s t)) ∧
    (∀ k, k < 256 → rdf s (oCtrCfg k) 24 2 = 2 → rd s (oCtrVal k) = 0xFFFFFFFFFFFFFFFF#64 →
      ∃ t, exec (.ovf k) s = .next t ∧ rd t (oCtrVal k) = 0 ∧ bitOf (rd t (0x342040 + 4 * (k / 32))) (k % 32) = true ∧
        Caused t .ovf 0 ∧ (bitOf (rd s 0x342010) 31 = false → s.meter.sampleReq = none →
          t.meter.sampleReq = some k ∧ t.meter.runs = []) ∧
        Only [.regs, .meter] s t ∧
        RegsOnly (fun o => o = oCtrVal k ∨ o = 0x342040 + 4 * (k / 32) ∨ o = 0x010138) s t) ∧
    (∀ n r, n < 256 → s.meter.sampleReq = some n → r.ts < 64 → r.ctx < 8704 →
      s.meter.runs.find? (fun q => decide (q.ts = r.ts ∧ q.ctx = r.ctx ∧ q.rule = r.rule)) = some r →
      bitOf (rd s 0x342010) 31 = false →
      ∃ t, exec (.sample r.ts r.ctx r.rule) s = .next t ∧ bitOf (rd t 0x342010) 31 = true ∧ rdf t 0x342010 16 8 = n ∧
        rdf t 0x342010 0 6 = r.ts ∧ rdf t 0x342014 16 14 = r.ctx ∧ rdf t 0x342014 0 15 = r.rule.toNat ∧
        bitOf (rd t 0x342014) 31 = r.reelB ∧ rd t 0x342018 = r.ft ∧ rd t 0x342020 = r.ea ∧
        t.meter.sampleReq = none ∧ Caused t .sample 0 ∧ Only [.regs, .meter] s t) ∧
    (bitOf (rd s 0x342100) 0 = true → rdf s 0x342104 0 16 = 0 → s.meter.lm.writing = [] →
      ∃ t, exec .lmRecord s = .next t ∧ t.meter.lm.recnum = s.meter.lm.recnum + 1 ∧ t.meter.lm.hasRec = true ∧
        memRead t.meter.lm.record 0 2048 = lmBytes s ∧ t.meter.stats = [] ∧ (∀ a, (linkOf t a).lmFrag = 0) ∧
        Only [.meter, .links] s t)

/-! ### Safelight state -/

/-- A software fault sets its cause. The sequencer ends: DONE, SAFE_DONE and its record, with no wait chain or sweep left; a request
that waited has been completed FOGGED, with zeros where it reads (from R338, R339, R344, R345).

In Safelight state after SAFE_DONE a writeback is completed in its turn: one whose write is done with its status, one for a line
of a DARK channel FOGGED, and a stale one OK, its data discarded; either ZERO where its mask is empty; its slot is free (from
R13, R73, R340). -/
def Obligations.SafelightSequencer : Prop :=
  (∀ s : State,
    (capAnswers s = true → exec .swi s = .next (wr (answered false 0 s) 0x010100 (rd s 0x010100 ||| 0x4000#64))) ∧
    (asleep s = false → isSafe s = true → bitOf (rd s oFltStatus) 1 = false → safeReady s = true →
      ∃ t, exec .safeDone s = .next t ∧ bitOf (rd t oFltStatus) 1 = true ∧ Caused t .safeDone 0 ∧ t.safe.bound = [] ∧
        t.home.chains = [] ∧ t.sheet.sweeps = [] ∧ t.meter.lm.writing = [] ∧
        (Quiet s → t.tx = s.tx ∧ rd t oPsSeq = w64 ((rd s oPsSeq + 1).toNat % 2 ^ 32) ∧
          Only [.regs, .sheet, .dev, .mem, .meter, .safe] s t) ∧
        (∀ p, Quiet { s with home := { s.home with reqs := [] } } → NoCounter s → s.home.reqs = [p] →
          (∀ c, p.place ≠ .begun c) → p.place ≠ .window → p.portCpl = none → p.cxl = none →
          t.home.reqs = [] ∧ t.tx = s.tx ++ [if p.op.isRead then
              .dat p.req.agent .i 0 p.req.txid true .fogged p.deadline 0
            else .rsp p.req.agent p.op.cplOp 0 p.req.txid .fogged]))) ∧
  (∀ (w : Nat) (p : WSlot) (s : State), asleep s = false → isSafe s = true → bitOf (rd s oFltStatus) 1 = true →
    NoCounter s → s.home.wslots = [(w, p)] → p.cxl = none → muted s p.agent (some p.tray) true = false →
    let done := fun (st : Status) => ∃ t, exec .safelightWbk s = .next t ∧ t.home = { s.home with wslots := [] } ∧
      t.tx = s.tx ++ [.rsp p.agent .cmpWb 0 p.txid st] ∧ Only [.home, .tx, .meter, .xbar] s t
    (p.place = .absorbed noCtx → p.written = true → p.status ≠ .errAddr → done p.status) ∧
    (p.place = .waiting → isDark s p.line = true → done (wbStatus p .fogged)) ∧
    (p.place = .waiting → isDark s p.line = false → ownReads s p.line false = true →
      bankSuspect s (bankOf (p.line / 4)) = false → s.sheet.errs = [] → NoEntry s (p.line / 4) →
      traySpill s p.tray = false → done (wbStatus p .ok)))

/-! ### Power states -/

/-- STANDBY begins to wait, and ends the wait in STANDBY once nothing is in hand, its RUN channels in self-refresh, or in RUN with
RESULT TIMEOUT; RUN wakes the block and its channels. A power command from a state that does not allow it, or in Safelight state,
is REFUSED with PSTATE_DONE (from R353, R354, Table PWR-2).

RETAIN keeps memory, the reel slots, scratch, the RW fields and the always-on registers, with SHK_PGATE high; OFF keeps the
always-on registers, FT and the SEQ counter alone, every region blank. A wake takes the block back to RUN,
after OFF with the fuse map read again, and the scrubbers begin their laps (from R123, R270, R347, R353, R355, R356, R396, Table PWR-4). -/
def Obligations.PowerStates : Prop :=
  (∀ s : State,
    (capAnswers s = true → isSafe s = false → pwrState s = 0 →
      exec .standby s = .next { answered false 0 s with aon := { s.aon with standbyWait := true } }) ∧
    (asleep s = false → s.aon.standbyWait = true → isSafe s = false → standbyQuiet s = true → s.mem.memq = [] →
      ∃ t, exec .standbyEnter s = .next t ∧ pwrState t = 1 ∧ rdf t oPwrStatus 8 3 = 1 ∧ Caused t .pstateDone 0 ∧
        t.aon.standbyWait = false ∧
        (s.aon.stepQ = [] → s.aon.stepWait = 0 → t.aon.stepQ = [clockSteps] ∧ t.aon.stepWait = 1000) ∧
        (∀ m, m < 8 → chanState t m = (if chanState s m = 1 then 3 else chanState s m) ∧
          (chanState s m = 1 → m ∈ t.aon.standbyChans)) ∧
        t.mem.dram = s.mem.dram ∧ Only [.aon, .regs, .mem] s t) ∧
    (asleep s = false → s.aon.standbyWait = true →
      exec .standbyTimeout s = .next
        { wr s oPwrStatus (setFld (rd s oPwrStatus) 8 3 3) with aon := { s.aon with standbyWait := false } }) ∧
    (capAnswers s = true → isSafe s = false → pwrState s = 1 →
      ∃ t, exec .run s = .next t ∧ pwrState t = 0 ∧ rdf t oPwrStatus 8 3 = 1 ∧ Caused t .pstateDone 0 ∧
        t.aon.standbyChans = [] ∧
        (∀ m, m < 8 → m ∈ s.aon.standbyChans → chanState s m = 3 → chanState t m = 1) ∧ t.mem.dram = s.mem.dram ∧
        Acked s t ∧ Only [.cap, .aon, .regs, .mem] s t) ∧
    (capAnswers s = true → ∀ ans, ∀ p ∈ [(Instr.standby, 0), (.run, 1), (.retain ans, 0), (.off ans, 0)],
      (isSafe s = true ∨ pwrState s ≠ p.2) →
      ∃ t, exec p.1 s = .next t ∧ rdf t oPwrStatus 8 3 = 2 ∧ pwrState t = pwrState s ∧ Caused t .pstateDone 0 ∧
        Acked s t ∧ Only [.cap, .regs] s t ∧ RegsOnly (fun o => o = oPwrStatus ∨ o = 0x010140) s t)) ∧
  (∀ (ans : List Recalled) (s : State),
    (capAnswers s = true → isSafe s = false → pwrState s = 0 → Quiet s → Regs.wf s.regs = true →
      (∃ t, exec (.retain ans) s = .next t ∧ pwrState t = 2 ∧ t.aon = { s.aon with
          standbyWait := false
          standbyChans := []
          pgate := true } ∧
        t.mem.dram = s.mem.dram ∧ t.dev.scratch = s.dev.scratch ∧ t.dev.reelA = s.dev.reelA ∧
        t.dev.reelB = s.dev.reelB ∧ (∀ o, AonReg o → rd t o = rd s o) ∧
        (∀ o d, regDesc o = some d →
          rd t o &&& (w64 d.rw ||| w64 d.rwc) = rd s o &&& (w64 d.rw ||| w64 d.rwc)) ∧ t.tx = s.tx ∧ t.shadow = s.shadow) ∧
      (∃ t, exec (.off ans) s = .next t ∧ pwrState t = 3 ∧ t.aon = { s.aon with
          standbyWait := false
          standbyChans := []
          pgate := true } ∧
        (∀ o, AonReg o → rd t o = rd s o) ∧ (∀ o, ¬ AonReg o → o ≠ oPwrStatus → rd t o = regReset o) ∧
        t.shadow = [] ∧ t.sheet = { State.reset.sheet with seqCtr := s.sheet.seqCtr } ∧ t.dev = State.reset.dev ∧ t.home = State.reset.home ∧
        t.mem = State.reset.mem ∧ t.links = [] ∧ t.tx = s.tx)) ∧
    (s.aon.porstLow = false → (pwrState s = 2 ∨ pwrState s = 3) →
      ∀ src, wakes src s = true →
        ∃ t, exec (.wake src) s = .next t ∧ pwrState t = 0 ∧ rdf t oPwrStatus 8 3 = 1 ∧ Caused t .pstateDone 0 ∧
          t.aon.pgate = false ∧ t.aon.fuseCopy = (if pwrState s = 3 then s.aon.fuses else s.aon.fuseCopy) ∧
          bitOf (rd t oAonSts) 16 = decide (src = .wrst) ∧
          (∀ i, src = .comparator i → rdf t oAonSts 8 6 = 2 ^ i) ∧ t.aon.stepQ = [] ∧
          t.sheet = { s.sheet with scrubLapStart := s.aon.ft } ∧
          t.mem = { s.mem with poolStart := s.aon.ft, chans := t.mem.chans } ∧
          (∀ m, m < 8 → chanOf t m = { chanOf s m with lapStart := s.aon.ft }) ∧ Only [.aon, .regs, .sheet, .mem] s t))

/-- A comparator that trips sets its bit of AON_STS and its cause: LANE_WAKE where a lane is selected, TIME_ALARM once FT has reached
the value written, VCORE_LO not in RETAIN or OFF. In RETAIN one that AON_WAKE enables wakes the block, and its cause is
reported then (from R356, R358).

A reading at or above PWR_THR.ON starts throttling, and it ends when every sensor reads at or below OFF; a reading of 115 °C is a GF
fault, and the block enters Safelight state; each reading shows in PWR_TEMP. A droop is counted (from R350 to R352). -/
def Obligations.ComparatorsAndHeat : Prop :=
  (∀ s : State, s.aon.porstLow = false →
    (pwrState s = 0 → ∀ p ∈ [(Instr.tempHi, Cause.tempHi), (.tempLo, .tempLo), (.vcoreLo, .vcoreLo), (.vddqLo, .vddqLo),
        (.laneWake, .laneWake), (.timeAlarm, .timeAlarm)],
      (p.1 = .laneWake → rd s 0x310 ≠ 0) → (p.1 = .timeAlarm → s.aon.alarmArmed = true ∧ rd s 0x318 ≤ s.aon.ft) →
      ∃ t, exec p.1 s = .next t ∧ bitOf (rd t oAonSts) p.2.bit = true ∧ Caused t p.2 0 ∧
        t.aon = { s.aon with alarmArmed := decide (p.1 ≠ .timeAlarm) && s.aon.alarmArmed } ∧ Only [.aon, .regs] s t ∧
        RegsOnly (fun o => o = oAonSts ∨ o = 0x010148) s t) ∧
    (pwrState s = 2 → ∀ p ∈ [(Instr.tempHi, Cause.tempHi), (.tempLo, .tempLo), (.vddqLo, .vddqLo), (.laneWake, .laneWake)],
      (p.1 = .laneWake → rd s 0x310 ≠ 0) → bitOf (rd s 0x300) p.2.bit = true →
      ∃ t, exec p.1 s = .next t ∧ pwrState t = 0 ∧ Caused t p.2 0 ∧ Caused t .pstateDone 0 ∧ t.aon.pgate = false ∧
        t.aon.latched = 0 ∧ rdf t oAonSts 8 6 = 2 ^ p.2.bit ∧ Only [.aon, .regs, .sheet, .mem] s t) ∧
    (deepState s = true → exec .vcoreLo s = .next s)) ∧
  (∀ (k : Nat) (r : BitVec 16) (s : State), k < 16 → asleep s = false →
    let on := bitOf (rd s oPwrStatus) 12
    let shown := fun (t : State) (i : Nat) (v : BitVec 16) => rdf t (0x220 + 4 * (i / 2)) (16 * (i % 2)) 16 = v.toNat
    (on = false → signedOf (rdf s 0x210 0 16) 16 ≤ r.toInt →
      ∃ t, exec (.thrOn k r) s = .next t ∧ bitOf (rd t oPwrStatus) 12 = true ∧ Caused t .thrOn 0 ∧ shown t k r ∧
        Only [.regs] s t) ∧
    (∀ ts : List (BitVec 16), ts.length = 16 → on = true → (∀ v ∈ ts, v.toInt ≤ signedOf (rdf s 0x210 16 16) 16) →
      ∃ t, exec (.thrOff ts) s = .next t ∧ bitOf (rd t oPwrStatus) 12 = false ∧ Caused t .thrOff 0 ∧
        (∀ i, i < 16 → shown t i (ts.getD i 0)) ∧ Only [.regs] s t) ∧
    (920 ≤ r.toInt → isSafe s = false →
      ∃ t, exec (.tjCrit k r) s = .next t ∧ isSafe t = true ∧ Caused t .tjCrit 0 ∧
        rd t 0x01002C = satInc32 (rd s 0x01002C) ∧ shown t k r ∧ Only [.regs, .safe] s t) ∧
    (k < 8 → pwrState s = 0 →
      ∃ t, exec (.droop k) s = .next t ∧ rd t 0x244 = satInc32 (rd s 0x244) ∧ Caused t .droop 0 ∧
        rd t 0x010020 = satInc32 (rd s 0x010020) ∧ Only [.regs, .meter] s t))

/-! ### Resets -/

/-- A cold reset puts everything but the fuses and the test port to its reset value, with SHK_PGATE high and the other status
outputs low; as PORST_N rises the fuse map is read, FT starts
from 0, and TESTEN selects factory test mode unless TEST_LOCK is programmed. A warm reset keeps the RW fields, the always-on
registers, memory, the reels and scratch; links are DISABLED and their agents stay attached (from R360 to R363, R366, R390, R398). -/
def Obligations.Resets : Prop :=
  ∀ (ans : List Recalled) (s : State),
    (∃ t, exec .coldReset s = .next t ∧ t.aon.porstLow = true ∧ HeldInReset t ∧ t.cap = State.reset.cap ∧
      t.aon.fuses = s.aon.fuses ∧ t.aon.tap = s.aon.tap ∧ t.pending = s.pending ∧ t.tx = s.tx ∧
      shkIrq t = false ∧ shkSafe t = false ∧ shkPgate t = true) ∧
    (∀ testen, s.aon.porstLow = true →
      exec (.porstRelease testen) s = .next { s with aon := { s.aon with
        porstLow := false
        fuseCopy := s.aon.fuses
        ft := 0
        ftFrac := 0
        testMode := testen && !s.aon.fuses.testLock } }) ∧
    (asleep s = false → pwrState s = 0 → Quiet s → Regs.wf s.regs = true →
      ∃ t, exec (.warmReset ans) s = .next t ∧ pwrState t = 0 ∧ Caused t .pstateDone 0 ∧ isSafe t = false ∧
        bitOf (rd t oFltStatus) 3 = isSafe s ∧ t.aon.ft = s.aon.ft ∧ (∀ o, AonReg o → rd t o = rd s o) ∧
        (∀ o d, regDesc o = some d →
          rd t o &&& (w64 d.rw ||| w64 d.rwc) = rd s o &&& (w64 d.rw ||| w64 d.rwc)) ∧
        t.mem.dram = s.mem.dram ∧ t.dev.reelA = s.dev.reelA ∧ t.dev.reelB = s.dev.reelB ∧
        t.dev.scratch = s.dev.scratch ∧ t.dev.running = false ∧ t.tx = s.tx ∧
        (∀ a, a < 32 → linkState t a = 0 ∧ detached t a = detached s a ∧ (linkOf t a).epoch = (linkOf s a).epoch) ∧
        (∀ m, m < 8 → chanState t m =
          (if (chanState s m = 1 ∨ chanState s m = 2) ∧ chanOff s m = false then 3 else chanState s m)))

/-! ### Islands and the test port -/

/-- ISLAND_OFF is accepted for a DARK channel or one in SREF with nothing used on it, and ISLAND_ON always: BUSY until ISL_OFF or
ISL_ON, which ends it with RESULT DONE once its three steps are taken; another in the meantime, or one in Safelight state, is REFUSED. A port island goes off
when its links are RETIRED, and on after an ENABLE (from R297, R347, R368, R377 to R379). -/
def Obligations.IslandsCycle : Prop :=
  ∀ (m n : Nat) (s : State), m < 8 → n < 16 →
    let begun := fun (t : State) (up : Bool) => bitOf (rd t oIslSts) 31 = true ∧ t.cap.islCmd = some (m, up) ∧
      t.cap.resp = { ack := true, err := false, rdata := 0 } ∧ rdf t oIslCtrl 0 3 = m ∧ Only [.cap, .regs, .aon] s t ∧
      (if s.aon.stepQ = [] ∧ s.aon.stepWait = 0 then
        t.aon = { s.aon with stepQ := [chanSteps m, chanSteps m], stepWait := 1000 } ∧
          RegsOnly (fun o => o = oIslCtrl ∨ o = oIslSts) s t
       else t.aon = { s.aon with stepQ := s.aon.stepQ ++ List.replicate 3 (chanSteps m) } ∧ Caused t .stepHold 0)
    let ended := fun (t : State) (up : Bool) => bitOf (rd t oIslSts) 31 = false ∧ rdf t oIslSts 28 3 = 1 ∧
      bitOf (rd t oIslSts) (16 + m) = !up ∧ t.cap = { s.cap with islCmd := none } ∧
      Caused t (if up then .islOn else .islOff) 0 ∧ Only [.cap, .regs] s t ∧
      RegsOnly (fun o => o = oIslSts ∨ o = 0x010150) s t
    (capAnswers s = true → islBarred s = false →
      (chanState s m = 4 ∨ chanState s m = 3 ∧ usedChan s m = false →
        ∃ t, exec (.islandOff m) s = .next t ∧ begun t false) ∧
      (∃ t, exec (.islandOn m) s = .next t ∧ begun t true)) ∧
    (capAnswers s = true →
      ∀ c ∈ [Instr.islandOff m, .islandOn m], (islBarred s = true ∨ c = .islandOff m ∧ islOffOk s m = false) →
        ∃ t, exec c s = .next t ∧ rdf t oIslSts 28 3 = 2 ∧ Acked s t ∧ Only [.cap, .regs] s t ∧
          RegsOnly (fun o => o = oIslCtrl ∨ o = oIslSts) s t) ∧
    (asleep s = false →
      (stepsLeft s (chanSteps m) = true → exec (.islOff (.chan m)) s = .next s ∧ exec (.islOn (.chan m)) s = .next s) ∧
      (s.cap.islCmd = some (m, false) → stepsLeft s (chanSteps m) = false →
        ∃ t, exec (.islOff (.chan m)) s = .next t ∧ ended t false) ∧
      (s.cap.islCmd = some (m, true) → stepsLeft s (chanSteps m) = false →
        ∃ t, exec (.islOn (.chan m)) s = .next t ∧ ended t true) ∧
      (bitOf (rd s oIslSts) n = false → stepsLeft s (portSteps n) = false → (∀ a ∈ portLinks s n, linkState s a = 5) →
        ∃ t, exec (.islOff (.port n)) s = .next t ∧ bitOf (rd t oIslSts) n = true ∧ Caused t .islOff 0 ∧ Only [.regs] s t ∧
          RegsOnly (fun o => o = oIslSts ∨ o = 0x010150) s t) ∧
      (bitOf (rd s oIslSts) n = true → stepsLeft s (portSteps n) = false → (∃ a ∈ portLinks s n, linkState s a ≠ 0 ∧ linkState s a ≠ 5) →
        ∃ t, exec (.islOn (.port n)) s = .next t ∧ bitOf (rd t oIslSts) n = false ∧ Caused t .islOn 0 ∧ Only [.regs] s t ∧
          RegsOnly (fun o => o = oIslSts ∨ o = 0x010150) s t))

/-- The test port: IDCODE shifts out the identification code, FUSEREAD the fuse map; a boundary-scan instruction acts only while
PORST_N is low, and else as BYPASS does (from R395, R396, Table INTG-9).

FUSEPROG acts while PORST_N is low: a key slot is programmed once, a revocation and TEST_LOCK are set for good, the
manufacturer field is programmed while it is 0; with PORST_N high the fuses stay (from R397, Table INTG-10). -/
def Obligations.TestPortAndFuses : Prop :=
  (∀ s : State,
    let tap := fun (x : Tap) => Host.Outcome.next { s with aon := { s.aon with tap := x } }
    let byp := fun (ir : BitVec 8) (tdi : Bool) => tap { s.aon.tap with
      ir := ir
      byp := tdi
      tdo := [false] }
    (exec .idcode s = tap { s.aon.tap with
      ir := 0x01#8
      tdo := bitsOut 32 (1 + 2 * s.aon.fuseCopy.mfr.toNat + 2 ^ 12 * 0x1280 + 2 ^ 28) }) ∧
    (exec .fuseread s = tap { s.aon.tap with
      ir := 0x10#8
      tdo := fuseBits s.aon.fuses }) ∧
    (∀ pins, s.aon.porstLow = true → ∀ p ∈ [(Instr.samplePreload pins, 0x02#8), (.extest pins, 0x03#8)],
      exec p.1 s = tap { s.aon.tap with
        ir := p.2
        bsr := pins
        tdo := bitsOut 1212 s.aon.tap.bsr.toNat }) ∧
    (∀ pins, s.aon.porstLow = false →
      ∀ p ∈ [(Instr.samplePreload pins, 0x02#8), (.extest pins, 0x03#8), (.extestPulse, 0x04#8), (.extestTrain, 0x05#8)],
        exec p.1 s = byp p.2 false) ∧
    (s.aon.porstLow = true → ∀ p ∈ [(Instr.extestPulse, 0x04#8), (.extestTrain, 0x05#8)],
      exec p.1 s = tap { s.aon.tap with
        ir := p.2
        tdo := [] }) ∧
    (∀ code tdi, code ∉ [0x01#8, 0x02#8, 0x03#8, 0x04#8, 0x05#8, 0x10#8, 0x11#8] →
      exec (.bypass code tdi) s = byp code tdi)) ∧
  (∀ s : State,
    let f := s.aon.fuses
    let left := fun (op : FuseOp) (g : Fuses) => exec (.fuseprog op) s = Host.Outcome.next { s with aon := { s.aon with
      fuses := g
      tap := { s.aon.tap with
        ir := 0x11#8
        tdo := [] } } }
    (s.aon.porstLow = true →
      (∀ k d, k < 4 → (f.keys.get k).prog = false → left (.key k d) { f with
        keys := f.keys.set k { digest := (f.keys.get k).digest ||| d, prog := true, revoke := (f.keys.get k).revoke } }) ∧
      (∀ k d, k < 4 → (f.keys.get k).prog = true → left (.key k d) f) ∧
      (∀ k, k < 4 → left (.revoke k) { f with keys := f.keys.set k { f.keys.get k with revoke := true } }) ∧
      (∀ v, left (.mfr v) (if f.mfr = 0 then { f with mfr := v } else f)) ∧
      left .testLock { f with testLock := true }) ∧
    (s.aon.porstLow = false → ∀ op, okFuse op = true → left op f))
end

