-- ==== Sys2Proof/Laws/Sparse.lean ====
section
/-! SUPPORT. Laws of the sparse maps: reading after writing, and that every operation keeps the canonical form. -/

namespace Sys2Proof.Machine

variable {α : Type}

/-! ### Reading after writing -/

@[simp] theorem sFind_nil (k : Nat) : sFind ([] : Sparse α) k = none := rfl

@[simp] theorem sGet_nil (d : α) (k : Nat) : sGet d [] k = d := rfl

theorem sFind_sSet_same (m : Sparse α) (k : Nat) (v : α) : sFind (sSet m k v) k = some v := by
  induction m with
  | nil => simp [sSet, sFind]
  | cons p m ih =>
    obtain ⟨k', v'⟩ := p
    by_cases h1 : k < k'
    · simp [sSet, h1, sFind]
    · by_cases h2 : k = k' <;> simp [sSet, h1, h2, sFind, ih]

theorem sFind_sSet_ne (m : Sparse α) {k k2 : Nat} (v : α) (h : k2 ≠ k) : sFind (sSet m k v) k2 = sFind m k2 := by
  induction m with
  | nil => simp [sSet, sFind, h]
  | cons p m ih =>
    obtain ⟨k', v'⟩ := p
    by_cases h1 : k < k'
    · simp [sSet, h1, sFind, h]
    · by_cases h2 : k = k'
      · subst h2; simp [sSet, sFind, h]
      · simp [sSet, h1, h2, sFind, ih]

theorem sFind_sDel_same (m : Sparse α) (k : Nat) : sFind (sDel m k) k = none := by
  induction m with
  | nil => rfl
  | cons p m ih =>
    obtain ⟨k', v'⟩ := p
    by_cases h : k = k' <;> simp [sDel, h, sFind]
    · rw [← h]; exact ih
    · exact ih

theorem sFind_sDel_ne (m : Sparse α) {k k2 : Nat} (h : k2 ≠ k) : sFind (sDel m k) k2 = sFind m k2 := by
  induction m with
  | nil => rfl
  | cons p m ih =>
    obtain ⟨k', v'⟩ := p
    by_cases h1 : k = k'
    · subst h1; simp [sDel, sFind, h, ih]
    · simp [sDel, h1, sFind, ih]

/-- Reading the key just written gives the value written. -/
@[simp] theorem sGet_sPut_same [DecidableEq α] (d : α) (m : Sparse α) (k : Nat) (v : α) : sGet d (sPut d m k v) k = v := by
  by_cases h : v = d
  · simp [sPut, h, sGet, sFind_sDel_same]
  · simp [sPut, h, sGet, sFind_sSet_same]

/-- A write leaves every other key alone. -/
theorem sGet_sPut_ne [DecidableEq α] (d e : α) (m : Sparse α) {k k2 : Nat} (v : α) (h : k2 ≠ k) :
    sGet e (sPut d m k v) k2 = sGet e m k2 := by
  by_cases hv : v = d
  · simp [sPut, hv, sGet, sFind_sDel_ne _ h]
  · simp [sPut, hv, sGet, sFind_sSet_ne _ _ h]

theorem sFind_sPut_ne [DecidableEq α] (d : α) (m : Sparse α) {k k2 : Nat} (v : α) (h : k2 ≠ k) :
    sFind (sPut d m k v) k2 = sFind m k2 := by
  by_cases hv : v = d
  · simp [sPut, hv, sFind_sDel_ne _ h]
  · simp [sPut, hv, sFind_sSet_ne _ _ h]

@[simp] theorem sGet_sUpd_same [DecidableEq α] (d : α) (m : Sparse α) (k : Nat) (f : α → α) :
    sGet d (sUpd d m k f) k = f (sGet d m k) := by simp [sUpd]

theorem sGet_sUpd_ne [DecidableEq α] (d : α) (m : Sparse α) {k k2 : Nat} (f : α → α) (h : k2 ≠ k) :
    sGet d (sUpd d m k f) k2 = sGet d m k2 := by simp [sUpd, sGet_sPut_ne _ _ _ _ h]

/-! ### The canonical form -/

/-- Every key of an ordered map lies above the key before it. -/
theorem sOrdered_cons {p : Nat × α} {m : Sparse α} :
    sOrdered (p :: m) = true ↔ (∀ q ∈ m, p.1 < q.1) ∧ sOrdered m = true := by
  induction m generalizing p with
  | nil => simp [sOrdered]
  | cons q m ih =>
    obtain ⟨a, x⟩ := p
    obtain ⟨b, y⟩ := q
    simp only [sOrdered, Bool.and_eq_true, decide_eq_true_eq, List.mem_cons, forall_eq_or_imp]
    rw [ih]
    constructor
    · rintro ⟨h1, h2, h3⟩
      exact ⟨⟨h1, fun q hq => Nat.lt_trans h1 (h2 q hq)⟩, h2, h3⟩
    · rintro ⟨⟨h1, _⟩, h2, h3⟩
      exact ⟨h1, h2, h3⟩

theorem mem_sSet {m : Sparse α} {k : Nat} {v : α} {q : Nat × α} (h : q ∈ sSet m k v) : q = (k, v) ∨ q ∈ m := by
  induction m with
  | nil => simpa [sSet] using h
  | cons p m ih =>
    obtain ⟨k', v'⟩ := p
    simp only [sSet] at h
    split at h
    · simpa using h
    · split at h
      · rcases List.mem_cons.1 h with h | h
        · exact .inl h
        · exact .inr (List.mem_cons_of_mem _ h)
      · rcases List.mem_cons.1 h with h | h
        · exact .inr (h ▸ List.mem_cons_self ..)
        · exact (ih h).imp_right (List.mem_cons_of_mem _)

theorem mem_sDel {m : Sparse α} {k : Nat} {q : Nat × α} (h : q ∈ sDel m k) : q ∈ m := by
  induction m with
  | nil => simp [sDel] at h
  | cons p m ih =>
    obtain ⟨k', v'⟩ := p
    simp only [sDel] at h
    split at h
    · exact List.mem_cons_of_mem _ (ih h)
    · rcases List.mem_cons.1 h with h | h
      · exact h ▸ List.mem_cons_self ..
      · exact List.mem_cons_of_mem _ (ih h)

theorem sOrdered_sSet {m : Sparse α} (k : Nat) (v : α) (h : sOrdered m = true) : sOrdered (sSet m k v) = true := by
  induction m with
  | nil => rfl
  | cons p m ih =>
    obtain ⟨k', v'⟩ := p
    have h' := sOrdered_cons.1 h
    simp only [sSet]
    split
    · rename_i hlt
      refine sOrdered_cons.2 ⟨fun q hq => ?_, h⟩
      rcases List.mem_cons.1 hq with hq | hq
      · rw [hq]; exact hlt
      · exact Nat.lt_trans hlt (h'.1 q hq)
    · split
      · rename_i _ heq
        exact sOrdered_cons.2 ⟨by simpa [heq] using h'.1, h'.2⟩
      · rename_i h1 h2
        refine sOrdered_cons.2 ⟨fun q hq => ?_, ih h'.2⟩
        rcases mem_sSet hq with hq | hq
        · rw [hq]; show k' < k; omega
        · exact h'.1 q hq

theorem sOrdered_sDel {m : Sparse α} (k : Nat) (h : sOrdered m = true) : sOrdered (sDel m k) = true := by
  induction m with
  | nil => rfl
  | cons p m ih =>
    obtain ⟨k', v'⟩ := p
    have h' := sOrdered_cons.1 h
    simp only [sDel]
    split
    · exact ih h'.2
    · exact sOrdered_cons.2 ⟨fun q hq => h'.1 q (mem_sDel hq), ih h'.2⟩

theorem sOrdered_sPut [DecidableEq α] {m : Sparse α} (d : α) (k : Nat) (v : α) (h : sOrdered m = true) :
    sOrdered (sPut d m k v) = true := by
  unfold sPut; split
  · exact sOrdered_sDel _ h
  · exact sOrdered_sSet _ _ h

/-- What `sPut` lists: the new entry, where its value is not the default, or an entry of before at another key. -/
theorem mem_sPut [DecidableEq α] {d : α} {m : Sparse α} {k : Nat} {v : α} {q : Nat × α} (h : q ∈ sPut d m k v) :
    (q = (k, v) ∧ v ≠ d) ∨ q ∈ m := by
  unfold sPut at h; split at h
  · exact .inr (mem_sDel h)
  · rename_i hv
    exact (mem_sSet h).imp_left (fun e => ⟨e, hv⟩)

/-- Every write keeps the canonical form. -/
theorem sWf_sPut [DecidableEq α] {d : α} {m : Sparse α} (k : Nat) (v : α) (h : sWf d m = true) :
    sWf d (sPut d m k v) = true := by
  simp only [sWf, Bool.and_eq_true, List.all_eq_true, Bool.not_eq_true', decide_eq_false_iff_not] at h ⊢
  refine ⟨sOrdered_sPut _ _ _ h.1, fun q hq => ?_⟩
  rcases mem_sPut hq with ⟨rfl, hv⟩ | hq
  · exact hv
  · exact h.2 q hq

@[simp] theorem sWf_nil [DecidableEq α] (d : α) : sWf d [] = true := rfl

/-! ### Byte memories -/

/-- A byte read after a byte written at the same address is that byte. -/
@[simp] theorem memGet_memPut_same (m : List Host.Cell) (a : Nat) (b : Byte) : memGet (memPut m a b) a = b := by
  simp [memGet, memPut]

/-- A byte written leaves every other address alone. -/
theorem memGet_memPut_ne (m : List Host.Cell) {a a2 : Nat} (b : Byte) (h : a2 ≠ a) :
    memGet (memPut m a b) a2 = memGet m a2 := by simp [memGet, memPut, sGet_sPut_ne _ _ _ _ h]

/-- Every byte write keeps the canonical form. -/
theorem memory_wf_memPut {m : List Host.Cell} (a : Nat) (b : Byte) (h : Memory.wf m = true) :
    Memory.wf (memPut m a b) = true := sWf_sPut a b h

/-- Writing bytes keeps the canonical form. -/
theorem memory_wf_memWrite {m : List Host.Cell} (a : Nat) (bs : List Byte) (h : Memory.wf m = true) :
    Memory.wf (memWrite m a bs) = true := by
  induction bs generalizing m a with
  | nil => exact h
  | cons b bs ih => exact ih (a + 1) (memory_wf_memPut a b h)

/-- Writing bytes leaves every address outside them alone. -/
theorem memGet_memWrite_out (m : List Host.Cell) {a a2 : Nat} (bs : List Byte) (h : a2 < a ∨ a + bs.length ≤ a2) :
    memGet (memWrite m a bs) a2 = memGet m a2 := by
  induction bs generalizing m a with
  | nil => rfl
  | cons b bs ih =>
    simp only [List.length_cons] at h
    simp only [memWrite]
    rw [ih _ (by omega), memGet_memPut_ne _ _ (by omega)]

/-- Each byte written reads back. -/
theorem memGet_memWrite_in (m : List Host.Cell) (a : Nat) (bs : List Byte) (i : Nat) (h : i < bs.length) :
    memGet (memWrite m a bs) (a + i) = bs[i] := by
  induction bs generalizing m a i with
  | nil => exact absurd h (by simp)
  | cons b bs ih =>
    simp only [memWrite]
    cases i with
    | zero => rw [memGet_memWrite_out _ _ (by omega)]; simp
    | succ i =>
      have := ih (memPut m a b) (a + 1) i (by simpa using h)
      rw [Nat.add_right_comm, Nat.add_assoc] at this
      simpa [Nat.add_assoc, Nat.add_comm 1 i] using this

end Sys2Proof.Machine
end

