-- ==== Sys2Proof/Laws/State.lean ====
section
/-! SUPPORT. One lemma per field of the state for every named update, true by `rfl`: what an update writes, and that it keeps
every other field. -/

namespace Sys2Proof.Machine


/-! ### updCap -/

@[simp] theorem updCap_pending (f : CapSide → CapSide) (s : State) : (updCap f s).pending = s.pending := rfl
@[simp] theorem updCap_regs (f : CapSide → CapSide) (s : State) : (updCap f s).regs = s.regs := rfl
@[simp] theorem updCap_shadow (f : CapSide → CapSide) (s : State) : (updCap f s).shadow = s.shadow := rfl
@[simp] theorem updCap_cap (f : CapSide → CapSide) (s : State) : (updCap f s).cap = f s.cap := rfl
@[simp] theorem updCap_aon (f : CapSide → CapSide) (s : State) : (updCap f s).aon = s.aon := rfl
@[simp] theorem updCap_sheet (f : CapSide → CapSide) (s : State) : (updCap f s).sheet = s.sheet := rfl
@[simp] theorem updCap_dev (f : CapSide → CapSide) (s : State) : (updCap f s).dev = s.dev := rfl
@[simp] theorem updCap_home (f : CapSide → CapSide) (s : State) : (updCap f s).home = s.home := rfl
@[simp] theorem updCap_mem (f : CapSide → CapSide) (s : State) : (updCap f s).mem = s.mem := rfl
@[simp] theorem updCap_links (f : CapSide → CapSide) (s : State) : (updCap f s).links = s.links := rfl
@[simp] theorem updCap_meter (f : CapSide → CapSide) (s : State) : (updCap f s).meter = s.meter := rfl
@[simp] theorem updCap_safe (f : CapSide → CapSide) (s : State) : (updCap f s).safe = s.safe := rfl
@[simp] theorem updCap_xbar (f : CapSide → CapSide) (s : State) : (updCap f s).xbar = s.xbar := rfl
@[simp] theorem updCap_tx (f : CapSide → CapSide) (s : State) : (updCap f s).tx = s.tx := rfl
@[simp] theorem updCap_picks (f : CapSide → CapSide) (s : State) : (updCap f s).picks = s.picks := rfl
@[simp] theorem updCap_draws (f : CapSide → CapSide) (s : State) : (updCap f s).draws = s.draws := rfl

/-! ### updAon -/

@[simp] theorem updAon_pending (f : AonSide → AonSide) (s : State) : (updAon f s).pending = s.pending := rfl
@[simp] theorem updAon_regs (f : AonSide → AonSide) (s : State) : (updAon f s).regs = s.regs := rfl
@[simp] theorem updAon_shadow (f : AonSide → AonSide) (s : State) : (updAon f s).shadow = s.shadow := rfl
@[simp] theorem updAon_cap (f : AonSide → AonSide) (s : State) : (updAon f s).cap = s.cap := rfl
@[simp] theorem updAon_aon (f : AonSide → AonSide) (s : State) : (updAon f s).aon = f s.aon := rfl
@[simp] theorem updAon_sheet (f : AonSide → AonSide) (s : State) : (updAon f s).sheet = s.sheet := rfl
@[simp] theorem updAon_dev (f : AonSide → AonSide) (s : State) : (updAon f s).dev = s.dev := rfl
@[simp] theorem updAon_home (f : AonSide → AonSide) (s : State) : (updAon f s).home = s.home := rfl
@[simp] theorem updAon_mem (f : AonSide → AonSide) (s : State) : (updAon f s).mem = s.mem := rfl
@[simp] theorem updAon_links (f : AonSide → AonSide) (s : State) : (updAon f s).links = s.links := rfl
@[simp] theorem updAon_meter (f : AonSide → AonSide) (s : State) : (updAon f s).meter = s.meter := rfl
@[simp] theorem updAon_safe (f : AonSide → AonSide) (s : State) : (updAon f s).safe = s.safe := rfl
@[simp] theorem updAon_xbar (f : AonSide → AonSide) (s : State) : (updAon f s).xbar = s.xbar := rfl
@[simp] theorem updAon_tx (f : AonSide → AonSide) (s : State) : (updAon f s).tx = s.tx := rfl
@[simp] theorem updAon_picks (f : AonSide → AonSide) (s : State) : (updAon f s).picks = s.picks := rfl
@[simp] theorem updAon_draws (f : AonSide → AonSide) (s : State) : (updAon f s).draws = s.draws := rfl

/-! ### updSheet -/

@[simp] theorem updSheet_pending (f : SheetSide → SheetSide) (s : State) : (updSheet f s).pending = s.pending := rfl
@[simp] theorem updSheet_regs (f : SheetSide → SheetSide) (s : State) : (updSheet f s).regs = s.regs := rfl
@[simp] theorem updSheet_shadow (f : SheetSide → SheetSide) (s : State) : (updSheet f s).shadow = s.shadow := rfl
@[simp] theorem updSheet_cap (f : SheetSide → SheetSide) (s : State) : (updSheet f s).cap = s.cap := rfl
@[simp] theorem updSheet_aon (f : SheetSide → SheetSide) (s : State) : (updSheet f s).aon = s.aon := rfl
@[simp] theorem updSheet_sheet (f : SheetSide → SheetSide) (s : State) : (updSheet f s).sheet = f s.sheet := rfl
@[simp] theorem updSheet_dev (f : SheetSide → SheetSide) (s : State) : (updSheet f s).dev = s.dev := rfl
@[simp] theorem updSheet_home (f : SheetSide → SheetSide) (s : State) : (updSheet f s).home = s.home := rfl
@[simp] theorem updSheet_mem (f : SheetSide → SheetSide) (s : State) : (updSheet f s).mem = s.mem := rfl
@[simp] theorem updSheet_links (f : SheetSide → SheetSide) (s : State) : (updSheet f s).links = s.links := rfl
@[simp] theorem updSheet_meter (f : SheetSide → SheetSide) (s : State) : (updSheet f s).meter = s.meter := rfl
@[simp] theorem updSheet_safe (f : SheetSide → SheetSide) (s : State) : (updSheet f s).safe = s.safe := rfl
@[simp] theorem updSheet_xbar (f : SheetSide → SheetSide) (s : State) : (updSheet f s).xbar = s.xbar := rfl
@[simp] theorem updSheet_tx (f : SheetSide → SheetSide) (s : State) : (updSheet f s).tx = s.tx := rfl
@[simp] theorem updSheet_picks (f : SheetSide → SheetSide) (s : State) : (updSheet f s).picks = s.picks := rfl
@[simp] theorem updSheet_draws (f : SheetSide → SheetSide) (s : State) : (updSheet f s).draws = s.draws := rfl

/-! ### updDev -/

@[simp] theorem updDev_pending (f : DevSide → DevSide) (s : State) : (updDev f s).pending = s.pending := rfl
@[simp] theorem updDev_regs (f : DevSide → DevSide) (s : State) : (updDev f s).regs = s.regs := rfl
@[simp] theorem updDev_shadow (f : DevSide → DevSide) (s : State) : (updDev f s).shadow = s.shadow := rfl
@[simp] theorem updDev_cap (f : DevSide → DevSide) (s : State) : (updDev f s).cap = s.cap := rfl
@[simp] theorem updDev_aon (f : DevSide → DevSide) (s : State) : (updDev f s).aon = s.aon := rfl
@[simp] theorem updDev_sheet (f : DevSide → DevSide) (s : State) : (updDev f s).sheet = s.sheet := rfl
@[simp] theorem updDev_dev (f : DevSide → DevSide) (s : State) : (updDev f s).dev = f s.dev := rfl
@[simp] theorem updDev_home (f : DevSide → DevSide) (s : State) : (updDev f s).home = s.home := rfl
@[simp] theorem updDev_mem (f : DevSide → DevSide) (s : State) : (updDev f s).mem = s.mem := rfl
@[simp] theorem updDev_links (f : DevSide → DevSide) (s : State) : (updDev f s).links = s.links := rfl
@[simp] theorem updDev_meter (f : DevSide → DevSide) (s : State) : (updDev f s).meter = s.meter := rfl
@[simp] theorem updDev_safe (f : DevSide → DevSide) (s : State) : (updDev f s).safe = s.safe := rfl
@[simp] theorem updDev_xbar (f : DevSide → DevSide) (s : State) : (updDev f s).xbar = s.xbar := rfl
@[simp] theorem updDev_tx (f : DevSide → DevSide) (s : State) : (updDev f s).tx = s.tx := rfl
@[simp] theorem updDev_picks (f : DevSide → DevSide) (s : State) : (updDev f s).picks = s.picks := rfl
@[simp] theorem updDev_draws (f : DevSide → DevSide) (s : State) : (updDev f s).draws = s.draws := rfl

/-! ### updHome -/

@[simp] theorem updHome_pending (f : HomeSide → HomeSide) (s : State) : (updHome f s).pending = s.pending := rfl
@[simp] theorem updHome_regs (f : HomeSide → HomeSide) (s : State) : (updHome f s).regs = s.regs := rfl
@[simp] theorem updHome_shadow (f : HomeSide → HomeSide) (s : State) : (updHome f s).shadow = s.shadow := rfl
@[simp] theorem updHome_cap (f : HomeSide → HomeSide) (s : State) : (updHome f s).cap = s.cap := rfl
@[simp] theorem updHome_aon (f : HomeSide → HomeSide) (s : State) : (updHome f s).aon = s.aon := rfl
@[simp] theorem updHome_sheet (f : HomeSide → HomeSide) (s : State) : (updHome f s).sheet = s.sheet := rfl
@[simp] theorem updHome_dev (f : HomeSide → HomeSide) (s : State) : (updHome f s).dev = s.dev := rfl
@[simp] theorem updHome_home (f : HomeSide → HomeSide) (s : State) : (updHome f s).home = f s.home := rfl
@[simp] theorem updHome_mem (f : HomeSide → HomeSide) (s : State) : (updHome f s).mem = s.mem := rfl
@[simp] theorem updHome_links (f : HomeSide → HomeSide) (s : State) : (updHome f s).links = s.links := rfl
@[simp] theorem updHome_meter (f : HomeSide → HomeSide) (s : State) : (updHome f s).meter = s.meter := rfl
@[simp] theorem updHome_safe (f : HomeSide → HomeSide) (s : State) : (updHome f s).safe = s.safe := rfl
@[simp] theorem updHome_xbar (f : HomeSide → HomeSide) (s : State) : (updHome f s).xbar = s.xbar := rfl
@[simp] theorem updHome_tx (f : HomeSide → HomeSide) (s : State) : (updHome f s).tx = s.tx := rfl
@[simp] theorem updHome_picks (f : HomeSide → HomeSide) (s : State) : (updHome f s).picks = s.picks := rfl
@[simp] theorem updHome_draws (f : HomeSide → HomeSide) (s : State) : (updHome f s).draws = s.draws := rfl

/-! ### updMem -/

@[simp] theorem updMem_pending (f : MemSide → MemSide) (s : State) : (updMem f s).pending = s.pending := rfl
@[simp] theorem updMem_regs (f : MemSide → MemSide) (s : State) : (updMem f s).regs = s.regs := rfl
@[simp] theorem updMem_shadow (f : MemSide → MemSide) (s : State) : (updMem f s).shadow = s.shadow := rfl
@[simp] theorem updMem_cap (f : MemSide → MemSide) (s : State) : (updMem f s).cap = s.cap := rfl
@[simp] theorem updMem_aon (f : MemSide → MemSide) (s : State) : (updMem f s).aon = s.aon := rfl
@[simp] theorem updMem_sheet (f : MemSide → MemSide) (s : State) : (updMem f s).sheet = s.sheet := rfl
@[simp] theorem updMem_dev (f : MemSide → MemSide) (s : State) : (updMem f s).dev = s.dev := rfl
@[simp] theorem updMem_home (f : MemSide → MemSide) (s : State) : (updMem f s).home = s.home := rfl
@[simp] theorem updMem_mem (f : MemSide → MemSide) (s : State) : (updMem f s).mem = f s.mem := rfl
@[simp] theorem updMem_links (f : MemSide → MemSide) (s : State) : (updMem f s).links = s.links := rfl
@[simp] theorem updMem_meter (f : MemSide → MemSide) (s : State) : (updMem f s).meter = s.meter := rfl
@[simp] theorem updMem_safe (f : MemSide → MemSide) (s : State) : (updMem f s).safe = s.safe := rfl
@[simp] theorem updMem_xbar (f : MemSide → MemSide) (s : State) : (updMem f s).xbar = s.xbar := rfl
@[simp] theorem updMem_tx (f : MemSide → MemSide) (s : State) : (updMem f s).tx = s.tx := rfl
@[simp] theorem updMem_picks (f : MemSide → MemSide) (s : State) : (updMem f s).picks = s.picks := rfl
@[simp] theorem updMem_draws (f : MemSide → MemSide) (s : State) : (updMem f s).draws = s.draws := rfl

/-! ### updMeter -/

@[simp] theorem updMeter_pending (f : MeterSide → MeterSide) (s : State) : (updMeter f s).pending = s.pending := rfl
@[simp] theorem updMeter_regs (f : MeterSide → MeterSide) (s : State) : (updMeter f s).regs = s.regs := rfl
@[simp] theorem updMeter_shadow (f : MeterSide → MeterSide) (s : State) : (updMeter f s).shadow = s.shadow := rfl
@[simp] theorem updMeter_cap (f : MeterSide → MeterSide) (s : State) : (updMeter f s).cap = s.cap := rfl
@[simp] theorem updMeter_aon (f : MeterSide → MeterSide) (s : State) : (updMeter f s).aon = s.aon := rfl
@[simp] theorem updMeter_sheet (f : MeterSide → MeterSide) (s : State) : (updMeter f s).sheet = s.sheet := rfl
@[simp] theorem updMeter_dev (f : MeterSide → MeterSide) (s : State) : (updMeter f s).dev = s.dev := rfl
@[simp] theorem updMeter_home (f : MeterSide → MeterSide) (s : State) : (updMeter f s).home = s.home := rfl
@[simp] theorem updMeter_mem (f : MeterSide → MeterSide) (s : State) : (updMeter f s).mem = s.mem := rfl
@[simp] theorem updMeter_links (f : MeterSide → MeterSide) (s : State) : (updMeter f s).links = s.links := rfl
@[simp] theorem updMeter_meter (f : MeterSide → MeterSide) (s : State) : (updMeter f s).meter = f s.meter := rfl
@[simp] theorem updMeter_safe (f : MeterSide → MeterSide) (s : State) : (updMeter f s).safe = s.safe := rfl
@[simp] theorem updMeter_xbar (f : MeterSide → MeterSide) (s : State) : (updMeter f s).xbar = s.xbar := rfl
@[simp] theorem updMeter_tx (f : MeterSide → MeterSide) (s : State) : (updMeter f s).tx = s.tx := rfl
@[simp] theorem updMeter_picks (f : MeterSide → MeterSide) (s : State) : (updMeter f s).picks = s.picks := rfl
@[simp] theorem updMeter_draws (f : MeterSide → MeterSide) (s : State) : (updMeter f s).draws = s.draws := rfl

/-! ### wr -/

@[simp] theorem wr_pending (s : State) (o : Nat) (v : W64) : (wr s o v).pending = s.pending := rfl
@[simp] theorem wr_regs (s : State) (o : Nat) (v : W64) : (wr s o v).regs = sPut (regReset o) s.regs o v := rfl
@[simp] theorem wr_shadow (s : State) (o : Nat) (v : W64) : (wr s o v).shadow = s.shadow := rfl
@[simp] theorem wr_cap (s : State) (o : Nat) (v : W64) : (wr s o v).cap = s.cap := rfl
@[simp] theorem wr_aon (s : State) (o : Nat) (v : W64) : (wr s o v).aon = s.aon := rfl
@[simp] theorem wr_sheet (s : State) (o : Nat) (v : W64) : (wr s o v).sheet = s.sheet := rfl
@[simp] theorem wr_dev (s : State) (o : Nat) (v : W64) : (wr s o v).dev = s.dev := rfl
@[simp] theorem wr_home (s : State) (o : Nat) (v : W64) : (wr s o v).home = s.home := rfl
@[simp] theorem wr_mem (s : State) (o : Nat) (v : W64) : (wr s o v).mem = s.mem := rfl
@[simp] theorem wr_links (s : State) (o : Nat) (v : W64) : (wr s o v).links = s.links := rfl
@[simp] theorem wr_meter (s : State) (o : Nat) (v : W64) : (wr s o v).meter = s.meter := rfl
@[simp] theorem wr_safe (s : State) (o : Nat) (v : W64) : (wr s o v).safe = s.safe := rfl
@[simp] theorem wr_xbar (s : State) (o : Nat) (v : W64) : (wr s o v).xbar = s.xbar := rfl
@[simp] theorem wr_tx (s : State) (o : Nat) (v : W64) : (wr s o v).tx = s.tx := rfl
@[simp] theorem wr_picks (s : State) (o : Nat) (v : W64) : (wr s o v).picks = s.picks := rfl
@[simp] theorem wr_draws (s : State) (o : Nat) (v : W64) : (wr s o v).draws = s.draws := rfl

/-! ### wrf -/

@[simp] theorem wrf_pending (s : State) (o lo w x : Nat) : (wrf s o lo w x).pending = s.pending := rfl
@[simp] theorem wrf_regs (s : State) (o lo w x : Nat) : (wrf s o lo w x).regs = sPut (regReset o) s.regs o (setFld (rd s o) lo w x) := rfl
@[simp] theorem wrf_shadow (s : State) (o lo w x : Nat) : (wrf s o lo w x).shadow = s.shadow := rfl
@[simp] theorem wrf_cap (s : State) (o lo w x : Nat) : (wrf s o lo w x).cap = s.cap := rfl
@[simp] theorem wrf_aon (s : State) (o lo w x : Nat) : (wrf s o lo w x).aon = s.aon := rfl
@[simp] theorem wrf_sheet (s : State) (o lo w x : Nat) : (wrf s o lo w x).sheet = s.sheet := rfl
@[simp] theorem wrf_dev (s : State) (o lo w x : Nat) : (wrf s o lo w x).dev = s.dev := rfl
@[simp] theorem wrf_home (s : State) (o lo w x : Nat) : (wrf s o lo w x).home = s.home := rfl
@[simp] theorem wrf_mem (s : State) (o lo w x : Nat) : (wrf s o lo w x).mem = s.mem := rfl
@[simp] theorem wrf_links (s : State) (o lo w x : Nat) : (wrf s o lo w x).links = s.links := rfl
@[simp] theorem wrf_meter (s : State) (o lo w x : Nat) : (wrf s o lo w x).meter = s.meter := rfl
@[simp] theorem wrf_safe (s : State) (o lo w x : Nat) : (wrf s o lo w x).safe = s.safe := rfl
@[simp] theorem wrf_xbar (s : State) (o lo w x : Nat) : (wrf s o lo w x).xbar = s.xbar := rfl
@[simp] theorem wrf_tx (s : State) (o lo w x : Nat) : (wrf s o lo w x).tx = s.tx := rfl
@[simp] theorem wrf_picks (s : State) (o lo w x : Nat) : (wrf s o lo w x).picks = s.picks := rfl
@[simp] theorem wrf_draws (s : State) (o lo w x : Nat) : (wrf s o lo w x).draws = s.draws := rfl

/-! ### wrShadow -/

@[simp] theorem wrShadow_pending (s : State) (o : Nat) (v : W64) : (wrShadow s o v).pending = s.pending := rfl
@[simp] theorem wrShadow_regs (s : State) (o : Nat) (v : W64) : (wrShadow s o v).regs = s.regs := rfl
@[simp] theorem wrShadow_shadow (s : State) (o : Nat) (v : W64) : (wrShadow s o v).shadow = sPut (regReset o &&& rwcMask o) s.shadow o v := rfl
@[simp] theorem wrShadow_cap (s : State) (o : Nat) (v : W64) : (wrShadow s o v).cap = s.cap := rfl
@[simp] theorem wrShadow_aon (s : State) (o : Nat) (v : W64) : (wrShadow s o v).aon = s.aon := rfl
@[simp] theorem wrShadow_sheet (s : State) (o : Nat) (v : W64) : (wrShadow s o v).sheet = s.sheet := rfl
@[simp] theorem wrShadow_dev (s : State) (o : Nat) (v : W64) : (wrShadow s o v).dev = s.dev := rfl
@[simp] theorem wrShadow_home (s : State) (o : Nat) (v : W64) : (wrShadow s o v).home = s.home := rfl
@[simp] theorem wrShadow_mem (s : State) (o : Nat) (v : W64) : (wrShadow s o v).mem = s.mem := rfl
@[simp] theorem wrShadow_links (s : State) (o : Nat) (v : W64) : (wrShadow s o v).links = s.links := rfl
@[simp] theorem wrShadow_meter (s : State) (o : Nat) (v : W64) : (wrShadow s o v).meter = s.meter := rfl
@[simp] theorem wrShadow_safe (s : State) (o : Nat) (v : W64) : (wrShadow s o v).safe = s.safe := rfl
@[simp] theorem wrShadow_xbar (s : State) (o : Nat) (v : W64) : (wrShadow s o v).xbar = s.xbar := rfl
@[simp] theorem wrShadow_tx (s : State) (o : Nat) (v : W64) : (wrShadow s o v).tx = s.tx := rfl
@[simp] theorem wrShadow_picks (s : State) (o : Nat) (v : W64) : (wrShadow s o v).picks = s.picks := rfl
@[simp] theorem wrShadow_draws (s : State) (o : Nat) (v : W64) : (wrShadow s o v).draws = s.draws := rfl

/-! ### setLink -/

@[simp] theorem setLink_pending (a : Nat) (f : Link → Link) (s : State) : (setLink a f s).pending = s.pending := rfl
@[simp] theorem setLink_regs (a : Nat) (f : Link → Link) (s : State) : (setLink a f s).regs = s.regs := rfl
@[simp] theorem setLink_shadow (a : Nat) (f : Link → Link) (s : State) : (setLink a f s).shadow = s.shadow := rfl
@[simp] theorem setLink_cap (a : Nat) (f : Link → Link) (s : State) : (setLink a f s).cap = s.cap := rfl
@[simp] theorem setLink_aon (a : Nat) (f : Link → Link) (s : State) : (setLink a f s).aon = s.aon := rfl
@[simp] theorem setLink_sheet (a : Nat) (f : Link → Link) (s : State) : (setLink a f s).sheet = s.sheet := rfl
@[simp] theorem setLink_dev (a : Nat) (f : Link → Link) (s : State) : (setLink a f s).dev = s.dev := rfl
@[simp] theorem setLink_home (a : Nat) (f : Link → Link) (s : State) : (setLink a f s).home = s.home := rfl
@[simp] theorem setLink_mem (a : Nat) (f : Link → Link) (s : State) : (setLink a f s).mem = s.mem := rfl
@[simp] theorem setLink_links (a : Nat) (f : Link → Link) (s : State) : (setLink a f s).links = sUpd Link.reset s.links a f := rfl
@[simp] theorem setLink_meter (a : Nat) (f : Link → Link) (s : State) : (setLink a f s).meter = s.meter := rfl
@[simp] theorem setLink_safe (a : Nat) (f : Link → Link) (s : State) : (setLink a f s).safe = s.safe := rfl
@[simp] theorem setLink_xbar (a : Nat) (f : Link → Link) (s : State) : (setLink a f s).xbar = s.xbar := rfl
@[simp] theorem setLink_tx (a : Nat) (f : Link → Link) (s : State) : (setLink a f s).tx = s.tx := rfl
@[simp] theorem setLink_picks (a : Nat) (f : Link → Link) (s : State) : (setLink a f s).picks = s.picks := rfl
@[simp] theorem setLink_draws (a : Nat) (f : Link → Link) (s : State) : (setLink a f s).draws = s.draws := rfl

/-! ### setChan -/

@[simp] theorem setChan_pending (m : Nat) (f : Chan → Chan) (s : State) : (setChan m f s).pending = s.pending := rfl
@[simp] theorem setChan_regs (m : Nat) (f : Chan → Chan) (s : State) : (setChan m f s).regs = s.regs := rfl
@[simp] theorem setChan_shadow (m : Nat) (f : Chan → Chan) (s : State) : (setChan m f s).shadow = s.shadow := rfl
@[simp] theorem setChan_cap (m : Nat) (f : Chan → Chan) (s : State) : (setChan m f s).cap = s.cap := rfl
@[simp] theorem setChan_aon (m : Nat) (f : Chan → Chan) (s : State) : (setChan m f s).aon = s.aon := rfl
@[simp] theorem setChan_sheet (m : Nat) (f : Chan → Chan) (s : State) : (setChan m f s).sheet = s.sheet := rfl
@[simp] theorem setChan_dev (m : Nat) (f : Chan → Chan) (s : State) : (setChan m f s).dev = s.dev := rfl
@[simp] theorem setChan_home (m : Nat) (f : Chan → Chan) (s : State) : (setChan m f s).home = s.home := rfl
@[simp] theorem setChan_mem (m : Nat) (f : Chan → Chan) (s : State) : (setChan m f s).mem = { s.mem with chans := sUpd Chan.reset s.mem.chans m f } := rfl
@[simp] theorem setChan_links (m : Nat) (f : Chan → Chan) (s : State) : (setChan m f s).links = s.links := rfl
@[simp] theorem setChan_meter (m : Nat) (f : Chan → Chan) (s : State) : (setChan m f s).meter = s.meter := rfl
@[simp] theorem setChan_safe (m : Nat) (f : Chan → Chan) (s : State) : (setChan m f s).safe = s.safe := rfl
@[simp] theorem setChan_xbar (m : Nat) (f : Chan → Chan) (s : State) : (setChan m f s).xbar = s.xbar := rfl
@[simp] theorem setChan_tx (m : Nat) (f : Chan → Chan) (s : State) : (setChan m f s).tx = s.tx := rfl
@[simp] theorem setChan_picks (m : Nat) (f : Chan → Chan) (s : State) : (setChan m f s).picks = s.picks := rfl
@[simp] theorem setChan_draws (m : Nat) (f : Chan → Chan) (s : State) : (setChan m f s).draws = s.draws := rfl

/-! ### bumpDraws -/

@[simp] theorem bumpDraws_pending (s : State) : (bumpDraws s).pending = s.pending := rfl
@[simp] theorem bumpDraws_regs (s : State) : (bumpDraws s).regs = s.regs := rfl
@[simp] theorem bumpDraws_shadow (s : State) : (bumpDraws s).shadow = s.shadow := rfl
@[simp] theorem bumpDraws_cap (s : State) : (bumpDraws s).cap = s.cap := rfl
@[simp] theorem bumpDraws_aon (s : State) : (bumpDraws s).aon = s.aon := rfl
@[simp] theorem bumpDraws_sheet (s : State) : (bumpDraws s).sheet = s.sheet := rfl
@[simp] theorem bumpDraws_dev (s : State) : (bumpDraws s).dev = s.dev := rfl
@[simp] theorem bumpDraws_home (s : State) : (bumpDraws s).home = s.home := rfl
@[simp] theorem bumpDraws_mem (s : State) : (bumpDraws s).mem = s.mem := rfl
@[simp] theorem bumpDraws_links (s : State) : (bumpDraws s).links = s.links := rfl
@[simp] theorem bumpDraws_meter (s : State) : (bumpDraws s).meter = s.meter := rfl
@[simp] theorem bumpDraws_safe (s : State) : (bumpDraws s).safe = s.safe := rfl
@[simp] theorem bumpDraws_xbar (s : State) : (bumpDraws s).xbar = s.xbar := rfl
@[simp] theorem bumpDraws_tx (s : State) : (bumpDraws s).tx = s.tx := rfl
@[simp] theorem bumpDraws_picks (s : State) : (bumpDraws s).picks = s.picks := rfl
@[simp] theorem bumpDraws_draws (s : State) : (bumpDraws s).draws = s.draws + 1 := rfl

/-! ### capDone -/

@[simp] theorem capDone_pending (e : Bool) (d : W64) (s : State) : (capDone e d s).pending = s.pending := rfl
@[simp] theorem capDone_regs (e : Bool) (d : W64) (s : State) : (capDone e d s).regs = s.regs := rfl
@[simp] theorem capDone_shadow (e : Bool) (d : W64) (s : State) : (capDone e d s).shadow = s.shadow := rfl
@[simp] theorem capDone_cap (e : Bool) (d : W64) (s : State) : (capDone e d s).cap = { s.cap with resp := { ack := true, err := e, rdata := d } } := rfl
@[simp] theorem capDone_aon (e : Bool) (d : W64) (s : State) : (capDone e d s).aon = s.aon := rfl
@[simp] theorem capDone_sheet (e : Bool) (d : W64) (s : State) : (capDone e d s).sheet = s.sheet := rfl
@[simp] theorem capDone_dev (e : Bool) (d : W64) (s : State) : (capDone e d s).dev = s.dev := rfl
@[simp] theorem capDone_home (e : Bool) (d : W64) (s : State) : (capDone e d s).home = s.home := rfl
@[simp] theorem capDone_mem (e : Bool) (d : W64) (s : State) : (capDone e d s).mem = s.mem := rfl
@[simp] theorem capDone_links (e : Bool) (d : W64) (s : State) : (capDone e d s).links = s.links := rfl
@[simp] theorem capDone_meter (e : Bool) (d : W64) (s : State) : (capDone e d s).meter = s.meter := rfl
@[simp] theorem capDone_safe (e : Bool) (d : W64) (s : State) : (capDone e d s).safe = s.safe := rfl
@[simp] theorem capDone_xbar (e : Bool) (d : W64) (s : State) : (capDone e d s).xbar = s.xbar := rfl
@[simp] theorem capDone_tx (e : Bool) (d : W64) (s : State) : (capDone e d s).tx = s.tx := rfl
@[simp] theorem capDone_picks (e : Bool) (d : W64) (s : State) : (capDone e d s).picks = s.picks := rfl
@[simp] theorem capDone_draws (e : Bool) (d : W64) (s : State) : (capDone e d s).draws = s.draws := rfl

/-! ### capSilent -/

@[simp] theorem capSilent_pending (s : State) : (capSilent s).pending = s.pending := rfl
@[simp] theorem capSilent_regs (s : State) : (capSilent s).regs = s.regs := rfl
@[simp] theorem capSilent_shadow (s : State) : (capSilent s).shadow = s.shadow := rfl
@[simp] theorem capSilent_cap (s : State) : (capSilent s).cap = { s.cap with resp := { ack := false, err := false, rdata := 0 } } := rfl
@[simp] theorem capSilent_aon (s : State) : (capSilent s).aon = s.aon := rfl
@[simp] theorem capSilent_sheet (s : State) : (capSilent s).sheet = s.sheet := rfl
@[simp] theorem capSilent_dev (s : State) : (capSilent s).dev = s.dev := rfl
@[simp] theorem capSilent_home (s : State) : (capSilent s).home = s.home := rfl
@[simp] theorem capSilent_mem (s : State) : (capSilent s).mem = s.mem := rfl
@[simp] theorem capSilent_links (s : State) : (capSilent s).links = s.links := rfl
@[simp] theorem capSilent_meter (s : State) : (capSilent s).meter = s.meter := rfl
@[simp] theorem capSilent_safe (s : State) : (capSilent s).safe = s.safe := rfl
@[simp] theorem capSilent_xbar (s : State) : (capSilent s).xbar = s.xbar := rfl
@[simp] theorem capSilent_tx (s : State) : (capSilent s).tx = s.tx := rfl
@[simp] theorem capSilent_picks (s : State) : (capSilent s).picks = s.picks := rfl
@[simp] theorem capSilent_draws (s : State) : (capSilent s).draws = s.draws := rfl

/-! ### statAdd -/

@[simp] theorem statAdd_pending (e c u n : Nat) (s : State) : (statAdd e c u n s).pending = s.pending := rfl
@[simp] theorem statAdd_regs (e c u n : Nat) (s : State) : (statAdd e c u n s).regs = s.regs := rfl
@[simp] theorem statAdd_shadow (e c u n : Nat) (s : State) : (statAdd e c u n s).shadow = s.shadow := rfl
@[simp] theorem statAdd_cap (e c u n : Nat) (s : State) : (statAdd e c u n s).cap = s.cap := rfl
@[simp] theorem statAdd_aon (e c u n : Nat) (s : State) : (statAdd e c u n s).aon = s.aon := rfl
@[simp] theorem statAdd_sheet (e c u n : Nat) (s : State) : (statAdd e c u n s).sheet = s.sheet := rfl
@[simp] theorem statAdd_dev (e c u n : Nat) (s : State) : (statAdd e c u n s).dev = s.dev := rfl
@[simp] theorem statAdd_home (e c u n : Nat) (s : State) : (statAdd e c u n s).home = s.home := rfl
@[simp] theorem statAdd_mem (e c u n : Nat) (s : State) : (statAdd e c u n s).mem = s.mem := rfl
@[simp] theorem statAdd_links (e c u n : Nat) (s : State) : (statAdd e c u n s).links = s.links := rfl
@[simp] theorem statAdd_meter (e c u n : Nat) (s : State) : (statAdd e c u n s).meter = { s.meter with stats := sUpd 0 s.meter.stats (statKey e c u) (· + n) } := rfl
@[simp] theorem statAdd_safe (e c u n : Nat) (s : State) : (statAdd e c u n s).safe = s.safe := rfl
@[simp] theorem statAdd_xbar (e c u n : Nat) (s : State) : (statAdd e c u n s).xbar = s.xbar := rfl
@[simp] theorem statAdd_tx (e c u n : Nat) (s : State) : (statAdd e c u n s).tx = s.tx := rfl
@[simp] theorem statAdd_picks (e c u n : Nat) (s : State) : (statAdd e c u n s).picks = s.picks := rfl
@[simp] theorem statAdd_draws (e c u n : Nat) (s : State) : (statAdd e c u n s).draws = s.draws := rfl

/-! ### setCause -/

@[simp] theorem setCause_pending (c : Cause) (u : Nat) (s : State) : (setCause c u s).pending = s.pending := rfl
@[simp] theorem setCause_regs (c : Cause) (u : Nat) (s : State) : (setCause c u s).regs = sPut (regReset (causeReg c.domain u)) s.regs (causeReg c.domain u) (rd s (causeReg c.domain u) ||| w64 (2 ^ c.bit)) := rfl
@[simp] theorem setCause_shadow (c : Cause) (u : Nat) (s : State) : (setCause c u s).shadow = s.shadow := rfl
@[simp] theorem setCause_cap (c : Cause) (u : Nat) (s : State) : (setCause c u s).cap = s.cap := rfl
@[simp] theorem setCause_aon (c : Cause) (u : Nat) (s : State) : (setCause c u s).aon = s.aon := rfl
@[simp] theorem setCause_sheet (c : Cause) (u : Nat) (s : State) : (setCause c u s).sheet = s.sheet := rfl
@[simp] theorem setCause_dev (c : Cause) (u : Nat) (s : State) : (setCause c u s).dev = s.dev := rfl
@[simp] theorem setCause_home (c : Cause) (u : Nat) (s : State) : (setCause c u s).home = s.home := rfl
@[simp] theorem setCause_mem (c : Cause) (u : Nat) (s : State) : (setCause c u s).mem = s.mem := rfl
@[simp] theorem setCause_links (c : Cause) (u : Nat) (s : State) : (setCause c u s).links = s.links := rfl
@[simp] theorem setCause_meter (c : Cause) (u : Nat) (s : State) : (setCause c u s).meter = s.meter := rfl
@[simp] theorem setCause_safe (c : Cause) (u : Nat) (s : State) : (setCause c u s).safe = s.safe := rfl
@[simp] theorem setCause_xbar (c : Cause) (u : Nat) (s : State) : (setCause c u s).xbar = s.xbar := rfl
@[simp] theorem setCause_tx (c : Cause) (u : Nat) (s : State) : (setCause c u s).tx = s.tx := rfl
@[simp] theorem setCause_picks (c : Cause) (u : Nat) (s : State) : (setCause c u s).picks = s.picks := rfl
@[simp] theorem setCause_draws (c : Cause) (u : Nat) (s : State) : (setCause c u s).draws = s.draws := rfl

/-! ### emit -/

@[simp] theorem emit_pending (x : TxMsg) (s : State) : (emit x s).pending = s.pending := rfl
@[simp] theorem emit_regs (x : TxMsg) (s : State) : (emit x s).regs = s.regs := rfl
@[simp] theorem emit_shadow (x : TxMsg) (s : State) : (emit x s).shadow = s.shadow := rfl
@[simp] theorem emit_cap (x : TxMsg) (s : State) : (emit x s).cap = s.cap := rfl
@[simp] theorem emit_aon (x : TxMsg) (s : State) : (emit x s).aon = s.aon := rfl
@[simp] theorem emit_sheet (x : TxMsg) (s : State) : (emit x s).sheet = s.sheet := rfl
@[simp] theorem emit_dev (x : TxMsg) (s : State) : (emit x s).dev = s.dev := rfl
@[simp] theorem emit_home (x : TxMsg) (s : State) : (emit x s).home = s.home := rfl
@[simp] theorem emit_mem (x : TxMsg) (s : State) : (emit x s).mem = s.mem := rfl
@[simp] theorem emit_links (x : TxMsg) (s : State) : (emit x s).links = s.links := rfl
@[simp] theorem emit_meter (x : TxMsg) (s : State) : (emit x s).meter = s.meter := rfl
@[simp] theorem emit_safe (x : TxMsg) (s : State) : (emit x s).safe = s.safe := rfl
@[simp] theorem emit_xbar (x : TxMsg) (s : State) : (emit x s).xbar = s.xbar := rfl
@[simp] theorem emit_tx (x : TxMsg) (s : State) : (emit x s).tx = s.tx ++ [x] := rfl
@[simp] theorem emit_picks (x : TxMsg) (s : State) : (emit x s).picks = s.picks := rfl
@[simp] theorem emit_draws (x : TxMsg) (s : State) : (emit x s).draws = s.draws := rfl

/-! ### request -/

@[simp] theorem request_pending (p : Packet) (s : State) : (request p s).pending = s.pending := rfl
@[simp] theorem request_regs (p : Packet) (s : State) : (request p s).regs = s.regs := rfl
@[simp] theorem request_shadow (p : Packet) (s : State) : (request p s).shadow = s.shadow := rfl
@[simp] theorem request_cap (p : Packet) (s : State) : (request p s).cap = s.cap := rfl
@[simp] theorem request_aon (p : Packet) (s : State) : (request p s).aon = s.aon := rfl
@[simp] theorem request_sheet (p : Packet) (s : State) : (request p s).sheet = s.sheet := rfl
@[simp] theorem request_dev (p : Packet) (s : State) : (request p s).dev = s.dev := rfl
@[simp] theorem request_home (p : Packet) (s : State) : (request p s).home = s.home := rfl
@[simp] theorem request_mem (p : Packet) (s : State) : (request p s).mem = s.mem := rfl
@[simp] theorem request_links (p : Packet) (s : State) : (request p s).links = s.links := rfl
@[simp] theorem request_meter (p : Packet) (s : State) : (request p s).meter = s.meter := rfl
@[simp] theorem request_safe (p : Packet) (s : State) : (request p s).safe = s.safe := rfl
@[simp] theorem request_xbar (p : Packet) (s : State) : (request p s).xbar = { s.xbar with packets := s.xbar.packets ++ [p] } := rfl
@[simp] theorem request_tx (p : Packet) (s : State) : (request p s).tx = s.tx := rfl
@[simp] theorem request_picks (p : Packet) (s : State) : (request p s).picks = s.picks := rfl
@[simp] theorem request_draws (p : Packet) (s : State) : (request p s).draws = s.draws := rfl

/-! ### withdraw -/

@[simp] theorem withdraw_pending (w : Packet → Bool) (s : State) : (withdraw w s).pending = s.pending := rfl
@[simp] theorem withdraw_regs (w : Packet → Bool) (s : State) : (withdraw w s).regs = s.regs := rfl
@[simp] theorem withdraw_shadow (w : Packet → Bool) (s : State) : (withdraw w s).shadow = s.shadow := rfl
@[simp] theorem withdraw_cap (w : Packet → Bool) (s : State) : (withdraw w s).cap = s.cap := rfl
@[simp] theorem withdraw_aon (w : Packet → Bool) (s : State) : (withdraw w s).aon = s.aon := rfl
@[simp] theorem withdraw_sheet (w : Packet → Bool) (s : State) : (withdraw w s).sheet = s.sheet := rfl
@[simp] theorem withdraw_dev (w : Packet → Bool) (s : State) : (withdraw w s).dev = s.dev := rfl
@[simp] theorem withdraw_home (w : Packet → Bool) (s : State) : (withdraw w s).home = s.home := rfl
@[simp] theorem withdraw_mem (w : Packet → Bool) (s : State) : (withdraw w s).mem = s.mem := rfl
@[simp] theorem withdraw_links (w : Packet → Bool) (s : State) : (withdraw w s).links = s.links := rfl
@[simp] theorem withdraw_meter (w : Packet → Bool) (s : State) : (withdraw w s).meter = s.meter := rfl
@[simp] theorem withdraw_safe (w : Packet → Bool) (s : State) : (withdraw w s).safe = s.safe := rfl
@[simp] theorem withdraw_tx (w : Packet → Bool) (s : State) : (withdraw w s).tx = s.tx := rfl
@[simp] theorem withdraw_picks (w : Packet → Bool) (s : State) : (withdraw w s).picks = s.picks := rfl
@[simp] theorem withdraw_draws (w : Packet → Bool) (s : State) : (withdraw w s).draws = s.draws := rfl

/-! ### stepsTaken -/

@[simp] theorem stepsTaken_pending (s : State) : (stepsTaken s).pending = s.pending := rfl
@[simp] theorem stepsTaken_regs (s : State) : (stepsTaken s).regs = s.regs := rfl
@[simp] theorem stepsTaken_shadow (s : State) : (stepsTaken s).shadow = s.shadow := rfl
@[simp] theorem stepsTaken_cap (s : State) : (stepsTaken s).cap = s.cap := rfl
@[simp] theorem stepsTaken_aon (s : State) : (stepsTaken s).aon = { s.aon with stepQ := [], stepWait := 0 } := rfl
@[simp] theorem stepsTaken_sheet (s : State) : (stepsTaken s).sheet = s.sheet := rfl
@[simp] theorem stepsTaken_dev (s : State) : (stepsTaken s).dev = s.dev := rfl
@[simp] theorem stepsTaken_home (s : State) : (stepsTaken s).home = s.home := rfl
@[simp] theorem stepsTaken_mem (s : State) : (stepsTaken s).mem = s.mem := rfl
@[simp] theorem stepsTaken_links (s : State) : (stepsTaken s).links = s.links := rfl
@[simp] theorem stepsTaken_meter (s : State) : (stepsTaken s).meter = s.meter := rfl
@[simp] theorem stepsTaken_safe (s : State) : (stepsTaken s).safe = s.safe := rfl
@[simp] theorem stepsTaken_xbar (s : State) : (stepsTaken s).xbar = s.xbar := rfl
@[simp] theorem stepsTaken_tx (s : State) : (stepsTaken s).tx = s.tx := rfl
@[simp] theorem stepsTaken_picks (s : State) : (stepsTaken s).picks = s.picks := rfl
@[simp] theorem stepsTaken_draws (s : State) : (stepsTaken s).draws = s.draws := rfl

end Sys2Proof.Machine
end

