-- ==== Sys2Proof/Laws/Registers.lean ====
section
/-! SUPPORT. Laws of the registers and their fields: a register read after a write, a field read after a field written, and
that every write keeps the register file's canonical form. -/

namespace Sys2Proof.Machine

/-! ### Registers -/

/-- A register reads what was last written. -/
@[simp] theorem rd_wr_same (s : State) (o : Nat) (v : W64) : rd (wr s o v) o = v := by simp [rd]

/-- A write leaves every other register alone. -/
theorem rd_wr_ne (s : State) {o o2 : Nat} (v : W64) (h : o2 ≠ o) : rd (wr s o v) o2 = rd s o2 := by
  simp [rd, sGet_sPut_ne _ _ _ _ h]

/-- `rd` sees nothing but the register file. -/
theorem rd_congr {s t : State} (h : t.regs = s.regs) (o : Nat) : rd t o = rd s o := by simp [rd, h]

/-- `rdf` sees nothing but the register file. -/
theorem rdf_congr {s t : State} (h : t.regs = s.regs) (o lo w : Nat) : rdf t o lo w = rdf s o lo w := by
  simp [rdf, rd_congr h]

theorem rd_wrf_ne (s : State) {o o2 : Nat} (lo w x : Nat) (h : o2 ≠ o) : rd (wrf s o lo w x) o2 = rd s o2 :=
  rd_wr_ne _ _ h

theorem rd_wrf_same (s : State) (o lo w x : Nat) : rd (wrf s o lo w x) o = setFld (rd s o) lo w x := rd_wr_same _ _ _

theorem rdf_wr_ne (s : State) {o o2 : Nat} (v : W64) (lo w : Nat) (h : o2 ≠ o) : rdf (wr s o v) o2 lo w = rdf s o2 lo w := by
  simp [rdf, rd_wr_ne _ _ h]

theorem rdf_wrf_ne (s : State) {o o2 : Nat} (lo w x lo2 w2 : Nat) (h : o2 ≠ o) :
    rdf (wrf s o lo w x) o2 lo2 w2 = rdf s o2 lo2 w2 := rdf_wr_ne _ _ _ _ h

/-! ### Fields -/

theorem getLsbD_setFld (v : W64) (lo w x i : Nat) (hi : i < 64) :
    (setFld v lo w x).getLsbD i = if lo ≤ i ∧ i < lo + w then x.testBit (i - lo) else v.getLsbD i := by
  have hm : (maskAt lo w).getLsbD i = decide (lo ≤ i ∧ i < lo + w) := by
    simp only [maskAt, BitVec.getLsbD_ofNat, Nat.testBit_shiftLeft, Nat.testBit_two_pow_sub_one, hi, decide_true,
      Bool.true_and]
    by_cases h : lo ≤ i
    · simp [h]; omega
    · simp [h]
  have hx : (BitVec.ofNat 64 ((x % 2 ^ w) <<< lo)).getLsbD i = (decide (lo ≤ i ∧ i < lo + w) && x.testBit (i - lo)) := by
    simp only [BitVec.getLsbD_ofNat, Nat.testBit_shiftLeft, Nat.testBit_mod_two_pow, hi, decide_true, Bool.true_and]
    by_cases h : lo ≤ i
    · by_cases h2 : i < lo + w
      · have : i - lo < w := by omega
        simp [h, h2, this]
      · have : ¬ i - lo < w := by omega
        simp [h2, this]
    · simp [h]
  simp only [setFld, BitVec.getLsbD_or, BitVec.getLsbD_and, BitVec.getLsbD_not, hm, hx, hi, decide_true, Bool.true_and]
  by_cases h : lo ≤ i ∧ i < lo + w
  · simp [h]
  · simp [h]

theorem testBit_fld {n : Nat} (v : BitVec n) (lo w i : Nat) : (fld v lo w).testBit i = (decide (i < w) && v.getLsbD (lo + i)) := by
  simp [fld, Nat.testBit_mod_two_pow, Nat.testBit_shiftRight, BitVec.getLsbD, Nat.add_comm]

/-- A field read after it is written. -/
theorem fld_setFld_same (v : W64) (lo w x : Nat) (h : lo + w ≤ 64) : fld (setFld v lo w x) lo w = x % 2 ^ w := by
  apply Nat.eq_of_testBit_eq
  intro i
  rw [testBit_fld, Nat.testBit_mod_two_pow]
  by_cases hi : i < w
  · have h1 : lo ≤ lo + i ∧ lo + i < lo + w := by omega
    rw [getLsbD_setFld _ _ _ _ _ (by omega), if_pos h1]
    simp [hi]
  · simp [hi]

/-- A field that does not meet the one written. -/
theorem fld_setFld_ne (v : W64) (lo w x lo2 w2 : Nat) (h : lo2 + w2 ≤ lo ∨ lo + w ≤ lo2) (h2 : lo2 + w2 ≤ 64) :
    fld (setFld v lo w x) lo2 w2 = fld v lo2 w2 := by
  apply Nat.eq_of_testBit_eq
  intro i
  rw [testBit_fld, testBit_fld]
  by_cases hi : i < w2
  · have h1 : ¬ (lo ≤ lo2 + i ∧ lo2 + i < lo + w) := by omega
    rw [getLsbD_setFld _ _ _ _ _ (by omega), if_neg h1]
  · simp [hi]

/-- A bit outside the field written. -/
theorem bitOf_setFld_ne (v : W64) (lo w x i : Nat) (h : i < lo ∨ lo + w ≤ i) : bitOf (setFld v lo w x) i = bitOf v i := by
  unfold bitOf
  by_cases hi : i < 64
  · rw [getLsbD_setFld _ _ _ _ _ hi, if_neg (by omega)]
  · rw [BitVec.getLsbD_of_ge _ _ (by omega), BitVec.getLsbD_of_ge _ _ (by omega)]

/-- The one bit of a field of one bit. -/
theorem bitOf_setFld_one (v : W64) (i x : Nat) (h : i < 64) : bitOf (setFld v i 1 x) i = decide (x % 2 = 1) := by
  unfold bitOf
  rw [getLsbD_setFld _ _ _ _ _ h, if_pos (by omega)]
  simp [Nat.testBit_zero]

theorem rdf_wrf_same (s : State) (o lo w x : Nat) (h : lo + w ≤ 64) : rdf (wrf s o lo w x) o lo w = x % 2 ^ w := by
  rw [rdf, rd_wrf_same, fld_setFld_same _ _ _ _ h]

theorem rdf_wrf_field_ne (s : State) (o lo w x lo2 w2 : Nat) (h : lo2 + w2 ≤ lo ∨ lo + w ≤ lo2) (h2 : lo2 + w2 ≤ 64) :
    rdf (wrf s o lo w x) o lo2 w2 = rdf s o lo2 w2 := by
  rw [rdf, rd_wrf_same, fld_setFld_ne _ _ _ _ _ _ h h2, rdf]

/-! ### The register file's canonical form -/

theorem regs_wf_sPut {m : Sparse W64} (o : Nat) (v : W64) (h : Regs.wf m = true) :
    Regs.wf (sPut (regReset o) m o v) = true := by
  simp only [Regs.wf, Bool.and_eq_true, List.all_eq_true, Bool.not_eq_true', decide_eq_false_iff_not] at h ⊢
  refine ⟨sOrdered_sPut _ _ _ h.1, fun q hq => ?_⟩
  rcases mem_sPut hq with ⟨rfl, hv⟩ | hq
  · exact hv
  · exact h.2 q hq

/-- Every register write keeps the form. -/
theorem regs_wf_wr {s : State} (o : Nat) (v : W64) (h : Regs.wf s.regs = true) : Regs.wf (wr s o v).regs = true :=
  regs_wf_sPut o v h

theorem regs_wf_wrf {s : State} (o lo w x : Nat) (h : Regs.wf s.regs = true) : Regs.wf (wrf s o lo w x).regs = true :=
  regs_wf_sPut o _ h

end Sys2Proof.Machine
end

