-- ==== Sys2Proof/Laws/Meaning.lean ====
section
/-! SUPPORT. What the wrappers of the meanings do, said once each; raising a cause; counting with no counter configured. -/

namespace Sys2Proof.Machine

/-! ### Wrappers -/

theorem onUnit_true {ok : Bool} (h : ok = true) (f : State → State) (s : State) : onUnit ok f s = .next (f s) := by
  simp [onUnit, h]

theorem onUnit_false {ok : Bool} (h : ok = false) (f : State → State) (s : State) :
    onUnit ok f s = .fault .noSuchUnit := by simp [onUnit, h]

theorem live_awake (f : State → State) {s : State} (h : asleep s = false) : live f s = untimed f s := by simp [live, h]

theorem live_asleep (f : State → State) {s : State} (h : asleep s = true) : live f s = s := by simp [live, h]

/-- An effect that keeps the queue and the whole always-on side is what `untimed` makes of it. -/
theorem untimed_eq {f : State → State} {s : State} (hp : (f s).pending = s.pending) (ha : (f s).aon = s.aon) :
    untimed f s = f s := by
  unfold untimed within
  generalize f s = t at hp ha ⊢
  cases t; cases s
  simp only at hp ha
  subst hp; subst ha
  rfl

@[simp] theorem untimed_pending (f : State → State) (s : State) : (untimed f s).pending = s.pending := rfl
@[simp] theorem untimed_regs (f : State → State) (s : State) : (untimed f s).regs = (f s).regs := rfl
@[simp] theorem untimed_shadow (f : State → State) (s : State) : (untimed f s).shadow = (f s).shadow := rfl
@[simp] theorem untimed_cap (f : State → State) (s : State) : (untimed f s).cap = (f s).cap := rfl
@[simp] theorem untimed_sheet (f : State → State) (s : State) : (untimed f s).sheet = (f s).sheet := rfl
@[simp] theorem untimed_dev (f : State → State) (s : State) : (untimed f s).dev = (f s).dev := rfl
@[simp] theorem untimed_home (f : State → State) (s : State) : (untimed f s).home = (f s).home := rfl
@[simp] theorem untimed_mem (f : State → State) (s : State) : (untimed f s).mem = (f s).mem := rfl
@[simp] theorem untimed_links (f : State → State) (s : State) : (untimed f s).links = (f s).links := rfl
@[simp] theorem untimed_meter (f : State → State) (s : State) : (untimed f s).meter = (f s).meter := rfl
@[simp] theorem untimed_safe (f : State → State) (s : State) : (untimed f s).safe = (f s).safe := rfl
@[simp] theorem untimed_xbar (f : State → State) (s : State) : (untimed f s).xbar = (f s).xbar := rfl
@[simp] theorem untimed_tx (f : State → State) (s : State) : (untimed f s).tx = (f s).tx := rfl
@[simp] theorem untimed_picks (f : State → State) (s : State) : (untimed f s).picks = (f s).picks := rfl
@[simp] theorem untimed_draws (f : State → State) (s : State) : (untimed f s).draws = (f s).draws := rfl
@[simp] theorem untimed_ft (f : State → State) (s : State) : (untimed f s).aon.ft = s.aon.ft := rfl
@[simp] theorem untimed_ftFrac (f : State → State) (s : State) : (untimed f s).aon.ftFrac = s.aon.ftFrac := rfl
@[simp] theorem untimed_fuses (f : State → State) (s : State) : (untimed f s).aon.fuses = s.aon.fuses := rfl
@[simp] theorem untimed_tap (f : State → State) (s : State) : (untimed f s).aon.tap = s.aon.tap := rfl
@[simp] theorem untimed_porstLow (f : State → State) (s : State) : (untimed f s).aon.porstLow = s.aon.porstLow := rfl
@[simp] theorem untimed_testMode (f : State → State) (s : State) : (untimed f s).aon.testMode = s.aon.testMode := rfl
@[simp] theorem within_pending (f : State → State) (s : State) : (within f s).pending = s.pending := rfl
@[simp] theorem within_fuses (f : State → State) (s : State) : (within f s).aon.fuses = s.aon.fuses := rfl
@[simp] theorem within_tap (f : State → State) (s : State) : (within f s).aon.tap = s.aon.tap := rfl
@[simp] theorem within_porstLow (f : State → State) (s : State) : (within f s).aon.porstLow = s.aon.porstLow := rfl
@[simp] theorem within_testMode (f : State → State) (s : State) : (within f s).aon.testMode = s.aon.testMode := rfl

@[simp] theorem live_pending (f : State → State) (s : State) : (live f s).pending = s.pending := by
  unfold live; split <;> rfl

theorem asleep_of_porst {s : State} (h : s.aon.porstLow = true) : asleep s = true := by simp [asleep, h]

theorem not_answers_of_porst {s : State} (h : s.aon.porstLow = true) : capAnswers s = false := by simp [capAnswers, h]

/-- The CAP answers exactly while the block is awake (R394). -/
theorem capAnswers_eq (s : State) : capAnswers s = !asleep s := by
  unfold capAnswers asleep; cases s.aon.porstLow <;> simp

theorem capCmd_answers (f : State → State) {s : State} (h : capAnswers s = true) :
    capCmd f s = untimed f (capDone false 0 s) := by simp [capCmd, h]

theorem capCmd_silent (f : State → State) {s : State} (h : capAnswers s = false) : capCmd f s = capSilent s := by
  simp [capCmd, h]

theorem awake_high (f : State → State) {s : State} (h : s.aon.porstLow = false) : awake f s = untimed f s := by
  simp [awake, h]

/-- Out of STANDBY a message wakes nothing. -/
theorem wakeStandby_other {s : State} (h : rdf s oPwrStatus 0 3 ≠ 1) : wakeStandby s = s := by simp [wakeStandby, h]

/-! ### Raising a cause -/

/-- A cause of no class sets its bit, and nothing more (R324). -/
theorem raise_none {c : Cause} (h : c.cls = .none) (u : Nat) (r : PsRec) (s : State) : raise c u r s = setCause c u s := by
  unfold raise; rw [h]; rfl

/-- `t` is `s` but for registers and the Safelight bookkeeping. -/
def RegsSafe (s t : State) : Prop := ∃ m f, t = { s with regs := m, safe := f }

theorem RegsSafe.refl (s : State) : RegsSafe s s := ⟨s.regs, s.safe, rfl⟩

theorem RegsSafe.trans {s t u : State} (h : RegsSafe s t) (k : RegsSafe t u) : RegsSafe s u := by
  obtain ⟨m, f, rfl⟩ := h
  obtain ⟨m', f', rfl⟩ := k
  exact ⟨m', f', rfl⟩

theorem regsSafe_wr (s : State) (o : Nat) (v : W64) : RegsSafe s (wr s o v) := ⟨_, s.safe, rfl⟩

theorem regsSafe_wrf (s : State) (o lo w x : Nat) : RegsSafe s (wrf s o lo w x) := ⟨_, s.safe, rfl⟩

theorem regsSafe_psWrite (c : Cause) (k : Class) (r : PsRec) (s : State) : RegsSafe s (psWrite c k r s) := by
  unfold psWrite
  iterate 9 refine RegsSafe.trans ?_ (regsSafe_wr _ _ _)
  exact RegsSafe.refl s

theorem regsSafe_suspectMark (c : Cause) (u : Nat) (s : State) : RegsSafe s (suspectMark c u s) := by
  unfold suspectMark
  dsimp only
  split <;> split
  · exact (regsSafe_wr _ _ _).trans (regsSafe_wrf _ _ _ _ _)
  · exact regsSafe_wrf _ _ _ _ _
  · exact regsSafe_wr _ _ _
  · exact RegsSafe.refl s

theorem regsSafe_gfEnter (c : Cause) (u : Nat) (s : State) : RegsSafe s (gfEnter c u s) := by
  unfold gfEnter
  split
  · exact regsSafe_suspectMark c u s
  · refine RegsSafe.trans (regsSafe_suspectMark c u s) ?_
    refine RegsSafe.trans (regsSafe_wrf _ oFltStatus 0 1 1) ?_
    refine RegsSafe.trans (regsSafe_wrf _ oFltStatus 23 4 c.domain) ?_
    refine RegsSafe.trans (regsSafe_wrf _ oFltStatus 27 5 c.bit) ?_
    exact ⟨_, _, rfl⟩

/-- What a raised cause leaves: everything but registers and the Safelight bookkeeping (R324, R337). -/
theorem regsSafe_raise (c : Cause) (u : Nat) (r : PsRec) (s : State) : RegsSafe s (raise c u r s) := by
  have h1 : RegsSafe s (setCause c u s) := regsSafe_wr _ _ _
  have h2 : ∀ t : State, RegsSafe t (match classCounter c.cls with
      | some o => wr t o (satInc32 (rd t o))
      | none => t) := by
    intro t
    cases classCounter c.cls with
    | none => exact RegsSafe.refl t
    | some o => exact regsSafe_wr _ _ _
  unfold raise
  have h3 := h1.trans (h2 _)
  cases h : c.cls with
  | none => rw [h] at h3; exact h3
  | ce => rw [h] at h3; exact h3
  | de => rw [h] at h3; exact h3.trans (regsSafe_psWrite _ _ _ _)
  | lf => rw [h] at h3; exact h3.trans (regsSafe_psWrite _ _ _ _)
  | gf => rw [h] at h3; exact (h3.trans (regsSafe_psWrite _ _ _ _)).trans (regsSafe_gfEnter _ _ _)

/-! ### Counting with no counter configured -/

/-- With no counter configured an event changes only the Light Meter's own counts. -/
theorem count_none {s : State} (h : ctrConfigured s = []) (ev : Nat) (u : Units) (n : Nat) :
    ∃ m, count ev u n s = { s with meter := { s.meter with stats := m } } := by
  unfold count
  rw [h]
  cases u.tray <;> cases u.agent <;> cases u.chan <;> exact ⟨_, rfl⟩

end Sys2Proof.Machine
end

