-- ==== Sys2Proof/Tests/Slice0.lean ====
section
/-! SUPPORT. Tests: what the well-formedness check refuses, and for each statement states that meet its hypotheses. -/

namespace Sys2Proof.Tests
open Sys2Proof Sys2Proof.Machine

set_option Elab.async false

/-- Registers written over a state. -/
def regd (l : List (Nat × W64)) (s : State) : State := l.foldl (fun s p => wr s p.1 p.2) s

/-- The state after reset. -/
def rst : State := State.reset

/-- A command answers a next state that meets a condition. -/
def meets (o : Out) (p : State → Bool) : Bool :=
  match o with
  | .next t => p t
  | _ => false

/-- PORST_N is low. -/
def held : State := opColdReset rst

/-- The block is in Safelight state. -/
def safely : State := regd [(oFltStatus, 1)] rst

/-! ### Well-formed commands -/

theorem test_wf_unit : ∀ c ∈ [Instr.drain 32, .start 8, .sheetPeek 0 16384 0, .sheetPeek 0 0 8, .softRepairWrite 0 32 0,
    .allocRetry 8704, .chainHeadDispatch (2 ^ 36), .detnDispatch 32, .linkEnable 16 false, .fillLine 16, .ovf 256,
    .sample 64 0 0, .droop 8, .thrOn 16 0, .eventDispatch 44 none, .starve 25 0, .starve 0 24], c.wf = false := by decide

theorem test_wf_part : ∀ c ∈ [Instr.alertN 0 2, .erasureDeclare 0 0 8 0, .devThresh 0 0 0 10, .delayWrite 0 0x2200 0,
    .driftWrite 0 0x3000 0, .islOff (.port 16), .islOn (.chan 8), .fuseprog (.key 4 0), .fuseprog (.revoke 4), .tSnoop 0 32],
    c.wf = false := by decide

theorem test_wf_taken : ∀ c ∈ [Instr.drain 31, .start 7, .linkEnable 15 true, .delayWrite 0 0x3000 0, .driftWrite 0 0x30F4 0,
    .islOff (.port 15), .fuseprog (.key 3 0), .load, .postedWriteResume], c.wf = true := by decide

/-! ### The queue, the step, and what every command keeps -/

theorem test_idle : rst.pending = [] ∧ rst.aon.porstLow = false ∧ held.pending = [] ∧ held.aon.porstLow = true := by decide

theorem test_complete : Instr.wf .swi = true ∧ Instr.wf (.drain 32) = false := by decide

theorem test_queue_kept : meets (exec .swi { rst with pending := [.commit] }) (fun t => t.pending = [.commit]) = true := by decide

theorem test_held : HeldInReset held ∧ meets (step { held with pending := [.swi] }) (fun t => t.aon.porstLow) = true :=
  ⟨fun _ => ⟨rfl, rfl, rfl, rfl, rfl, rfl, rfl, rfl, rfl, rfl, rfl, rfl⟩, by decide⟩

theorem test_fuses : meets (step { held with pending := [.fuseprog .testLock] }) (fun t => t.aon.fuses.testLock) = true := by
  decide

theorem test_asleep : asleep held = true ∧ meets (exec .swi held) (fun t => t.aon.porstLow) = true := by decide

/-! ### The CAP -/

theorem test_register_write : capAnswers rst = true ∧ regDesc 0x040300 ≠ none ∧ regDesc 0x010100 ≠ none ∧
    regDesc 0x010104 ≠ none ∧ regDesc 0x342010 ≠ none ∧ regDesc 0x300000 ≠ none := by decide

theorem test_misaligned : capAnswers rst = true ∧ (0x102#24).toNat % 4 ≠ 0 ∧ (0x104#24).toNat % 8 ≠ 0 := by decide

theorem test_unassigned : rst.aon.testMode = false ∧ assigned 0x50 = false ∧ assigned 0xF00000 = false := by decide

theorem test_shadow_write : capAnswers rst = true ∧ rst.cap.commitBusy = false ∧
    (regDesc 0x341000).isSome = true ∧ (0x341800#24).toNat = 0x341000 + 0x800 ∧
    ((regDesc 0x341000).map (fun d => decide (d.rwc ≠ 0 ∧ d.rwc < 2 ^ 32))) = some true := by decide

/-- A commit whose shadow changes a counter's configuration. -/
def counting : State := wrShadow rst 0x341000 1

theorem test_commit : capAnswers safely = true ∧ safely.cap.commitBusy = false ∧ isSafe safely = true ∧
    changedRegs rst (candidate rst) = [] ∧ isSafe rst = false := by decide

theorem test_commit_passes : changedRegs counting (candidate counting) = [0x341000] ∧ commitFails counting = [] := by decide

/-- A commit that gives a tray range a base above its limit. -/
def badRange : State := wrShadow rst 0x300000 0x80000005

theorem test_commit_fails : changedRegs badRange (candidate badRange) ≠ [] ∧ commitFails badRange ≠ [] := by decide

theorem test_commit_applied : asleep { counting with cap := { counting.cap with commitBusy := true } } = false ∧
    counting.cap.heldShadow = [] ∧ rwcMask 0x341000 ≠ 0 ∧ rdShadow counting 0x341000 &&& ~~~rwcMask 0x341000 = 0 := by decide

theorem test_ft_load : rst.dev.running = false ∧ capAnswers { rst with dev := { rst.dev with running := true } } = true := by
  decide

/-! ### The Contact Sheet -/

theorem test_self_test : capAnswers rst = true ∧ rdf rst 0x030000 1 2 ≠ 1 ∧ rst.dev.dispatched = false ∧
    rdf (regd [(0x030000, 2)] rst) 0x030000 1 2 = 1 := by decide

/-- A self-test runs. -/
def testing : State := { rst with sheet := { rst.sheet with bistRun := true } }

theorem test_self_test_ends : asleep testing = false ∧ failReal ⟨3, 7, 1⟩ = true ∧ rowInUse testing 3 7 = true ∧
    failReal ⟨3, 16384, 1⟩ = true ∧ rowInUse testing 3 16384 = false := by decide

theorem test_peek : asleep { rst with sheet := { rst.sheet with peek := true } } = false ∧
    (addErrs (sGet [] rst.sheet.errs 0) [(4, 1#8)]).length ≤ 3 ∧ addErrs [] [(4, 1#8)] ≠ [] := by decide

/-- Bank 5 in a state of SHEET_BANK. -/
def bank5 (st : W64) : State := regd [(oBank 5, st)] rst

theorem test_soft_repair : bankState (bank5 3) 5 = 3 ∧ repairConflict (bank5 3) 5 0 0x80010002 = false ∧
    repairConflict (regd [(oSr 5 1, 0x80010007)] (bank5 3)) 5 0 0x80010002 = true ∧ bankState (bank5 0) 5 = 0 := by decide

theorem test_bank_commands : (∀ k, k < 32 → bankState (regd ((List.range 32).map (fun b => (oBank b, 0))) rst) k = 0) ∧
    bankState (bank5 1) 5 = 1 ∧ bankState (bank5 2) 5 = 2 ∧ bankState (bank5 4) 5 = 4 ∧ bankBusy (bank5 2) 5 = false ∧
    isSafe safely = true := by decide

/-- Bank 5 tests its spare rows; soft repair uses spare row 1. -/
def spares : State := regd [(oSr 5 1, 0x80010007)] { bank5 3 with sheet := { rst.sheet with spareTest := [5] } }

theorem test_spare_test : asleep spares = false ∧ failReal ⟨5, 16385, 2⟩ = true ∧ 1 ∈ softSpares spares 5 ∧
    0 ∉ softSpares spares 5 := by decide

/-- A scrub is at the last set, and a recheck of a way is due. -/
def scrubbing : State := { regd [(0x030010, 0x80000001)] rst with
  sheet := { rst.sheet with scrubSet := 16383, recheck := [(wayKey 1 2 3, 4)] } }

theorem test_scrub : rdf scrubbing 0x204 0 3 = 0 ∧ bitOf (rd scrubbing 0x030010) 31 = true ∧
    (wayKey 1 2 3, 4) ∈ scrubbing.sheet.recheck ∧ (sGet [] scrubbing.aon.fuseCopy.rows 1).length ≤ 64 := by decide

/-! ### Requests, writebacks, responses -/

/-- A block that dispatches by rules, with tray 0 over region 0, and agents 0 (caching), 2 (not caching), 4 (CXL-G6 with
Back-Invalidate) and 6 (CXL-G5) attached, members of the tray, each with the region in its window 0. -/
def open0 : State :=
  let s := regd ([(0x300000, 0x80000000), (oMemb 0, 0x55), (oPtCfg 1, 0x10), (oPtCfg 2, 2), (oPtCfg 3, 3), (oPtStatus 2, 0xA)] ++
    [0, 1, 2, 3].flatMap (fun n => [(portBase n + 0x200, 0x80000000), (portBase n + 0x208, 1)]) ++
    (List.range 32).map (fun b => (oBank b, 0)))
    { rst with dev := { rst.dev with running := true, byRule := true } }
  [0, 2, 4, 6].foldl (fun s a => setLink a (fun l => { l with attached := true }) s) s

/-- A REQ of an agent for line 5. -/
def rq (a : Nat) : Req := { agent := a, txid := 7, stream := 0, size := 0, pgc := false, laddr := 5, offs := 0, deadline := 1000 }

theorem test_open : Fresh open0 := by simp only [Fresh, InRun, NoCounter]; decide +kernel

theorem test_port_takes : (∀ op ∈ [ReqOp.rds, .rdx, .upg, .rdc, .wrl, .wrp, .flush], PortTakes open0 op (rq 0) 5 0) ∧
    ∀ op ∈ [ReqOp.atr, .atc], PortTakes open0 op (rq 2) 5 0 := by simp only [PortTakes]; decide +kernel

/-- A REQ that waits for a place to begin. -/
def waits (op : ReqOp) (place : Place) : Pend := { mkPend 0 op (rq 0) 0 0 0 5 (some 0) 1000 none none false with place := place }

/-- The block with one REQ in hand. -/
def having (p : Pend) : State := { open0 with home := { open0.home with reqs := [p], seqNo := 1 } }

theorem test_turned_away : detached open0 1 = true ∧ txidBusy (having (waits .rds .entry)) 0 7 = true ∧
    maySend open0 0 .atr = false ∧ maySend open0 2 .rds = false ∧ portResolve open0 0 0x4000 = none ∧
    fieldsOk .atr { rq 2 with size := 3 } = false ∧ isCachingZcl open0 2 = false ∧ resolve open0 0 0x4000 = none := by
  decide +kernel

theorem test_baths : lowestTray open0 0 = some 0 ∧ isZcl open0 0 = true ∧ isCachingZcl open0 0 = true ∧
    (having (waits .detn .detn)).home.reqs = [waits .detn .detn] ∧
    { having (waits .detn .detn) with home := { open0.home with seqNo := 0 } } = open0 := by decide +kernel

theorem test_held_request : (waits .rds .stream).op.noLine = false ∧ (waits .rds .stream).portCpl = none ∧
    windowTray open0 5 = none ∧ bankHeld open0 (bankOf 1) = false ∧ (having (waits .rds .stream)).home.latent = [] := by
  decide +kernel

/-- The line of the REQ has been handed over to its chain. -/
def handed : State := { having (waits .rds .chain) with home := { open0.home with
  reqs := [waits .rds .chain]
  seqNo := 1
  latent := [(5, .handover none .i)]
  chains := [(5, [{ who := .req 0, agent := some 0, stream := 0, deadline := 1000, passed := 0 }])] } }

theorem test_handed : waiterLost handed (waits .rds .chain) = false ∧ (waits .rds .chain).portCpl = none := by decide +kernel

/-- A writeback of an agent for line 5. -/
def wbk0 (a : Nat) : Wbk :=
  { agent := a, txid := 9, laddr := 5, deadline := 1000, ptl := false, fog := false, bmask := 0, data := 0x1234 }

theorem test_writeback : portResolve open0 (wbk0 0).agent (wbk0 0).laddr = some (5, 0) ∧ txidBusy open0 0 9 = false := by
  decide +kernel

/-- A parked transaction of agent 0 for line 5, run by rules. -/
def parked : Ctx := { Ctx.blank (.req .rds) with
  st := .parked
  agent := some 0
  txid := 7
  line := some 5
  tray := some 0
  byRule := true
  req := some { waits .rds (.begun 3) with processed := true } }

/-- A block with one context. -/
def holding (x : Ctx) : State := { open0 with
  dev := { open0.dev with ctxs := [(3, x)] }
  home := { open0.home with reqs := x.req.toList, latent := [(5, .ctx 3)] } }

theorem test_responses : ctxOf (holding parked) 3 = some parked ∧ outOfTray (holding parked) 0 parked = false ∧
    parked.expired = false ∧ parked.stall = none ∧ (holding parked).dev.ready = [] ∧ parked.cmpIn = false ∧
    (holding parked).home.reqs = parked.req.toList := by decide +kernel

/-- A quarantined entry that still awaits one answer. -/
def quarantined : Ctx := { parked with st := .quarantined, owed := [.ans 0 .i false false], req := none }

theorem test_late_response : ctxOf (holding quarantined) 3 = some quarantined ∧
    outOfTray (holding quarantined) 0 quarantined = false := by decide +kernel

theorem test_cxl : isG6 open0 4 = true ∧ biOn open0 4 = true ∧ isG5 open0 6 = true ∧ detached open0 4 = false ∧
    portResolve open0 4 5 = some (5, 0) ∧ portResolve open0 6 5 = some (5, 0) ∧ traySpill (regd [(oTrCfg 0, 0)] open0) 0 = false ∧
    biOn (regd [(oPtStatus 2, 2)] open0) 4 = false ∧ linkState (regd [(oPtStatus 2, 8)] open0) 4 ≠ 2 := by decide +kernel

theorem test_bi_response : (∀ x ∈ [{ parked with agent := some 4 }], ctxOf (holding x) 3 = some x ∧
    outOfTray (holding x) 4 x = false) := by decide +kernel

/-! ### Rules -/

/-- A reel of three rules: rule 1 has STEER AWAIT and does nothing else; RspI in state I is dispatched to it. -/
def ruled (s : State) : State := recrc false 0 (recrc false 8208 { s with dev := { s.dev with
  reelA := [(19, 0x40), (0x80400, 1), (0x80401, 0x80), (0x85010, 3)] } })

/-- A rule in flight at a stage, with its OPER, SEND and STEER fields. -/
def rule1 (n oper send steer : Nat) : InFlight :=
  { addr := 1, word := BitVec.ofNat 128 (oper * 2 ^ 72 + send * 2 ^ 32 + steer), guard := true, stage := n, sv := 0, so := 0,
    ss := 0, code := 0 }

/-- A context for line 5 with a rule in flight, and the block with it. -/
def flown (r : InFlight) : Ctx := { parked with st := .run, ea := 0x140, inFlight := some r }
def flight (r : InFlight) : State := ruled (holding (flown r))

/-- D := f(A, b); the rule with that OPER and STEER AWAIT. -/
def op3 (d a : BitVec 4) (imm : Bool) (b : BitVec 18) : Oper := { imm := imm, d := d, a := a, b := b }
def op0 (imm : Bool) (b : BitVec 18) : Oper := op3 0 8 imm b
def opRule (o : Oper) (opc : Nat) : InFlight := rule1 0 (operField o opc) 0 (2 ^ 30)

/-- Every OPER stands for its own word. -/
def opened (o : Oper) (opc : Nat) : Prop := AtOper (flight (opRule o opc)) 3 (flown (opRule o opc)) (opRule o opc) o opc

theorem test_alu : (∀ opc ∈ [0x02, 0x04, 0x06, 0x08, 0x0A, 0x0C, 0x0E, 0x14, 0x12], opened (op0 true 5) opc) := by
  simp only [opened, AtOper, AtRule]; decide +kernel

theorem test_alu_register : (∀ opc ∈ [0x02, 0x10, 0x14, 0x16, 0x18, 0x1A, 0x12], opened (op0 false 5) opc) := by
  simp only [opened, AtOper, AtRule]; decide +kernel

theorem test_nop_msk : opened (op0 true 0) 0x1A ∧ RuleClear (flight (opRule (op0 true 5) 2)) 3 0 7 ∧
    lineGood (flight (opRule (op0 true 5) 2)) false 8448 = true ∧
    Harmless (opRule (op0 true 5) 2) ∧ (rule1 0 0 0 (2 ^ 30)).oper / 2 ^ 26 = 0 := by
  simp only [opened, AtOper, AtRule, RuleClear, Harmless]; decide +kernel

theorem test_false_guard : AtRule (flight { rule1 0 0 0 (2 ^ 30) with guard := false }) 3
    (flown { rule1 0 0 0 (2 ^ 30) with guard := false }) { rule1 0 0 0 (2 ^ 30) with guard := false } 0 := by
  simp only [AtRule]; decide +kernel

theorem test_ffs : (bitOf (0x140#64) 6 = true ∧ ∀ k, k < 6 → bitOf (0x140#64) k = false) ∧
    (rawB (flown (opRule (op0 true 0x86) 0x1A)).seen (op0 true 0x86)).toNat % 128 = 6 := by decide +kernel

theorem test_scratch : opened (op0 true 1) 0x1E ∧ opened (op0 true 1) 0x1C ∧ laterFault 3 (flight (opRule (op0 true 1) 0x1E)) = none ∧
    ((opd (flown (opRule (op0 true 1) 0x1C)).seen 8) + valB (flown (opRule (op0 true 1) 0x1C)).seen (op0 true 1)).toNat % 32768 =
      0x141 := by simp only [opened, AtOper, AtRule]; decide +kernel

/-- The sheet holds line 5's sector: the line S. -/
def line5 : Entry := { newEntry 1 0 with lst := ⟨.i, .s, .i, .i⟩ }
def sheeted (s : State) : State := { s with sheet := { s.sheet with ways := [(wayKey (bankOf 1) (setOf 1) 0, line5)] } }

theorem test_sheet_lookup : opened (op0 false 0) 0x20 ∧ opened (op0 false 0) 0x26 ∧
    OneEntry (sheeted (flight (opRule (op0 false 0) 0x20))) 1 0 line5 ∧ NoEntry (flight (opRule (op0 false 0) 0x26)) 1 ∧
    NoCounter (flight (opRule (op0 false 0) 0x26)) ∧ (flight (opRule (op0 false 0) 0x26)).sheet.errs = [] ∧
    (opd (flown (opRule (op0 false 0) 0x20)).seen 8).toNat / 64 % 2 ^ 36 / 4 = 1 := by
  simp only [opened, AtOper, AtRule, OneEntry, NoEntry, NoCounter]; decide +kernel

theorem test_sheet_update : opened (op3 8 0 true 3) 0x22 ∧ opened (op0 true 1) 0x24 ∧
    lstOfCode ((rawB (flown (opRule (op3 8 0 true 3) 0x22)).seen (op3 8 0 true 3)).toNat % 8) = some .o ∧
    agentSel (flown (opRule (op3 8 0 true 3) 0x22)).seen 8 = .agent 0 7 ∧
    agentSel (flown (opRule (op3 8 0 true 3) 0x22)).seen 15 = .nobody ∧
    (flight (opRule (op0 true 1) 0x24)).sheet.ways = [] ∧ bitOf ((1 : BitVec 18).setWidth 64) 0 = true := by
  simp only [opened, AtOper, AtRule]; decide +kernel

/-- The line of EA is not latent, so that its sector can be evicted. -/
def loose (s : State) : State := { s with home := { s.home with latent := [] } }

theorem test_eviction : AtOper (loose (flight (opRule (op0 false 0) 0x26))) 3 (flown (opRule (op0 false 0) 0x26))
      (opRule (op0 false 0) 0x26) (op0 false 0) 0x26 ∧ (loose (flight (opRule (op0 false 0) 0x26))).picks = [] ∧
    (loose (flight (opRule (op0 false 0) 0x26))).dev.byRule = true := by simp only [AtOper, AtRule]; decide +kernel

/-- LTB, LTE and LTW of the line of W0. -/
def lineOp : Oper := op3 0 0 false 0

/-- A context that holds line 9 too, and its block. -/
def twice (opc : Nat) : Ctx := { flown (opRule lineOp opc) with lines := [9], w := [0x240, 0, 0, 0, 0, 0, 0, 0] }
def twain (opc : Nat) : State :=
  let s := holding (twice opc)
  ruled { s with home := { s.home with latent := [(5, .ctx 3), (9, .ctx 3)] } }

theorem test_ltb : opened lineOp 0x28 ∧ holderOf (flight (opRule lineOp 0x28)) 0 = none ∧
    (takeEntry (flight (opRule lineOp 0x28))).isSome = true ∧ (∀ w, (flown (opRule lineOp 0x28)).kind ≠ .wb w) ∧
    AtOper (twain 0x28) 3 (twice 0x28) (opRule lineOp 0x28) lineOp 0x28 ∧ (holderOf (twain 0x28) 9).isSome = true ∧
    (opd (twice 0x28).seen 0).toNat / 64 % 2 ^ 36 = 9 :=
  ⟨by simp only [opened, AtOper, AtRule]; decide +kernel, by decide +kernel, by decide +kernel, fun _ h => (nomatch h),
    by simp only [AtOper, AtRule]; decide +kernel, by decide +kernel, by decide +kernel⟩

theorem test_lte : AtOper (twain 0x2C) 3 (twice 0x2C) (opRule lineOp 0x2C) lineOp 0x2C ∧ 9 ∈ (twice 0x2C).lines ∧
    (twice 0x2C).kind ≠ .back ∧ chainOf (twain 0x2C) 9 = [] ∧ (twain 0x2C).home.wslots = [] ∧
    opened lineOp 0x2C ∧ RuleClear (flight (opRule lineOp 0x2C)) 3 0 0 := by
  simp only [opened, AtOper, AtRule, RuleClear]; decide +kernel

/-- A context that holds no line, and one that waits for line 9, handed over to it. -/
def lineless : Ctx := { flown (opRule lineOp 0x2A) with line := none, req := none }
def awaiting : State :=
  let s := holding { lineless with st := .parked, inFlight := none }
  { s with home := { s.home with
    latent := [(9, .handover none .i)]
    chains := [(9, [{ who := .ctx 3, agent := none, stream := 0, deadline := 0, passed := 0 }])] } }

theorem test_ltw : AtOper (ruled (holding lineless)) 3 lineless (opRule lineOp 0x2A) lineOp 0x2A ∧
    holderOf (ruled (holding lineless)) 0 = none ∧ chainOf (ruled (holding lineless)) 0 = [] ∧ opened lineOp 0x2A ∧
    (flown (opRule lineOp 0x2A)).line.isSome = true := by simp only [opened, AtOper, AtRule]; decide +kernel

theorem test_ltw_head : holderOf awaiting 9 = some (.handover none .i) ∧ (takeEntry awaiting).isSome = true ∧ InRun awaiting ∧
    (chainOf awaiting 9).map (fun w => w.who) = [.ctx 3] := by simp only [InRun, NoCounter]; decide +kernel

/-- The arguments of a SEND: a message opcode, a destination and the rest; the rule with that SEND, and its context and block. -/
def msgArg (opc sel rest : Nat) : BitVec 34 := BitVec.ofNat 34 (opc * 2 ^ 28 + sel * 2 ^ 24 + rest)
def sendRule (sop : Nat) (args : BitVec 34) : InFlight := rule1 1 0 (sop * 2 ^ 34 + args.toNat) (2 ^ 30)
def sender (sop : Nat) (args : BitVec 34) : Ctx := flown (sendRule sop args)
def sending (sop : Nat) (args : BitVec 34) : State := flight (sendRule sop args)

/-- Such a SEND goes out. -/
def goesOut (sop : Nat) (args : BitVec 34) : Prop :=
  SendReady (sending sop args) 3 (sender sop args) (sendRule sop args) sop args

theorem test_snoop_ready : (∀ opc ∈ [0x10, 0x13, 0x14], goesOut 1 (msgArg opc 0 0)) ∧
    ∀ opc ∈ [0x11, 0x12], goesOut 1 (msgArg opc 0 0x800000) := by simp only [goesOut, SendReady, AtRule]; decide +kernel

theorem test_snoop_sent : agentSel (sender 1 (msgArg 0x10 0 0)).seen 0 = .agent 0 0 ∧
    agentSel (sender 1 (msgArg 0x11 0 0x800000)).seen 8 = .agent 0 7 ∧ serves (sending 1 (msgArg 0x10 0 0)) 0 (some 0) 5 = true ∧
    isG6 (sending 1 (msgArg 0x10 0 0)) 0 = false ∧ serves (sending 1 (msgArg 0x10 0 0)) 1 (some 0) 5 = false ∧
    goesOut 2 (msgArg 0 8 0) ∧ agentsOf (lo32 (argOpd (sender 2 (msgArg 0 0 0)).seen (msgArg 0 0 0))) = [] := by
  simp only [goesOut, SendReady, AtRule]; decide +kernel

theorem test_completion_sent : goesOut 1 (msgArg 0x2D 8 0) ∧
    agentSel (sender 1 (msgArg 0x2D 8 0)).seen 8 = .agent 0 7 ∧ statusOfNum 0 = some .ok ∧
    muted (sending 1 (msgArg 0x2D 8 0)) 0 (some 0) true = false ∧ (∀ opc ∈ [0x30, 0x31, 0x32, 0x33], goesOut 1 (msgArg opc 8 0x3000)) ∧
    (sender 1 (msgArg 0x31 8 0x3000)).kind ≠ .req .atr ∧
    (sending 1 (msgArg 0x2D 8 0)).home.reqs = (sender 1 (msgArg 0x2D 8 0)).req.toList := by
  simp only [goesOut, SendReady, AtRule]; decide +kernel

/-- A line that the block itself has placed in the posted write buffer. -/
def mine : PwbLine :=
  { line := 5, data := 0x77, fog := false, ldw := 0, close := false, src := 3, placer := .block, deadline := 0, acked := false,
    clears := true, seq := 0 }

/-- A line of region 0 has been written, and line 5 is in the posted write buffer. -/
def buffered (s : State) : State := { s with mem := { s.mem with
  written := [0]
  pwb := [{ mine with fog := true, src := noCtx, acked := true }]
  opSeq := 1 } }

/-- A region has been written. -/
def wrote (s : State) : State := { s with mem := { s.mem with written := [0] } }

theorem test_memory_sent :
    (∀ sop ∈ [3, 5], SendReady (buffered (sending sop (msgArg 0 8 0))) 3 (sender sop (msgArg 0 8 0)) (sendRule sop (msgArg 0 8 0)) sop
      (msgArg 0 8 0)) ∧ readAtOnce (wrote (sending 3 (msgArg 0 8 0))) 5 = false ∧
    SendReady (wrote (sending 3 (msgArg 0 8 0))) 3 (sender 3 (msgArg 0 8 0)) (sendRule 3 (msgArg 0 8 0)) 3 (msgArg 0 8 0) ∧
    isDark (buffered (sending 5 (msgArg 0 8 0))) 5 = false ∧ regionBlank (buffered (sending 5 (msgArg 0 8 0))) 0 = false ∧
    pwbFree (buffered (sending 5 (msgArg 0 8 0))) = true ∧ ewa (sending 5 (msgArg 0 8 0)) 5 = false ∧
    SendReady (buffered (sending 4 (msgArg 0 8 0xC00000))) 3 (sender 4 (msgArg 0 8 0xC00000)) (sendRule 4 (msgArg 0 8 0xC00000)) 4
      (msgArg 0 8 0xC00000) ∧ (pwbFind (buffered (sending 5 (msgArg 0 8 0))) 5).map (fun p => p.seq) = some 0 := by
  simp only [SendReady, AtRule]; decide +kernel

/-- Counter 2 counts the reel's CTR. -/
def ctrArg : BitVec 34 := BitVec.ofNat 34 (2 * 2 ^ 26)
def ctrd : State := regd [(oCtrCfg 2, 0x30)] (sending 7 ctrArg)

/-- A stop bath's context. -/
def bathing : Ctx := { sender 8 (msgArg 0 8 0) with kind := .req .stbV, line := none, req := some (waits .stbV (.begun 3)) }

theorem test_fog_ctr_stpb : SendReady (sheeted (sending 6 (msgArg 0 8 0))) 3 (sender 6 (msgArg 0 8 0)) (sendRule 6 (msgArg 0 8 0)) 6
      (msgArg 0 8 0) ∧ (recOf (sheeted (sending 6 (msgArg 0 8 0))) 5).lst ≠ .fogged ∧ fogCause 0 = some .reel ∧
    SendReady ctrd 3 (sender 7 ctrArg) (sendRule 7 ctrArg) 7 ctrArg ∧ fld (rd ctrd (oCtrCfg 2)) 0 11 = 0x30 ∧
    fld (rd ctrd (oCtrCfg 2)) 24 2 = 0 ∧ fld (rd ctrd (oCtrCfg 1)) 0 8 ≠ 0x30 ∧
    SendReady (ruled (holding bathing)) 3 bathing (sendRule 8 (msgArg 0 8 0)) 8 (msgArg 0 8 0) := by
  simp only [SendReady, AtRule]; decide +kernel

/-- A stop bath handed to the block. -/
def bathed : Ctx :=
  { bathing with phase := .bath, bathTo := some (0, 7), inFlight := none, st := .parked, req := some (waits .stbV (.begun 3)) }

theorem test_bath_ends : InRun (holding bathed) ∧ ctxOf (holding bathed) 3 = some bathed ∧
    (waits .stbV (.begun 3)).op.bath = true ∧ detached (holding bathed) 0 = false ∧ (holding bathed).mem.pwb = [] := by
  simp only [InRun, NoCounter]; decide +kernel

/-- A rule at its STEER. -/
def steerRule (guard : Bool) (mode tt ft : Nat) : InFlight :=
  { rule1 (if guard then 2 else 0) 0 0 (mode * 2 ^ 30 + tt * 2 ^ 15 + ft) with guard := guard }

theorem test_chain : (∀ g, ∀ mode ∈ [0, 1, 2, 3], ∀ u ∈ [0, 2],
      AtSteer (flight (steerRule g mode u u)) 3 (flown (steerRule g mode u u)) (steerRule g mode u u) mode
        (BitVec.ofNat 15 u) (BitVec.ofNat 15 u)) ∧
    (2#15).toNat < reelRules (flight (steerRule true 0 2 2)) false ∧ lineGood (flight (steerRule true 0 2 2)) false 0 = true ∧
    NoCounter (flight (steerRule true 0 2 2)) := by simp only [AtSteer, AtRule, NoCounter]; decide +kernel

/-- A context at its RETIRE, and one that owes a CMP. -/
def retiring : Ctx := flown (steerRule true 2 0 0)
def owing1 : Ctx := { retiring with owed := [.cmp] }

theorem test_retire : (∀ x ∈ [retiring, owing1], Settled (ruled (holding x)) x ∧
      AtSteer (ruled (holding x)) 3 x (steerRule true 2 0 0) 2 0 0 ∧ holderOf (ruled (holding x)) 5 = some (.ctx 3) ∧
      (ruled (holding x)).home.reqs = x.req.toList) := by simp only [Settled, AtSteer, AtRule]; decide +kernel

/-- A management request that holds no line. -/
def managing : Ctx := { flown (steerRule true 3 0x100 0) with kind := .mgmt false, line := none, req := none, agent := none }

theorem test_trap : AtSteer (ruled (holding managing)) 3 managing (steerRule true 3 0x100 0) 3 0x100 0 ∧
    Settled (ruled (holding managing)) managing ∧ NoCounter (ruled (holding managing)) ∧ (0x100#15).toNat < 0x7F00 ∧
    bitOf (rd (ruled (holding managing)) 0x020100) 31 = false ∧
    bitOf (rd (regd [(0x020100, 0x80000000)] (ruled (holding managing))) 0x020100) 31 = true := by
  simp only [AtSteer, AtRule, Settled, NoCounter]; decide +kernel

/-- RspI of agent 0 is ready for a parked context. -/
def ready1 : State :=
  let s := ruled (holding parked)
  { s with dev := { s.dev with ready := [eventFor parked 3 0 0x20#6 0 0x20] } }

theorem test_event : InRun ready1 ∧ continues ready1 0 = false ∧ reelNat ready1 false (0x80000 + 2 * 512) 2 / 2 ^ 15 = 1 ∧
    reelNat ready1 false (0x80000 + 2 * 512) 2 % 2 ^ 15 < reelRules ready1 false ∧ lineGood ready1 false 8208 = true ∧
    lineGood ready1 false 0 = true := by simp only [InRun, NoCounter]; decide +kernel

theorem test_result : asleep (holding { parked with opRes := some ⟨0, 1, some (0, 0, 0), none⟩ }) = false := by decide +kernel

/-! ### Memory completions and expiries -/

/-- Channel 1, which line 5 lies on, runs, and region 0 has been written. -/
def chans (s : State) : State := { regd [(oMcCfg 1, 1), (oMcStatus 1, 1)] s with mem := { s.mem with written := [0] } }

/-- A parked transaction whose memory read of line 5 is under way. -/
def reading1 : Ctx := { parked with mem := some ⟨5, 0, false, none, false, 0, false⟩, ea := 0x140, owed := [.mrdc] }
def reading : State :=
  let s := chans (holding reading1)
  { s with mem := { s.mem with memq := [⟨3, 5, false, false, false, false, 0⟩], opSeq := 1, dram := [(2 ^ 39 + 64, 0x12)] } }

theorem test_read_completes : InRun reading ∧ (lineChan reading 5).map (·.1) = some 1 ∧
    readReady reading ⟨3, 5, false, false, false, false, 0⟩ = true ∧ isDark reading 5 = false ∧
    regionBlank reading 0 = false ∧ pwbFind reading 5 = none ∧ ldwInvalid 0 = false ∧ reading1.stall = none := by
  simp only [InRun, NoCounter]; decide +kernel

/-- A buffered write of context 3. -/
def writing1 : Ctx := { parked with owed := [.mwrc], ea := 0x140 }
def writing : State :=
  let s := chans (holding writing1)
  { s with mem := { s.mem with pwb := [mine], opSeq := 1 } }

theorem test_write_completes : InRun writing ∧ mine.src = 3 ∧ (lineChan writing 5).map (·.1) = some 1 ∧
    drainReady writing mine = true ∧ (∀ w, writing1.kind ≠ .wb w) :=
  ⟨by simp only [InRun, NoCounter]; decide +kernel, by decide +kernel, by decide +kernel, by decide +kernel, fun _ h => (nomatch h)⟩

def resuming : State :=
  let s := chans (holding writing1)
  { s with mem := { s.mem with pwbWait := [⟨3, mine, false⟩] } }

theorem test_write_resumes : isDark resuming 5 = false ∧ regionBlank resuming 0 = false ∧
    pwbFree resuming = true ∧ ewa resuming 5 = false ∧ writing1.st ≠ .quarantined := by decide +kernel

/-- The LDWs of line 5's sector are read. -/
def ldwing1 : Ctx := { reading1 with owed := [.ldwc] }
def ldwing : State :=
  let s := chans (holding ldwing1)
  { s with mem := { s.mem with memq := [⟨3, 5, false, true, false, false, 0⟩], opSeq := 1 } }

theorem test_ldw_read : InRun ldwing ∧ readReady ldwing ⟨3, 5, false, true, false, false, 0⟩ = true ∧ isG5 ldwing 0 = false ∧
    (∀ k, k < 4 → isDark ldwing (5 / 4 * 4 + k) = false) ∧ ldwing.sheet.ways = [] := by
  simp only [InRun, NoCounter]; decide +kernel

/-- A read that awaits agent 2's answer, and one completed that awaits its CMP, of a context run by the tables or by rules. -/
def snooping (b : Bool) : Ctx := { parked with owed := [.ans 2 .i false true], byRule := b }
def cmping (b : Bool) : Ctx := { parked with cmpTimer := true, cplSent := true, byRule := b }

theorem test_timers : InRun (sheeted (holding (snooping false))) ∧ OneEntry (sheeted (holding (snooping false))) 1 0 line5 ∧
    muted (sheeted (holding (snooping false))) 0 (some 0) true = false ∧
    (recOf (sheeted (holding (snooping false))) 5).lst ≠ .fogged ∧ (snooping false).cplSent = false ∧
    Settled (sheeted (holding (cmping false))) (cmping false) ∧ holderOf (holding (cmping false)) 5 = some (.ctx 3) := by
  simp only [InRun, NoCounter, OneEntry, Settled]; decide +kernel

theorem test_rule_timers : (∀ x ∈ [snooping true, cmping true], InRun (sheeted (holding x)) ∧ x.form = none ∧
      OneEntry (sheeted (holding x)) 1 0 line5 ∧ x.expired = false) ∧ snoopTimer (snooping true) 2 = true ∧
    (cmping true).cmpIn = false := by simp only [InRun, NoCounter, OneEntry]; decide +kernel

/-- A management request that has been parked for long; an entry that awaits an agent. -/
def parkedLong : Ctx := { managing with st := .parked, inFlight := none }
def stuckOn : Ctx := { quarantined with owed := [.ans 8 .i false false] }

theorem test_limits : Settled (holding parkedLong) parkedLong ∧ InRun (holding parkedLong) ∧
    owingAgents stuckOn = [8] ∧ linkState (holding stuckOn) 8 = 0 ∧
    linkState (holding stuckOn) 9 = 0 ∧ rst.dev.trapWin = rst.aon.ft.toNat / 4000000 ∧
    rdf rst 0x020018 0 16 < 100000 := by simp only [Settled, InRun, NoCounter]; decide +kernel

/-- A detach sweep of agent 2 reaches the set of an entry it owns two lines of. -/
def sweepOf (n : Nat) : Sweep := { kind := .detach 2 true none, next := n, fogged := false, posted := true, raised := false }
def swept (byRule : Bool) : State := { open0 with
  dev := { open0.dev with byRule := byRule }
  sheet := { rst.sheet with
    ways := [(wayKey (bankOf 1) (setOf 1) 0, { newEntry 1 0 with lst := ⟨.m, .e, .s, .i⟩, own := ⟨2, 2, 0, 0⟩ })]
    sweeps := [sweepOf (setOf 1)] } }

theorem test_sweep : asleep (swept false) = false ∧ isSafe (swept false) = false ∧ setOf 1 < 16383 ∧
    (swept false).home.latent = [] ∧ (newEntry 1 0).tag = tagOf 1 := by decide +kernel

theorem test_sweep_event : InRun (swept true) ∧ (sweepOf 0).posted = true ∧
    holdsAgent { newEntry 1 0 with lst := ⟨.m, .e, .s, .i⟩, own := ⟨2, 2, 0, 0⟩ } 2 = true := by
  simp only [InRun, NoCounter]; decide +kernel

/-! ### The engine and its reel -/

/-- EN is set, the self-test has passed and slot A is ACTIVE. -/
def startable : State := regd [(0x020000, 1), (0x030000, 4), (oReel, 0x20400)] rst

theorem test_engine : engEn startable = true ∧ bistPass startable = true ∧ reelAny startable = true ∧
    isSafe startable = false ∧ engEn rst = false := by decide +kernel

theorem test_mreq : capAnswers open0 = true ∧ bitOf (rd open0 0x02020C) 31 = false ∧ bitOf (rd open0 0x020200) 0 = false ∧
    bitOf (rd (regd [(0x020200, 1)] rst) 0x020200) 0 = true ∧ poolGib (regd [(0x020200, 1)] rst) = 0 ∧
    bitOf (rd (regd [(0x02020C, 0x80000000)] rst) 0x02020C) 31 = true := by decide +kernel

/-- A message of the home waits for the port of agent 0. -/
def starving : State := request { input := 24, output := 0, deadline := 0, slots := 1, sent := 0, msg := none, line := none } rst

theorem test_starve : rdf (regd [(0x040300, 5)] starving) 0x040300 0 24 ≠ 0 ∧ holdsRequest (regd [(0x040300, 5)] starving) 24 0 = true ∧
    sFind starving.xbar.grants 0 = none ∧ rdf (regd [(0x040300, 0)] rst) 0x040300 0 24 = 0 := by decide +kernel

/-- Two packets that request the port of agent 0, and one that is about to end. -/
def contending : State :=
  let p := fun (i d : Nat) => ({ input := i, output := 0, deadline := BitVec.ofNat 32 d, slots := 5, sent := 0, msg := none, line := none } : Packet)
  request (p 1 90) (request (p 2 100) open0)
def ending : Packet :=
  { input := 24, output := 0, deadline := 9, slots := 1, sent := 0, msg := some (.rsp 0 .cmpW 3 7 .ok), line := none }

theorem test_crossbar : nowNs contending ≤ 90 ∧ rdf contending 0x204 0 3 = 0 ∧ contending.aon.ftFrac < 1600000000 ∧
    (request ending open0).xbar.packets = [ending] ∧ isZcl open0 0 = true ∧ contending.xbar.packets.length = 2 := by decide +kernel

theorem test_windows : (0x600008#24).toNat % 8 = 0 ∧ (0x60000C#24).toNat % 8 = 4 ∧ (0x585FF8#24).toNat % 0x100000 < 0x86000 ∧
    reelState rst true = 0 ∧ reelState (regd [(oReel, 0x4000)] rst) true = 4 := by decide +kernel

/-- Slots A and B in given states. -/
def slots (a b : Nat) : State := regd [(oReel, w64 (256 * a + 4096 * b + (if a = 4 then 0x20000 else 0)))] rst

theorem test_slots : reelState (slots 1 0) false = 1 ∧ reelState (slots 2 0) false = 2 ∧ backingSrc (slots 2 0) false ≠ 1 ∧
    reelState (slots 4 3) true = 3 ∧ reelState (slots 4 3) false = 4 ∧ reelAny (slots 4 3) = true ∧
    compatible (slots 4 3) true = true ∧ reelHeld (slots 4 3) false = false ∧ reelAny (slots 0 3) = false ∧
    reelHeld (holding parked) false = true := by decide +kernel

/-- A refetch of slot A's line 9 from the pool, whose backing line is in the posted write buffer. -/
def refetching (d : LineBits) : State :=
  let s := regd [(0x020020, 1)] rst
  let s := { s with dev := { s.dev with refetch := [9] } }
  { s with mem := { s.mem with
    written := [0]
    opSeq := 1
    pwb := [{ mine with line := backingLine s false 9, data := d }] } }

/-- The same, of a backing line in DRAM whose channel runs. -/
def refetchDram : State :=
  let s := regd [(oMcCfg 2, 1), (oMcStatus 2, 1)] (refetching 0)
  { s with mem := { s.mem with pwb := [] } }

theorem test_refetch : backingSrc (refetching 0) (keyLine 9).1 = 1 ∧ (pwbFind (refetching 0) (backingLine (refetching 0) false 9)).isSome = true ∧
    isDark (refetching 0) (backingLine (refetching 0) false 9) = false ∧
    lineBlank (refetching 0) (backingLine (refetching 0) false 9) = false ∧
    pwbFind refetchDram (backingLine refetchDram false 9) = none ∧ ownReads refetchDram (backingLine refetchDram false 9) false = true ∧
    (lineChan refetchDram (backingLine refetchDram false 9)).isSome = true ∧
    lineCrcOf (refetching 0) false 9 = crc32 (lineBytes 0) ∧ lineCrcOf (refetching 1) false 9 ≠ crc32 (lineBytes 1) := by
  decide +kernel

/-- A refill of slot A's line 9 through the CAP. -/
def refilling (v : W64) : State :=
  regd [(0x020030, 0x80000009), (0x020040, v)] { rst with dev := { rst.dev with refetch := [fetchKey false 9] } }

theorem test_refill : bitOf (rd (refilling 0) 0x020030) 31 = true ∧ rdf (refilling 0) 0x020030 0 14 = 9 ∧
    lineCrcOf (refilling 0) false 9 = crc32 (refillBytes (refilling 0)) ∧
    lineCrcOf (refilling 1) false 9 ≠ crc32 (refillBytes (refilling 1)) := by decide +kernel

/-! ### Memory channels -/

/-- Channel 1, with one rank, in a state. -/
def chan1 (st : W64) : State := regd [(oMcCfg 1, 1), (oMcStatus 1, st)] rst

theorem test_channel : (∀ st, st < 5 → chanState (chan1 (w64 st)) 1 = st) ∧ chanOff (chan1 2) 1 = false ∧
    srefPend (chan1 2) 1 = false ∧ srefPend (chan1 0x41) 1 = true ∧ losesUsed (chan1 1) 1 = false ∧
    rdf (chan1 1) (chanBase 1 + 0x50) 0 8 < rdf (regd [(0x02001C, 0x80000)] rst) 0x02001C 0 20 ∧
    chanOff (regd [(oIslSts, 0x20000)] rst) 1 = true := by decide +kernel

/-- Channel 1 does not keep segment 0 in self-refresh, and a tray uses it. -/
def loses : State := regd [(oMcCfg 0, 1), (chanBase 1 + 0x60, 0xFE), (0x300000, 0x80000000)] (chan1 1)

theorem test_sref_loses : losesUsed loses 1 = true := by decide +kernel

theorem test_refresh : refreshing (chan1 1) 1 = true ∧ 0 < chanRanks (chan1 1) 1 ∧ bitOf (rd (chan1 0x21) (oMcStatus 1)) 5 = true ∧
    bitOf (rd (chan1 1) (oMcStatus 1)) 5 = false := by decide +kernel

/-- A replay of subchannel 0 runs, after some that failed. -/
def replays (n : Nat) : State := setReplay 1 0 true (chan1 (w64 (1 + 256 * n)))

theorem test_replay : replaying (chan1 1) 1 0 = false ∧ replaying (replays 3) 1 0 = true ∧
    rdf (replays 3) (oMcStatus 1) 8 3 = 3 ∧ chanState (replays 2) 1 < 3 ∧ (∀ k, k < 8 → (chanOf (replays 3) k).lapInPool = false) := by
  decide +kernel

/-- A primitive runs on channel 1. -/
def training (op : Nat) (v : W32) : State := setChan 1 (fun c => { c with trn := some (op, v) }) (chan1 0)

theorem test_training : bitOf (rd (chan1 0) (oTrnSts 1)) 31 = false ∧ (0x4000#32).toNat / 2 ^ 14 % 2 ^ 16 ≠ 0 ∧
    (0#32).toNat / 2 ^ 14 % 2 ^ 16 = 0 ∧ (chanOf (training 6 0x4000) 1).trn = some (6, 0x4000) ∧
    trnOffset (training 6 0x4000) 1 0 0 < chanGib (training 6 0x4000) 1 * 2 ^ 30 ∧
    bitOf (rd (regd [(oTrnSts 1, 0x80000000)] (chan1 0)) (oTrnSts 1)) 31 = true := by decide +kernel

theorem test_delay : (∀ x ∈ [0x2100, 0x3000, 0x30F4], (regDesc (chanBase 1 + x)).map (fun d => (d.w1c, d.w1s)) = some (0, 0)) ∧
    isDelay 0x3000 = true ∧ isDelay 0x2100 = true ∧ isDrift 0x30F4 = true := by decide +kernel

/-! ### The line code, blank regions, the scrubber, page retirement -/

theorem test_erasure : bitOf (0x80000003#32) 31 = true ∧ bitOf (rd (chan1 1) (oMcCfg 1)) 4 = false ∧ 9 < (0x8000000A#32).toNat % 16 := by
  decide +kernel

/-- Device 3's counter stands at the threshold. -/
def atThresh : State := regd [(chanBase 1 + 0x8018, 2), (chanBase 1 + 0x8104, 0x20000)] (chan1 1)

theorem test_threshold : rdf atThresh (chanBase 1 + 0x8018) 0 16 ≠ 0 ∧ rdf atThresh (chanBase 1 + 0x8104) 16 16 = 2 ∧
    (chanOf atThresh 1).thresh = [] ∧ rdf (regd [(chanBase 1 + 0x8018, 0)] rst) (chanBase 1 + 0x8018) 0 16 = 0 := by decide +kernel

theorem test_blank : blankRefused rst 0 = false ∧ blankRefused open0 0 = true ∧ regionBlank (chans rst) 0 = false := by
  decide +kernel

/-- Region 0 develops. -/
def developing : State := { open0 with mem := { open0.mem with fills := [(2, { region := 0, filled := [5], walk := 7 })] } }

theorem test_fill : InRun developing ∧ regionBlank developing 0 = true ∧ holderOf developing 7 = none ∧
    entriesFor developing 1 = true ∧ isDark developing 7 = false := by simp only [InRun, NoCounter]; decide +kernel

/-- Channel 0 is scrubbed; region 0 has been written, and line 0's sector is in the sheet. -/
def patrolled : State := { regd [(oMcCfg 0, 1), (oMcStatus 0, 1), (chanBase 0 + 0x8000, 0x80000001)] rst with
  mem := { rst.mem with written := [0] }
  sheet := { rst.sheet with ways := [(wayKey (bankOf 0) (setOf 0) 0, newEntry 0 0)] } }

theorem test_patrol : InRun patrolled ∧ bitOf (rd patrolled (chanBase 0 + 0x8000)) 31 = true ∧ chanServes patrolled 0 = true ∧
    chanPresent patrolled 0 = true ∧ patrolNext patrolled 0 0 0 = 0 ∧ patrolNext patrolled 0 0 1 < subLines patrolled 0 ∧ ownRoom patrolled 0 0 = true ∧
    heldLine patrolled (locLine patrolled 0 0 0) = some 0 ∧ lineChan patrolled 0 = some (0, 0) ∧
    scrubRegions (regd [(oMcCfg 0, 1)] rst) 0 = [] := by simp only [InRun, NoCounter]; decide +kernel

/-- A rewrite of line 5 has been asked for. -/
def rewriting : State :=
  let s := sheeted (buffered open0)
  { s with mem := { s.mem with rewrites := [(5, (0x77, 0))] } }

theorem test_rewrite : holderOf rewriting 5 = none ∧ entriesFor rewriting 1 = true ∧ isDark rewriting 5 = false ∧
    regionBlank rewriting 0 = false ∧ (pwbFind rewriting 5).map (fun p => (p.data, p.ldw)) = some (0x77, 0) ∧
    (heldEntry rewriting 1).isSome = true := by decide +kernel

/-- A remap of page 0 to a page of the spare range, with all channels present and running. -/
def remappable : State := regd ((List.range 8).flatMap (fun m => [(oMcCfg m, 1), (oMcStatus m, 1)]) ++
  [(0x209010, 0x400100), (0x209020, 0), (0x209024, 0x10000)]) open0

theorem test_remap : rmpFree remappable = some 0 ∧ rmpRefused remappable 0 0x10000 = false ∧ rmpRefused remappable 0 1 = true := by
  decide +kernel

/-- That remap has copied all but some sectors; of each sector but the first line is blank. -/
def copying (k : Nat) : State :=
  let s := regd [(oRmp 0, w64 (2 ^ 62 + 2 ^ 32 * 0x10000)), (0x20902C, w64 (2 ^ 31 + k))] remappable
  { s with mem := { s.mem with fills := [(0, { region := 0, filled := [12, 60], walk := 0 })], dram := [(3 * 2 ^ 39, 0x21)] } }

theorem test_copy : ∀ k ∈ [3, 15], copyReady (copying k) 0 0x10000 k = true ∧ lineBlank (copying k) (4 * k) = false ∧
    (∀ i, 1 ≤ i → i < 4 → lineBlank (copying k) (4 * k + i) = true) ∧ bitOf (rd (copying k) 0x20902C) 31 = true ∧
    rdf (copying k) 0x20902C 0 5 = k ∧ rdf (copying k) 0x20902C 5 10 = 0 ∧ (∀ m, m < 8 → chanState (copying k) m = 1) ∧
    (lineChan (copying k) (4 * k)).isSome = true ∧ (mapAddr (copying k) ((0x10000 * 64 + 4 * k) * 64)).isSome = true := by
  decide +kernel

/-! ### Links -/

/-- The link of agent 0 in a state. -/
def link0 (st : W64) : State := regd [(oPtStatus 0, st)] { open0 with dev := { open0.dev with byRule := false } }

theorem test_link_commands : subAgent 0 false = 0 ∧ agentExists (link0 0) 0 = true ∧ agentExists (link0 0) 1 = false ∧
    (∀ st, st < 6 → linkState (link0 (w64 st)) 0 = st) ∧ sweeping (link0 0) 0 = false ∧
    (linkOf (setLink 0 (fun l => { l with adv := 255 }) (link0 0)) 0).adv = 255 ∧ (link0 0).dev.ctxs = [] ∧
    (link0 0).home.latent = [] ∧ (link0 0).dev.byRule = false ∧ (link0 0).aon.stepQ = [] ∧ (link0 0).aon.stepWait = 0 ∧
    detached (link0 2) 0 = false ∧ detached rst 0 = true := by decide +kernel

theorem test_link_training : laneGroup (linkLanes (link0 1) 0) 0xF0 = some (4, 4) ∧ minWidth (link0 1) 0 ≤ 4 ∧
    laneGroup (linkLanes (link0 3) 0) (0xFF &&& linkTrained (regd [(oPtStatus 0, 0x0F003003)] open0) 0) = some (0, 4) ∧
    rdf (link0 1) (portBase 0 + 0x18) 16 4 ≠ 0 := by decide +kernel

/-- The link of agent 0 is UP and locked. -/
def up0 (f : Link → Link) : State := setLink 0 f (setLock 0 true (link0 2))

theorem test_replay_timers : zclUp (up0 id) 0 = true ∧ isZcl (up0 id) 4 = false ∧ linkState (up0 id) 4 = 2 ∧
    (linkOf (up0 (fun l => { l with want := some 3, tries := 1 })) 0).want = some 3 ∧
    1 < rdf (up0 id) (portBase 0 + 0x18) 16 4 ∧ (linkOf (link0 2) 0).lock = false := by decide +kernel

/-- Zeros. -/
def zs (n : Nat) : List Byte := List.replicate n 0

/-- 256 bytes in parts: the first 61, 122 zeros, 61 more, the CRC and the FEC. -/
def parts (a d t : List Byte) : List Byte := a ++ (zs 122 ++ (d ++ t))

theorem crc_parts (a d t : List Byte) (r1 r2 r3 r4 : Nat) (ha : a.length = 61) (hd : d.length = 61)
    (h1 : a.foldl crc48Byte (2 ^ 48 - 1) = r1) (h2 : (zs 61).foldl crc48Byte r1 = r2) (h3 : (zs 61).foldl crc48Byte r2 = r3)
    (h4 : d.foldl crc48Byte r3 = r4) : crcGood (parts a d t) = decide (natOfBytes (t.take 6) = r4) := by
  have h244 : (parts a d t).take 244 = a ++ (zs 61 ++ (zs 61 ++ d)) := by
    simp [parts, zs, List.take_append, ha, hd]
  have hd2 : (parts a d t).drop 244 = t := by simp [parts, zs, List.drop_append, ha, hd]
  simp only [crcGood, h244, hd2, crc48, List.foldl_append, h1, h2, h3, h4]
  try simp [eq_comm]

/-- An idle flit, a flit of one slot whose opcode is 0x15, a wedge whose snoop credits are 7, and 256 zeros. -/
def idleFlit : List Byte := parts ([0, 0xF0, 0xFF, 0x59] ++ zs 57) (zs 61) [169, 223, 214, 177, 79, 42, 199, 88, 66, 47, 55, 231]
def slotted : List Byte :=
  parts ([0, 0xF0, 0xFF, 0x59, 0x15] ++ zs 56) (zs 60 ++ [1]) [42, 151, 56, 236, 167, 226, 120, 152, 184, 91, 87, 58]
def wedge7 : List Byte :=
  parts ([0xF8, 0x45, 0xB2, 0xD3] ++ zs 28 ++ [7] ++ zs 28) (zs 61) [13, 87, 145, 244, 64, 179, 233, 69, 247, 85, 231, 254]
def zeroFlit : List Byte := parts (zs 61) (zs 61) (zs 12)

/-- A CTRL REPLAY from SEQ 3. -/
def replay3 : List Byte :=
  parts ([0, 0xF0, 0xFF, 2, 0x31] ++ zs 56) (zs 61) [142, 156, 218, 118, 34, 26, 148, 59, 94, 173, 122, 156]

theorem idle_crc : crcGood idleFlit = true :=
  (crc_parts _ _ _ 54339455995113 121856233118118 32644227452812 46521774432169 rfl rfl (by decide +kernel) (by decide +kernel)
    (by decide +kernel) (by decide +kernel)).trans (by decide +kernel)

theorem slotted_crc : crcGood slotted = true :=
  (crc_parts _ _ _ 158854162348783 120430344480194 226764027399373 249210850547498 rfl rfl (by decide +kernel) (by decide +kernel)
    (by decide +kernel) (by decide +kernel)).trans (by decide +kernel)

theorem wedge_crc : crcGood wedge7 = true :=
  (crc_parts _ _ _ 237707231473023 37898492228226 248543610835245 197091562444557 rfl rfl (by decide +kernel) (by decide +kernel)
    (by decide +kernel) (by decide +kernel)).trans (by decide +kernel)

theorem zero_crc : crcGood zeroFlit = false :=
  (crc_parts _ _ _ 194931430408267 210057910546104 233341531541201 111882439733322 rfl rfl (by decide +kernel) (by decide +kernel)
    (by decide +kernel) (by decide +kernel)).trans (by decide +kernel)

theorem replay_crc : crcGood replay3 = true :=
  (crc_parts _ _ _ 189693510381125 147635831376082 265458809905094 28735325248654 rfl rfl (by decide +kernel) (by decide +kernel)
    (by decide +kernel) (by decide +kernel)).trans (by decide +kernel)

theorem test_replay_flit : flitKind replay3 = .replay 3 ∧ replay3.length = 256 ∧ fecDecode replay3 = (replay3, []) ∧
    (linkOf (up0 id) 0).jobs = [] := by decide +kernel

theorem test_fec : fecDecode idleFlit = (idleFlit, []) ∧ fecDecode slotted = (slotted, []) ∧ fecDecode wedge7 = (wedge7, []) ∧
    fecDecode zeroFlit = (zeroFlit, []) := by decide +kernel

theorem test_flits : InRun (up0 id) ∧ flitKind slotted = .slots [0x15] ∧ slotted.length = 256 ∧
    fld (0x15#128) 0 6 = 0x15 ∧ BitVec.ofNat 12 (byteField slotted 0 4) = (linkOf (up0 id) 0).rxSeq + 1 := by
  simp only [InRun, NoCounter]; decide +kernel

theorem test_flits_idle : flitKind idleFlit = .idle ∧ seqBehind (linkOf (up0 id) 0).rxSeq 0xFFE < 2048 ∧
    2048 ≤ seqBehind (linkOf (up0 id) 0).rxSeq 5 ∧ rdf (up0 id) (portBase 0 + 0x18) 16 4 ≠ 0 := by decide +kernel

theorem test_wedges : wedgeGood wedge7 = true ∧ wedge7.length = 256 ∧ wedgeGood zeroFlit = false ∧
    (linkOf (up0 id) 0).cumSnp ≠ 7 ∧ (linkOf (up0 id) 0).misses = 0 ∧
    31 ∈ (linkOf (up0 (fun l => { l with candidates := [3, 31] })) 0).candidates ∧ 31 ∉ (linkOf (up0 id) 0).candidates := by
  have h : wedgeGood wedge7 = true := by rw [wedgeGood, wedge_crc]; decide +kernel
  refine ⟨h, ?_⟩; decide +kernel


/-! ### Counters, Safelight state, power, resets, islands, the test port -/

/-- Counter 3 counts by windows, and counter 4 is a SAMPLE counter at its largest value. -/
def counters : State :=
  let s := regd [(oCtrCfg 3, 0x01000001), (oCtrCfg 4, 0x02000001), (oCtrVal 4, 0xFFFFFFFFFFFFFFFF), (0x342100, 1)] rst
  { s with meter := { s.meter with ctrAcc := [(3, 17)] } }

theorem test_counters : rdf counters (oCtrCfg 3) 24 2 = 1 ∧ rdf counters (oCtrCfg 4) 24 2 = 2 ∧ Regs.wf counters.regs = true ∧
    rd counters (oCtrVal 4) = 0xFFFFFFFFFFFFFFFF#64 ∧ bitOf (rd counters 0x342010) 31 = false ∧
    bitOf (rd counters 0x342100) 0 = true ∧ rdf counters 0x342104 0 16 = 0 ∧ counters.meter.lm.writing = [] := by decide +kernel

/-- A capture is awaited. -/
def sampling : State :=
  let s := holding parked
  { s with meter := { s.meter with sampleReq := some 4, runs := [⟨0, 3, false, 1, 9, 0x140⟩] } }

theorem test_sample : sampling.meter.runs.find? (fun q => decide (q.ts = 0 ∧ q.ctx = 3 ∧ q.rule = 1)) =
      some ⟨0, 3, false, 1, 9, 0x140⟩ ∧ bitOf (rd sampling 0x342010) 31 = false := by decide +kernel

/-- Safelight state with one REQ that waits. -/
def safeWaits : State :=
  let s := regd [(oFltStatus, 1)] open0
  { s with home := { s.home with reqs := [waits .rds .entry] } }

theorem test_safe_done : safeReady safely = true ∧ safeReady safeWaits = true ∧ bitOf (rd safely oFltStatus) 1 = false ∧
    Quiet safely ∧ Quiet { safeWaits with home := { safeWaits.home with reqs := [] } } ∧ NoCounter safeWaits := by
  simp only [Quiet, NoCounter]; decide +kernel

/-- A writeback after SAFE_DONE. -/
def wslot (place : WbPlace) : WSlot := {
  agent := 0, txid := 9, op := .mi, ptl := false, fog := false, bmask := 0, data := 0x1234,
  line := 5, tray := 0, deadline := 0, seq := 0, place := place, written := true, acked := false, hold := false, status := .ok, cxl := none }

def safeWbk (place : WbPlace) (regs : List (Nat × W64)) : State :=
  let s := regd ((oFltStatus, 3) :: (oTrCfg 0, 0) :: regs) open0
  { s with home := { s.home with wslots := [(2, wslot place)] } }

theorem test_safe_wbk : bitOf (rd (safeWbk .waiting []) oFltStatus) 1 = true ∧ isSafe (safeWbk .waiting []) = true ∧
    muted (safeWbk .waiting []) 0 (some 0) true = false ∧ isDark (safeWbk .waiting [(oMcStatus 1, 4)]) 5 = true ∧
    isDark (safeWbk .waiting []) 5 = false ∧ ownReads (safeWbk .waiting []) 5 false = true ∧ NoEntry (safeWbk .waiting []) 1 ∧
    bankSuspect (safeWbk .waiting []) (bankOf 1) = false ∧ traySpill (safeWbk .waiting []) 0 = false ∧
    NoCounter (safeWbk .waiting []) := by simp only [NoEntry, NoCounter]; decide +kernel

/-- STANDBY is awaited; and the block is in STANDBY, RETAIN, OFF. -/
def standing : State := { chan1 1 with aon := { rst.aon with standbyWait := true } }
def pwr (st : W64) : State :=
  regd [(oPwrStatus, st), (0x300, 1), (oAonSts, 1)] { rst with aon := { rst.aon with standbyChans := [1] } }

theorem test_power : capAnswers rst = true ∧ pwrState rst = 0 ∧ standbyQuiet standing = true ∧ pwrState (pwr 1) = 1 ∧
    chanState (regd [(oMcStatus 1, 3)] (pwr 1)) 1 = 3 ∧ wakes (.comparator 0) (pwr 2) = true ∧ wakes .wrst (pwr 3) = true ∧
    pwrState (pwr 2) = 2 ∧ pwrState (pwr 3) = 3 ∧ Quiet rst ∧ Regs.wf rst.regs = true := by
  simp only [Quiet]; decide +kernel

/-- Comparators that can trip. -/
def tripping : State := regd [(0x310, 1), (0x318, 5)] { rst with aon := { rst.aon with alarmArmed := true, ft := 9 } }

theorem test_comparators : rd tripping 0x310 ≠ 0 ∧ rd tripping 0x318 ≤ tripping.aon.ft ∧ tripping.aon.alarmArmed = true ∧
    bitOf (rd (pwr 2) 0x300) Cause.tempHi.bit = true ∧ deepState (pwr 3) = true := by decide +kernel

theorem test_heat : signedOf (rdf rst 0x210 0 16) 16 ≤ (900#16).toInt ∧ (100#16).toInt ≤ signedOf (rdf rst 0x210 16 16) 16 ∧
    920 ≤ (920#16).toInt ∧ bitOf (rd (regd [(oPwrStatus, 0x1000)] rst) oPwrStatus) 12 = true := by decide +kernel

/-- A throttling block gives a CXL-G6 link at x8 its next credits 64 units of FT later (Table LINK-1, R350). -/
theorem test_cxl_stretch : cxlStretch (regd [(oPtStatus 0, 0x4000)] rst) 0 63 = 0 ∧
    cxlStretch (regd [(oPtStatus 0, 0x4000)] rst) 0 64 = 1 ∧ shkPgate held = true ∧ shkPgate rst = false := by decide +kernel

theorem test_resets : held.aon.porstLow = true ∧ asleep rst = false ∧ Quiet open0 ∧ Regs.wf open0.regs = true := by
  simp only [Quiet]; decide +kernel

theorem test_islands : stepsLeft rst (chanSteps 1) = false ∧ islBarred rst = false ∧ chanState (chan1 4) 1 = 4 ∧ usedChan (chan1 3) 1 = false ∧
    islOffOk (chan1 1) 1 = false ∧ islBarred safely = true ∧ (∀ a ∈ portLinks (regd [(oIslSts, 0)] (link0 5)) 0,
      linkState (regd [(oIslSts, 0)] (link0 5)) a = 5) ∧ bitOf (rd rst oIslSts) 0 = true ∧
    (∃ a ∈ portLinks (link0 1) 0, linkState (link0 1) a ≠ 0 ∧ linkState (link0 1) a ≠ 5) := by decide +kernel

theorem test_fuse_ops : (rst.aon.fuses.keys.get 2).prog = false ∧ okFuse (.key 2 5) = true ∧
    ((fuseProg (.key 2 5) rst.aon.fuses).keys.get 2).prog = true := by decide +kernel

end Sys2Proof.Tests
end

section
/-! PROOFS. Accesses to unassigned offsets and the commit in Safelight state (R23, R25). -/

namespace Sys2Proof.Machine

/-! ### The CAP's answer -/

/-- Completing an access changes nothing but the CAP's answer. -/
theorem capDone_eq_answered (err : Bool) (data : W64) (s : State) : capDone err data s = answered err data s := rfl

/-! ### Unassigned offsets (R23) -/

/-- No register starts above the counters' block. -/
theorem regDesc_above {off : Nat} (h : 0x350000 ≤ off) : regDesc off = none := by
  unfold regDesc
  iterate 11 rw [if_neg (by omega)]

/-- No register is reached above the counters' block. -/
theorem coverReg_above {off : Nat} (h : 0x350004 ≤ off) : coverReg off = none := by
  simp [coverReg, regDesc_above (show 0x350000 ≤ off by omega), regDesc_above (show 0x350000 ≤ off - 4 by omega)]

/-- The shadows lie below the reel slots. -/
theorem coverShadow_above {off : Nat} (h : 0x400000 ≤ off) : coverShadow off = none :=
  if_neg fun hlow => absurd hlow.1 (Nat.not_lt.mpr h)

/-- Nothing above scratch is assigned. -/
theorem assigned_above {off : Nat} (h : 0x640000 ≤ off) : assigned off = false := by
  have hslot : ¬ off < 0x600000 := by omega
  have hscratch : ¬ off < 0x640000 := by omega
  simp [assigned, coverReg_above (show 0x350004 ≤ off by omega), coverShadow_above (show 0x400000 ≤ off by omega),
    hslot, hscratch]

/-- Outside factory test mode the TEST range is not opened. -/
theorem testAccess_closed {s : State} (h : s.aon.testMode = false) (off : Nat) : testAccess s off = false := by
  simp [testAccess, h]

/-- The decode event answers 0 and sets CAP_DECODE. -/
theorem decodeEvent_eq (s : State) :
    decodeEvent s = wr (answered false 0 s) 0x010100 (rd s 0x010100 ||| 1#64) := by
  unfold decodeEvent raise0
  rw [raise_none rfl, capDone_eq_answered]
  rfl

/-- The decode event keeps the queue and the always-on side. -/
theorem untimed_eq_decodeEvent {f : State → State} {s : State} (h : f s = decodeEvent s) :
    untimed f s = decodeEvent s := by
  rw [decodeEvent_eq] at h
  rw [untimed_eq (by rw [h]; rfl) (by rw [h]; rfl), h, decodeEvent_eq]

/-- No offset is assigned in what a 32-bit or a 64-bit access reaches. -/
theorem reach_unassigned {off : Nat} {wide : Bool} (hlow : assigned off = false)
    (hhigh : wide = true → assigned (off + 4) = false) : (assigned off || (wide && assigned (off + 4))) = false := by
  cases wide with
  | false => simp [hlow]
  | true => simp [hlow, hhigh rfl]

section
variable {off : Nat} {wide : Bool} {s : State} (hcap : capAnswers s = true) (hal : aligned off wide = true)
  (hun : (assigned off || (wide && assigned (off + 4))) = false)
include hcap hal hun

theorem opCapDecode_unassigned (we : Bool) : opCapDecode off wide we s = decodeEvent s := by
  simp only [opCapDecode, hcap, hal, hun, Bool.not_true, Bool.false_eq_true, if_false]

theorem opRegisterWrite_unassigned (v : W64) : opRegisterWrite off wide v s = decodeEvent s := by
  simp only [opRegisterWrite, hcap, hal, hun, Bool.not_true, Bool.not_false, Bool.false_eq_true, if_false, if_true]

end

/-- GLB_FT_CTRL, whose access alone can set FT (R206), is assigned. -/
theorem ne_ftCtrl_of_unassigned {off : Nat} (h : assigned off = false) : off ≠ 0x110 := by
  rintro rfl
  exact absurd h (by decide)

section
variable {off : BitVec 24} {wide : Bool} {s : State} (hcap : capAnswers s = true) (htest : testAccess s off.toNat = false)
  (hal : aligned off.toNat wide = true) (hlow : assigned off.toNat = false)
  (hhigh : wide = true → assigned (off.toNat + 4) = false)
include hcap htest hal hlow hhigh

theorem exec_capDecode_unassigned (we : Bool) (v : W64) : exec (.capDecode off wide we v) s = .next (decodeEvent s) := by
  have hop := opCapDecode_unassigned hcap hal (reach_unassigned hlow hhigh) we
  change execCapDecode off wide we v s = _
  simp [execCapDecode, htest, untimed_eq_decodeEvent hop]

theorem exec_registerWrite_unassigned (v : W64) : exec (.registerWrite off wide v) s = .next (decodeEvent s) := by
  have hop := opRegisterWrite_unassigned hcap hal (reach_unassigned hlow hhigh) v
  change execRegisterWrite off wide v s = _
  simp [execRegisterWrite, htest, ne_ftCtrl_of_unassigned hlow, untimed_eq_decodeEvent hop]

end

/-! ### The commit in Safelight state (R25) -/

/-- In Safelight state a commit that starts writes REJECTED, SAFELIGHT and offset 0 to GLB_COMMIT_STS, whatever the shadows
hold. -/
theorem opCommit_safe {s : State} (hbusy : s.cap.commitBusy = false) (hsafe : isSafe s = true) :
    opCommit s = wr s 0x14 0x2B#64 := by
  simp only [opCommit, hbusy, hsafe, Bool.false_eq_true, if_false, if_true]
  rfl

/-! ### The statements -/

/-- Settles O9: the access takes the decode branch of its command, and no register, shadow, reel slot or scratch word lies in
the TEST range. -/
theorem unassignedAccess : Obligations.UnassignedAccess := by
  refine ⟨fun off wide we v s hcap htest hmod hlow hhigh => ?_, fun off htop => assigned_above (by omega)⟩
  have hal : aligned off.toNat wide = true := decide_eq_true hmod
  have hclosed : testAccess s off.toNat = false := testAccess_closed htest off.toNat
  rw [← decodeEvent_eq]
  exact ⟨exec_capDecode_unassigned hcap hclosed hal hlow hhigh we v,
    exec_registerWrite_unassigned hcap hclosed hal hlow hhigh v⟩

/-- Settles O10: the Safelight branch of the commit comes before any check of the shadows. -/
theorem safelightCommitRejected : Obligations.SafelightCommitRejected := by
  intro s hcap hbusy hsafe
  have hop : opCommit (answered false 0 s) = wr (answered false 0 s) 0x14 0x2B#64 := opCommit_safe hbusy hsafe
  change Host.Outcome.next (capCmd opCommit s) = _
  rw [capCmd_answers _ hcap, capDone_eq_answered, untimed_eq (by rw [hop]; rfl) (by rw [hop]; rfl), hop]

end Sys2Proof.Machine
end

section
/-! The proofs below are elaborated one after another: the accessors of a frame (`Only.regs` and its like) find their side
condition by `by decide`, which waits for all that stands before it in the same text. -/

set_option Elab.async false

section
/-! PROOFS. Frames: how `Only`, `RegsOnly` and `Caused` compose, so that what an operation leaves alone is proved once and
carried through every effect built from it. -/

namespace Sys2Proof.Machine

/-! ### Sides -/

/-- A frame is sixteen fields, each listed or kept. -/
theorem only_iff (k : List Side) (s t : State) : Only k s t ↔
    (.pending ∈ k ∨ t.pending = s.pending) ∧ (.regs ∈ k ∨ t.regs = s.regs) ∧ (.shadow ∈ k ∨ t.shadow = s.shadow) ∧
    (.cap ∈ k ∨ t.cap = s.cap) ∧ (.aon ∈ k ∨ t.aon = s.aon) ∧ (.sheet ∈ k ∨ t.sheet = s.sheet) ∧
    (.dev ∈ k ∨ t.dev = s.dev) ∧ (.home ∈ k ∨ t.home = s.home) ∧ (.mem ∈ k ∨ t.mem = s.mem) ∧
    (.links ∈ k ∨ t.links = s.links) ∧ (.meter ∈ k ∨ t.meter = s.meter) ∧ (.safe ∈ k ∨ t.safe = s.safe) ∧
    (.xbar ∈ k ∨ t.xbar = s.xbar) ∧ (.tx ∈ k ∨ t.tx = s.tx) ∧ (.picks ∈ k ∨ t.picks = s.picks) ∧
    (.draws ∈ k ∨ t.draws = s.draws) := by
  simp only [or_iff_not_imp_left]
  constructor
  · intro h
    exact ⟨h .pending, h .regs, h .shadow, h .cap, h .aon, h .sheet, h .dev, h .home, h .mem, h .links, h .meter, h .safe,
      h .xbar, h .tx, h .picks, h .draws⟩
  · rintro ⟨h1, h2, h3, h4, h5, h6, h7, h8, h9, h10, h11, h12, h13, h14, h15, h16⟩ x hx
    cases x
    exacts [h1 hx, h2 hx, h3 hx, h4 hx, h5 hx, h6 hx, h7 hx, h8 hx, h9 hx, h10 hx, h11 hx, h12 hx, h13 hx, h14 hx, h15 hx,
      h16 hx]

@[simp] theorem Only.refl (k : List Side) (s : State) : Only k s s := fun x _ => by cases x <;> rfl

theorem SameSide.trans {x : Side} {s t u : State} (h : SameSide x s t) (g : SameSide x t u) : SameSide x s u := by
  cases x <;> exact Eq.trans g h

theorem Only.trans {k : List Side} {s t u : State} (h : Only k s t) (g : Only k t u) : Only k s u :=
  fun x hx => (h x hx).trans (g x hx)

theorem Only.mono {k l : List Side} {s t : State} (h : Only k s t) (hkl : k ⊆ l) : Only l s t :=
  fun x hx => h x fun hk => hx (hkl hk)

/-- A fold keeps every side that each of its steps keeps. -/
theorem Only.foldl {α : Type} {k : List Side} {f : State → α → State} (h : ∀ t a, Only k t (f t a)) (l : List α)
    (s : State) : Only k s (l.foldl f s) := by
  induction l generalizing s with
  | nil => exact Only.refl k s
  | cons a l ih => exact (h s a).trans (ih _)

/-- What the wrapper of every internal effect adds keeps every frame. -/
theorem Only.untimed {k : List Side} {f : State → State} {s : State} (h : Only k s (f s)) : Only k s (untimed f s) := by
  rw [only_iff] at h ⊢
  obtain ⟨_, h2, h3, h4, h5, h6⟩ := h
  refine ⟨.inr rfl, h2, h3, h4, ?_, h6⟩
  rcases h5 with h5 | h5
  · exact .inl h5
  · refine .inr ?_
    simp only [Machine.untimed, within, h5]

theorem only_wr (s : State) (o : Nat) (v : W64) : Only [.regs] s (wr s o v) := by simp [only_iff]

theorem only_wrf (s : State) (o lo w x : Nat) : Only [.regs] s (wrf s o lo w x) := by simp [only_iff]

theorem only_answered (e : Bool) (d : W64) (s : State) : Only [.cap] s (answered e d s) := by simp [only_iff, answered]

theorem only_setLink (a : Nat) (f : Link → Link) (s : State) : Only [.links] s (setLink a f s) := by simp [only_iff]

theorem only_setChan (m : Nat) (f : Chan → Chan) (s : State) : Only [.mem] s (setChan m f s) := by simp [only_iff]

theorem only_updAon (f : AonSide → AonSide) (s : State) : Only [.aon] s (updAon f s) := by simp [only_iff]

theorem only_updSheet (f : SheetSide → SheetSide) (s : State) : Only [.sheet] s (updSheet f s) := by simp [only_iff]

theorem only_updDev (f : DevSide → DevSide) (s : State) : Only [.dev] s (updDev f s) := by simp [only_iff]

theorem only_updHome (f : HomeSide → HomeSide) (s : State) : Only [.home] s (updHome f s) := by simp [only_iff]

theorem only_updMem (f : MemSide → MemSide) (s : State) : Only [.mem] s (updMem f s) := by simp [only_iff]

theorem only_updMeter (f : MeterSide → MeterSide) (s : State) : Only [.meter] s (updMeter f s) := by simp [only_iff]

/-- A raised cause reaches registers and the Safelight bookkeeping alone. -/
theorem only_raise (c : Cause) (u : Nat) (r : PsRec) (s : State) : Only [.regs, .safe] s (raise c u r s) := by
  obtain ⟨m, f, h⟩ := regsSafe_raise c u r s
  rw [h]
  simp [only_iff]

/-- A cause of no class sets its bit and does nothing else (R324). -/
theorem raise0_none {c : Cause} (h : c.cls = .none) (s : State) :
    raise0 c s = wr s (causeReg c.domain 0) (rd s (causeReg c.domain 0) ||| w64 (2 ^ c.bit)) := raise_none h 0 _ s

theorem raiseAt_none {c : Cause} (h : c.cls = .none) (u : Nat) (s : State) :
    raiseAt c u s = wr s (causeReg c.domain u) (rd s (causeReg c.domain u) ||| w64 (2 ^ c.bit)) := raise_none h u _ s

/-! ### A side that a frame keeps -/

section
variable {k : List Side} {s t : State} (h : Only k s t)
include h

theorem Only.pending (hk : .pending ∉ k := by decide) : t.pending = s.pending := h .pending hk
theorem Only.regs (hk : .regs ∉ k := by decide) : t.regs = s.regs := h .regs hk
theorem Only.shadow (hk : .shadow ∉ k := by decide) : t.shadow = s.shadow := h .shadow hk
theorem Only.cap (hk : .cap ∉ k := by decide) : t.cap = s.cap := h .cap hk
theorem Only.aon (hk : .aon ∉ k := by decide) : t.aon = s.aon := h .aon hk
theorem Only.sheet (hk : .sheet ∉ k := by decide) : t.sheet = s.sheet := h .sheet hk
theorem Only.dev (hk : .dev ∉ k := by decide) : t.dev = s.dev := h .dev hk
theorem Only.home (hk : .home ∉ k := by decide) : t.home = s.home := h .home hk
theorem Only.mem (hk : .mem ∉ k := by decide) : t.mem = s.mem := h .mem hk
theorem Only.links (hk : .links ∉ k := by decide) : t.links = s.links := h .links hk
theorem Only.meter (hk : .meter ∉ k := by decide) : t.meter = s.meter := h .meter hk
theorem Only.safe (hk : .safe ∉ k := by decide) : t.safe = s.safe := h .safe hk
theorem Only.xbar (hk : .xbar ∉ k := by decide) : t.xbar = s.xbar := h .xbar hk
theorem Only.tx (hk : .tx ∉ k := by decide) : t.tx = s.tx := h .tx hk
theorem Only.picks (hk : .picks ∉ k := by decide) : t.picks = s.picks := h .picks hk
theorem Only.draws (hk : .draws ∉ k := by decide) : t.draws = s.draws := h .draws hk

end

/-! ### Registers -/

theorem RegsOnly.refl (p : Nat → Prop) (s : State) : RegsOnly p s s := fun _ _ => rfl

theorem RegsOnly.trans {p : Nat → Prop} {s t u : State} (h : RegsOnly p s t) (g : RegsOnly p t u) : RegsOnly p s u :=
  fun o ho => (g o ho).trans (h o ho)

theorem RegsOnly.mono {p q : Nat → Prop} {s t : State} (h : RegsOnly p s t) (hpq : ∀ o, p o → q o) : RegsOnly q s t :=
  fun o ho => h o fun hp => ho (hpq o hp)

theorem RegsOnly.foldl {α : Type} {p : Nat → Prop} {f : State → α → State} (h : ∀ t a, RegsOnly p t (f t a)) (l : List α)
    (s : State) : RegsOnly p s (l.foldl f s) := by
  induction l generalizing s with
  | nil => exact RegsOnly.refl p s
  | cons a l ih => exact (h s a).trans (ih _)

theorem regsOnly_of_regs {p : Nat → Prop} {s t : State} (h : t.regs = s.regs) : RegsOnly p s t := fun o _ => rd_congr h o

theorem regsOnly_wr {p : Nat → Prop} (s : State) {o : Nat} (v : W64) (h : p o) : RegsOnly p s (wr s o v) :=
  fun _ ho => rd_wr_ne s v fun e => ho (e ▸ h)

theorem regsOnly_wrf {p : Nat → Prop} (s : State) {o : Nat} (lo w x : Nat) (h : p o) : RegsOnly p s (wrf s o lo w x) :=
  regsOnly_wr s _ h

end Sys2Proof.Machine
end

section
/-! PROOFS. What a command may do at all: its outcome by the wrapper of its meaning, and the statements that follow from it
(R202, R206, R355, R360, R394, R397). -/

namespace Sys2Proof.Machine

/-! ### What a command makes of the state -/

/-- What a command that is not one of the always-on island, the test port, the resets or FT makes of a state: an effect
inside the running block, or, with the block asleep, no more than the CAP's missing acknowledge. -/
def Ordinary (s t : State) : Prop :=
  (asleep s = false ∧ ∃ f, t = untimed f s) ∨ (asleep s = true ∧ (t = s ∨ t = capSilent s))

/-- An access that may set FT: LOAD, or a write of GLB_FT_CTRL (R206). -/
def FtAccess (c : Instr) : Prop := c = .ftLoad ∨ ∃ w v, c = .registerWrite 0x110#24 w v

/-- A command of the always-on island (R356, R358). -/
def AonCommand (c : Instr) : Prop :=
  c ∈ [.tempHi, .tempLo, .vcoreLo, .vddqLo, .laneWake, .timeAlarm] ∨ ∃ w, c = .wake w

/-- A command of the test port other than FUSEPROG (R395). -/
def TapCommand (c : Instr) : Prop :=
  c ∈ [.idcode, .extestPulse, .extestTrain, .fuseread] ∨ (∃ p, c = .samplePreload p) ∨ (∃ p, c = .extest p) ∨
    ∃ k b, c = .bypass k b

/-- The commands whose effect goes beyond what `untimed` lets through, each with what it makes of a state. -/
inductive Own (s : State) : Instr → State → Prop
  | ftAccess {c : Instr} (f : State → State) (h : FtAccess c) (ha : asleep s = false) : Own s c (within f s)
  | aon {c : Instr} (f : State → State) (h : AonCommand c) : Own s c (awake f s)
  | tap {c : Instr} (tap : Tap) (h : TapCommand c) : Own s c { s with aon := { s.aon with tap := tap } }
  | coldReset : Own s .coldReset (opColdReset s)
  | porstRelease (b : Bool) : Own s (.porstRelease b) (opPorstRelease b s)
  | fuseprog (op : FuseOp) (h : hasFuse op = true) : Own s (.fuseprog op) (opFuseprog op s)

/-- The outcomes of a command. -/
inductive Runs (c : Instr) (s : State) : Out → Prop
  | fault (h : c.wf = false) : Runs c s (.fault .noSuchUnit)
  | refused (h : c.wf = true) (ht : s.aon.testMode = true) : Runs c s (.refused .factoryTestUndocumented)
  | ordinary {t : State} (h : c.wf = true) (ho : Ordinary s t) : Runs c s (.next t)
  | own {t : State} (h : c.wf = true) (ho : Own s c t) : Runs c s (.next t)

/-! ### The wrappers -/

theorem capSilent_eq_untimed (s : State) : capSilent s = untimed capSilent s := rfl

theorem asleep_of_capAnswers {s : State} (h : capAnswers s = true) : asleep s = false := by
  simpa [capAnswers_eq] using h

theorem asleep_of_not_capAnswers {s : State} (h : capAnswers s = false) : asleep s = true := by
  simpa [capAnswers_eq] using h

theorem ordinary_live (f : State → State) (s : State) : Ordinary s (live f s) := by
  cases h : asleep s with
  | false => exact .inl ⟨h, f, live_awake f h⟩
  | true => exact .inr ⟨h, .inl (live_asleep f h)⟩

theorem ordinary_heard (f : State → State) (s : State) : Ordinary s (heard f s) := ordinary_live _ s

theorem ordinary_capCmd (f : State → State) (s : State) : Ordinary s (capCmd f s) := by
  cases h : capAnswers s with
  | true => exact .inl ⟨asleep_of_capAnswers h, fun s => f (capDone false 0 s), capCmd_answers f h⟩
  | false => exact .inr ⟨asleep_of_not_capAnswers h, .inr (capCmd_silent f h)⟩

/-- An access whose first test is whether the CAP answers. -/
theorem ordinary_access {f : State → State} {s : State} (h : capAnswers s = false → f s = capSilent s) :
    Ordinary s (untimed f s) := by
  cases ha : capAnswers s with
  | true => exact .inl ⟨asleep_of_capAnswers ha, f, rfl⟩
  | false =>
    exact .inr ⟨asleep_of_not_capAnswers ha, .inr (by rw [untimed_eq (by rw [h ha]; rfl) (by rw [h ha]; rfl), h ha])⟩

theorem ordinary_refl (s : State) : Ordinary s s := by
  cases h : asleep s with
  | false => exact .inl ⟨h, id, rfl⟩
  | true => exact .inr ⟨h, .inl rfl⟩

theorem runs_live {c : Instr} {ok : Bool} (h : ok = c.wf) (f : State → State) (s : State) :
    Runs c s (onUnit ok (live f) s) := by
  cases hw : c.wf with
  | false => rw [h, hw]; exact .fault hw
  | true => rw [h, hw]; exact .ordinary hw (ordinary_live f s)

theorem runs_heard {c : Instr} {ok : Bool} (h : ok = c.wf) (f : State → State) (s : State) :
    Runs c s (onUnit ok (heard f) s) := runs_live h _ s

theorem runs_capCmd {c : Instr} {ok : Bool} (h : ok = c.wf) (f : State → State) (s : State) :
    Runs c s (onUnit ok (capCmd f) s) := by
  cases hw : c.wf with
  | false => rw [h, hw]; exact .fault hw
  | true => rw [h, hw]; exact .ordinary hw (ordinary_capCmd f s)

/-! ### Units named by a register offset -/

/-- Within a delay set, the rows of R241's registers are those of its map but for MC_DRIFT. -/
theorem delaySet_rows : ∀ a < 0x10, ∀ b < 0x10, let y := 0x10 * a + b
    ((regDelaySet y).isSome && !inRow y 0xF4 4 3) =
      (offRow y 0x00 5 || offRow y 0x20 5 || offRow y 0x40 10 || offRow y 0x80 10 || offRow y 0xC0 5 || offRow y 0xE0 5) := by
  decide

theorem delayOff_eq (x : Nat) : isDelay x = delayOff x := by
  have hrow := delaySet_rows (x % 0x100 / 0x10) (by omega) (x % 0x10) (by omega)
  rw [show 0x10 * (x % 0x100 / 0x10) + x % 0x10 = x % 0x100 by omega] at hrow
  have hset : inDelaySet x = delaySets x := rfl
  have h1 : inRow x 0x2100 4 5 = offRow x 0x2100 5 := rfl
  have h2 : inRow x 0x2120 4 5 = offRow x 0x2120 5 := rfl
  unfold isDelay delayOff isDrift
  rw [← hrow, hset, h1, h2]
  cases delaySets x <;> simp

/-! ### Register accesses -/

theorem runs_registerWrite (off : BitVec 24) (w : Bool) (v : W64) (s : State) :
    Runs (.registerWrite off w v) s (execRegisterWrite off w v s) := by
  have hsilent : capAnswers s = false → opRegisterWrite off.toNat w v s = capSilent s := fun h => by
    simp [opRegisterWrite, h]
  unfold execRegisterWrite
  split
  next ht =>
    simp only [testAccess, Bool.and_eq_true] at ht
    exact .refused rfl ht.1.1.2
  next =>
    split
    next hoff =>
      have hc : FtAccess (.registerWrite off w v) := .inr ⟨w, v, by rw [show off = 0x110#24 from BitVec.eq_of_toNat_eq hoff]⟩
      cases ha : capAnswers s with
      | true => exact .own rfl (.ftAccess _ hc (asleep_of_capAnswers ha))
      | false =>
        refine .ordinary rfl (.inr ⟨asleep_of_not_capAnswers ha, .inr ?_⟩)
        simp only [within, hsilent ha]
        rfl
    next => exact .ordinary rfl (ordinary_access hsilent)

theorem runs_capDecode (off : BitVec 24) (w we : Bool) (v : W64) (s : State) :
    Runs (.capDecode off w we v) s (execCapDecode off w we v s) := by
  unfold execCapDecode
  split
  next ht =>
    simp only [testAccess, Bool.and_eq_true] at ht
    exact .refused rfl ht.1.1.2
  next => exact .ordinary rfl (ordinary_access fun h => by simp [opCapDecode, h])

theorem runs_ftLoad (s : State) : Runs .ftLoad s (execFtLoad s) := by
  unfold execFtLoad
  cases ha : capAnswers s with
  | true => exact .own rfl (.ftAccess (fun s => opFtLoad (capDone false 0 s)) (.inl rfl) (asleep_of_capAnswers ha))
  | false => exact .ordinary rfl (.inr ⟨asleep_of_not_capAnswers ha, .inr rfl⟩)

/-! ### The test port -/

/-- A boundary-scan instruction changes the test port alone, whether it acts or passes (R395). -/
theorem scan_tap {code : BitVec 8} {f : State → State} {s : State}
    (h : ∃ tap, f s = { s with aon := { s.aon with tap := tap } }) :
    ∃ tap, scan code f s = { s with aon := { s.aon with tap := tap } } := by
  unfold scan
  split
  · exact h
  · exact ⟨_, rfl⟩

theorem runs_tap {c : Instr} (hw : c.wf = true) (h : TapCommand c) {s t : State}
    (ht : ∃ tap, t = { s with aon := { s.aon with tap := tap } }) : Runs c s (.next t) := by
  obtain ⟨tap, rfl⟩ := ht
  exact .own hw (.tap tap h)

theorem opBypass_tap (code : BitVec 8) (tdi : Bool) (s : State) :
    ∃ tap, opBypass code tdi s = { s with aon := { s.aon with tap := tap } } := by
  unfold opBypass
  split
  · exact ⟨s.aon.tap, rfl⟩
  · exact ⟨_, rfl⟩

theorem runs_fuseprog (op : FuseOp) (s : State) : Runs (.fuseprog op) s (execFuseprog op s) := by
  unfold execFuseprog onUnit
  rw [show okFuse op = hasFuse op by cases op <;> rfl]
  split
  next h => exact .own h (.fuseprog op h)
  next h => exact .fault (Bool.not_eq_true _ ▸ h)

/-! ### Every command -/

/-- The outcome of each command, by the wrapper of its meaning. -/
theorem exec_runs (c : Instr) (s : State) : Runs c s (exec c s) := by
  cases c
  case rds | rdx | upg | rdc | wrl | wrp | atr | atc | flush | stbV | stbD | detn | wbMI | wbMS | wbME | wbOI | wbOS |
    rspI | rspS | rspE | rspMiss | rspFwdI | rspFwdS | rspFwdO | rspDataI | rspDataK | rspWbPending | cmp | datH | datS |
    datE | datM | memRd | memRdData | memInv | memInvNT | memClnEvct | memSpecRd | memRdFwd | memWrFwd | memWr | memWrPtl |
    biRspI | biRspS | biRspE | biConflict | cxlCmpEvent | biDisable | identify | backgroundOperationStatus | getEventRecords |
    clearEventRecords | getSupportedLogs | getLog | identifyMemoryDevice | getPartitionInfo | getHealthInfo | biEnable |
    birspBlockForm => exact runs_heard rfl _ s
  case quiesceComplete | spareTestDone | sheetScrubRecheck | allocRetry | detnDispatch | streamRelease | reqTakeEntry |
    chainHeadDispatch | eventDispatch | sheetOpResult | nop | add | sub | and | or | xor | shl | shr | mov | ldi | operCmp |
    popc | ffs | msk | lds | sts | slk | sup | sall | sevt | ltb | ltw | ltwHead | lte | send | snpv | mrd | mwr | mwrd |
    fog | ctr | stpb | chain | await | retire | trap | stopBathComplete | mrdc | mwrc | ldwc | postedWriteDone | tSnoop |
    tCmp | parkLong | htidStuck | pauseTimeout | srefDone | batchRecoverEnd | refresh | refreshPoll | alertN | caReplayEnd |
    trnDone | devThresh | fillLine | patrolScrubRead | scrubRewrite | linkUp | trainingTimeout | recoveryLock |
    recoveryTimeout | flitReceive | wedgeReceive | lockTimeout | replay | replayTimeout | wedgeSend | ovf | sample | thrOn |
    tjCrit | droop => exact runs_live rfl _ s
  case sheetPeek | softRepairWrite | drain | offline | online | cancel | start | pause | resume | sref | exit | exitInit |
    darken | mrw | mrr | caloop | wlvl | rcven | wrpat | rdcmp | rdcap | driftWrite | erasureDeclare | linkEnable | retrain |
    linkDisable | linkRetire | islandOff | islandOn => exact runs_capCmd rfl _ s
  case commitApply | sheetBistDone | sheetPeekDone | sheetScrubVisit | postedWriteResume | trapStorm | sweep | engineStart |
    verifyDone | refetchDone | fetchTimeout | remapCopySector | counterWindow | lmRecord | safeDone | safelightWbk |
    standbyEnter | standbyTimeout | thrOff | warmReset => exact .ordinary rfl (ordinary_live _ s)
  case commit | sheetBistGo | engEnable | verify | switch | clear | refillGo | mreqGo | blank | query | copy | load | swi |
    standby | run | retain | off => exact .ordinary rfl (ordinary_capCmd _ s)
  case capMisaligned off w we v =>
    exact .ordinary rfl (ordinary_access fun h => by simp [opCapMisaligned, h])
  case shadowWrite off w v => exact .ordinary rfl (ordinary_access fun h => by simp [opShadowWrite, h])
  case scratchWrite off w v => exact .ordinary rfl (ordinary_access fun h => by simp [opScratchWrite, h])
  case reelWrite off w v => exact .ordinary rfl (ordinary_access fun h => by simp [opReelWrite, h])
  case starve | islOff | islOn => exact runs_live rfl _ s
  case delayWrite => exact runs_capCmd (by rw [delayOff_eq]; rfl) _ s
  case registerWrite off w v => exact runs_registerWrite off w v s
  case capDecode off w we v => exact runs_capDecode off w we v s
  case ftLoad => exact runs_ftLoad s
  case hdmDecoderWrite a d v =>
    cases hw : okAgent a with
    | false => change Runs _ s (onUnit (okAgent a) id s); rw [onUnit_false hw]; exact .fault hw
    | true => change Runs _ s (onUnit (okAgent a) id s); rw [onUnit_true hw]; exact .ordinary hw (ordinary_refl s)
  case tempHi | tempLo | vcoreLo | vddqLo | laneWake | timeAlarm => exact .own rfl (.aon _ (.inl (by simp)))
  case wake src => exact .own rfl (.aon _ (.inr ⟨src, rfl⟩))
  case coldReset => exact .own rfl .coldReset
  case porstRelease b => exact .own rfl (.porstRelease b)
  case idcode | fuseread => exact runs_tap rfl (.inl (by simp)) ⟨_, rfl⟩
  case extestPulse | extestTrain => exact runs_tap rfl (.inl (by simp)) (scan_tap ⟨_, rfl⟩)
  case samplePreload p => exact runs_tap rfl (.inr (.inl ⟨p, rfl⟩)) (scan_tap ⟨_, rfl⟩)
  case extest p => exact runs_tap rfl (.inr (.inr (.inl ⟨p, rfl⟩))) (scan_tap ⟨_, rfl⟩)
  case bypass k b => exact runs_tap rfl (.inr (.inr (.inr ⟨k, b, rfl⟩))) (opBypass_tap k b s)
  case fuseprog op => exact runs_fuseprog op s

/-- A command that completes had an ordinary effect, or is one of those with an effect of its own. -/
theorem exec_next {c : Instr} {s t : State} (h : exec c s = .next t) : Ordinary s t ∨ Own s c t := by
  have hr := exec_runs c s
  rw [h] at hr
  cases hr with
  | ordinary _ ho => exact .inl ho
  | own _ ho => exact .inr ho

/-! ### The queue, FT and the fuses -/

theorem awake_pending (f : State → State) (s : State) : (awake f s).pending = s.pending := by
  unfold awake; split <;> rfl

theorem awake_fuses (f : State → State) (s : State) : (awake f s).aon.fuses = s.aon.fuses := by
  unfold awake; split <;> rfl

theorem awake_ft (f : State → State) (s : State) :
    (awake f s).aon.ft = s.aon.ft ∧ (awake f s).aon.ftFrac = s.aon.ftFrac := by
  unfold awake; split <;> exact ⟨rfl, rfl⟩

theorem opPorstRelease_pending (b : Bool) (s : State) : (opPorstRelease b s).pending = s.pending := by
  unfold opPorstRelease; split <;> rfl

theorem opPorstRelease_fuses (b : Bool) (s : State) : (opPorstRelease b s).aon.fuses = s.aon.fuses := by
  unfold opPorstRelease; split <;> rfl

theorem opFuseprog_pending (op : FuseOp) (s : State) : (opFuseprog op s).pending = s.pending := by
  unfold opFuseprog; dsimp only; split <;> rfl

theorem opFuseprog_ft (op : FuseOp) (s : State) :
    (opFuseprog op s).aon.ft = s.aon.ft ∧ (opFuseprog op s).aon.ftFrac = s.aon.ftFrac := by
  unfold opFuseprog; dsimp only; split <;> exact ⟨rfl, rfl⟩

theorem opFuseprog_fuses (op : FuseOp) (s : State) :
    (opFuseprog op s).aon.fuses = if s.aon.porstLow then fuseProg op s.aon.fuses else s.aon.fuses := by
  unfold opFuseprog; dsimp only [tapShift, updAon]; split <;> rfl

/-- An ordinary effect keeps the queue, FT and the fuses. -/
theorem Ordinary.keeps {s t : State} (h : Ordinary s t) : t.pending = s.pending ∧ t.aon.fuses = s.aon.fuses ∧
    t.aon.ft = s.aon.ft ∧ t.aon.ftFrac = s.aon.ftFrac := by
  obtain ⟨_, f, rfl⟩ | ⟨_, rfl | rfl⟩ := h <;> exact ⟨rfl, rfl, rfl, rfl⟩

theorem Own.pending {c : Instr} {s t : State} (h : Own s c t) : t.pending = s.pending := by
  cases h with
  | aon f _ => exact awake_pending f s
  | porstRelease b => exact opPorstRelease_pending b s
  | fuseprog op _ => exact opFuseprog_pending op s
  | ftAccess | tap | coldReset => rfl

/-- FUSEPROG alone reaches the fuses. -/
theorem Own.fuses {c : Instr} {s t : State} (h : Own s c t) :
    t.aon.fuses = s.aon.fuses ∨
      ∃ op, c = .fuseprog op ∧ hasFuse op = true ∧ s.aon.porstLow = true ∧ t.aon.fuses = fuseProg op s.aon.fuses := by
  cases h with
  | aon f _ => exact .inl (awake_fuses f s)
  | porstRelease b => exact .inl (opPorstRelease_fuses b s)
  | ftAccess | tap | coldReset => exact .inl rfl
  | fuseprog op hop =>
    rw [opFuseprog_fuses]
    cases hp : s.aon.porstLow with
    | false => exact .inl rfl
    | true => exact .inr ⟨op, rfl, hop, rfl, rfl⟩

theorem exec_fuses {c : Instr} {s t : State} (h : exec c s = .next t) :
    t.aon.fuses = s.aon.fuses ∨
      ∃ op, c = .fuseprog op ∧ hasFuse op = true ∧ s.aon.porstLow = true ∧ t.aon.fuses = fuseProg op s.aon.fuses := by
  rcases exec_next h with ho | ho
  · obtain ⟨_, hf, _⟩ := ho.keeps
    exact .inl hf
  · exact ho.fuses

/-! ### Fuses only grow (R397) -/

theorem quad_get_set {α : Type} (q : Quad α) (i j : Nat) (v : α) (hi : i < 4) (hj : j < 4) :
    (q.set i v).get j = if j = i then v else q.get j := by
  have hi : i = 0 ∨ i = 1 ∨ i = 2 ∨ i = 3 := by omega
  have hj : j = 0 ∨ j = 1 ∨ j = 2 ∨ j = 3 := by omega
  rcases hi with rfl | rfl | rfl | rfl <;> rcases hj with rfl | rfl | rfl | rfl <;> rfl

theorem FusesGrow.refl (f : Fuses) : FusesGrow f f :=
  ⟨fun _ _ h => ⟨h, rfl⟩, fun _ _ h => h, fun _ _ => BitVec.and_self, BitVec.and_self, fun h => h, rfl⟩

/-- Replacing one key slot by one in which no bit is cleared, and no programmed digest changed. -/
theorem fusesGrow_setKey (f : Fuses) {k : Nat} (hk : k < 4) (v : KeySlot)
    (hprog : (f.keys.get k).prog = true → v.prog = true ∧ v.digest = (f.keys.get k).digest)
    (hrevoke : (f.keys.get k).revoke = true → v.revoke = true)
    (hdigest : (f.keys.get k).digest &&& v.digest = (f.keys.get k).digest) :
    FusesGrow f { f with keys := f.keys.set k v } := by
  refine ⟨fun j hj h => ?_, fun j hj h => ?_, fun j hj => ?_, BitVec.and_self, fun h => h, rfl⟩ <;>
    dsimp only <;> rw [quad_get_set _ _ _ _ hk hj] <;> split
  · next e => subst e; exact hprog h
  · exact ⟨h, rfl⟩
  · next e => subst e; exact hrevoke h
  · exact h
  · next e => subst e; exact hdigest
  · exact BitVec.and_self

theorem fuseProg_grows (op : FuseOp) (h : hasFuse op = true) (f : Fuses) : FusesGrow f (fuseProg op f) := by
  cases op with
  | key k d =>
    have hk : k < 4 := by simpa [hasFuse] using h
    unfold fuseProg
    dsimp only
    split
    next => exact FusesGrow.refl f
    next hp => exact fusesGrow_setKey f hk _ (fun h => absurd h hp) (fun h => h) (by ext i; simp +contextual)
  | revoke k =>
    have hk : k < 4 := by simpa [hasFuse] using h
    exact fusesGrow_setKey f hk _ (fun h => ⟨h, rfl⟩) (fun _ => rfl) BitVec.and_self
  | mfr v =>
    unfold fuseProg
    dsimp only
    split
    next hz =>
      exact ⟨fun _ _ h => ⟨h, rfl⟩, fun _ _ h => h, fun _ _ => BitVec.and_self, by simp [hz], fun h => h, rfl⟩
    next => exact FusesGrow.refl f
  | testLock =>
    exact ⟨fun _ _ h => ⟨h, rfl⟩, fun _ _ h => h, fun _ _ => BitVec.and_self, BitVec.and_self, fun _ => rfl, rfl⟩

/-! ### PORST_N low (R360) -/

theorem opColdReset_held (s : State) : HeldInReset (opColdReset s) := fun _ =>
  ⟨rfl, rfl, rfl, rfl, rfl, rfl, rfl, rfl, rfl, rfl, rfl, rfl⟩

theorem opPorstRelease_high (b : Bool) (s : State) : (opPorstRelease b s).aon.porstLow = false := by
  unfold opPorstRelease
  split
  next h => simpa using h
  next => rfl

/-- A change of the CAP and, within the always-on side, of anything but FT and the sampled pins is no change of the state that
a reset holds. -/
theorem HeldInReset.of_same {s t : State} (h : HeldInReset s)
    (ha : t.aon.porstLow = s.aon.porstLow ∧ t.aon.ft = s.aon.ft ∧ t.aon.testMode = s.aon.testMode)
    (he : t = { s with cap := t.cap, aon := t.aon, pending := t.pending }) : HeldInReset t := by
  obtain ⟨hp, hft, htm⟩ := ha
  intro hl
  obtain ⟨h1, h2, h3, h4, h5⟩ := h (hp ▸ hl)
  rw [he]
  exact ⟨h1, h2, hft.trans h3, htm.trans h4, h5⟩

theorem Ordinary.held {s t : State} (ho : Ordinary s t) (h : HeldInReset s) : HeldInReset t := by
  obtain ⟨ha, f, rfl⟩ | ⟨_, rfl | rfl⟩ := ho
  · intro hl
    rw [asleep_of_porst (s := s) hl] at ha
    exact absurd ha (by decide)
  · exact h
  · exact h.of_same ⟨rfl, rfl, rfl⟩ rfl

theorem Own.held {c : Instr} {s t : State} (ho : Own s c t) (h : HeldInReset s) : HeldInReset t := by
  cases ho with
  | ftAccess f _ ha =>
    intro hl
    rw [asleep_of_porst (s := s) hl] at ha
    exact absurd ha (by decide)
  | aon f _ =>
    unfold awake
    split
    next => exact h
    next hn => exact fun hl => absurd hl hn
  | tap tap _ => exact h.of_same ⟨rfl, rfl, rfl⟩ rfl
  | coldReset => exact opColdReset_held s
  | porstRelease b => exact fun hl => absurd ((opPorstRelease_high b s).symm.trans hl) (by decide)
  | fuseprog op _ =>
    unfold opFuseprog
    dsimp only
    split <;> exact h.of_same ⟨rfl, rfl, rfl⟩ rfl

theorem exec_held {c : Instr} {s t : State} (h : exec c s = .next t) (hs : HeldInReset s) : HeldInReset t := by
  rcases exec_next h with ho | ho
  · exact ho.held hs
  · exact ho.held hs

theorem tick_held {s : State} (h : s.aon.porstLow = true) : tick s = s := by simp [tick, h]

/-! ### The statements -/

/-- Settles O1: `step` on a queue that is not empty is `exec` by definition. -/
theorem stepRunsFront : Obligations.StepRunsFront := fun _ _ => rfl

/-- Settles O4: each command's outcome is one of those that the wrapper of its meaning allows. -/
theorem commandsComplete : Obligations.CommandsComplete := by
  intro c s
  have hr := exec_runs c s
  generalize exec c s = o at hr
  cases hr with
  | fault h => exact ⟨fun _ => rfl, fun h' => absurd (h.symm.trans h') (by decide)⟩
  | refused h ht => exact ⟨fun h' => absurd (h.symm.trans h') (by decide), fun _ => .inr ⟨ht, rfl⟩⟩
  | ordinary h _ | own h _ => exact ⟨fun h' => absurd (h.symm.trans h') (by decide), fun _ => .inl ⟨_, rfl⟩⟩

/-- Settles O5: `untimed` restores the queue and FT; of the commands beyond it, only a LOAD and the two ends of a cold reset
set FT. -/
theorem queueAndFtStand : Obligations.QueueAndFtStand := by
  refine ⟨fun c s t h => ?_, fun c s t h => ?_⟩
  · rcases exec_next h with ho | ho
    · exact ho.keeps.1
    · exact ho.pending
  · rcases exec_next h with ho | ho
    · exact .inl ho.keeps.2.2
    · cases ho with
      | ftAccess f hc _ =>
        rcases hc with hc | hc
        · exact .inr (.inl hc)
        · exact .inr (.inr (.inl hc))
      | aon f _ => exact .inl (awake_ft f s)
      | tap => exact .inl ⟨rfl, rfl⟩
      | coldReset => exact .inr (.inr (.inr (.inl rfl)))
      | porstRelease b => exact .inr (.inr (.inr (.inr ⟨b, rfl⟩)))
      | fuseprog op _ => exact .inl (opFuseprog_ft op s)

/-- Settles O8: with the block asleep an ordinary command does nothing but withhold the acknowledge, and the commands with an
effect of their own are those that the statement lists. -/
theorem asleepKeeps : Obligations.AsleepKeeps := by
  intro c s t ha h
  rcases exec_next h with ho | ho
  · obtain ⟨hn, _⟩ | ⟨_, rfl | rfl⟩ := ho
    · exact absurd (ha.symm.trans hn) (by decide)
    · exact .inl (Only.refl _ _)
    · exact .inl (by simp [only_iff])
  · refine .inr ?_
    cases ho with
    | ftAccess f _ hn => exact absurd (ha.symm.trans hn) (by decide)
    | aon f hc =>
      rcases hc with hc | hc
      · left
        simp only [List.mem_cons] at hc ⊢
        tauto
      · exact .inr (.inl hc)
    | tap tap hc =>
      rcases hc with hc | hc | hc | hc
      · left
        simp only [List.mem_cons] at hc ⊢
        tauto
      · exact .inr (.inr (.inr (.inl hc)))
      · exact .inr (.inr (.inr (.inr (.inl hc))))
      · exact .inr (.inr (.inr (.inr (.inr (.inr hc)))))
    | coldReset => exact .inl (by simp)
    | porstRelease b => exact .inr (.inr (.inl ⟨b, rfl⟩))
    | fuseprog op _ => exact .inr (.inr (.inr (.inr (.inr (.inl ⟨op, rfl⟩)))))

end Sys2Proof.Machine
end

section
/-! PROOFS. Fabric time's advance and the crossbar's slots on an empty queue, LOAD, and the invariants over every step (R202,
R206, R217, R218, R360, R397). -/

namespace Sys2Proof.Machine

/-! ### Frames of the clock's parts -/

theorem only_stage (p : Packet) (s : State) : Only [.links] s (stage p s) := by
  unfold stage
  split
  · exact only_setLink _ _ _
  · exact Only.refl _ _

theorem only_sendSlot (p : Packet) (s : State) : Only [.links, .xbar] s (sendSlot p s) := by
  unfold sendSlot
  split
  · simp [only_iff]
  · exact Only.trans (by simp [only_iff]) ((only_stage p _).mono (by simp))

theorem only_slotTime (s : State) : Only [.links, .xbar] s (slotTime s) := by
  unfold slotTime
  dsimp only
  refine Only.trans (Only.foldl (fun t p => only_sendSlot p t) ((List.range 24).filterMap (arbitrate s)) s) ?_
  simp [only_iff]

theorem only_slotTimes (n : Nat) (s : State) : Only [.links, .xbar] s (slotTimes n s) := by
  induction n generalizing s with
  | zero => exact Only.refl _ _
  | succ n ih => exact (only_slotTime s).trans (ih _)

theorem only_xbarTick (s : State) : Only [.links, .xbar] s (xbarTick s) := by
  unfold xbarTick
  split
  · exact Only.refl _ _
  · exact Only.trans (by simp [only_iff]) (only_slotTimes _ _)

theorem only_cxlPort (b : W64) (a : Nat) (s : State) : Only [.links] s (cxlPort b a s) := by
  unfold cxlPort
  split
  · exact Only.refl _ _
  · exact only_setLink _ _ _

theorem only_cxlTick (b : W64) (s : State) : Only [.links] s (cxlTick b s) := by
  unfold cxlTick
  split
  · exact Only.refl _ _
  · exact Only.foldl (fun t (p : Nat × Link) => only_cxlPort b p.1 t) s.links s

theorem only_meterTick (b : W64) (s : State) : Only [.meter] s (meterTick b s) := by
  unfold meterTick
  split
  · exact Only.refl _ _
  · exact only_updMeter _ _

theorem only_ageTick (b : Nat) (s : State) : Only [.home, .dev, .mem, .xbar] s (ageTick b s) := by
  unfold ageTick
  split
  · exact Only.refl _ _
  · simp [only_iff, ageAll]

/-- The state once a unit of FT has been added, before the crossbar moves. -/
def timed (s : State) : State := meterTick s.aon.ft (ageTick (nowNs s) (ftTick s))

theorem tick_eq {s : State} (h : s.aon.porstLow = false) : tick s = cxlTick s.aon.ft (xbarTick (timed s)) := by
  simp [tick, timed, h]

theorem only_timed (s : State) : Only [.aon, .dev, .home, .mem, .meter, .xbar] s (timed s) := by
  refine Only.trans (t := ftTick s) ((only_updAon _ s).mono (by simp)) ?_
  exact ((only_ageTick _ _).mono (by simp)).trans ((only_meterTick _ _).mono (by simp))

theorem only_tick {s : State} (h : s.aon.porstLow = false) :
    Only [.aon, .dev, .home, .mem, .links, .meter, .xbar] s (tick s) := by
  rw [tick_eq h]
  refine ((only_timed s).mono (by simp)).trans (((only_xbarTick _).mono (by simp)).trans ?_)
  exact (only_cxlTick _ _).mono (by simp)

theorem timed_aon (s : State) : (timed s).aon = (ftTick s).aon :=
  (only_meterTick _ _).aon.trans (only_ageTick _ _).aon

theorem tick_aon {s : State} (h : s.aon.porstLow = false) : (tick s).aon = (ftTick s).aon := by
  rw [tick_eq h]
  exact ((only_cxlTick _ _).aon.trans (only_xbarTick _).aon).trans (timed_aon s)

/-- The steps of islands keep everything of the always-on side but their own count (R347). -/
theorem stepTick_eq (n : Nat) (a : AonSide) :
    stepTick n a = { a with stepQ := (stepTick n a).stepQ, stepWait := (stepTick n a).stepWait } := by
  unfold stepTick nextStep
  dsimp only
  split
  · rfl
  · split <;> rfl

/-- How far a step takes the fraction of FT. -/
def ftAdvance (s : State) : Nat := s.aon.ftFrac + ftStep s * (100000000 + ftTrim s).toNat

theorem ftTick_aon (s : State) : (ftTick s).aon =
    { s.aon with ft := s.aon.ft + BitVec.ofNat 64 (ftAdvance s / 1600000000), ftFrac := ftAdvance s % 1600000000,
                 stepQ := (ftTick s).aon.stepQ, stepWait := (ftTick s).aon.stepWait } := stepTick_eq _ _

/-! ### Deadlines within reach of each other (R203) -/

/-- A deadline at most 2^29 ns ahead, or just passed, is held as it is. -/
theorem normDeadline_near {now d : Nat} (h1 : now ≤ d + 1) (h2 : d < now + 2 ^ 29) :
    normDeadline now d = d := by
  unfold normDeadline
  rw [if_neg]
  omega

section
variable {s : State} {x y : BitVec 32} (hx : nowNs s ≤ x.toNat + 1) (hxy : x.toNat < y.toNat) (hy : y.toNat < nowNs s + 2 ^ 29)
include hx hxy hy

theorem nearer_of_lt : nearer s x y = true := by
  have hn : nowNs s < 2 ^ 32 := Nat.mod_lt _ (by decide)
  have h1 := normDeadline_near hx (by omega)
  have h2 := normDeadline_near (now := nowNs s) (d := y.toNat) (by omega) hy
  simp only [nearer, h1, h2, Bool.and_eq_true, decide_eq_true_eq]
  omega

theorem not_nearer_of_gt : nearer s y x = false := by
  have hn : nowNs s < 2 ^ 32 := Nat.mod_lt _ (by decide)
  have h1 := normDeadline_near hx (by omega)
  have h2 := normDeadline_near (now := nowNs s) (d := y.toNat) (by omega) hy
  simp only [nearer, h1, h2, Bool.and_eq_false_iff, decide_eq_false_iff_not]
  omega

end

theorem not_nearer_self (s : State) (x : BitVec 32) : nearer s x x = false := by
  simp [nearer]

/-! ### The arbiters (R217) -/

theorem mem_requests {s : State} {o : Nat} {p : Packet} :
    p ∈ requests s o ↔ (∃ i < 25, raisedBy s i = some p) ∧ p.output = o := by
  simp [requests]

theorem nearestOf_mem {s : State} {l : List Packet} {p : Packet} (h : nearestOf s l = some p) : p ∈ l := by
  induction l with
  | nil => exact absurd h (by simp [nearestOf])
  | cons a l ih =>
    simp only [nearestOf] at h
    split at h
    next q hq =>
      split at h <;> cases h
      · exact List.mem_cons_of_mem _ (ih hq)
      · exact List.mem_cons_self
    next => cases h; exact List.mem_cons_self

/-- Packet `p` has a nearer deadline than every other of a list. -/
def Nearest (s : State) (l : List Packet) (p : Packet) : Prop :=
  ∀ q ∈ l, q = p ∨ nearer s p.deadline q.deadline = true ∧ nearer s q.deadline p.deadline = false

theorem nearestOf_eq {s : State} {l : List Packet} {p : Packet} (hp : p ∈ l) (h : Nearest s l p) :
    nearestOf s l = some p := by
  induction l with
  | nil => exact absurd hp (by simp)
  | cons a l ih =>
    have ha := h a List.mem_cons_self
    have hl : Nearest s l p := fun q hq => h q (List.mem_cons_of_mem _ hq)
    by_cases hpl : p ∈ l
    · simp only [nearestOf, ih hpl hl]
      rcases ha with rfl | ⟨hn, _⟩
      · simp [not_nearer_self]
      · simp [hn]
    · obtain rfl : p = a := by simpa [hpl] using hp
      simp only [nearestOf]
      split
      next q hq =>
        have hqm := nearestOf_mem hq
        rcases hl q hqm with rfl | ⟨_, hn⟩
        · exact absurd hqm hpl
        · simp [hn]
      next => rfl

/-- The nearest request sends, whoever holds the grant. -/
theorem arbitrate_nearest {s : State} {o : Nat} {p : Packet} (hm : s.xbar.mute = []) (hp : p ∈ requests s o)
    (h : Nearest s (requests s o) p) : arbitrate s o = some p := by
  unfold arbitrate
  rw [hm]
  simp only [List.contains_nil, Bool.false_eq_true, if_false, nearestOf_eq hp h]
  split
  next q g hq hg =>
    cases hq
    obtain ⟨i, _, hi⟩ := Option.bind_eq_some_iff.1 hg
    rcases h g (List.mem_of_find?_eq_some hi) with rfl | ⟨hn, _⟩
    · simp
    · simp [hn]
  next => rfl

theorem arbitrate_none {s : State} {o : Nat} (h : requests s o = []) : arbitrate s o = none := by
  unfold arbitrate
  split
  · rfl
  · simp [h, nearestOf]

/-- A list in which one element alone has an image. -/
theorem filterMap_single {α β : Type} {f : α → Option β} {l : List α} {a : α} {b : β} (hn : l.Nodup) (ha : a ∈ l)
    (hb : f a = some b) (h : ∀ x ∈ l, x ≠ a → f x = none) : l.filterMap f = [b] := by
  induction l with
  | nil => exact absurd ha (by simp)
  | cons x l ih =>
    obtain ⟨hx, hn⟩ := List.nodup_cons.1 hn
    by_cases hxa : x = a
    · subst hxa
      have hl : l.filterMap f = [] :=
        List.filterMap_eq_nil_iff.2 fun y hy => h y (List.mem_cons_of_mem _ hy) fun e => hx (e ▸ hy)
      simp [hb, hl]
    · have hal : a ∈ l := (List.mem_cons.1 ha).resolve_left (Ne.symm hxa)
      simp [h x List.mem_cons_self hxa, ih hn hal fun y hy => h y (List.mem_cons_of_mem _ hy)]

/-! ### A slot time -/

/-- Change the crossbar. -/
def updXbar (f : Xbar → Xbar) (s : State) : State := { s with xbar := f s.xbar }

@[simp] theorem updXbar_xbar (f : Xbar → Xbar) (s : State) : (updXbar f s).xbar = f s.xbar := rfl
@[simp] theorem updXbar_links (f : Xbar → Xbar) (s : State) : (updXbar f s).links = s.links := rfl
@[simp] theorem updXbar_aon (f : Xbar → Xbar) (s : State) : (updXbar f s).aon = s.aon := rfl

/-- The slot of the core cycle counts on; after the fourth the silence of R219 ends. -/
def endSlot (x : Xbar) : Xbar := if x.slot = 3 then { x with slot := 0, mute := [] } else { x with slot := x.slot + 1 }

theorem slotTime_won {s : State} {l : List Packet} (h : (List.range 24).filterMap (arbitrate s) = l) :
    slotTime s = updXbar endSlot (l.foldl (fun s p => sendSlot p s) s) := by
  unfold slotTime
  rw [h]
  rfl

theorem endSlot_packets (x : Xbar) : (endSlot x).packets = x.packets := by unfold endSlot; split <;> rfl
theorem endSlot_grants (x : Xbar) : (endSlot x).grants = x.grants := by unfold endSlot; split <;> rfl
theorem endSlot_mute {x : Xbar} (h : x.mute = []) : (endSlot x).mute = [] := by
  unfold endSlot
  split
  · rfl
  · exact h

/-- With no packet a slot time only counts. -/
theorem slotTime_idle {s : State} (h : s.xbar.packets = []) : slotTime s = updXbar endSlot s := by
  refine slotTime_won (l := []) (List.filterMap_eq_nil_iff.2 fun o _ => arbitrate_none ?_)
  simp [requests, raisedBy, h]

section
variable {s : State} {p q : Packet} (hk : s.xbar.packets = [q, p]) (hpi : p.input < 25) (hqi : q.input < 25)
  (hne : p.input ≠ q.input) (hqo : q.output = p.output)
include hk hpi hqi hne hqo

theorem requests_pair {r : Packet} {o : Nat} : r ∈ requests s o ↔ (r = p ∨ r = q) ∧ p.output = o := by
  have hr : ∀ i, raisedBy s i = if q.input = i then some q else if p.input = i then some p else none := by
    intro i
    simp [raisedBy, hk, List.find?]
    split <;> rename_i h1 <;> simp at h1 <;> simp [h1]
    split <;> rename_i h2 <;> simp at h2 <;> simp [h2]
  rw [mem_requests]
  constructor
  · rintro ⟨⟨i, _, h⟩, ho⟩
    rw [hr] at h
    split at h
    · cases h; exact ⟨.inr rfl, hqo ▸ ho⟩
    · split at h <;> cases h
      exact ⟨.inl rfl, ho⟩
  · rintro ⟨rfl | rfl, ho⟩
    · exact ⟨⟨r.input, hpi, by simp [hr, Ne.symm hne]⟩, ho⟩
    · exact ⟨⟨r.input, hqi, by simp [hr]⟩, hqo.trans ho⟩

/-- Of two packets at one output the nearer sends a slot (R217). -/
theorem slotTime_pair (hm : s.xbar.mute = []) (hpo : p.output < 24) (hpn : nearer s p.deadline q.deadline = true) (hqn : nearer s q.deadline p.deadline = false)
    (hs : p.sent + 1 < p.slots) :
    (slotTime s).xbar.packets = [q, { p with sent := p.sent + 1 }] ∧
      sFind (slotTime s).xbar.grants p.output = some p.input ∧ (slotTime s).xbar.mute = [] := by
  have hreq {r : Packet} {o : Nat} := requests_pair hk hpi hqi hne hqo (r := r) (o := o)
  have hwon : (List.range 24).filterMap (arbitrate s) = [p] := by
    refine filterMap_single List.nodup_range (List.mem_range.2 hpo) (arbitrate_nearest hm (hreq.2 ⟨.inl rfl, rfl⟩) ?_) ?_
    · intro r hr
      obtain ⟨rfl | rfl, _⟩ := hreq.1 hr
      · exact .inl rfl
      · exact .inr ⟨hpn, hqn⟩
    · intro o _ ho
      exact arbitrate_none (List.eq_nil_iff_forall_not_mem.2 fun r hr => ho (hreq.1 hr).2.symm)
  have hqp : q ≠ p := fun e => hne (e ▸ rfl)
  rw [slotTime_won hwon]
  simp only [List.foldl_cons, List.foldl_nil, sendSlot, if_pos hs, updXbar_xbar, endSlot_packets, endSlot_grants, hk, modFirst, hqp,
    decide_false, Bool.false_eq_true, if_false, decide_true, if_true, sFind_sSet_same, true_and]
  exact endSlot_mute hm

end

/-- A packet alone at its output sends its last slot: it is whole in its port's staging (R218). -/
theorem slotTime_last {s : State} {p : Packet} {m : TxMsg} (hm : s.xbar.mute = []) (hk : s.xbar.packets = [p])
    (hpi : p.input < 25) (hpo : p.output < 24) (hmsg : p.msg = some m) (hs : p.sent + 1 = p.slots) :
    (slotTime s).xbar.packets = [] ∧ (slotTime s).links = (setLink (destOf m) (fun l => { l with txq := l.txq ++ [m] }) s).links := by
  have hreq : ∀ {r : Packet} {o : Nat}, r ∈ requests s o ↔ r = p ∧ p.output = o := by
    intro r o
    rw [mem_requests]
    constructor
    · rintro ⟨⟨i, _, h⟩, ho⟩
      have hrp : r = p := by simpa [hk] using List.mem_of_find?_eq_some h
      exact ⟨hrp, hrp ▸ ho⟩
    · rintro ⟨rfl, ho⟩
      exact ⟨⟨r.input, hpi, by simp [raisedBy, hk]⟩, ho⟩
  have hwon : (List.range 24).filterMap (arbitrate s) = [p] := by
    refine filterMap_single List.nodup_range (List.mem_range.2 hpo) (arbitrate_nearest hm (hreq.2 ⟨rfl, rfl⟩) ?_) ?_
    · exact fun r hr => .inl (hreq.1 hr).1
    · intro o _ ho
      exact arbitrate_none (List.eq_nil_iff_forall_not_mem.2 fun r hr => ho (hreq.1 hr).2.symm)
  rw [slotTime_won hwon]
  simp only [List.foldl_cons, List.foldl_nil, sendSlot, if_neg (show ¬ p.sent + 1 < p.slots by omega), updXbar_xbar, updXbar_links,
    endSlot_packets]
  simp [stage, hmsg, hk]

/-! ### One unit of FT -/

/-- With the core clock running one step adds at most two units. -/
theorem ftAdvance_le {s : State} (hp : rdf s oPwrStatus 0 3 = 0) (hf : s.aon.ftFrac < 1600000000) :
    ftAdvance s / 1600000000 ≤ 2 := by
  have hx : rdf s oFtTrim 0 16 < 2 ^ 16 := Nat.mod_lt _ (by decide)
  have ht : ftTrim s ≤ 32767 := by
    simp only [ftTrim, signedOf]
    split <;> omega
  have hn : (100000000 + ftTrim s).toNat ≤ 100032767 := by omega
  have hs : ftStep s = 16 := by simp [ftStep, hp]
  rw [ftAdvance, hs]
  omega

theorem asleep_congr {s t : State} (hr : t.regs = s.regs) (ha : t.aon.porstLow = s.aon.porstLow) : asleep t = asleep s := by
  rw [asleep, asleep, deepState, deepState, rdf_congr hr, ha]

/-- The state that the crossbar meets in a unit of FT. -/
theorem timed_asleep (s : State) : asleep (timed s) = asleep s :=
  asleep_congr (only_timed s).regs (by rw [timed_aon, ftTick_aon])

theorem nowNs_timed {s : State} (hp : rdf s oPwrStatus 0 3 = 0) (hf : s.aon.ftFrac < 1600000000)
    (hn : nowNs s + 1 < 2 ^ 32) : nowNs s ≤ nowNs (timed s) ∧ nowNs (timed s) ≤ nowNs s + 1 := by
  have hle := ftAdvance_le hp hf
  have hft : (timed s).aon.ft = s.aon.ft + BitVec.ofNat 64 (ftAdvance s / 1600000000) := by rw [timed_aon, ftTick_aon]
  simp only [nowNs] at hn ⊢
  rw [hft, BitVec.toNat_add, BitVec.toNat_ofNat]
  generalize ftAdvance s / 1600000000 = n at hle ⊢
  have := s.aon.ft.isLt
  omega

/-- Ageing the deadlines changes nothing of the crossbar but its packets' deadlines (R203). -/
theorem timed_xbar (s : State) : (timed s).xbar = s.xbar ∨ (timed s).xbar =
    { s.xbar with packets := s.xbar.packets.map (fun p => { p with deadline := ageDeadline (ftTick s) p.deadline }) } := by
  have hx : (timed s).xbar = (ageTick (nowNs s) (ftTick s)).xbar := (only_meterTick _ _).xbar
  rw [hx]
  unfold ageTick
  split
  · exact .inl rfl
  · exact .inr rfl

theorem nowNs_congr {s t : State} (h : t.aon.ft = s.aon.ft) : nowNs t = nowNs s := by rw [nowNs, nowNs, h]

/-- A deadline near the present stays as it is when the deadlines are aged. -/
theorem ageDeadline_near {s : State} {d : BitVec 32} (h1 : nowNs s ≤ d.toNat + 1) (h2 : d.toNat < nowNs s + 2 ^ 29) :
    ageDeadline s d = d := by
  rw [ageDeadline, normDeadline_near h1 h2, BitVec.ofNat_toNat, BitVec.setWidth_eq]

/-- A unit of FT leaves half a slot of the next over. -/
def halfSlot (s : State) : State := updXbar (fun x => { x with half := 1 }) s

@[simp] theorem halfSlot_packets (s : State) : (halfSlot s).xbar.packets = s.xbar.packets := rfl
@[simp] theorem halfSlot_mute (s : State) : (halfSlot s).xbar.mute = s.xbar.mute := rfl
@[simp] theorem halfSlot_links (s : State) : (halfSlot s).links = s.links := rfl
@[simp] theorem halfSlot_aon (s : State) : (halfSlot s).aon = s.aon := rfl

/-- In RUN a unit of FT that begins a core slot carries two slots (R217). -/
theorem xbarTick_run {s : State} (ha : asleep s = false) (hp : rdf s oPwrStatus 0 3 = 0) (hh : s.xbar.half = 0) :
    xbarTick s = slotTimes 2 (halfSlot s) := by
  simp [xbarTick, ha, hp, hh, halfSlot, updXbar]

theorem tick_xbar {s : State} (h : s.aon.porstLow = false) : (tick s).xbar = (xbarTick (timed s)).xbar := by
  rw [tick_eq h]
  exact (only_cxlTick _ _).xbar

theorem linkOf_congr {s t : State} (h : t.links = s.links) (a : Nat) : linkOf t a = linkOf s a := by
  rw [linkOf, linkOf, h]

theorem linkOf_setLink_same (a : Nat) (f : Link → Link) (s : State) : linkOf (setLink a f s) a = f (linkOf s a) :=
  sGet_sUpd_same _ _ _ _

theorem linkOf_setLink_ne {a b : Nat} (h : b ≠ a) (f : Link → Link) (s : State) : linkOf (setLink a f s) b = linkOf s b :=
  sGet_sUpd_ne _ _ _ h

/-- What the CXL ports send leaves a ZCL link alone. -/
theorem linkOf_cxlPort {b : W64} {a c : Nat} {s : State} (h : isZcl s a = true) : linkOf (cxlPort b c s) a = linkOf s a := by
  unfold cxlPort
  split
  · rfl
  next hc =>
    refine linkOf_setLink_ne ?_ _ _
    rintro rfl
    simp [h] at hc

theorem isZcl_congr {s t : State} (h : t.regs = s.regs) (a : Nat) : isZcl t a = isZcl s a := by
  rw [isZcl, isZcl, portMode, portMode, rdf_congr h]

theorem linkOf_cxlTick {b : W64} {a : Nat} {s : State} (h : isZcl s a = true) : linkOf (cxlTick b s) a = linkOf s a := by
  have hfold : ∀ (l : Sparse Link) (t : State), isZcl t a = true →
      linkOf (l.foldl (fun s p => cxlPort b p.1 s) t) a = linkOf t a := by
    intro l
    induction l with
    | nil => exact fun t _ => rfl
    | cons p l ih =>
      intro t ht
      rw [List.foldl_cons, ih _ ((isZcl_congr (only_cxlPort b p.1 t).regs a).trans ht), linkOf_cxlPort ht]
  unfold cxlTick
  split
  · rfl
  · exact hfold s.links s h

/-! ### LOAD (R206) -/

/-- What lies beyond every command's reach: the queue, the fuses, the test port and the sampled pins. -/
def Beyond (s t : State) : Prop :=
  t.pending = s.pending ∧ t.aon.fuses = s.aon.fuses ∧ t.aon.tap = s.aon.tap ∧ t.aon.porstLow = s.aon.porstLow ∧
    t.aon.testMode = s.aon.testMode

/-- An effect that keeps what is beyond it is what `within` makes of it. -/
theorem within_eq {f : State → State} {s t : State} (hf : f s = t) (h : Beyond s t) : within f s = t := by
  obtain ⟨h1, h2, h3, h4, h5⟩ := h
  unfold within
  rw [hf, ← h1, ← h2, ← h3, ← h4, ← h5]

theorem execFtLoad_awake {s t : State} (hc : capAnswers s = true) (h : opFtLoad (capDone false 0 s) = t)
    (hb : Beyond (capDone false 0 s) t) : exec .ftLoad s = .next t := by
  change Host.Outcome.next (if capAnswers s then within opFtLoad (capDone false 0 s) else _) = _
  rw [if_pos hc, within_eq h hb]

theorem execFtLoad_running {s : State} (hc : capAnswers s = true) (hr : s.dev.running = true) :
    exec .ftLoad s = .next (wr (answered false 0 s) 0x010128 (rd s 0x010128 ||| 8#64)) := by
  refine execFtLoad_awake hc ?_ ⟨rfl, rfl, rfl, rfl, rfl⟩
  rw [opFtLoad, if_pos (show (capDone false 0 s).dev.running = true from hr), raise0_none rfl]
  rfl

theorem execFtLoad_stopped {s : State} (hc : capAnswers s = true) (hr : s.dev.running = false) :
    exec .ftLoad s = .next (wrf (updAon (fun a => { a with ft := rd s 0x108, ftFrac := 0 }) (answered false 0 s)) 0x110 1 1 1) := by
  refine execFtLoad_awake hc ?_ ⟨rfl, rfl, rfl, rfl, rfl⟩
  rw [opFtLoad, if_neg (show ¬ (capDone false 0 s).dev.running = true by simp [hr])]
  rfl

/-! ### The statements -/

/-- A step on an empty queue. -/
theorem step_idle {s : State} (h : s.pending = []) : step s = .next (tick s) := by simp [step, h]

theorem porstLow_of_awake {s : State} (h : asleep s = false) : s.aon.porstLow = false := by
  simp only [asleep, Bool.or_eq_false_iff] at h
  exact h.1

/-- Two slots of a unit of FT go to the nearer of two packets at an output. -/
theorem tick_pair {p q : Packet} {s : State} (ha : asleep s = false) (hp : rdf s oPwrStatus 0 3 = 0)
    (hf : s.aon.ftFrac < 1600000000) (hm : s.xbar.mute = []) (hh : s.xbar.half = 0) (hk : s.xbar.packets = [q, p])
    (hpi : p.input < 25) (hqi : q.input < 25) (hne : p.input ≠ q.input) (hpo : p.output < 24) (hqo : q.output = p.output)
    (h1 : nowNs s ≤ p.deadline.toNat) (h2 : p.deadline.toNat < q.deadline.toNat)
    (h3 : q.deadline.toNat < nowNs s + 2 ^ 29) (hs : p.sent + 2 < p.slots) :
    (tick s).xbar.packets = [q, { p with sent := p.sent + 2 }] ∧ sFind (tick s).xbar.grants p.output = some p.input := by
  have hq := q.deadline.isLt
  obtain ⟨hlo, hhi⟩ := nowNs_timed hp hf (by omega)
  have hage : nowNs (ftTick s) = nowNs (timed s) := nowNs_congr (by rw [timed_aon])
  have hx : (timed s).xbar = s.xbar := by
    rcases timed_xbar s with h | h
    · exact h
    · rw [h, hk]
      simp only [List.map_cons, List.map_nil]
      rw [ageDeadline_near (by omega) (by omega), ageDeadline_near (by omega) (by omega), ← hk]
  rw [tick_xbar (porstLow_of_awake ha), xbarTick_run ((timed_asleep s).trans ha) (rdf_congr (only_timed s).regs _ _ _ ▸ hp)
    (hx ▸ hh)]
  have hnear (t : State) (ht : nowNs t = nowNs (timed s)) (d : BitVec 32) (hd : d = p.deadline) :
      nearer t d q.deadline = true ∧ nearer t q.deadline d = false := by
    subst hd
    exact ⟨nearer_of_lt (by omega) h2 (by omega), not_nearer_of_gt (by omega) h2 (by omega)⟩
  have hk0 : (halfSlot (timed s)).xbar.packets = [q, p] := by rw [halfSlot_packets, hx, hk]
  have hm0 : (halfSlot (timed s)).xbar.mute = [] := by rw [halfSlot_mute, hx, hm]
  obtain ⟨hn1, hn2⟩ := hnear (halfSlot (timed s)) rfl p.deadline rfl
  obtain ⟨hk1, _, hm1⟩ := slotTime_pair hk0 hpi hqi hne hqo hm0 hpo hn1 hn2 (by omega)
  obtain ⟨hn3, hn4⟩ := hnear (slotTime (halfSlot (timed s)))
    (nowNs_congr (by rw [(only_slotTime _).aon, halfSlot_aon])) p.deadline rfl
  obtain ⟨hk2, hg2, _⟩ := slotTime_pair hk1 hpi hqi hne hqo hm1 hpo hn3 hn4 (show p.sent + 1 + 1 < p.slots by omega)
  exact ⟨hk2, hg2⟩

/-- A packet that ends is whole in its port's staging (R218). -/
theorem tick_last {p : Packet} {m : TxMsg} {s : State} (ha : asleep s = false) (hp : rdf s oPwrStatus 0 3 = 0)
    (hm : s.xbar.mute = []) (hh : s.xbar.half = 0) (hk : s.xbar.packets = [p]) (hpi : p.input < 25) (hpo : p.output < 24)
    (hmsg : p.msg = some m) (hz : isZcl s (destOf m) = true) (hs : p.sent + 1 = p.slots) :
    (tick s).xbar.packets = [] ∧ (linkOf (tick s) (destOf m)).txq = (linkOf s (destOf m)).txq ++ [m] := by
  obtain ⟨d, hx⟩ : ∃ d, (timed s).xbar = { s.xbar with packets := [{ p with deadline := d }] } := by
    rcases timed_xbar s with h | h
    · exact ⟨p.deadline, by rw [h, ← hk]⟩
    · exact ⟨_, by rw [h, hk]; rfl⟩
  have hx' := xbarTick_run ((timed_asleep s).trans ha) (rdf_congr (only_timed s).regs _ _ _ ▸ hp) (by rw [hx]; exact hh)
  obtain ⟨hk1, hl1⟩ := slotTime_last (s := halfSlot (timed s)) (p := { p with deadline := d })
    (by rw [halfSlot_mute, hx]; exact hm) (by rw [halfSlot_packets, hx]) hpi hpo hmsg hs
  have hk2 := slotTime_idle hk1
  have hreg : (xbarTick (timed s)).regs = s.regs := (only_xbarTick _).regs.trans (only_timed s).regs
  constructor
  · rw [tick_xbar (porstLow_of_awake ha), hx', slotTimes, slotTimes, slotTimes, hk2]
    exact (endSlot_packets _).trans hk1
  · rw [tick_eq (porstLow_of_awake ha), linkOf_cxlTick ((isZcl_congr hreg _).trans hz), hx', slotTimes, slotTimes, slotTimes,
      hk2, linkOf_congr (updXbar_links _ _), linkOf_congr (s := setLink (destOf m) (fun l => { l with txq := l.txq ++ [m] })
      (halfSlot (timed s))) hl1, linkOf_setLink_same,
      linkOf_congr (halfSlot_links _), linkOf_congr (only_timed s).links]

/-- Settles O3: the clauses on FT, on the crossbar's slots and on LOAD. -/
theorem fabricTime : Obligations.FabricTime := by
  refine ⟨fun s hpend => ⟨fun hl => ?_, fun hh => ?_⟩, ?_, ?_, fun s hc => ⟨execFtLoad_running hc, fun hr => ?_⟩⟩
  · rw [step_idle hpend, tick_held hl]
  · refine ⟨ftAdvance s / 1600000000, ftAdvance s % 1600000000, tick s, Nat.mod_lt _ (by decide), ?_, step_idle hpend, ?_,
      only_tick hh⟩
    · rw [Nat.div_add_mod' (ftAdvance s) 1600000000]
      rfl
    · rw [tick_aon hh]
      exact ftTick_aon s
  · intro p q s hpend ha hp hf hm hh hk hpi hqi hne hpo hqo h1 h2 h3 hs
    exact ⟨tick s, step_idle hpend, tick_pair ha hp hf hm hh hk hpi hqi hne hpo hqo h1 h2 h3 hs⟩
  · intro p m s hpend ha hp _ hm hh hk hpi hpo hmsg _ hz hs
    exact ⟨tick s, step_idle hpend, tick_last ha hp hm hh hk hpi hpo hmsg hz hs⟩
  · refine ⟨_, execFtLoad_stopped hc hr, rfl, rfl, by simp [only_iff, answered], ?_⟩
    exact RegsOnly.trans (regsOnly_of_regs rfl) (regsOnly_wrf _ 1 1 1 rfl)

/-- Settles O6: no command but the release of PORST_N and the cold reset itself reaches what a reset holds, and time stands. -/
theorem heldInResetKept : Obligations.HeldInResetKept := by
  intro s t hs h
  unfold step at h
  split at h
  next =>
    cases h
    cases hp : s.aon.porstLow with
    | true => rw [tick_held hp]; exact hs
    | false =>
      intro hl
      rw [tick_aon hp, ftTick_aon] at hl
      exact absurd (hp.symm.trans hl) (by decide)
  next => exact exec_held h hs

/-- Settles O7: FUSEPROG alone reaches the fuses, and clears none. -/
theorem fusesOnlyGrow : Obligations.FusesOnlyGrow := by
  intro s t h
  unfold step at h
  split at h
  next =>
    cases h
    have hf : (tick s).aon.fuses = s.aon.fuses := by
      cases hp : s.aon.porstLow with
      | true => rw [tick_held hp]
      | false => rw [tick_aon hp, ftTick_aon]
    exact ⟨hf ▸ FusesGrow.refl _, fun hne => absurd hf hne⟩
  next c rest hpend =>
    rcases exec_fuses h with hf | ⟨op, rfl, hop, hl, hf⟩
    · exact ⟨hf ▸ FusesGrow.refl _, fun hne => absurd hf hne⟩
    · exact ⟨hf ▸ fuseProg_grows op hop _, fun _ => ⟨hl, op, rest, hpend⟩⟩

/-- No register of a block of 0x1_0000 from the ports' on has a reset value at offset 4. -/
theorem regReset_blockStatus (k : Nat) (h : 0x10 ≤ k) : regReset (0x10000 * k + 4) = 0 := by
  by_cases hk : k < 0x40
  · have hall : ∀ k < 0x40, 0x10 ≤ k → regReset (0x10000 * k + 4) = 0 := by decide
    exact hall k hk h
  · rw [regReset, regDesc_above (by omega)]

/-- Settles O2: every array of the reset state is empty, so that each register and each link reads its reset value. -/
theorem resetState : Obligations.ResetState := by
  refine ⟨fun o => rfl, rfl, rfl, fun a => rfl, fun a => rfl, fun a => ?_, fun m => ?_, ⟨rfl, rfl, rfl, rfl⟩, ?_, ?_⟩
  · have ho : oPtStatus (a / 2) = 0x10000 * (0x10 + a / 2) + 4 := by simp only [oPtStatus, portBase]; omega
    have hr : rd State.reset (oPtStatus (a / 2)) = 0 := by
      rw [ho]; exact regReset_blockStatus _ (by omega)
    simp [linkState, rdf, hr, fld]
  · have ho : oMcStatus m = 0x10000 * (0x20 + m) + 4 := by simp only [oMcStatus, chanBase]; omega
    have hr : rd State.reset (oMcStatus m) = 0 := by
      rw [ho]; exact regReset_blockStatus _ (by omega)
    simp [chanState, rdf, hr, fld]
  · decide
  · decide

end Sys2Proof.Machine
end

section
/-! PROOFS. The steps of a rule: OPER, SEND and STEER of the rule in flight (R167, R171, R172). -/

namespace Sys2Proof.Machine

/-! ### A false GUARD -/

section
variable {c n : Nat} {x : Ctx} {r : InFlight} {s : State} (h : AtRule s c x r n)
include h

theorem AtRule.ctx : ctxOf s c = some x := h.2.2.2.2.1
theorem AtRule.unit : c < 8704 := h.1
theorem AtRule.awake : asleep s = false := h.2.1

theorem AtRule.inFlight : x.inFlight = some r := by
  obtain ⟨_, _, _, _, _, _, _, _, _, _, hr, _⟩ := h
  exact hr

theorem AtRule.stage : r.stage = n := by
  obtain ⟨_, _, _, _, _, _, _, _, _, _, _, hn⟩ := h
  exact hn

theorem AtRule.moves : ruleMoves s x = true := by
  obtain ⟨_, _, hsafe, hrun, _, hst, hby, hstall, hres, hjob, _⟩ := h
  simp [ruleMoves, hsafe, hrun, hst, hby, hstall, hres, hjob]

/-- With a false GUARD the OPER is passed over. -/
theorem atOper_guard_false (hg : r.guard = false) (is : Nat → Bool) (f : Ctx → InFlight → State → State) :
    atOper c is f s = s := by
  simp [atOper, h.ctx, h.inFlight, hg]

/-- With a false GUARD the SEND is passed over. -/
theorem atSend_guard_false (hg : r.guard = false) (sop : Nat) (args : BitVec 34) (f : Ctx → State → State) :
    atSend c sop args f s = s := by
  simp [atSend, h.ctx, h.inFlight, hg]

end

/-- An effect that does nothing leaves the state as it is. -/
theorem live_id {f : State → State} {s : State} (h : f s = s) : live f s = s := by
  unfold live
  split
  · rfl
  · rw [untimed_eq (by rw [h]) (by rw [h]), h]

theorem onUnit_live_id {ok : Bool} {f : State → State} {s : State} (hok : ok = true) (h : f s = s) :
    onUnit ok (live f) s = .next s := by
  rw [onUnit_true hok, live_id h]

/-- A command of a rule whose effect goes through the OPER. -/
theorem exec_oper_guard_false {c n : Nat} {x : Ctx} {r : InFlight} {s : State} (h : AtRule s c x r n) (hg : r.guard = false)
    (is : Nat → Bool) (f : Ctx → InFlight → State → State) : onUnit (okCtx c) (live (atOper c is f)) s = .next s :=
  onUnit_live_id (decide_eq_true h.unit) (atOper_guard_false h hg is f)

/-- A command of a rule whose effect goes through the SEND. -/
theorem exec_send_guard_false {c n : Nat} {x : Ctx} {r : InFlight} {s : State} (h : AtRule s c x r n) (hg : r.guard = false)
    (sop : Nat) (args : BitVec 34) : onUnit (okCtx c) (live (opSend c sop args)) s = .next s :=
  onUnit_live_id (decide_eq_true h.unit) (atSend_guard_false h hg sop args _)

/-- Settles O28: every OPER and SEND tests the GUARD before it acts. -/
theorem falseGuardDoesNothing : Obligations.FalseGuardDoesNothing := by
  intro c n o bits opc sop args x r s h hg p hp
  simp only [List.mem_cons, List.not_mem_nil, or_false] at hp
  rcases hp with rfl | rfl | rfl | rfl | rfl | rfl | rfl | rfl | rfl | rfl | rfl | rfl | rfl | rfl | rfl | rfl | rfl | rfl |
    rfl | rfl | rfl | rfl | rfl | rfl | rfl | rfl | rfl | rfl | rfl | rfl | rfl
  iterate 23 · exact exec_oper_guard_false h hg _ _
  iterate 8 · exact exec_send_guard_false h hg _ _

end Sys2Proof.Machine
end

section
/-! PROOFS. Reading rules for the parts of the state that every family uses: contexts, the latent table, the home's tables, and
raised causes (R29, R53, R155, R324 to R344). -/

namespace Sys2Proof.Machine

/-! ### A command that runs -/

/-- A command of the running block whose effect keeps the queue and the always-on side. -/
theorem exec_live {ok : Bool} {f : State → State} {s t : State} (hok : ok = true) (ha : asleep s = false) (h : f s = t)
    (hp : t.pending = s.pending) (haon : t.aon = s.aon) : onUnit ok (live f) s = .next t := by
  rw [onUnit_true hok, live_awake f ha, untimed_eq (by rw [h]; exact hp) (by rw [h]; exact haon), h]

/-- A CAP command, acknowledged, whose effect keeps the queue and the always-on side. -/
theorem capCmd_eq {f : State → State} {s t : State} (hc : capAnswers s = true) (h : f (answered false 0 s) = t)
    (hp : t.pending = s.pending) (haon : t.aon = s.aon) : capCmd f s = t := by
  rw [capCmd_answers f hc]
  have h' : f (capDone false 0 s) = t := h
  rw [untimed_eq (by rw [h']; exact hp) (by rw [h']; exact haon), h']

/-- Outside STANDBY a message's effect is that of its command alone. -/
theorem exec_heard {ok : Bool} {f : State → State} {s t : State} (hok : ok = true) (ha : asleep s = false)
    (hr : rdf s oPwrStatus 0 3 = 0) (h : f s = t) (hp : t.pending = s.pending) (haon : t.aon = s.aon) :
    onUnit ok (heard f) s = .next t :=
  exec_live hok ha (by rw [wakeStandby_other (by rw [hr]; decide), h]) hp haon

/-! ### Contexts -/

theorem ctxOf_setCtx_same (c : Nat) (x : Ctx) (s : State) : ctxOf (setCtx c x s) c = some x := sFind_sSet_same _ _ _

theorem ctxOf_setCtx_ne {c k : Nat} (h : k ≠ c) (x : Ctx) (s : State) : ctxOf (setCtx c x s) k = ctxOf s k :=
  sFind_sSet_ne _ _ h

theorem modCtx_eq {c : Nat} {x : Ctx} {s : State} (h : ctxOf s c = some x) (f : Ctx → Ctx) :
    modCtx c f s = setCtx c (f x) s := by
  have h' : sFind s.dev.ctxs c = some x := h
  simp only [modCtx, setCtx, updDev, sMod, h']

theorem ctxOf_modCtx_same {c : Nat} {x : Ctx} {s : State} (h : ctxOf s c = some x) (f : Ctx → Ctx) :
    ctxOf (modCtx c f s) c = some (f x) := by rw [modCtx_eq h, ctxOf_setCtx_same]

theorem ctxOf_modCtx_ne {c k : Nat} (h : k ≠ c) (f : Ctx → Ctx) (s : State) : ctxOf (modCtx c f s) k = ctxOf s k := by
  cases hc : ctxOf s c with
  | some x => rw [modCtx_eq hc, ctxOf_setCtx_ne h]
  | none =>
    have h' : sFind s.dev.ctxs c = none := hc
    simp only [modCtx, updDev, sMod, h', ctxOf]

theorem ctxOf_congr {s t : State} (h : t.dev.ctxs = s.dev.ctxs) (c : Nat) : ctxOf t c = ctxOf s c := by
  rw [ctxOf, ctxOf, h]

/-- The contexts alone differ: what `setCtx`, `modCtx` and `delCtx` make of a state. -/
def CtxsOnly (s t : State) : Prop := t = { s with dev := { s.dev with ctxs := t.dev.ctxs } }

theorem CtxsOnly.refl (s : State) : CtxsOnly s s := rfl

theorem CtxsOnly.trans {s t u : State} (h : CtxsOnly s t) (g : CtxsOnly t u) : CtxsOnly s u := by
  unfold CtxsOnly at *
  rw [g, h]

theorem ctxsOnly_setCtx (c : Nat) (x : Ctx) (s : State) : CtxsOnly s (setCtx c x s) := rfl

theorem ctxsOnly_modCtx (c : Nat) (f : Ctx → Ctx) (s : State) : CtxsOnly s (modCtx c f s) := rfl

theorem CtxsOnly.only {s t : State} (h : CtxsOnly s t) : Only [.dev] s t := by
  rw [h]
  simp [only_iff]

theorem only_setCtx (c : Nat) (x : Ctx) (s : State) : Only [.dev] s (setCtx c x s) := only_updDev _ s
theorem only_modCtx (c : Nat) (f : Ctx → Ctx) (s : State) : Only [.dev] s (modCtx c f s) := only_updDev _ s
theorem only_delCtx (c : Nat) (s : State) : Only [.dev] s (delCtx c s) := only_updDev _ s

theorem ctxOf_delCtx_same (c : Nat) (s : State) : ctxOf (delCtx c s) c = none := sFind_sDel_same _ _

theorem ctxOf_delCtx_ne {c k : Nat} (h : k ≠ c) (s : State) : ctxOf (delCtx c s) k = ctxOf s k := sFind_sDel_ne _ h

/-! ### The latent table and the wait chains -/

theorem holderOf_setHolder_same (l : Nat) (h : Holder) (s : State) : holderOf (setHolder l h s) l = some h :=
  sFind_sSet_same _ _ _

theorem holderOf_setHolder_ne {l k : Nat} (hk : k ≠ l) (h : Holder) (s : State) :
    holderOf (setHolder l h s) k = holderOf s k := sFind_sSet_ne _ _ hk

theorem holderOf_delHolder_same (l : Nat) (s : State) : holderOf (delHolder l s) l = none := sFind_sDel_same _ _

theorem holderOf_delHolder_ne {l k : Nat} (h : k ≠ l) (s : State) : holderOf (delHolder l s) k = holderOf s k :=
  sFind_sDel_ne _ h

theorem holderOf_congr {s t : State} (h : t.home.latent = s.home.latent) (l : Nat) : holderOf t l = holderOf s l := by
  rw [holderOf, holderOf, h]

theorem chainOf_setChain_same (l : Nat) (w : List Waiter) (s : State) : chainOf (setChain l w s) l = w :=
  sGet_sPut_same _ _ _ _

theorem chainOf_congr {s t : State} (h : t.home.chains = s.home.chains) (l : Nat) : chainOf t l = chainOf s l := by
  rw [chainOf, chainOf, h]

/-! ### Bits -/

theorem bitOf_or {n : Nat} (v w : BitVec n) (i : Nat) : bitOf (v ||| w) i = (bitOf v i || bitOf w i) := by simp [bitOf]

theorem bitOf_w64_two_pow {i : Nat} (h : i < 64) : bitOf (w64 (2 ^ i)) i = true := by
  rw [bitOf, w64, BitVec.getLsbD_ofNat, Nat.testBit_two_pow_self]
  simp [h]

/-! ### Raised causes -/

/-- The register of a cause at a unit that exists lies in the FAULT block, above the class counters and below the Proof
Strip. -/
theorem causeReg_range {c : Cause} {u : Nat} (hu : u < 32) : 0x010100 ≤ causeReg c.domain u ∧ causeReg c.domain u < 0x010400 := by
  have hd : c.domain < 11 := by cases c <;> decide
  unfold causeReg
  split
  · omega
  · split <;> omega

theorem causeBit_lt (c : Cause) : c.bit < 32 := by cases c <;> decide

/-- A class counter, FLT_STATUS, FLT_SUSPECT, FLT_PS_SEQ or a word of the Proof Strip: what a raised cause changes beside its
own bit. -/
def ClassReg (o : Nat) : Prop := 0x010010 ≤ o ∧ o < 0x010050 ∨ 0x010400 ≤ o ∧ o < 0x010800

theorem classReg_ps (k w : Nat) (hw : w < 8) : ClassReg (oPs (k % 32) w) := by
  unfold ClassReg oPs
  omega

theorem regsOnly_psWrite (c : Cause) (k : Class) (r : PsRec) (s : State) : RegsOnly ClassReg s (psWrite c k r s) := by
  unfold psWrite
  refine RegsOnly.trans ?_ (regsOnly_wr _ _ (by unfold ClassReg oPsSeq; omega))
  iterate 8 refine RegsOnly.trans ?_ (regsOnly_wr _ _ (classReg_ps _ _ (by decide)))
  exact RegsOnly.refl _ _

theorem regsOnly_suspectMark (c : Cause) (u : Nat) (s : State) : RegsOnly ClassReg s (suspectMark c u s) := by
  unfold suspectMark
  dsimp only
  have h1 : ∀ t : State, ∀ v, RegsOnly ClassReg t (wr t oSuspect v) := fun t v =>
    regsOnly_wr _ _ (by unfold ClassReg oSuspect; omega)
  have h2 : ∀ t : State, RegsOnly ClassReg t (wrf t oFltStatus 2 1 1) := fun t =>
    regsOnly_wrf _ _ _ _ (by unfold ClassReg oFltStatus; omega)
  split <;> split
  · exact (h1 _ _).trans (h2 _)
  · exact h2 _
  · exact h1 _ _
  · exact RegsOnly.refl _ _

theorem regsOnly_gfEnter (c : Cause) (u : Nat) (s : State) : RegsOnly ClassReg s (gfEnter c u s) := by
  have hf : ClassReg oFltStatus := by unfold ClassReg oFltStatus; omega
  unfold gfEnter
  split
  · exact regsOnly_suspectMark c u s
  · refine RegsOnly.trans (regsOnly_suspectMark c u s) ?_
    refine RegsOnly.trans (regsOnly_wrf _ 0 1 1 hf) ?_
    refine RegsOnly.trans (regsOnly_wrf _ 23 4 c.domain hf) ?_
    refine RegsOnly.trans (regsOnly_wrf _ 27 5 c.bit hf) ?_
    exact regsOnly_of_regs rfl

/-- What the class of a cause does after its bit is set. -/
def classAct (c : Cause) (u : Nat) (r : PsRec) (s : State) : State :=
  match c.cls with
  | .none => s
  | .ce => s
  | .de => psWrite c .de r s
  | .lf => psWrite c .lf r s
  | .gf => gfEnter c u (psWrite c .gf r s)

/-- The counter of a cause's class counts it. -/
def classCount (c : Cause) (s : State) : State :=
  match classCounter c.cls with
  | some o => wr s o (satInc32 (rd s o))
  | none => s

theorem raise_eq (c : Cause) (u : Nat) (r : PsRec) (s : State) :
    raise c u r s = classAct c u r (classCount c (setCause c u s)) := rfl

theorem regsOnly_classCount (c : Cause) (s : State) : RegsOnly ClassReg s (classCount c s) := by
  unfold classCount
  split
  next o ho =>
    refine regsOnly_wr _ _ ?_
    unfold ClassReg
    cases hc : c.cls <;> rw [hc] at ho <;> simp [classCounter] at ho <;> omega
  next => exact RegsOnly.refl _ _

theorem regsOnly_classAct (c : Cause) (u : Nat) (r : PsRec) (s : State) : RegsOnly ClassReg s (classAct c u r s) := by
  unfold classAct
  split
  · exact RegsOnly.refl _ _
  · exact RegsOnly.refl _ _
  · exact regsOnly_psWrite _ _ _ _
  · exact regsOnly_psWrite _ _ _ _
  · exact (regsOnly_psWrite _ _ _ _).trans (regsOnly_gfEnter _ _ _)

theorem rd_setCause_same (c : Cause) (u : Nat) (s : State) :
    rd (setCause c u s) (causeReg c.domain u) = rd s (causeReg c.domain u) ||| w64 (2 ^ c.bit) := rd_wr_same _ _ _

/-- A raised cause changes its own register and those of its class. -/
theorem regsOnly_raise (c : Cause) (u : Nat) (r : PsRec) (s : State) :
    RegsOnly (fun o => o = causeReg c.domain u ∨ ClassReg o) s (raise c u r s) := by
  rw [raise_eq]
  refine RegsOnly.trans (t := setCause c u s) (regsOnly_wr s _ (.inl rfl)) ?_
  exact RegsOnly.mono ((regsOnly_classCount _ _).trans (regsOnly_classAct _ _ _ _)) fun o h => .inr h

/-- In its own register a raised cause sets its bit and nothing else (R324). -/
theorem rd_raise_same (c : Cause) {u : Nat} (hu : u < 32) (r : PsRec) (s : State) :
    rd (raise c u r s) (causeReg c.domain u) = rd s (causeReg c.domain u) ||| w64 (2 ^ c.bit) := by
  obtain ⟨h1, h2⟩ := causeReg_range (c := c) hu
  have hn : ¬ ClassReg (causeReg c.domain u) := by unfold ClassReg; omega
  rw [raise_eq, (regsOnly_classAct _ _ _ _) _ hn, (regsOnly_classCount _ _) _ hn, rd_setCause_same]

/-- A raised cause is set. -/
theorem caused_raise (c : Cause) {u : Nat} (hu : u < 32) (r : PsRec) (s : State) : Caused (raise c u r s) c u := by
  have hb := causeBit_lt c
  rw [Caused, rd_raise_same c hu, bitOf_or, bitOf_w64_two_pow (by omega), Bool.or_true]

/-- A raised cause clears no cause. -/
theorem caused_raise_of {c d : Cause} {u v : Nat} (hu : u < 32) (hv : v < 32) {r : PsRec} {s : State} (h : Caused s d v) :
    Caused (raise c u r s) d v := by
  obtain ⟨h1, h2⟩ := causeReg_range (c := d) hv
  have hn : ¬ ClassReg (causeReg d.domain v) := by unfold ClassReg; omega
  unfold Caused at h ⊢
  by_cases he : causeReg d.domain v = causeReg c.domain u
  · rw [he, rd_raise_same c hu, bitOf_or, ← he, h, Bool.true_or]
  · rw [(regsOnly_raise c u r s) _ (by simp [he, hn]), h]

theorem caused_congr {s t : State} (h : t.regs = s.regs) (c : Cause) (u : Nat) : Caused t c u ↔ Caused s c u := by
  rw [Caused, Caused, rd_congr h]

theorem isSafe_congr {s t : State} (h : t.regs = s.regs) : isSafe t = isSafe s := by rw [isSafe, isSafe, rd_congr h]

theorem isSafe_wr_ne {s : State} {o : Nat} (v : W64) (h : o ≠ oFltStatus) : isSafe (wr s o v) = isSafe s := by
  rw [isSafe, isSafe, rd_wr_ne _ _ (Ne.symm h)]

/-- FLT_STATUS.SAFE stays while other fields of FLT_STATUS are written. -/
theorem isSafe_wrf_field {s : State} {lo w x : Nat} (h : 0 < lo) : isSafe (wrf s oFltStatus lo w x) = isSafe s := by
  rw [isSafe, isSafe, rd_wrf_same, bitOf_setFld_ne _ _ _ _ _ (.inl h)]

theorem isSafe_suspectMark (c : Cause) (u : Nat) (s : State) : isSafe (suspectMark c u s) = isSafe s := by
  unfold suspectMark
  dsimp only
  split <;> split
  · rw [isSafe_wrf_field (by decide), isSafe_wr_ne _ (by decide)]
  · rw [isSafe_wrf_field (by decide)]
  · rw [isSafe_wr_ne _ (by decide)]
  · rfl

/-- A GF cause enters Safelight state (R337). -/
theorem isSafe_gfEnter (c : Cause) (u : Nat) (s : State) : isSafe (gfEnter c u s) = true := by
  unfold gfEnter
  split
  next h => rw [isSafe_suspectMark, h]
  next =>
    have h : isSafe (wrf (wrf (wrf (suspectMark c u s) oFltStatus 0 1 1) oFltStatus 23 4 c.domain) oFltStatus 27 5 c.bit) =
        true := by
      rw [isSafe_wrf_field (by decide), isSafe_wrf_field (by decide), isSafe, rd_wrf_same,
        bitOf_setFld_one _ _ _ (by decide)]
      rfl
    exact h

theorem isSafe_raise_gf {c : Cause} (h : c.cls = .gf) (u : Nat) (r : PsRec) (s : State) : isSafe (raise c u r s) = true := by
  rw [raise_eq, classAct, h]
  exact isSafe_gfEnter _ _ _

/-- A cause of no more than class CE reaches registers alone. -/
theorem only_raise_ce {c : Cause} (h : c.cls = .none ∨ c.cls = .ce) (u : Nat) (r : PsRec) (s : State) :
    Only [.regs] s (raise c u r s) := by
  rw [raise_eq, classAct, classCount, setCause]
  rcases h with h | h <;> simp [h, classCounter, only_iff]

/-- A cause below class GF reaches registers alone. -/
theorem only_raise_regs {c : Cause} (h : c.cls ≠ .gf) (u : Nat) (r : PsRec) (s : State) : Only [.regs] s (raise c u r s) := by
  rw [raise_eq, classAct, classCount, setCause]
  cases hc : c.cls with
  | none => simp [classCounter, only_iff]
  | ce => simp [classCounter, only_iff]
  | de => simp [classCounter, only_iff, psWrite]
  | lf => simp [classCounter, only_iff, psWrite]
  | gf => exact absurd hc h

end Sys2Proof.Machine
end

section
/-! PROOFS. The ALU and scratch operations of a rule (R159, R161, R174, R179 to R181). -/

namespace Sys2Proof.Machine

/-! ### The OPER of a rule -/

section
variable {s : State} {c : Nat} {x : Ctx} {r : InFlight} {o : Oper} {opc : Nat} (h : AtOper s c x r o opc)
include h

theorem AtOper.rule : AtRule s c x r 0 := h.1
theorem AtOper.guard : r.guard = true := h.2.1
theorem AtOper.field : r.oper = operField o opc := h.2.2
theorem AtOper.ctx : ctxOf s c = some x := h.rule.ctx
theorem AtOper.inFlight : x.inFlight = some r := h.rule.inFlight

theorem AtOper.noStall : x.stall = none := by
  obtain ⟨_, _, _, _, _, _, _, hs, _⟩ := h.rule
  exact hs

theorem AtOper.noResult : x.opRes = none := by
  obtain ⟨_, _, _, _, _, _, _, _, hr, _⟩ := h.rule
  exact hr

theorem AtOper.noJob : x.job = none := by
  obtain ⟨_, _, _, _, _, _, _, _, _, hj, _⟩ := h.rule
  exact hj

end

/-- The OPER that comes next takes effect: `t` is what the operation makes of the state, and the rule comes to its SEND (R172). -/
theorem atOper_acts {s t : State} {c : Nat} {x y : Ctx} {r : InFlight} {is : Nat → Bool}
    {f : Ctx → InFlight → State → State} (h : AtRule s c x r 0) (hg : r.guard = true) (his : is r.oper = true)
    (hf : f x.seen r s = t) (hy : ctxOf t c = some y) (hst : y.stall = none) (hl : laterFault c t = none) :
    atOper c is f s = setStage c 1 t := by
  simp [atOper, h.ctx, h.inFlight, h.moves, hg, h.stage, his, hf, hy, hst, hl]

theorem ctxOf_setStage {t : State} {c n : Nat} {y : Ctx} {r : InFlight} (hy : ctxOf t c = some y)
    (hr : y.inFlight = some r) : ctxOf (setStage c n t) c = some { y with inFlight := some { r with stage := n } } := by
  rw [setStage, ctxOf_modCtx_same hy, hr]
  rfl

theorem ctxOf_setStage_ne {c k n : Nat} (h : k ≠ c) (t : State) : ctxOf (setStage c n t) k = ctxOf t k :=
  ctxOf_modCtx_ne h _ _

theorem only_setStage (c n : Nat) (t : State) : Only [.dev] t (setStage c n t) := only_modCtx _ _ _

theorem setStage_keeps (c n : Nat) (t : State) : (setStage c n t).pending = t.pending ∧ (setStage c n t).aon = t.aon :=
  ⟨rfl, rfl⟩

@[simp] theorem putOpd_inFlight (d : BitVec 4) (v : W64) (x : Ctx) : (putOpd d v x).inFlight = x.inFlight := by
  unfold putOpd; split <;> rfl

@[simp] theorem putOpd_stall (d : BitVec 4) (v : W64) (x : Ctx) : (putOpd d v x).stall = x.stall := by
  unfold putOpd; split <;> rfl

theorem putOpd_zr (v : W64) (x : Ctx) : putOpd 0xF#4 v x = x := rfl

/-- An operation that writes a value to D leaves the rule at its SEND, the value in D, and nothing else changed. -/
theorem opered_of_put {s : State} {c : Nat} {x : Ctx} {r : InFlight} {d : BitVec 4} {v : W64} (hx : ctxOf s c = some x)
    (hr : x.inFlight = some r) : Opered s (setStage c 1 (modCtx c (putOpd d v) s)) c x r d v := by
  refine ⟨?_, fun k hk => ?_, (ctxsOnly_modCtx _ _ _).trans (ctxsOnly_modCtx _ _ _)⟩
  · rw [ctxOf_setStage (ctxOf_modCtx_same hx _) (by rw [putOpd_inFlight, hr])]
  · rw [ctxOf_setStage_ne hk, ctxOf_modCtx_ne hk]

/-- The command of an OPER whose operation writes a value to D. -/
theorem exec_put {s : State} {c : Nat} {x : Ctx} {r : InFlight} {d : BitVec 4} {v : W64} {is : Nat → Bool}
    {f : Ctx → InFlight → State → State} (h : AtRule s c x r 0) (hg : r.guard = true) (his : is r.oper = true)
    (hf : f x.seen r s = modCtx c (putOpd d v) s) (hl : RuleClear s c d v) :
    ∃ t, onUnit (okCtx c) (live (atOper c is f)) s = .next t ∧ Opered s t c x r d v := by
  have hst : (putOpd d v x).stall = none := by
    obtain ⟨_, _, _, _, _, _, _, hs, _⟩ := h
    rw [putOpd_stall, hs]
  refine ⟨setStage c 1 (modCtx c (putOpd d v) s), ?_, opered_of_put h.ctx h.inFlight⟩
  exact exec_live (decide_eq_true h.unit) h.awake (atOper_acts h hg his hf (ctxOf_modCtx_same h.ctx _) hst hl) rfl rfl

theorem modCtx_self {s : State} {c : Nat} {x : Ctx} (h : ctxOf s c = some x) (f : Ctx → Ctx) (hf : f x = x) :
    ctxOf (modCtx c f s) c = ctxOf s c := by rw [ctxOf_modCtx_same h, hf, h]

/-- The command of an OPER whose operation writes nothing. -/
theorem exec_nothing {s : State} {c : Nat} {x : Ctx} {r : InFlight} {is : Nat → Bool}
    {f : Ctx → InFlight → State → State} (h : AtRule s c x r 0) (hg : r.guard = true) (his : is r.oper = true)
    (hf : f x.seen r s = s) (hl : laterFault c s = none) :
    ∃ t, onUnit (okCtx c) (live (atOper c is f)) s = .next t ∧ Opered s t c x r 0xF#4 0 := by
  have hst : x.stall = none := by
    obtain ⟨_, _, _, _, _, _, _, hs, _⟩ := h
    exact hs
  refine ⟨setStage c 1 s, exec_live (decide_eq_true h.unit) h.awake (atOper_acts h hg his hf h.ctx hst hl) rfl rfl, ?_, ?_, ?_⟩
  · rw [ctxOf_setStage h.ctx h.inFlight, putOpd_zr]
  · exact fun k hk => ctxOf_setStage_ne hk s
  · exact ctxsOnly_modCtx _ _ _

/-- An operation of the ALU. -/
theorem exec_writesD {s : State} {c opc : Nat} {x : Ctx} {r : InFlight} {o : Oper} {f : Ctx → W64} {v : W64}
    (h : AtOper s c x r o opc) (hd : canWrite o.d = true) (hv : f x.seen = v) (hl : RuleClear s c o.d v) :
    ∃ t, onUnit (okCtx c) (live (writesD c opc o false f)) s = .next t ∧ Opered s t c x r o.d v := by
  refine exec_put h.rule h.guard (decide_eq_true h.field) ?_ hl
  simp [hd, hv]

theorem exec_unary {s : State} {c opc : Nat} {x : Ctx} {r : InFlight} {o : Oper} {f : W64 → W64} {v : W64}
    (h : AtOper s c x r o opc) (hd : canWrite o.d = true) (hi : o.imm = false) (hv : f (opd x.seen o.a) = v)
    (hl : RuleClear s c o.d v) :
    ∃ t, onUnit (okCtx c) (live (unary opc f c o)) s = .next t ∧ Opered s t c x r o.d v := by
  have hu : unary opc f c o = writesD c opc o false (fun x => f (opd x o.a)) := by
    funext s; rw [unary, hi]
  rw [hu]
  exact exec_writesD h hd hv hl

/-! ### What the operations compute -/

theorem cmpVal_eq (a b : W64) : cmpVal a b = if a = b then 0 else if a.toNat < b.toNat then 1 else 2 := rfl

theorem popCount_eq (a : W64) : popCount a = (List.range 64).countP (bitOf a) := List.countP_eq_length_filter.symm

/-- The first index of a range that meets a condition. -/
theorem find_range_first {p : Nat → Bool} {m n : Nat} (hn : n < m) (hp : p n = true) (hlt : ∀ k < n, p k = false) :
    (List.range m).find? p = some n := by
  rw [List.find?_range_eq_some]
  exact ⟨hp, List.mem_range.2 hn, fun j hj => by simp [hlt j hj]⟩

theorem lowestOne_first {a : W64} {n : Nat} (hn : n < 64) (hb : bitOf a n = true) (hlt : ∀ k < n, bitOf a k = false) :
    lowestOne a = some n := find_range_first hn hb hlt

theorem ffsVal_eq {a : W64} {n : Nat}
    (h : a = 0 ∧ n = 64 ∨ n < 64 ∧ bitOf a n = true ∧ ∀ k, k < n → bitOf a k = false) : ffsVal a = w64 n := by
  rcases h with ⟨rfl, rfl⟩ | ⟨hn, hb, hlt⟩
  · rfl
  · rw [ffsVal, lowestOne_first hn hb hlt]
    rfl

theorem fld_eq {n : Nat} (v : BitVec n) (lo w : Nat) : fld v lo w = v.toNat / 2 ^ lo % 2 ^ w := by
  rw [fld, Nat.shiftRight_eq_div_pow]

theorem fld_zero {n : Nat} (v : BitVec n) (w : Nat) : fld v 0 w = v.toNat % 2 ^ w := by simp [fld_eq]

/-- Settles O29: each operation is one write of D by the OPER that comes next. -/
theorem aluResults : Obligations.AluResults := by
  refine ⟨fun c o x r s hd => ⟨fun p hp => ?_, fun hi => ⟨fun p hp => ?_, fun n hn h hl => ?_⟩⟩, fun c o x r s =>
    ⟨fun h hd hi hl => ?_, fun h hd hi hgood hl => ?_, fun h hd hlen hlen' hl => ?_, fun h hl hlen hd => ?_,
      fun h hg hop hl => ?_⟩⟩
  · simp only [List.mem_cons, List.not_mem_nil, or_false] at hp
    rcases hp with rfl | rfl | rfl | rfl | rfl | rfl | rfl | rfl <;> intro h hl
    iterate 5 · exact exec_writesD h hd rfl hl
    · exact exec_writesD h hd (congrArg (opd x.seen o.a <<< ·) (fld_zero _ 6)) hl
    · exact exec_writesD h hd (congrArg (opd x.seen o.a >>> ·) (fld_zero _ 6)) hl
    · exact exec_writesD h hd (cmpVal_eq _ _) hl
  · simp only [List.mem_cons, List.not_mem_nil, or_false] at hp
    rcases hp with rfl | rfl <;> intro h hl
    · exact exec_unary h hd hi rfl hl
    · exact exec_unary h hd hi (by rw [popCount_eq]) hl
  · exact exec_unary h hd hi (ffsVal_eq hn) hl
  · refine exec_put h.rule h.guard (decide_eq_true h.field) ?_ hl
    simp [hd, hi, immSx]
  · have hidx : fld o.b 0 9 = o.b.toNat % 512 := fld_zero _ _
    have hreel : x.seen.reelB = x.reelB := by rw [Ctx.seen, h.inFlight]
    refine exec_put h.rule h.guard (decide_eq_true h.field) ?_ hl
    simp [hd, hi, hidx, hreel, hgood, reelNat, reelBytes]
  · have hpos : fld (rawB x.seen o) 7 6 = (rawB x.seen o).toNat / 128 % 64 := fld_eq _ _ _
    have hl0 : fld (rawB x.seen o) 0 7 = (rawB x.seen o).toNat % 128 := fld_zero _ _
    refine exec_put h.rule h.guard (decide_eq_true h.field) ?_ hl
    simp only [hpos, hl0, hd, Bool.not_true, Bool.false_eq_true, false_or]
    rw [if_neg (by omega), if_neg (by omega)]
  · have hl0 : fld (rawB x.seen o) 0 7 = 0 := (fld_zero _ _).trans hlen
    refine exec_nothing h.rule h.guard (decide_eq_true h.field) ?_ hl
    simp [hl0, hd]
  · exact exec_nothing h hg (by rw [hop]; rfl) rfl hl

/-! ### What the SEND and the STEER of a rule trap with -/

/-- The parts of the state that decide what a SEND traps with: the writeback slots. -/
theorem sourceFault_congr {s t : State} (hw : t.home.wslots = s.home.wslots) (x : Ctx) (src : Nat) :
    sourceFault t x src = sourceFault s x src := by
  have hslot : ∀ w, slotOf t w = slotOf s w := fun w => by rw [slotOf, slotOf, hw]
  have hgen : ∀ p : Option WSlot, (match (match p with
      | some p => if p.ptl && !mergeReads t p then Source.wait else Source.data { data := p.data, fog := p.fog }
      | none => Source.nothing) with
    | .nothing => some sinkTrap
    | _ => none) = (match (match p with
      | some p => if p.ptl && !mergeReads s p then Source.wait else Source.data { data := p.data, fog := p.fog }
      | none => Source.nothing) with
    | .nothing => some sinkTrap
    | _ => none) := by
    intro p
    cases p with
    | none => rfl
    | some p => dsimp only; split_ifs <;> rfl
  unfold sourceFault sourceOf
  match src with
  | 0 => rfl
  | 1 => rfl
  | 2 =>
    cases x.wbData with
    | some d => rfl
    | none =>
      have hb : x.wbd.bind (slotOf t) = x.wbd.bind (slotOf s) := by simp only [hslot]
      dsimp only
      rw [hb]
      exact hgen _
  | n + 3 => rfl

theorem sendFault_congr {s t : State} (hw : t.home.wslots = s.home.wslots) (x : Ctx) (sop : Nat) (args : BitVec 34) :
    sendFault t x sop args = sendFault s x sop args := by
  unfold sendFault messageFault
  simp only [sourceFault_congr hw]

/-- What decides the traps that follow an OPER: its context, the writeback slots and the reel slots. -/
theorem laterFault_congr {s t : State} {c : Nat} (hc : ctxOf t c = ctxOf s c) (hw : t.home.wslots = s.home.wslots)
    (hA : t.dev.reelA = s.dev.reelA) (hB : t.dev.reelB = s.dev.reelB) : laterFault c t = laterFault c s := by
  have hrules : ∀ b, reelRules t b = reelRules s b := fun b => by
    simp only [reelRules, hdr, reelNat, reelBytes, hA, hB]
  have hsteer : ∀ x r, ownSteerFault t x r = ownSteerFault s x r := fun x r => by
    unfold ownSteerFault steerFault
    simp only [hrules]
  unfold laterFault
  simp only [hc, sendFault_congr hw, hsteer]

/-- A rule that sends nothing and then AWAITs traps with nothing after its OPER. -/
theorem laterFault_harmless {s : State} {c : Nat} {y : Ctx} {r : InFlight} (hy : ctxOf s c = some y)
    (hr : y.inFlight = some r) (hg : r.guard = true) (hh : Harmless r) : laterFault c s = none := by
  obtain ⟨hsend, hsteer⟩ := hh
  have hs : sendFault s (deliver y).seen (r.send / 2 ^ 34) (BitVec.ofNat 34 r.send) = none := by
    rw [hsend]
    rfl
  have ht : ownSteerFault s y r = none := by
    rw [ownSteerFault, hg, hsteer]
    rfl
  simp only [laterFault, hy, hr, hs, ht]

/-- The command of an OPER of a rule that sends nothing and AWAITs: whatever its operation makes of the state and of the context,
the rule comes to its SEND. -/
theorem exec_harmless {s t : State} {c : Nat} {x y : Ctx} {r : InFlight} {is : Nat → Bool}
    {f : Ctx → InFlight → State → State} (h : AtRule s c x r 0) (hg : r.guard = true) (hh : Harmless r)
    (his : is r.oper = true) (hf : f x.seen r s = t) (hy : ctxOf t c = some y) (hyr : y.inFlight = some r)
    (hst : y.stall = none) (hp : t.pending = s.pending) (ha : t.aon = s.aon) :
    onUnit (okCtx c) (live (atOper c is f)) s = .next (setStage c 1 t) :=
  exec_live (decide_eq_true h.unit) h.awake (atOper_acts h hg his hf hy hst (laterFault_harmless hy hyr hg hh)) hp ha

/-! ### Scratch (R159) -/

theorem scratchPut_dev (w : Nat) (v : W64) (s : State) :
    (scratchPut w v s).dev = { s.dev with scratch := sSet s.dev.scratch w v } := rfl

/-- STS, where the rest of its rule does not trap. -/
theorem exec_sts {s : State} {c : Nat} {x : Ctx} {r : InFlight} {o : Oper} (h : AtOper s c x r o 0x1E)
    (hl : laterFault c s = none) :
    exec (.sts c o) s = .next (setStage c 1 (scratchPut (scratchIx x.seen o) (opd x.seen o.d) s)) := by
  refine exec_live (decide_eq_true h.rule.unit) h.rule.awake
    (atOper_acts h.rule h.guard (decide_eq_true h.field) rfl (y := x) h.ctx h.noStall ?_) rfl rfl
  exact (laterFault_congr (s := s) (c := c) rfl rfl rfl rfl).trans hl

/-- What LDS makes of the state before the rule comes to its SEND. -/
theorem opLds_step {s : State} {c bits : Nat} {x : Ctx} {r : InFlight} {o : Oper} {v : W64} (hd : canWrite o.d = true)
    (hv : sFind s.dev.scratch (scratchIx x o) = some v) :
    (if !canWrite o.d then ill c r s
     else
       match sFind s.dev.scratch (scratchIx x o) with
       | none => trap c 0x7F02 r.addr.toNat s
       | some v =>
         if 2 ≤ bits then raise .scrUe 0 (storeRec 1 x.reelB (scratchIx x o)) s
         else modCtx c (putOpd o.d v) (if bits = 1 then raise0 .scrCe s else s)) =
      if 2 ≤ bits then raise .scrUe 0 (storeRec 1 x.reelB (scratchIx x o)) s
      else modCtx c (putOpd o.d v) (if bits = 1 then raise0 .scrCe s else s) := by
  simp [hd, hv]

/-- Settles O30: STS through the frame of the rule's faults, LDS by the number of wrong bits. -/
theorem scratchOperations : Obligations.ScratchOperations := by
  intro c o x r s w
  refine ⟨fun h hl => ⟨_, exec_sts h hl, ?_, fun k hk => ?_, ?_, fun k hk => ?_, rfl⟩, fun v h hd hv hl => ⟨?_, fun hh => ?_,
    fun bits hb hh => ?_⟩⟩
  · exact sFind_sSet_same _ _ _
  · exact sFind_sSet_ne _ _ hk
  · exact ctxOf_setStage h.ctx h.inFlight
  · exact ctxOf_setStage_ne hk _
  · exact exec_put h.rule h.guard (decide_eq_true h.field) (opLds_step hd hv) hl
  · have hx : ctxOf (raise0 .scrCe s) c = some x := (ctxOf_congr (congrArg DevSide.ctxs (only_raise _ _ _ _).dev) c).trans h.ctx
    have hframe := only_raise_ce (c := .scrCe) (.inr rfl) 0 PsRec.none s
    have hscr : (raise0 .scrCe s).dev.scratch = s.dev.scratch := congrArg DevSide.scratch hframe.dev
    have hy := ctxOf_modCtx_same hx (putOpd o.d v)
    have hr := (putOpd_inFlight o.d v x).trans h.inFlight
    have he : exec (.lds c o 1) s = .next (setStage c 1 (modCtx c (putOpd o.d v) (raise0 .scrCe s))) :=
      exec_harmless h.rule h.guard hh (decide_eq_true h.field) (opLds_step hd hv) hy hr
        ((putOpd_stall _ _ _).trans h.noStall) hframe.pending hframe.aon
    have hcaused : Caused (raise0 .scrCe s) .scrCe 0 := caused_raise .scrCe (by decide) _ _
    refine ⟨_, he, (caused_congr (s := raise0 .scrCe s) rfl .scrCe 0).2 hcaused, hscr, ctxOf_setStage hy hr, ?_⟩
    exact (hframe.mono (by simp)).trans (((only_modCtx _ _ _).trans (only_setStage _ _ _)).mono (by simp))
  · have hx : ∀ rec, ctxOf (raise .scrUe 0 rec s) c = some x := fun rec =>
      (ctxOf_congr (congrArg DevSide.ctxs (only_raise _ _ _ _).dev) c).trans h.ctx
    have hframe := only_raise .scrUe 0 (storeRec 1 x.seen.reelB (scratchIx x.seen o)) s
    have hscr := congrArg DevSide.scratch hframe.dev
    have he : exec (.lds c o bits) s =
        .next (setStage c 1 (raise .scrUe 0 (storeRec 1 x.seen.reelB (scratchIx x.seen o)) s)) :=
      exec_harmless h.rule h.guard hh (decide_eq_true h.field) ((opLds_step hd hv).trans (if_pos hb)) (hx _) h.inFlight
        h.noStall hframe.pending hframe.aon
    refine ⟨_, he, caused_raise .scrUe (by decide) _ _, isSafe_raise_gf rfl _ _ _, hscr, ?_⟩
    exact (hframe.mono (by simp)).trans ((only_setStage _ _ _).mono (by simp))

end Sys2Proof.Machine
end

section
/-! PROOFS. Register accesses at the CAP (R6, R7, R11, R22). -/

namespace Sys2Proof.Machine

/-! ### Accesses that complete -/

/-- An access whose meaning is `untimed`. -/
theorem untimed_next {f : State → State} {s t : State} (h : f s = t) (hp : t.pending = s.pending) (ha : t.aon = s.aon) :
    (Host.Outcome.next (untimed f s) : Out) = .next t := by
  rw [untimed_eq (by rw [h, hp]) (by rw [h, ha]), h]

theorem aligned_eq {off : Nat} {wide : Bool} : aligned off wide = decide (off % (if wide then 8 else 4) = 0) := rfl

theorem testAccess_below {s : State} {off : Nat} (h : off < 0xF00000) : testAccess s off = false := by
  have : inTest off = false := decide_eq_false (by omega)
  rw [testAccess, this]
  rfl

/-- REGISTER_WRITE away from GLB_FT_CTRL and the TEST range. -/
theorem exec_registerWrite_eq {off : BitVec 24} {wide : Bool} {v : W64} {s t : State}
    (ht : testAccess s off.toNat = false ∨ aligned off.toNat wide = false) (hne : off.toNat ≠ 0x110)
    (h : opRegisterWrite off.toNat wide v s = t) (hp : t.pending = s.pending) (ha : t.aon = s.aon) :
    exec (.registerWrite off wide v) s = .next t := by
  have hrun : (testAccess s off.toNat && aligned off.toNat wide) = false := by
    rcases ht with ht | ht <;> simp [ht]
  change execRegisterWrite off wide v s = _
  rw [execRegisterWrite, hrun, if_neg Bool.false_ne_true, if_neg hne]
  exact untimed_next h hp ha

/-! ### What a write makes of a register -/

/-- The value that a 32-bit write leaves in a register. -/
def writtenLow (d : RegDesc) (old v : W64) : W64 :=
  ((old &&& ~~~(w64 d.rw &&& 0xFFFFFFFF#64)) ||| (v &&& w64 d.rw)) &&& ~~~(v &&& w64 d.w1c) ||| (v &&& w64 d.w1s)

theorem and_low_of_lt {m : Nat} (h : m < 2 ^ 32) : w64 m &&& 0xFFFFFFFF#64 = w64 m := by
  apply BitVec.eq_of_toNat_eq
  have hm : m % 2 ^ 64 = m := Nat.mod_eq_of_lt (by omega)
  rw [BitVec.toNat_and, w64, BitVec.toNat_ofNat, hm]
  exact (Nat.and_two_pow_sub_one_eq_mod m 32).trans (Nat.mod_eq_of_lt h)

theorem setWidth_and_low (v : W32) : v.setWidth 64 &&& 0xFFFFFFFF#64 = v.setWidth 64 := by
  apply BitVec.eq_of_toNat_eq
  rw [BitVec.toNat_and, BitVec.toNat_setWidth, Nat.mod_eq_of_lt (by have := v.isLt; omega)]
  exact (Nat.and_two_pow_sub_one_eq_mod _ 32).trans (Nat.mod_eq_of_lt v.isLt)

/-- A word that has no bit above 31 meets a mask in its low half only. -/
theorem and_mask_low {v m : W64} (h : v &&& 0xFFFFFFFF#64 = v) : v &&& (m &&& 0xFFFFFFFF#64) = v &&& m := by
  rw [BitVec.and_comm m, ← BitVec.and_assoc, h]

/-- A 32-bit write by access type. -/
theorem regWrite_low {r : Nat} {v : W64} {d : RegDesc} {s : State} (hd : regDesc r = some d)
    (hv : v &&& 0xFFFFFFFF#64 = v) : regWrite r reach32 v s = wr s r (writtenLow d (rd s r) v) := by
  simp only [regWrite, hd, reach32, writtenLow, BitVec.and_assoc, and_mask_low hv]

theorem regWriteAll_of_noChan {r : Nat} {m v : W64} {s : State} (h : chanBlock r = none) :
    regWriteAll r m v s = regWrite r m v s := by simp only [regWriteAll, h]

/-- The blocks whose registers carry no command: IRQ and FAULT but FLT_SWI, ORDER, the trays and the counters. -/
def PlainReg (r : Nat) : Prop :=
  0x010000 ≤ r ∧ r < 0x020000 ∧ r ≠ 0x010018 ∨ 0x040000 ≤ r ∧ r < 0x050000 ∨ 0x300000 ≤ r ∧ r < 0x350000

theorem writeActive_plain {r : Nat} {v : W64} {s : State} (h : PlainReg r) :
    writeActive r false v s = regWrite r reach32 v s := by
  unfold PlainReg at h
  have hc : chanBlock r = none := if_neg (by omega)
  rw [← regWriteAll_of_noChan hc]
  unfold writeActive
  rw [if_neg Bool.false_ne_true]
  iterate 6 rw [if_neg (by omega)]

theorem coverReg_of_desc {r : Nat} {d : RegDesc} (hr : r % 0x1000 < 0x800) (hd : regDesc r = some d) :
    coverReg r = some (r, false) := by simp only [coverReg, hr, hd, if_true]

theorem assigned_of_cover {off : Nat} {p : Nat × Bool} (h : coverReg off = some p) : assigned off = true := by
  simp [assigned, h]

/-- REGISTER_WRITE of 32 bits to a register without a command. -/
theorem opRegisterWrite_plain {r : Nat} {v : W64} {d : RegDesc} {s : State} (hc : capAnswers s = true) (hal : r % 4 = 0)
    (hlow : r % 0x1000 < 0x800) (hd : regDesc r = some d) (hp : PlainReg r) (hv : v &&& 0xFFFFFFFF#64 = v) :
    opRegisterWrite r false v s = wr (answered false 0 s) r (writtenLow d (rd s r) v) := by
  have hcov := coverReg_of_desc hlow hd
  have hal' : aligned r false = true := decide_eq_true hal
  unfold PlainReg at hp
  have h4 : ¬(0x400000 ≤ r ∧ r < 0x600000) := by omega
  have h6 : ¬(0x600000 ≤ r ∧ r < 0x640000) := by omega
  simp only [opRegisterWrite, hc, hal', assigned_of_cover hcov, h4, h6, Bool.not_true, Bool.true_or, Bool.false_eq_true,
    if_false, write32, hcov, writeActive_plain hp]
  rw [show v &&& reach32 = v from hv]
  exact regWrite_low hd hv

/-! ### Misaligned accesses -/

section
variable {off : Nat} {wide : Bool} {s : State} (hcap : capAnswers s = true) (hal : aligned off wide = false)
include hcap hal

theorem opCapMisaligned_err : opCapMisaligned off wide s = answered true 0 s := by
  simp only [opCapMisaligned, hcap, hal, Bool.not_true, Bool.false_eq_true, if_false, capDone_eq_answered]

theorem opCapDecode_err (we : Bool) : opCapDecode off wide we s = answered true 0 s := by
  simp only [opCapDecode, hcap, hal, Bool.not_true, Bool.not_false, Bool.false_eq_true, if_false, if_true,
    capDone_eq_answered]

theorem opShadowWrite_err (v : W64) : opShadowWrite off wide v s = answered true 0 s := by
  simp only [opShadowWrite, hcap, hal, Bool.not_true, Bool.not_false, Bool.false_eq_true, if_false, if_true,
    capDone_eq_answered]

theorem opRegisterWrite_err (v : W64) : opRegisterWrite off wide v s = answered true 0 s := by
  simp only [opRegisterWrite, hcap, hal, Bool.not_true, Bool.not_false, Bool.false_eq_true, if_false, if_true,
    capDone_eq_answered]

end

/-! ### Shadow writes -/

theorem rwcMask_ne_zero {r : Nat} {d : RegDesc} (hd : regDesc r = some d) (hne : d.rwc ≠ 0) (hlt : d.rwc < 2 ^ 32) :
    rwcMask r ≠ 0 := by
  simp only [rwcMask, hd]
  intro h
  have := congrArg BitVec.toNat h
  rw [w64, BitVec.toNat_ofNat, Nat.mod_eq_of_lt (by omega)] at this
  exact hne this

section
variable {r : Nat} {d : RegDesc} (hr : r % 0x1000 < 0x800) (hmax : r < 0x400000) (hd : regDesc r = some d) (hne : d.rwc ≠ 0)
  (hlt : d.rwc < 2 ^ 32)
include hr hmax hd hne hlt

theorem coverShadow_of_desc : coverShadow (r + 0x800) = some (r, false) := by
  have hmask := rwcMask_ne_zero hd hne hlt
  rw [coverShadow, if_pos (by omega), Nat.add_sub_cancel, coverReg_of_desc hr hd]
  exact if_neg hmask

/-- A 32-bit shadow write takes the RWC fields. -/
theorem shadow32_eq (v : W64) (s : State) :
    shadow32 (r + 0x800) v s = wrShadow s r ((rdShadow s r &&& ~~~(w64 d.rwc)) ||| (v &&& w64 d.rwc)) := by
  have hm : rwcMask r &&& halfMask false = w64 d.rwc := by
    simp only [rwcMask, hd]
    exact and_low_of_lt hlt
  have hv : inHalf false v &&& w64 d.rwc = v &&& w64 d.rwc := by
    change v &&& 0xFFFFFFFF#64 &&& w64 d.rwc = _
    rw [BitVec.and_assoc, BitVec.and_comm 0xFFFFFFFF#64, and_low_of_lt hlt]
  simp only [shadow32, coverShadow_of_desc hr hmax hd hne hlt, shadowStore, hm, hv]

end

/-- Settles O11: the write of a plain register, the alignment check that comes first in every access, and the shadow's mask. -/
theorem registerAccesses : Obligations.RegisterAccesses := by
  refine ⟨fun off v d s hc hal hlow hd _ hp => ?_, fun off wide we v s hc hal => ?_,
    fun off v d r s hc hoff hmax hlow hal hd hne hlt => ⟨fun hb => ?_, fun hb => ?_⟩⟩
  · have hbelow : off.toNat < 0xF00000 ∧ off.toNat ≠ 0x110 := by omega
    exact exec_registerWrite_eq (.inl (testAccess_below hbelow.1)) hbelow.2
      (opRegisterWrite_plain hc hal hlow hd hp (setWidth_and_low v)) rfl rfl
  · have ha : aligned off.toNat wide = false := decide_eq_false hal
    have hne : off.toNat ≠ 0x110 := fun h => hal (by rw [h]; cases wide <;> rfl)
    have hd : (testAccess s off.toNat && aligned off.toNat wide) = false := by simp [ha]
    refine ⟨untimed_next (opCapMisaligned_err hc ha) rfl rfl, ?_, untimed_next (opShadowWrite_err hc ha v) rfl rfl,
      exec_registerWrite_eq (.inr ha) hne (opRegisterWrite_err hc ha v) rfl rfl⟩
    change execCapDecode off wide we v s = _
    rw [execCapDecode, hd, if_neg Bool.false_ne_true]
    exact untimed_next (opCapDecode_err hc ha we) rfl rfl
  all_goals
    have ha : aligned off.toNat false = true := decide_eq_true (by simp only [Bool.false_eq_true, if_false]; omega)
    have hcov : (coverShadow off.toNat).isNone = false := by rw [hoff, coverShadow_of_desc hlow hmax hd hne hlt]; rfl
  · refine untimed_next (f := opShadowWrite off.toNat false v) ?_ rfl rfl
    simp only [opShadowWrite, hc, ha, hcov, hb, shadowWriteAll, Bool.not_true, Bool.false_and, Bool.false_eq_true, if_false,
      capDone_eq_answered]
    rw [hoff]
    exact shadow32_eq hlow hmax hd hne hlt v _
  · refine untimed_next (f := opShadowWrite off.toNat false v) ?_ rfl rfl
    unfold opShadowWrite
    rw [hc, ha, hcov, if_neg (by decide), if_neg (by decide), if_neg (by rw [Bool.false_and]; decide), if_pos hb]
    rfl

end Sys2Proof.Machine
end

section
/-! PROOFS. The test port and FUSEPROG (R395 to R397). -/

namespace Sys2Proof.Machine

theorem scan_low {code : BitVec 8} {f : State → State} {s : State} (h : s.aon.porstLow = true) : scan code f s = f s :=
  if_pos h

theorem scan_high {code : BitVec 8} {f : State → State} {s : State} (h : s.aon.porstLow = false) :
    scan code f s = tapBypass code false s := if_neg (by simp [h])

theorem opSamplePins_low {pins : BitVec 1212} {s : State} (h : s.aon.porstLow = true) : opSamplePins pins s =
    { s with aon := { s.aon with tap := { s.aon.tap with
      ir := 0x02#8, bsr := pins, tdo := bitsOut 1212 s.aon.tap.bsr.toNat } } } := by
  rw [opSamplePins, scan_low h]
  simp only [tapShift, updAon]

theorem opExtest_low {pins : BitVec 1212} {s : State} (h : s.aon.porstLow = true) : opExtest pins s =
    { s with aon := { s.aon with tap := { s.aon.tap with
      ir := 0x03#8, bsr := pins, tdo := bitsOut 1212 s.aon.tap.bsr.toNat } } } := by
  rw [opExtest, scan_low h]
  simp only [tapShift, updAon]

theorem exec_fuseprog_eq {op : FuseOp} {s : State} (h : okFuse op = true) :
    exec (.fuseprog op) s = .next (opFuseprog op s) := onUnit_true h _ s

theorem opFuseprog_low {op : FuseOp} {s : State} (h : s.aon.porstLow = true) :
    opFuseprog op s = { s with aon := { s.aon with
      fuses := fuseProg op s.aon.fuses, tap := { s.aon.tap with ir := 0x11#8, tdo := [] } } } := if_pos h

theorem opFuseprog_high {op : FuseOp} {s : State} (h : s.aon.porstLow = false) :
    opFuseprog op s = { s with aon := { s.aon with tap := { s.aon.tap with ir := 0x11#8, tdo := [] } } } :=
  if_neg (by simp [tapShift, h])

/-- FUSEPROG with PORST_N low leaves what the operation makes of the fuses. -/
theorem exec_fuseprog_low {op : FuseOp} {g : Fuses} {s : State} (hop : okFuse op = true) (h : s.aon.porstLow = true)
    (hg : fuseProg op s.aon.fuses = g) :
    exec (.fuseprog op) s = .next { s with aon := { s.aon with
      fuses := g, tap := { s.aon.tap with ir := 0x11#8, tdo := [] } } } := by
  rw [exec_fuseprog_eq hop, opFuseprog_low h, hg]

theorem opBypass_unlisted {code : BitVec 8} (h : code ∉ tapCodes) (tdi : Bool) (s : State) :
    opBypass code tdi s = tapBypass code tdi s := if_neg (by simpa using h)

/-- Settles O60: each instruction is one shift of the test port, and a fuse operation by its kind. -/
theorem testPortAndFuses : Obligations.TestPortAndFuses := by
  refine ⟨fun s => ⟨rfl, rfl, fun pins h => ?_, fun pins h => ?_, fun h => ?_, fun code tdi h => ?_⟩,
    fun s => ⟨fun h => ⟨fun k d hk hp => ?_, fun k d hk hp => ?_, fun k hk => ?_, fun v => ?_, ?_⟩, fun h op hop => ?_⟩⟩
  · simp only [List.forall_mem_cons, List.not_mem_nil, false_implies, implies_true, and_true]
    exact ⟨congrArg Host.Outcome.next (opSamplePins_low h), congrArg Host.Outcome.next (opExtest_low h)⟩
  · simp only [List.forall_mem_cons, List.not_mem_nil, false_implies, implies_true, and_true]
    exact ⟨congrArg Host.Outcome.next (scan_high h), congrArg Host.Outcome.next (scan_high h),
      congrArg Host.Outcome.next (scan_high h), congrArg Host.Outcome.next (scan_high h)⟩
  · simp only [List.forall_mem_cons, List.not_mem_nil, false_implies, implies_true, and_true]
    exact ⟨congrArg Host.Outcome.next (scan_low h), congrArg Host.Outcome.next (scan_low h)⟩
  · exact congrArg Host.Outcome.next (opBypass_unlisted h tdi s)
  · exact exec_fuseprog_low (op := .key k d) (decide_eq_true hk) h (if_neg (by simp [hp]))
  · exact exec_fuseprog_low (op := .key k d) (decide_eq_true hk) h (if_pos hp)
  · exact exec_fuseprog_low (op := .revoke k) (decide_eq_true hk) h rfl
  · exact exec_fuseprog_low (op := .mfr v) rfl h rfl
  · exact exec_fuseprog_low (op := .testLock) rfl h rfl
  · change exec (.fuseprog op) s = _
    rw [exec_fuseprog_eq hop, opFuseprog_high h]

end Sys2Proof.Machine
end

section
/-! PROOFS. Restarts, the always-on comparators, heat and droop (R350 to R352, R356, R358). -/

namespace Sys2Proof.Machine

/-! ### Effects that keep time -/

/-- What no effect but FT's own, FUSEPROG, the test port and the resets may change. -/
def Timeless (s t : State) : Prop := Beyond s t ∧ t.aon.ft = s.aon.ft ∧ t.aon.ftFrac = s.aon.ftFrac

theorem untimed_of_timeless {f : State → State} {s t : State} (hf : f s = t) (h : Timeless s t) : untimed f s = t := by
  obtain ⟨hb, h1, h2⟩ := h
  unfold untimed
  rw [within_eq hf hb, ← h1, ← h2]

theorem timeless_of_aon {s t : State} (hp : t.pending = s.pending) (ha : t.aon = s.aon) : Timeless s t := by
  simp [Timeless, Beyond, hp, ha]

theorem live_timeless {f : State → State} {s t : State} (ha : asleep s = false) (hf : f s = t) (h : Timeless s t) :
    (Host.Outcome.next (live f s) : Out) = .next t := by rw [live_awake f ha, untimed_of_timeless hf h]

theorem capCmd_timeless {f : State → State} {s t : State} (hc : capAnswers s = true) (hf : f (answered false 0 s) = t)
    (h : Timeless s t) : (Host.Outcome.next (capCmd f s) : Out) = .next t := by
  rw [capCmd_answers f hc, capDone_eq_answered]
  exact congrArg Host.Outcome.next (untimed_of_timeless hf h)

theorem awake_timeless {f : State → State} {s t : State} (ha : s.aon.porstLow = false) (hf : f s = t) (h : Timeless s t) :
    (Host.Outcome.next (awake f s) : Out) = .next t := by rw [awake_high f ha, untimed_of_timeless hf h]

/-! ### One unit after another -/

/-- A fold over distinct units, where each step changes its own unit's value alone: every unit has its value changed once. -/
theorem foldl_each {β : Type} {I : State → Prop} {val : State → Nat → β} {f : State → Nat → State} {g : Nat → β → β}
    {l : List Nat} {k : Nat} (hI : ∀ s, ∀ m ∈ l, I s → I (f s m)) (hsame : k ∈ l → ∀ s, I s → val (f s k) k = g k (val s k))
    (hne : ∀ s, ∀ m ∈ l, I s → k ≠ m → val (f s m) k = val s k) (hl : l.Nodup) {s : State} (hs : I s) :
    val (l.foldl f s) k = if k ∈ l then g k (val s k) else val s k := by
  induction l generalizing s with
  | nil => rfl
  | cons m l ih =>
    obtain ⟨hm, hl⟩ := List.nodup_cons.1 hl
    rw [List.foldl_cons, ih (fun s j hj => hI s j (by simp [hj])) (fun h => hsame (by simp [h]))
      (fun s j hj => hne s j (by simp [hj])) hl (hI s m (by simp) hs)]
    by_cases hk : k = m
    · subst hk
      simp [hm, hsame (by simp) s hs]
    · simp [hk, hne s m (by simp) hs hk]

theorem Only.foldl_mem {α : Type} {k : List Side} {f : State → α → State} {l : List α} (h : ∀ t, ∀ a ∈ l, Only k t (f t a))
    (s : State) : Only k s (l.foldl f s) := by
  induction l generalizing s with
  | nil => exact Only.refl k s
  | cons a l ih => exact (h s a (by simp)).trans (ih (fun t b hb => h t b (by simp [hb])) _)

theorem RegsOnly.foldl_mem {α : Type} {p : Nat → Prop} {f : State → α → State} {l : List α}
    (h : ∀ t, ∀ a ∈ l, RegsOnly p t (f t a)) (s : State) : RegsOnly p s (l.foldl f s) := by
  induction l generalizing s with
  | nil => exact RegsOnly.refl p s
  | cons a l ih => exact (h s a (by simp)).trans (ih (fun t b hb => h t b (by simp [hb])) _)

/-! ### Channels -/

theorem chanOf_setChan_same (m : Nat) (f : Chan → Chan) (s : State) : chanOf (setChan m f s) m = f (chanOf s m) :=
  sGet_sUpd_same _ _ _ _

theorem chanOf_setChan_ne {m k : Nat} (h : k ≠ m) (f : Chan → Chan) (s : State) : chanOf (setChan m f s) k = chanOf s k :=
  sGet_sUpd_ne _ _ _ h

theorem chanOf_congr {s t : State} (h : t.mem.chans = s.mem.chans) (m : Nat) : chanOf t m = chanOf s m := by
  rw [chanOf, chanOf, h]

/-- What a channel and the memory side keep while only the channels change. -/
def MemChans (s t : State) : Prop := t = { s with mem := { s.mem with chans := t.mem.chans } }

theorem MemChans.trans {s t u : State} (h : MemChans s t) (g : MemChans t u) : MemChans s u := by
  unfold MemChans at *
  rw [g, h]

theorem MemChans.mem {s t : State} (h : MemChans s t) : t.mem = { s.mem with chans := t.mem.chans } := congrArg State.mem h

theorem memChans_setChan (m : Nat) (f : Chan → Chan) (s : State) : MemChans s (setChan m f s) := rfl

theorem memChans_foldl {α : Type} {f : State → α → State} (h : ∀ t a, MemChans t (f t a)) (l : List α) (s : State) :
    MemChans s (l.foldl f s) := by
  induction l generalizing s with
  | nil => rfl
  | cons a l ih => exact (h s a).trans (ih _)

/-! ### The laps of the scrubbers -/

/-- The lap of a channel's scrubber starts. -/
def lapFrom (now : W64) (c : Chan) : Chan := { c with lapStart := now }

/-- The laps of the sheet and of the pool start. -/
def poolLap (now : W64) (s : State) : State :=
  updMem (fun m => { m with poolStart := now }) (updSheet (fun x => { x with scrubLapStart := now }) s)

theorem startLaps_eq (s : State) : startLaps s =
    (List.range 8).foldl (fun t m => setChan m (lapFrom s.aon.ft) t) (poolLap s.aon.ft s) := rfl

theorem startLaps_memChans (s : State) : MemChans (poolLap s.aon.ft s) (startLaps s) := by
  rw [startLaps_eq]
  exact memChans_foldl (fun t m => memChans_setChan m _ t) _ _

theorem chanOf_startLaps {m : Nat} (hm : m < 8) (s : State) :
    chanOf (startLaps s) m = { chanOf s m with lapStart := s.aon.ft } := by
  rw [startLaps_eq]
  refine (foldl_each (I := fun _ => True) (val := chanOf) (g := fun _ => lapFrom s.aon.ft) (k := m)
    (fun _ _ _ _ => trivial) (fun _ t _ => chanOf_setChan_same m _ t)
    (fun t j _ _ h => chanOf_setChan_ne h _ t) List.nodup_range trivial).trans ?_
  rw [if_pos (List.mem_range.2 hm)]
  rfl

theorem startLaps_keeps (s : State) : Only [.sheet, .mem] s (startLaps s) ∧
    (startLaps s).sheet = { s.sheet with scrubLapStart := s.aon.ft } ∧
    (startLaps s).mem = { s.mem with poolStart := s.aon.ft, chans := (startLaps s).mem.chans } := by
  have hf : Only [.mem] (poolLap s.aon.ft s) (startLaps s) := by
    rw [startLaps_eq]
    exact Only.foldl (fun t m => only_setChan m _ t) _ _
  refine ⟨?_, hf.sheet, (startLaps_memChans s).mem⟩
  exact (((only_updSheet _ _).mono (by simp)).trans ((only_updMem _ _).mono (by simp))).trans (hf.mono (by simp))

/-! ### Causes latched while the core was stopped -/

theorem aonCause_info {c : Cause} (h : c ∈ aonCauses) : c.domain = 9 ∧ c.cls = .none ∧ c.bit < 6 := by
  simp only [aonCauses, List.mem_cons, List.not_mem_nil, or_false] at h
  rcases h with rfl | rfl | rfl | rfl | rfl | rfl <;> decide

theorem aonCause_reg {c : Cause} (h : c ∈ aonCauses) : causeReg c.domain 0 = 0x010148 := by
  rw [(aonCause_info h).1]
  rfl

theorem regsOnly_raise0_none {c : Cause} (h : c.cls = .none) (s : State) :
    RegsOnly (· = causeReg c.domain 0) s (raise0 c s) := by
  rw [raise0_none h]
  exact regsOnly_wr _ _ rfl

theorem only_raise0_none {c : Cause} (h : c.cls = .none) (s : State) : Only [.regs] s (raise0 c s) := by
  rw [raise0_none h]
  exact only_wr _ _ _

/-- Raising causes one after another sets each of them and clears none. -/
theorem caused_foldl_raise0 {l : List Cause} {d : Cause} {v : Nat} {s : State} (hv : v < 32) (h : d ∈ l ∧ v = 0 ∨ Caused s d v) :
    Caused (l.foldl (fun s c => raise0 c s) s) d v := by
  induction l generalizing s with
  | nil => exact h.resolve_left (by simp)
  | cons c l ih =>
    rw [List.foldl_cons]
    refine ih ?_
    rcases h with ⟨h, rfl⟩ | h
    · rcases List.mem_cons.1 h with rfl | h
      · exact .inr (caused_raise _ (by decide) _ _)
      · exact .inl ⟨h, rfl⟩
    · exact .inr (caused_raise_of (by decide) hv h)

/-- The causes latched. -/
def latchedCauses (s : State) : List Cause := aonCauses.filter (fun c => decide (s.aon.latched / 2 ^ c.bit % 2 = 1))

/-- The latch is clear. -/
def unlatch (s : State) : State := updAon (fun a => { a with latched := 0 }) s

theorem reportLatched_eq (s : State) : reportLatched s = (latchedCauses s).foldl (fun s c => raise0 c s) (unlatch s) := rfl

theorem mem_latchedCauses {s : State} {c : Cause} : c ∈ latchedCauses s ↔ c ∈ aonCauses ∧ s.aon.latched / 2 ^ c.bit % 2 = 1 := by
  simp [latchedCauses]

theorem reportLatched_frame (s : State) : Only [.regs] (unlatch s) (reportLatched s) ∧
    RegsOnly (· = 0x010148) s (reportLatched s) := by
  rw [reportLatched_eq]
  refine ⟨Only.foldl_mem (fun t c hc => only_raise0_none (aonCause_info (mem_latchedCauses.1 hc).1).2.1 t) _, ?_⟩
  refine (regsOnly_of_regs (t := unlatch s) rfl).trans (RegsOnly.foldl_mem (fun t c hc => ?_) _)
  have hc := (mem_latchedCauses.1 hc).1
  exact (regsOnly_raise0_none (aonCause_info hc).2.1 t).mono fun o ho => ho.trans (aonCause_reg hc)

theorem caused_reportLatched {s : State} {d : Cause} {v : Nat} (hv : v < 32)
    (h : d ∈ latchedCauses s ∧ v = 0 ∨ Caused s d v) : Caused (reportLatched s) d v := caused_foldl_raise0 hv h

/-! ### Back in RUN -/

/-- RESULT DONE and PSTATE_DONE. -/
def runDone (s : State) : State := raise0 .pstateDone (wrf (wrf s oPwrStatus 0 3 0) oPwrStatus 8 3 1)

theorem backInRun_eq (s : State) : backInRun s = reportLatched (runDone s) := rfl

/-- The registers of a restart. -/
def RestartReg (o : Nat) : Prop := o = oPwrStatus ∨ o = 0x010140 ∨ o = 0x010148

theorem runDone_frame (s : State) : Only [.regs] s (runDone s) ∧ RegsOnly RestartReg s (runDone s) := by
  refine ⟨((only_wrf _ _ _ _ _).trans (only_wrf _ _ _ _ _)).trans (only_raise0_none rfl _), ?_⟩
  exact ((regsOnly_wrf _ _ _ _ (.inl rfl)).trans (regsOnly_wrf _ _ _ _ (.inl rfl))).trans
    ((regsOnly_raise0_none rfl _).mono fun o h => .inr (.inl h))

theorem runDone_status (s : State) : pwrState (runDone s) = 0 ∧ rdf (runDone s) oPwrStatus 8 3 = 1 := by
  have h : rd (runDone s) oPwrStatus = rd (wrf (wrf s oPwrStatus 0 3 0) oPwrStatus 8 3 1) oPwrStatus :=
    regsOnly_raise0_none rfl _ _ (by decide)
  constructor
  · rw [pwrState, rdf, h, ← rdf, rdf_wrf_field_ne _ _ _ _ _ _ _ (by decide) (by decide), rdf_wrf_same _ _ _ _ _ (by decide)]
    rfl
  · rw [rdf, h, ← rdf, rdf_wrf_same _ _ _ _ _ (by decide)]
    rfl

theorem backInRun_frame (s : State) : Only [.aon, .regs] s (backInRun s) ∧ RegsOnly RestartReg s (backInRun s) ∧
    (backInRun s).aon = { s.aon with latched := 0 } := by
  obtain ⟨h1, h2⟩ := reportLatched_frame (runDone s)
  obtain ⟨h3, h4⟩ := runDone_frame s
  refine ⟨?_, h4.trans (h2.mono fun o h => .inr (.inr h)), ?_⟩
  · exact (h3.mono (by simp)).trans (((only_updAon _ _).mono (by simp)).trans (h1.mono (by simp)))
  · rw [backInRun_eq, h1.aon]
    exact congrArg (fun a : AonSide => { a with latched := 0 }) h3.aon

theorem backInRun_status (s : State) : pwrState (backInRun s) = 0 ∧ rdf (backInRun s) oPwrStatus 8 3 = 1 ∧
    Caused (backInRun s) .pstateDone 0 := by
  have h : rd (backInRun s) oPwrStatus = rd (runDone s) oPwrStatus := (reportLatched_frame (runDone s)).2 _ (by decide)
  obtain ⟨h1, h2⟩ := runDone_status s
  refine ⟨?_, ?_, caused_reportLatched (by decide) (.inr (caused_raise .pstateDone (by decide) _ _))⟩
  · rw [pwrState, rdf, h]
    exact h1
  · rw [rdf, h]
    exact h2

/-- The causes latched are set as the block restarts. -/
theorem caused_backInRun {s : State} {c : Cause} (hc : c ∈ aonCauses) (hl : s.aon.latched / 2 ^ c.bit % 2 = 1) :
    Caused (backInRun s) c 0 := by
  refine caused_reportLatched (by decide) (.inl ⟨mem_latchedCauses.2 ⟨hc, ?_⟩, rfl⟩)
  exact (congrArg (fun a : AonSide => a.latched / 2 ^ c.bit % 2) (runDone_frame s).1.aon).trans hl

/-! ### Wakes from RETAIN and OFF -/

/-- What a restart leaves of the always-on island. -/
def restartedAon (s : State) : AonSide :=
  { s.aon with
    pgate := false
    fuseCopy := if pwrState s = 3 then s.aon.fuses else s.aon.fuseCopy
    stepQ := []
    stepWait := 0
    latched := 0 }

/-- The island side of a restart, before the block is back in RUN. -/
def ungated (s : State) : State :=
  stepsTaken (startLaps (updAon (fun a => { a with
    pgate := false, fuseCopy := if pwrState s = 3 then a.fuses else a.fuseCopy }) s))

theorem restart_eq (s : State) : restart s = backInRun (ungated s) := rfl

theorem only_stepsTaken (s : State) : Only [.aon] s (stepsTaken s) := only_updAon _ _

theorem ungated_frame (s : State) : Only [.aon, .sheet, .mem] s (ungated s) ∧
    (ungated s).sheet = { s.sheet with scrubLapStart := s.aon.ft } ∧
    (ungated s).mem = { s.mem with poolStart := s.aon.ft, chans := (ungated s).mem.chans } ∧
    (∀ m, m < 8 → chanOf (ungated s) m = { chanOf s m with lapStart := s.aon.ft }) ∧
    (ungated s).aon = { s.aon with
      pgate := false
      fuseCopy := if pwrState s = 3 then s.aon.fuses else s.aon.fuseCopy
      stepQ := []
      stepWait := 0 } := by
  have hu := only_updAon (fun a => { a with pgate := false, fuseCopy := if pwrState s = 3 then a.fuses else a.fuseCopy }) s
  have ha : (updAon (fun a => { a with pgate := false, fuseCopy := if pwrState s = 3 then a.fuses else a.fuseCopy }) s).aon =
    { s.aon with pgate := false, fuseCopy := if pwrState s = 3 then s.aon.fuses else s.aon.fuseCopy } := rfl
  have hs : (ungated s) = stepsTaken (startLaps
    (updAon (fun a => { a with pgate := false, fuseCopy := if pwrState s = 3 then a.fuses else a.fuseCopy }) s)) := rfl
  generalize updAon (fun a => { a with pgate := false, fuseCopy := if pwrState s = 3 then a.fuses else a.fuseCopy }) s = u at hu ha hs
  obtain ⟨h1, h2, h3⟩ := startLaps_keeps u
  have h4 := fun m (hm : m < 8) => chanOf_startLaps hm u
  rw [hs]
  generalize startLaps u = v at h1 h2 h3 h4 ⊢
  have hft : u.aon.ft = s.aon.ft := by rw [ha]
  refine ⟨(hu.mono (by simp)).trans ((h1.mono (by simp)).trans ((only_stepsTaken v).mono (by simp))), ?_, ?_, fun m hm => ?_, ?_⟩
  · rw [stepsTaken_sheet, h2, hu.sheet, hft]
  · rw [stepsTaken_mem, ← hu.mem, ← hft]
    exact h3
  · have hc : chanOf (stepsTaken v) m = chanOf v m := chanOf_congr (by rw [stepsTaken_mem]) m
    rw [hc, h4 m hm, chanOf_congr (congrArg MemSide.chans hu.mem), hft]
  · rw [stepsTaken_aon, h1.aon, ha]

theorem restart_frame (s : State) : Only [.aon, .regs, .sheet, .mem] s (restart s) ∧ RegsOnly RestartReg s (restart s) ∧
    (restart s).sheet = { s.sheet with scrubLapStart := s.aon.ft } ∧
    (restart s).mem = { s.mem with poolStart := s.aon.ft, chans := (restart s).mem.chans } ∧
    (∀ m, m < 8 → chanOf (restart s) m = { chanOf s m with lapStart := s.aon.ft }) ∧ (restart s).aon = restartedAon s := by
  obtain ⟨h1, h2, h3, h4, h5⟩ := ungated_frame s
  obtain ⟨g1, g2, g3⟩ := backInRun_frame (ungated s)
  refine ⟨(h1.mono (by simp)).trans (g1.mono (by simp)), (regsOnly_of_regs h1.regs).trans g2, g1.sheet.trans h2, ?_,
    fun m hm => (chanOf_congr (congrArg MemSide.chans g1.mem) m).trans (h4 m hm), ?_⟩
  · rw [restart_eq, g1.mem]
    exact h3
  · rw [restart_eq, g3, h5]
    rfl

theorem rd_noteWake_ne {o : Nat} (h : o ≠ oAonSts) (w : Nat) (b : Bool) (s : State) : rd (noteWake w b s) o = rd s o := by
  rw [noteWake, rd_wrf_ne _ _ _ _ h, rd_wrf_ne _ _ _ _ h]

theorem only_noteWake (w : Nat) (b : Bool) (s : State) : Only [.regs] s (noteWake w b s) :=
  (only_wrf _ _ _ _ _).trans (only_wrf _ _ _ _ _)

theorem noteWake_woke (w : Nat) (b : Bool) (s : State) : rdf (noteWake w b s) oAonSts 8 6 = w % 2 ^ 6 := by
  rw [noteWake, rdf_wrf_field_ne _ _ _ _ _ _ _ (by decide) (by decide), rdf_wrf_same _ _ _ _ _ (by decide)]

theorem noteWake_wrst (w : Nat) (b : Bool) (s : State) : bitOf (rd (noteWake w b s) oAonSts) 16 = b := by
  rw [noteWake, rd_wrf_same, bitOf_setFld_one _ _ _ (by decide)]
  cases b <;> rfl

theorem caused_noteWake {c : Cause} {u : Nat} (hu : u < 32) (w : Nat) (b : Bool) (s : State) :
    Caused (noteWake w b s) c u ↔ Caused s c u := by
  have h := (causeReg_range (c := c) hu).1
  rw [Caused, Caused, rd_noteWake_ne (by unfold oAonSts; omega)]

/-- A wake from RETAIN or OFF. -/
theorem wakeUp_deep {s : State} {src : WakeSrc} (hp : s.aon.porstLow = false) (hd : pwrState s = 2 ∨ pwrState s = 3)
    (hw : wakes src s = true) : wakeUp src s = noteOf src (restart s) := by
  unfold wakeUp
  rw [hp, hw, if_neg (by decide)]
  rcases hd with hd | hd <;> rw [hd] <;> rfl

/-- In RUN nothing wakes the block. -/
theorem wakeUp_run {s : State} (h : pwrState s = 0) (src : WakeSrc) : wakeUp src s = s := by
  unfold wakeUp
  rw [h]
  split <;> rfl

theorem timeless_restart (s : State) : Timeless s (restart s) := by
  obtain ⟨h, -, -, -, -, ha⟩ := restart_frame s
  refine ⟨⟨h.pending, ?_, ?_, ?_, ?_⟩, ?_, ?_⟩ <;> rw [ha] <;> rfl

/-! ### Comparators (R358) -/

/-- A comparator's output is 1. -/
def shown (c : Cause) (s : State) : State := wrf s oAonSts c.bit 1 1

theorem shown_bit {c : Cause} (h : c ∈ aonCauses) (s : State) : bitOf (rd (shown c s) oAonSts) c.bit = true := by
  have := (aonCause_info h).2.2
  rw [shown, rd_wrf_same, bitOf_setFld_one _ _ _ (by omega)]
  rfl

theorem pwrState_shown (c : Cause) (s : State) : pwrState (shown c s) = pwrState s := rdf_wrf_ne _ _ _ _ _ _ (by decide)

theorem pwrState_raise0 {c : Cause} (h : c ∈ aonCauses) (s : State) : pwrState (raise0 c s) = pwrState s := by
  rw [pwrState, pwrState, rdf, rdf, regsOnly_raise0_none (aonCause_info h).2.1 s oPwrStatus (by rw [aonCause_reg h]; decide)]

/-- A comparator that trips in RUN shows and raises its cause. -/
theorem trip_run {c : Cause} (hc : c ∈ aonCauses) {s : State} (h : pwrState s = 0) : trip c s = raise0 c (shown c s) := by
  have hs : pwrState (shown c s) = 0 := (pwrState_shown c s).trans h
  change wakeUp _ (if pwrState (shown c s) = 0 then raise0 c (shown c s) else _) = _
  rw [if_pos hs, wakeUp_run ((pwrState_raise0 hc _).trans hs)]

/-- What a comparator leaves that has tripped in RUN. -/
theorem tripped_run {c : Cause} (hc : c ∈ aonCauses) (s : State) :
    bitOf (rd (raise0 c (shown c s)) oAonSts) c.bit = true ∧ Caused (raise0 c (shown c s)) c 0 ∧
      Only [.regs] s (raise0 c (shown c s)) ∧ RegsOnly (fun o => o = oAonSts ∨ o = 0x010148) s (raise0 c (shown c s)) := by
  have hr := regsOnly_raise0_none (aonCause_info hc).2.1 (shown c s)
  rw [aonCause_reg hc] at hr
  refine ⟨?_, caused_raise c (by decide) _ _, (only_wrf _ _ _ _ _).trans (only_raise0_none (aonCause_info hc).2.1 _), ?_⟩
  · rw [hr _ (by decide), shown_bit hc]
  · exact RegsOnly.trans (regsOnly_wrf _ _ _ _ (.inl rfl)) (hr.mono fun o h => .inr h)

/-- The causes latched take one more. -/
def latch (c : Cause) (s : State) : State := updAon (fun a => { a with latched := Nat.lor a.latched (2 ^ c.bit) }) (shown c s)

/-- A comparator that trips in RETAIN, and that AON_WAKE enables, wakes the block. -/
theorem trip_retain {c : Cause} (hc : c ∈ aonCauses) {s : State} (hp : s.aon.porstLow = false) (h : pwrState s = 2)
    (hen : bitOf (rd s 0x300) c.bit = true) : trip c s = noteWake (2 ^ c.bit) false (restart (latch c s)) := by
  have hs : pwrState (shown c s) = 2 := (pwrState_shown c s).trans h
  have hl : pwrState (latch c s) = 2 := hs
  have hw : wakes (.comparator c.bit) (latch c s) = true := by
    have h1 : bitOf (rd (latch c s) 0x300) c.bit = true := (congrArg (bitOf · c.bit) (rd_wrf_ne s _ _ _ (by decide))).trans hen
    have h2 : bitOf (rd (latch c s) oAonSts) c.bit = true := shown_bit hc s
    simp [wakes, (aonCause_info hc).2.2, h1, h2]
  change wakeUp (.comparator c.bit) (if pwrState (shown c s) = 0 then _ else latch c s) = _
  rw [if_neg (by rw [hs]; decide), wakeUp_deep (s := latch c s) hp (.inl hl) hw]
  rfl

theorem latch_bit (a i : Nat) : Nat.lor a (2 ^ i) / 2 ^ i % 2 = 1 := by
  have h : (a ||| 2 ^ i).testBit i = true := by simp [Nat.testBit_or]
  rw [Nat.testBit_eq_decide_div_mod_eq] at h
  exact of_decide_eq_true h

end Sys2Proof.Machine
end

section
/-! PROOFS. Comparators that trip, heat and droop (R350 to R352, R358). -/

namespace Sys2Proof.Machine

/-! ### What a class counts -/

/-- The Proof Strip, FLT_STATUS and FLT_SUSPECT: what a class's action changes. -/
def StripReg (o : Nat) : Prop := o = oFltStatus ∨ o = oSuspect ∨ o = oPsSeq ∨ 0x010400 ≤ o ∧ o < 0x010800

theorem regsOnly_psWrite_strip (c : Cause) (k : Class) (r : PsRec) (s : State) : RegsOnly StripReg s (psWrite c k r s) := by
  have hps : ∀ q w, w < 8 → StripReg (oPs (q % 32) w) := fun q w hw => .inr (.inr (.inr (by unfold oPs; omega)))
  unfold psWrite
  refine RegsOnly.trans ?_ (regsOnly_wr _ _ (.inr (.inr (.inl rfl))))
  iterate 8 refine RegsOnly.trans ?_ (regsOnly_wr _ _ (hps _ _ (by decide)))
  exact RegsOnly.refl _ _

theorem regsOnly_suspectMark_strip (c : Cause) (u : Nat) (s : State) : RegsOnly StripReg s (suspectMark c u s) := by
  unfold suspectMark
  dsimp only
  have h1 : ∀ t : State, ∀ v, RegsOnly StripReg t (wr t oSuspect v) := fun t v => regsOnly_wr _ _ (.inr (.inl rfl))
  have h2 : ∀ t : State, RegsOnly StripReg t (wrf t oFltStatus 2 1 1) := fun t => regsOnly_wrf _ _ _ _ (.inl rfl)
  split <;> split
  · exact (h1 _ _).trans (h2 _)
  · exact h2 _
  · exact h1 _ _
  · exact RegsOnly.refl _ _

theorem regsOnly_gfEnter_strip (c : Cause) (u : Nat) (s : State) : RegsOnly StripReg s (gfEnter c u s) := by
  unfold gfEnter
  split
  · exact regsOnly_suspectMark_strip c u s
  · refine RegsOnly.trans (regsOnly_suspectMark_strip c u s) ?_
    refine RegsOnly.trans (regsOnly_wrf _ 0 1 1 (.inl rfl)) ?_
    refine RegsOnly.trans (regsOnly_wrf _ 23 4 c.domain (.inl rfl)) ?_
    refine RegsOnly.trans (regsOnly_wrf _ 27 5 c.bit (.inl rfl)) ?_
    exact regsOnly_of_regs rfl

theorem regsOnly_classAct_strip (c : Cause) (u : Nat) (r : PsRec) (s : State) : RegsOnly StripReg s (classAct c u r s) := by
  unfold classAct
  split
  · exact RegsOnly.refl _ _
  · exact RegsOnly.refl _ _
  · exact regsOnly_psWrite_strip _ _ _ _
  · exact regsOnly_psWrite_strip _ _ _ _
  · exact (regsOnly_psWrite_strip _ _ _ _).trans (regsOnly_gfEnter_strip _ _ _)

/-- A raised cause is counted by its class (R325). -/
theorem rd_raise_counter {c : Cause} {o u : Nat} (h : classCounter c.cls = some o) (hu : u < 32) (r : PsRec) (s : State) :
    rd (raise c u r s) o = satInc32 (rd s o) := by
  have ho : 0x010020 ≤ o ∧ o < 0x010030 := by
    cases hc : c.cls <;> rw [hc] at h <;> simp [classCounter] at h <;> omega
  have hr := (causeReg_range (c := c) hu).1
  have hn : ¬ StripReg o := by unfold StripReg oFltStatus oSuspect oPsSeq; omega
  have hcount : classCount c (setCause c u s) = wr (setCause c u s) o (satInc32 (rd (setCause c u s) o)) := by
    rw [classCount, h]
  have hset : rd (setCause c u s) o = rd s o := rd_wr_ne _ _ (by omega)
  rw [raise_eq, regsOnly_classAct_strip _ _ _ _ _ hn, hcount, rd_wr_same, hset]

theorem caused_raise0 (c : Cause) (s : State) : Caused (raise0 c s) c 0 := caused_raise c (by decide) _ s

/-! ### A comparator trips -/

/-- The alarm armed or not. -/
def armed (b : Bool) (s : State) : State := updAon (fun a => { a with alarmArmed := b }) s

/-- A comparator that trips in RUN, whatever becomes of the alarm. -/
theorem exec_trip_run {i : Instr} {c : Cause} {f : State → State} {b : Bool} {s : State} (hp : s.aon.porstLow = false)
    (hr : pwrState s = 0) (hc : c ∈ aonCauses) (hex : exec i s = .next (awake f s)) (hf : f s = trip c (armed b s)) :
    ∃ t, exec i s = .next t ∧ bitOf (rd t oAonSts) c.bit = true ∧ Caused t c 0 ∧
      t.aon = { s.aon with alarmArmed := b } ∧ Only [.aon, .regs] s t ∧ RegsOnly (fun o => o = oAonSts ∨ o = 0x010148) s t := by
  obtain ⟨h1, h2, h3, h4⟩ := tripped_run hc (armed b s)
  have ha : (raise0 c (shown c (armed b s))).aon = { s.aon with alarmArmed := b } := h3.aon
  refine ⟨_, hex.trans (awake_timeless hp (hf.trans (trip_run hc (s := armed b s) hr)) ?_), h1, h2, ha,
    ((only_updAon _ _).mono (by simp)).trans (h3.mono (by simp)), (regsOnly_of_regs (t := armed b s) rfl).trans h4⟩
  refine ⟨⟨h3.pending, ?_, ?_, ?_, ?_⟩, ?_, ?_⟩ <;> rw [ha]

/-- A comparator that trips in RETAIN and wakes the block. -/
theorem exec_trip_retain {i : Instr} {c : Cause} {f : State → State} {s : State} (hp : s.aon.porstLow = false)
    (hr : pwrState s = 2) (hc : c ∈ aonCauses) (hen : bitOf (rd s 0x300) c.bit = true) (hex : exec i s = .next (awake f s))
    (hf : f s = trip c s) :
    ∃ t, exec i s = .next t ∧ pwrState t = 0 ∧ Caused t c 0 ∧ Caused t .pstateDone 0 ∧ t.aon.pgate = false ∧
      t.aon.latched = 0 ∧ rdf t oAonSts 8 6 = 2 ^ c.bit ∧ Only [.aon, .regs, .sheet, .mem] s t := by
  let u := restart (latch c s)
  obtain ⟨h1, h2, -, -, -, h6⟩ := restart_frame (latch c s)
  obtain ⟨g1, -, g3⟩ := backInRun_status (ungated (latch c s))
  have hk := (only_noteWake (2 ^ c.bit) false u)
  have ha : (noteWake (2 ^ c.bit) false u).aon = restartedAon (latch c s) := hk.aon.trans h6
  have hbit := (aonCause_info hc).2.2
  have hs : Only [.aon, .regs, .sheet, .mem] s (latch c s) :=
    ((only_wrf _ _ _ _ _).mono (by simp)).trans ((only_updAon _ _).mono (by simp))
  refine ⟨_, hex.trans (awake_timeless hp (hf.trans (trip_retain hc hp hr hen)) ?_), ?_, ?_, ?_, congrArg AonSide.pgate ha,
    congrArg AonSide.latched ha, ?_, hs.trans (h1.trans (hk.mono (by simp)))⟩
  · refine ⟨⟨hk.pending.trans h1.pending, ?_, ?_, ?_, ?_⟩, ?_, ?_⟩ <;> rw [ha] <;> rfl
  · rw [pwrState, rdf, rd_noteWake_ne (by decide)]
    exact g1
  · rw [caused_noteWake (by decide)]
    refine caused_backInRun hc ?_
    exact (congrArg (fun a : AonSide => a.latched / 2 ^ c.bit % 2) (ungated_frame (latch c s)).2.2.2.2).trans (latch_bit _ _)
  · rw [caused_noteWake (by decide)]
    exact g3
  · rw [noteWake_woke]
    exact Nat.mod_eq_of_lt (Nat.pow_lt_pow_right (by decide) hbit)

theorem deepState_of_run {s : State} (h : pwrState s = 0) : deepState s = false := by
  unfold pwrState at h
  simp [deepState, h]

theorem opVcoreLo_run {s : State} (h : pwrState s = 0) : opVcoreLo s = trip .vcoreLo s := by
  rw [opVcoreLo, deepState_of_run h, if_neg (by decide)]

theorem opVddqLo_on {s : State} (h : pwrState s ≠ 3) : opVddqLo s = trip .vddqLo s := if_neg h

theorem opLaneWake_selected {s : State} (h : rd s 0x310 ≠ 0) : opLaneWake s = trip .laneWake s := if_neg h

theorem opTimeAlarm_due {s : State} (ha : s.aon.alarmArmed = true) (h : rd s 0x318 ≤ s.aon.ft) :
    opTimeAlarm s = trip .timeAlarm (armed false s) := by
  have hn : ¬ s.aon.ft < rd s 0x318 := BitVec.not_lt.2 h
  unfold opTimeAlarm
  rw [ha, decide_eq_false hn]
  rfl

theorem exec_vcoreLo_deep {s : State} (h : deepState s = true) : exec .vcoreLo s = .next s := by
  change Host.Outcome.next (awake opVcoreLo s) = _
  unfold awake
  split
  · rfl
  · rw [untimed_of_timeless (f := opVcoreLo) (t := s) (if_pos h) (timeless_of_aon rfl rfl)]

/-! ### Heat (R350, R351) -/

/-- The register that shows a sensor. -/
def oTemp (k : Nat) : Nat := 0x220 + 4 * (k / 2)

/-- A sensor's reading as PWR_TEMP shows it. -/
def tempShown (s : State) (k : Nat) : Nat := rdf s (oTemp k) (16 * (k % 2)) 16

/-- The registers a reading shows in. -/
def TempReg (o : Nat) : Prop := 0x220 ≤ o ∧ o ≤ 0x240

theorem only_takeTemp (k : Nat) (r : BitVec 16) (s : State) : Only [.regs] s (takeTemp k r s) := by
  unfold takeTemp
  dsimp only
  split
  · exact ((only_wrf _ _ _ _ _).trans (only_wrf _ _ _ _ _)).trans (only_wrf _ _ _ _ _)
  · exact only_wrf _ _ _ _ _

/-- A reading changes PWR_TEMP as one field write does: PWR_TMAX lies above it. -/
theorem rd_takeTemp (k : Nat) (r : BitVec 16) (s : State) {o : Nat} (ho : o < 0x240) :
    rd (takeTemp k r s) o = rd (wrf s (oTemp k) (16 * (k % 2)) 16 r.toNat) o := by
  unfold takeTemp
  dsimp only
  split
  · rw [rd_wrf_ne _ _ _ _ (by omega), rd_wrf_ne _ _ _ _ (by omega)]
    rfl
  · rfl

section
variable {k : Nat} (hk : k < 16) (r : BitVec 16) (s : State)
include hk

theorem regsOnly_takeTemp : RegsOnly TempReg s (takeTemp k r s) := by
  have h1 : TempReg (oTemp k) := by unfold TempReg oTemp; omega
  have h2 : TempReg 0x240 := by unfold TempReg; omega
  unfold takeTemp
  dsimp only
  split
  · exact ((regsOnly_wrf _ _ _ _ h1).trans (regsOnly_wrf _ _ _ _ h2)).trans (regsOnly_wrf _ _ _ _ h2)
  · exact regsOnly_wrf _ _ _ _ h1

theorem tempShown_takeTemp_same : tempShown (takeTemp k r s) k = r.toNat := by
  rw [tempShown, rdf, rd_takeTemp k r s (by unfold oTemp; omega), ← rdf, rdf_wrf_same _ _ _ _ _ (by omega)]
  exact Nat.mod_eq_of_lt r.isLt

end

theorem tempShown_takeTemp_ne (k : Nat) (r : BitVec 16) (s : State) {j : Nat} (hj : j < 16) (h : j ≠ k) : tempShown (takeTemp k r s) j = tempShown s j := by
  rw [tempShown, rdf, rd_takeTemp k r s (by unfold oTemp; omega), ← rdf, tempShown]
  by_cases ho : oTemp j = oTemp k
  · rw [ho, rdf_wrf_field_ne _ _ _ _ _ _ _ (by unfold oTemp at ho; omega) (by omega)]
  · rw [rdf_wrf_ne _ _ _ _ _ _ ho]

theorem takeTemps_frame (i : Nat) (ts : List (BitVec 16)) (s : State) :
    Only [.regs] s (takeTemps i ts s) ∧ RegsOnly TempReg s (takeTemps i ts s) := by
  induction ts generalizing i s with
  | nil => exact ⟨Only.refl _ _, RegsOnly.refl _ _⟩
  | cons t ts ih =>
    rw [takeTemps]
    split
    next hi =>
      obtain ⟨h1, h2⟩ := ih (i + 1) (takeTemp i t s)
      exact ⟨(only_takeTemp i t s).trans h1, (regsOnly_takeTemp hi t s).trans h2⟩
    next => exact ⟨Only.refl _ _, RegsOnly.refl _ _⟩

/-- Readings of sensors `i` upward: each shows, and those below stay. -/
theorem tempShown_takeTemps {j : Nat} (hj : j < 16) (i : Nat) (ts : List (BitVec 16)) (s : State) :
    tempShown (takeTemps i ts s) j =
      if i ≤ j ∧ j < i + ts.length then (ts.getD (j - i) 0).toNat else tempShown s j := by
  induction ts generalizing i s with
  | nil =>
    rw [if_neg (by simp only [List.length_nil]; omega)]
    rfl
  | cons t ts ih =>
    rw [takeTemps]
    by_cases hi : i < 16
    · rw [if_pos hi, ih (i + 1)]
      simp only [List.length_cons]
      by_cases he : j = i
      · subst he
        rw [if_neg (by omega), if_pos (by omega), tempShown_takeTemp_same hi, Nat.sub_self]
        rfl
      · rw [tempShown_takeTemp_ne i t s hj he]
        by_cases hl : i + 1 ≤ j ∧ j < i + 1 + ts.length
        · rw [if_pos hl, if_pos (by omega), show j - i = (j - (i + 1)) + 1 by omega, List.getD_cons_succ]
        · rw [if_neg hl, if_neg (by omega)]
    · rw [if_neg hi, if_neg (by omega)]

theorem signedOf_toNat (r : BitVec 16) : signedOf r.toNat 16 = r.toInt := by
  rw [signedOf, BitVec.toInt_eq_toNat_cond]
  split <;> split <;> omega

theorem exec_thrOn {k : Nat} {r : BitVec 16} {s : State} (hk : k < 16) (ha : asleep s = false)
    (hon : bitOf (rd s oPwrStatus) 12 = false) (hr : signedOf (rdf s 0x210 0 16) 16 ≤ r.toInt) :
    ∃ t, exec (.thrOn k r) s = .next t ∧ bitOf (rd t oPwrStatus) 12 = true ∧ Caused t .thrOn 0 ∧
      tempShown t k = r.toNat ∧ Only [.regs] s t := by
  let u := takeTemp k r s
  have hregs := regsOnly_takeTemp hk r s
  have h12 : bitOf (rd u oPwrStatus) 12 = false := by rw [hregs _ (by unfold TempReg oPwrStatus; omega), hon]
  have h210 : rdf u 0x210 0 16 = rdf s 0x210 0 16 := by rw [rdf, hregs _ (by unfold TempReg; omega), rdf]
  have hop : opThrOn k r s = raise0 .thrOn (wrf u oPwrStatus 12 1 1) := by
    change (if bitOf (rd u oPwrStatus) 12 || decide (r.toInt < signedOf (rdf u 0x210 0 16) 16) then u else _) = _
    rw [h12, h210, if_neg (by simp; omega)]
  have hc := regsOnly_raise0_none (c := .thrOn) rfl (wrf u oPwrStatus 12 1 1)
  have hf : Only [.regs] s (raise0 .thrOn (wrf u oPwrStatus 12 1 1)) :=
    ((only_takeTemp k r s).trans (only_wrf _ _ _ _ _)).trans (only_raise0_none rfl _)
  refine ⟨_, ?_, ?_, caused_raise0 .thrOn _, ?_, hf⟩
  · exact (onUnit_true (decide_eq_true hk) _ _).trans (live_timeless ha hop (timeless_of_aon hf.pending hf.aon))
  · rw [hc _ (by decide), rd_wrf_same, bitOf_setFld_one _ _ _ (by decide)]
    rfl
  · have ho : oTemp k ≠ causeReg Cause.thrOn.domain 0 := by
      have : causeReg Cause.thrOn.domain 0 = 0x010140 := rfl
      unfold oTemp; omega
    have ho' : oTemp k ≠ oPwrStatus := by unfold oTemp oPwrStatus; omega
    rw [tempShown, rdf, hc _ ho, rd_wrf_ne _ _ _ _ ho']
    exact tempShown_takeTemp_same hk r s

theorem exec_thrOff {ts : List (BitVec 16)} {s : State} (ha : asleep s = false) (hl : ts.length = 16)
    (hon : bitOf (rd s oPwrStatus) 12 = true) (hr : ∀ v ∈ ts, v.toInt ≤ signedOf (rdf s 0x210 16 16) 16) :
    ∃ t, exec (.thrOff ts) s = .next t ∧ bitOf (rd t oPwrStatus) 12 = false ∧ Caused t .thrOff 0 ∧
      (∀ i, i < 16 → tempShown t i = (ts.getD i 0).toNat) ∧ Only [.regs] s t := by
  let u := takeTemps 0 ts s
  obtain ⟨honly, hregs⟩ := takeTemps_frame 0 ts s
  have hshown : ∀ i, i < 16 → tempShown u i = (ts.getD i 0).toNat := fun i hi => by
    rw [tempShown_takeTemps hi, if_pos (by omega), Nat.sub_zero]
  have h12 : bitOf (rd u oPwrStatus) 12 = true := by rw [hregs _ (by unfold TempReg oPwrStatus; omega), hon]
  have h210 : rdf u 0x210 16 16 = rdf s 0x210 16 16 := by rw [rdf, hregs _ (by unfold TempReg; omega), rdf]
  have hall : (List.range 16).all (fun i => decide (signedOf (tempShown u i) 16 ≤ signedOf (rdf u 0x210 16 16) 16)) = true := by
    rw [List.all_eq_true]
    intro i hi
    have hi := List.mem_range.1 hi
    rw [hshown i hi, signedOf_toNat, h210]
    refine decide_eq_true (hr _ ?_)
    rw [List.getD_eq_getElem _ _ (by omega)]
    exact List.getElem_mem _
  have hop : opThrOff ts s = raise0 .thrOff (wrf u oPwrStatus 12 1 0) := by
    change (if !bitOf (rd u oPwrStatus) 12 ||
      !((List.range 16).all (fun i => decide (signedOf (tempShown u i) 16 ≤ signedOf (rdf u 0x210 16 16) 16))) then u else _) = _
    rw [h12, hall]
    rfl
  have hc := regsOnly_raise0_none (c := .thrOff) rfl (wrf u oPwrStatus 12 1 0)
  have hf : Only [.regs] s (raise0 .thrOff (wrf u oPwrStatus 12 1 0)) :=
    (honly.trans (only_wrf _ _ _ _ _)).trans (only_raise0_none rfl _)
  refine ⟨_, live_timeless ha hop (timeless_of_aon hf.pending hf.aon), ?_, caused_raise0 .thrOff _,
    fun i hi => ?_, hf⟩
  · rw [hc _ (by decide), rd_wrf_same, bitOf_setFld_one _ _ _ (by decide)]
    rfl
  · have ho : oTemp i ≠ causeReg Cause.thrOff.domain 0 := by
      have : causeReg Cause.thrOff.domain 0 = 0x010140 := rfl
      unfold oTemp; omega
    have ho' : oTemp i ≠ oPwrStatus := by unfold oTemp oPwrStatus; omega
    rw [tempShown, rdf, hc _ ho, rd_wrf_ne _ _ _ _ ho']
    exact hshown i hi

theorem exec_tjCrit {k : Nat} {r : BitVec 16} {s : State} (hk : k < 16) (ha : asleep s = false) (hr : 920 ≤ r.toInt) :
    ∃ t, exec (.tjCrit k r) s = .next t ∧ isSafe t = true ∧ Caused t .tjCrit 0 ∧
      rd t 0x01002C = satInc32 (rd s 0x01002C) ∧ tempShown t k = r.toNat ∧ Only [.regs, .safe] s t := by
  have hop : opTjCrit k r s = raise .tjCrit 0 ⟨8, 0xFF, k, r.toNat, 0, 0⟩ (takeTemp k r s) := if_neg (by omega)
  have hf := (only_takeTemp k r s).mono (l := [.regs, .safe]) (by simp)
  have hf := hf.trans (only_raise .tjCrit 0 ⟨8, 0xFF, k, r.toNat, 0, 0⟩ (takeTemp k r s))
  refine ⟨_, ?_, isSafe_raise_gf rfl _ _ _, caused_raise .tjCrit (by decide) _ _, ?_, ?_, hf⟩
  · exact (onUnit_true (decide_eq_true hk) _ _).trans (live_timeless ha hop (timeless_of_aon hf.pending hf.aon))
  · rw [rd_raise_counter (c := .tjCrit) rfl (by decide), regsOnly_takeTemp hk r s _ (by unfold TempReg; omega)]
  · have hn : ¬(oTemp k = causeReg Cause.tjCrit.domain 0 ∨ ClassReg (oTemp k)) := by
      have : causeReg Cause.tjCrit.domain 0 = 0x010140 := rfl
      unfold oTemp ClassReg; omega
    rw [tempShown, rdf, regsOnly_raise _ _ _ _ _ hn]
    exact tempShown_takeTemp_same hk r s

theorem only_statAdd (ev scope unit n : Nat) (s : State) : Only [.meter] s (statAdd ev scope unit n s) := by
  simp [only_iff, statAdd]

theorem exec_droop {k : Nat} {s : State} (hk : k < 8) (ha : asleep s = false) (hr : pwrState s = 0) :
    ∃ t, exec (.droop k) s = .next t ∧ rd t 0x244 = satInc32 (rd s 0x244) ∧ Caused t .droop 0 ∧
      rd t 0x010020 = satInc32 (rd s 0x010020) ∧ Only [.regs, .meter] s t := by
  let u := statAdd 0x105 5 k 1 (wr s 0x244 (satInc32 (rd s 0x244)))
  have hu : Only [.regs, .meter] s u := ((only_wr _ _ _).mono (by simp)).trans ((only_statAdd _ _ _ _ _).mono (by simp))
  have hf : Only [.regs, .meter] s (raise0 .droop u) := hu.trans ((only_raise_ce (.inr rfl) _ _ _).mono (by simp))
  have hop : (fun s => if pwrState s = 0 then opDroop k s else s) s = raise0 .droop u := if_pos hr
  refine ⟨_, ?_, ?_, caused_raise0 .droop _, ?_, hf⟩
  · exact (onUnit_true (decide_eq_true hk) _ _).trans (live_timeless ha hop (timeless_of_aon hf.pending hf.aon))
  · have hn : ¬(0x244 = causeReg Cause.droop.domain 0 ∨ ClassReg 0x244) := by unfold ClassReg; decide
    rw [raise0, regsOnly_raise _ _ _ _ _ hn]
    exact rd_wr_same _ _ _
  · rw [raise0, rd_raise_counter (c := .droop) rfl (by decide)]
    exact congrArg satInc32 (rd_wr_ne s _ (by decide))

/-- Settles O57: a comparator by the power state it trips in, a reading by the registers it shows in. -/
theorem comparatorsAndHeat : Obligations.ComparatorsAndHeat := by
  refine ⟨fun s hp => ⟨fun hr => ?_, fun hr => ?_, exec_vcoreLo_deep⟩,
    fun k r s hk ha => ⟨exec_thrOn hk ha, fun ts hl hon hr => exec_thrOff ha hl hon hr, fun h _ => exec_tjCrit hk ha h,
      fun h hr => exec_droop h ha hr⟩⟩
  · simp only [List.forall_mem_cons, List.not_mem_nil, false_implies, implies_true, and_true, reduceCtorEq, ne_eq,
      not_false_eq_true, decide_true, Bool.true_and, forall_const, not_true_eq_false, decide_false, Bool.false_and]
    exact ⟨exec_trip_run hp hr (by simp [aonCauses]) rfl rfl, exec_trip_run hp hr (by simp [aonCauses]) rfl rfl,
      exec_trip_run hp hr (by simp [aonCauses]) rfl (opVcoreLo_run hr),
      exec_trip_run hp hr (by simp [aonCauses]) rfl (opVddqLo_on (by omega)),
      fun h => exec_trip_run hp hr (by simp [aonCauses]) rfl (opLaneWake_selected h),
      fun ⟨h1, h2⟩ => exec_trip_run hp hr (by simp [aonCauses]) rfl (opTimeAlarm_due h1 h2)⟩
  · simp only [List.forall_mem_cons, List.not_mem_nil, false_implies, implies_true, and_true, reduceCtorEq, forall_const]
    exact ⟨fun h => exec_trip_retain hp hr (by simp [aonCauses]) h rfl rfl,
      fun h => exec_trip_retain hp hr (by simp [aonCauses]) h rfl rfl,
      fun h => exec_trip_retain hp hr (by simp [aonCauses]) h rfl (opVddqLo_on (by omega)),
      fun hl h => exec_trip_retain hp hr (by simp [aonCauses]) h rfl (opLaneWake_selected hl)⟩

end Sys2Proof.Machine
end

section
/-! PROOFS. How the work in hand ends before a warm reset, RETAIN or OFF, where nothing is in hand (R342, R361, R362). -/

namespace Sys2Proof.Machine

/-! ### Registers that a warm reset need not keep -/

/-- The RW and RWC bits of a register. -/
def heldMask (o : Nat) : W64 :=
  match regDesc o with
  | some d => w64 d.rw ||| w64 d.rwc
  | none => 0

theorem heldMask_of_desc {o : Nat} {d : RegDesc} (h : regDesc o = some d) : heldMask o = w64 d.rw ||| w64 d.rwc := by
  simp only [heldMask, h]

/-- A register outside the always-on island that has no RW and no RWC bit. -/
def Fleeting (o : Nat) : Prop := heldMask o = 0 ∧ ¬ AonReg o

theorem fleeting_flt : Fleeting oFltStatus := ⟨by decide, by unfold AonReg oFltStatus; omega⟩
theorem fleeting_reel : Fleeting oReel := ⟨by decide, by unfold AonReg oReel; omega⟩
theorem fleeting_pwr : Fleeting oPwrStatus := ⟨by decide, by unfold AonReg oPwrStatus; omega⟩

theorem fleeting_devCause : Fleeting 0x010120 := ⟨by decide, by unfold AonReg; omega⟩
theorem fleeting_pwrCause : Fleeting 0x010140 := ⟨by decide, by unfold AonReg; omega⟩
theorem fleeting_aonCause : Fleeting 0x010148 := ⟨by decide, by unfold AonReg; omega⟩

theorem heldMask_chan : ∀ m < 8, heldMask (oMcStatus m) = 0 ∧ heldMask (0x010300 + 8 * m) = 0 := by decide

theorem fleeting_mcStatus {m : Nat} (h : m < 8) : Fleeting (oMcStatus m) :=
  ⟨(heldMask_chan m h).1, by unfold AonReg oMcStatus chanBase; omega⟩

theorem fleeting_mcCause {m : Nat} (h : m < 8) : Fleeting (0x010300 + 8 * m) :=
  ⟨(heldMask_chan m h).2, by unfold AonReg; omega⟩

/-- What changes only fleeting registers keeps every RW and RWC bit. -/
theorem RegsOnly.held {s t : State} (h : RegsOnly Fleeting s t) (o : Nat) : rd t o &&& heldMask o = rd s o &&& heldMask o := by
  by_cases ho : heldMask o = 0
  · rw [ho]
    exact BitVec.and_zero.trans BitVec.and_zero.symm
  · rw [h o fun hf => ho hf.1]

theorem RegsOnly.aonReg {s t : State} (h : RegsOnly Fleeting s t) {o : Nat} (ho : AonReg o) : rd t o = rd s o :=
  h o fun hf => hf.2 ho

/-! ### Coming to rest -/

/-- What the end of the work in hand keeps, where nothing is in hand; of the registers only those of `p` change. -/
structure Rests (p : Nat → Prop) (s t : State) : Prop where
  pending : t.pending = s.pending
  shadow : t.shadow = s.shadow
  aon : t.aon = s.aon
  links : t.links = s.links
  tx : t.tx = s.tx
  dram : t.mem.dram = s.mem.dram
  scratch : t.dev.scratch = s.dev.scratch
  reelA : t.dev.reelA = s.dev.reelA
  reelB : t.dev.reelB = s.dev.reelB
  seq : t.sheet.seqCtr = s.sheet.seqCtr
  wf : Regs.wf s.regs = true → Regs.wf t.regs = true
  regs : RegsOnly p s t
  quiet : Quiet s → Quiet t

theorem Rests.refl (p : Nat → Prop) (s : State) : Rests p s s :=
  ⟨rfl, rfl, rfl, rfl, rfl, rfl, rfl, rfl, rfl, rfl, id, RegsOnly.refl p s, id⟩

theorem Rests.trans {p : Nat → Prop} {s t u : State} (h : Rests p s t) (g : Rests p t u) : Rests p s u :=
  ⟨g.pending.trans h.pending, g.shadow.trans h.shadow, g.aon.trans h.aon, g.links.trans h.links, g.tx.trans h.tx,
    g.dram.trans h.dram, g.scratch.trans h.scratch, g.reelA.trans h.reelA, g.reelB.trans h.reelB, g.seq.trans h.seq,
    fun hw => g.wf (h.wf hw), h.regs.trans g.regs, fun hq => g.quiet (h.quiet hq)⟩

theorem Rests.mono {p q : Nat → Prop} {s t : State} (h : Rests p s t) (hpq : ∀ o, p o → q o) : Rests q s t :=
  { h with regs := h.regs.mono hpq }

theorem Rests.foldl_mem {α : Type} {p : Nat → Prop} {f : State → α → State} {l : List α}
    (h : ∀ t, ∀ a ∈ l, Rests p t (f t a)) (s : State) : Rests p s (l.foldl f s) := by
  induction l generalizing s with
  | nil => exact Rests.refl p s
  | cons a l ih => exact (h s a (by simp)).trans (ih (fun t b hb => h t b (by simp [hb])) _)

theorem rests_wr {p : Nat → Prop} (s : State) {o : Nat} (v : W64) (h : p o) : Rests p s (wr s o v) :=
  ⟨rfl, rfl, rfl, rfl, rfl, rfl, rfl, rfl, rfl, rfl, regs_wf_wr o v, regsOnly_wr s v h, id⟩

theorem rests_wrf {p : Nat → Prop} (s : State) {o : Nat} (lo w x : Nat) (h : p o) : Rests p s (wrf s o lo w x) := rests_wr s _ h

theorem rests_wrf_at (s : State) (o lo w x : Nat) : Rests (· = o) s (wrf s o lo w x) := rests_wrf s lo w x rfl

theorem rests_raiseAt {p : Nat → Prop} {c : Cause} (hc : c.cls = .none) (u : Nat) (s : State) (h : p (causeReg c.domain u)) :
    Rests p s (raiseAt c u s) := by
  rw [raiseAt_none hc]
  exact rests_wr s _ h

theorem rests_updDev {p : Nat → Prop} {f : DevSide → DevSide} (s : State) (hs : (f s.dev).scratch = s.dev.scratch)
    (ha : (f s.dev).reelA = s.dev.reelA) (hb : (f s.dev).reelB = s.dev.reelB) (hc : (f s.dev).ctxs = s.dev.ctxs) :
    Rests p s (updDev f s) :=
  ⟨rfl, rfl, rfl, rfl, rfl, rfl, hs, ha, hb, rfl, id, regsOnly_of_regs rfl, fun ⟨h1, h2⟩ => ⟨hc.trans h1, h2⟩⟩

theorem rests_memChans {p : Nat → Prop} {s t : State} (h : MemChans s t) : Rests p s t := by
  rw [h]
  exact ⟨rfl, rfl, rfl, rfl, rfl, rfl, rfl, rfl, rfl, rfl, id, regsOnly_of_regs rfl, id⟩

/-! ### Steps 1 and 2 -/

/-- The registers of the reel slots. -/
def ReelStateReg (o : Nat) : Prop := o = oReel ∨ o = 0x010120

theorem rests_reelDrain (b : Bool) (s : State) : Rests ReelStateReg s (reelDrain b s) := by
  unfold reelDrain
  split
  · exact ((rests_updDev s rfl rfl rfl rfl).trans (rests_wrf (clearMisses b s) _ _ _ (.inl rfl))).trans
      (rests_raiseAt rfl 0 _ (.inr rfl))
  · exact Rests.refl _ s

/-- No line is handed over any more, and no chain is left. -/
def chainsEnd (s : State) : State :=
  updHome (fun h => { h with chains := [], latent := (h.latent.filter (fun q => match q.2 with
    | .handover _ _ => false
    | _ => true)) }) s

/-- What the Safelight sequencer clears where no context and no REQ is in hand. -/
def tidy (s : State) : State :=
  updMem (fun m => { m with rewrites := [] }) (updMeter (fun m => { m with lm := { m.lm with writing := [] } })
    (updSheet (fun x => { x with sweeps := [] }) (chainsEnd s)))

theorem rests_tidy {p : Nat → Prop} (s : State) : Rests p s (tidy s) := by
  refine ⟨rfl, rfl, rfl, rfl, rfl, rfl, rfl, rfl, rfl, rfl, id, regsOnly_of_regs rfl, ?_⟩
  rintro ⟨h1, h2, h3, h4, h5, h6⟩
  refine ⟨h1, h2, h3, ?_, rfl, h6⟩
  change List.filter _ s.home.latent = []
  rw [h4]
  rfl

theorem finishRow_free {c row : Nat} {s : State} (h : ctxOf s c = none) : finishRow c row s = s := by
  unfold finishRow
  rw [h]

theorem finishAll_quiet {s : State} (h : Quiet s) (l : List (Nat × Nat)) :
    finishAll l s = reelDrain true (reelDrain false (tidy s)) := by
  obtain ⟨hc, hr, -⟩ := h
  have hrows : l.foldl (fun s p => finishRow p.1 p.2 s) s = s :=
    List.foldl_fixed' (fun p => finishRow_free (by rw [ctxOf, hc]; rfl)) l
  have hwait : answerWaiting s = chainsEnd s := by
    unfold answerWaiting
    rw [hr]
    rfl
  unfold finishAll
  dsimp only
  rw [hrows, hwait]
  rfl

theorem rests_finishAll {s : State} (h : Quiet s) (l : List (Nat × Nat)) : Rests ReelStateReg s (finishAll l s) := by
  rw [finishAll_quiet h]
  exact ((rests_tidy s).trans (rests_reelDrain _ _)).trans (rests_reelDrain _ _)

theorem writeOut_empty {s : State} (h : s.mem.pwb = []) : writeOut s = s := by
  unfold writeOut
  rw [h]
  rfl

theorem ackWritten_empty {s : State} (h : s.home.wslots = []) : ackWritten s = s := by
  unfold ackWritten
  rw [h]
  rfl

theorem applyWbks_empty {s : State} (h : s.home.wslots = []) (n : Nat) : applyWbks n s = s := by
  cases n with
  | zero => rfl
  | succ n => simp [applyWbks, h, firstSlot]

/-- The memory side has nothing left to do. -/
def memIdle (s : State) : State := updMem (fun m => { m with pwbWait := [], memq := [] }) s

theorem rests_memIdle {p : Nat → Prop} (s : State) : Rests p s (memIdle s) :=
  ⟨rfl, rfl, rfl, rfl, rfl, rfl, rfl, rfl, rfl, rfl, id, regsOnly_of_regs rfl,
    fun ⟨h1, h2, h3, h4, h5, h6, _, _, h9⟩ => ⟨h1, h2, h3, h4, h5, h6, rfl, rfl, h9⟩⟩

/-- The ENGINE runs no rule any more. -/
def engineStops (s : State) : State := updDev (fun d => { d with running := false }) s

theorem rests_engineStops {p : Nat → Prop} (s : State) : Rests p s (engineStops s) := rests_updDev s rfl rfl rfl rfl

theorem warmFinish_quiet {s : State} (h : Quiet s) :
    warmFinish s = memIdle (finishAll (finishRows (engineStops s)) (engineStops s)) := by
  have h1 : Quiet (engineStops s) := (rests_engineStops (p := fun _ => True) s).quiet h
  have h2 := (rests_finishAll h1 (finishRows (engineStops s))).quiet h1
  have h3 := (rests_memIdle (p := fun _ => True) (finishAll (finishRows (engineStops s)) (engineStops s))).quiet h2
  obtain ⟨-, -, hw, -, -, hp, -⟩ := h2
  obtain ⟨-, -, hw', -⟩ := h3
  change applyWbks 512 (memIdle (ackWritten (writeOut (finishAll (finishRows (engineStops s)) (engineStops s))))) = _
  rw [writeOut_empty hp, ackWritten_empty hw, applyWbks_empty hw']

theorem rests_warmFinish {s : State} (h : Quiet s) : Rests ReelStateReg s (warmFinish s) := by
  have h1 : Quiet (engineStops s) := (rests_engineStops (p := fun _ => True) s).quiet h
  rw [warmFinish_quiet h]
  exact ((rests_engineStops s).trans (rests_finishAll h1 _)).trans (rests_memIdle _)

/-! ### Step 3 -/

theorem rests_drainMode (s : State) : Rests (· = oFltStatus) s (drainMode s) := by
  unfold drainMode
  dsimp only
  split
  · exact ((rests_wrf_at s _ 3 1 1).trans (rests_wrf_at _ _ 0 1 0)).trans
      (rests_updDev (f := fun d => { d with running := true, byRule := false }) _ rfl rfl rfl rfl)
  · exact rests_updDev s rfl rfl rfl rfl

/-- A drain runs outside Safelight state, and notes in PREV_SAFE what it found. -/
theorem drainMode_flt (s : State) : isSafe (drainMode s) = false ∧
    bitOf (rd (drainMode s) oFltStatus) 3 = (bitOf (rd s oFltStatus) 3 || isSafe s) := by
  unfold drainMode
  dsimp only
  split
  next h =>
    refine ⟨?_, ?_⟩
    · change bitOf (rd (wrf (wrf s oFltStatus 3 1 1) oFltStatus 0 1 0) oFltStatus) 0 = false
      rw [rd_wrf_same, bitOf_setFld_one _ _ _ (by decide)]
      rfl
    · change bitOf (rd (wrf (wrf s oFltStatus 3 1 1) oFltStatus 0 1 0) oFltStatus) 3 = _
      rw [rd_wrf_same, bitOf_setFld_ne _ _ _ _ _ (.inr (by decide)), rd_wrf_same, bitOf_setFld_one _ _ _ (by decide), h,
        Bool.or_true]
      rfl
  next h =>
    have h : isSafe s = false := Bool.not_eq_true _ ▸ h
    exact ⟨h, by rw [h, Bool.or_false]; rfl⟩

theorem warmSheet_quiet {s : State} (h : Quiet s) (ans : List Recalled) :
    warmSheet ans s = engineStops (drainMode (drainMode s)) := by
  have hq := (rests_drainMode s).quiet h
  obtain ⟨-, -, -, -, -, -, -, -, hw, he, hv⟩ := hq
  have hslots : (List.range Config.evictSlots).foldl (fun s k => drainSlot ans k s) (drainMode s) = drainMode s :=
    List.foldl_fixed' (fun k => by unfold drainSlot; rw [hv]; rfl) _
  unfold warmSheet
  dsimp only
  rw [hslots, hw, he]
  rfl

/-- The registers of step 3 and of those before it. -/
def RestReg (o : Nat) : Prop := o = oFltStatus ∨ o = oReel ∨ o = 0x010120

theorem fleeting_rest {o : Nat} (h : RestReg o) : Fleeting o := by
  rcases h with rfl | rfl | rfl
  · exact fleeting_flt
  · exact fleeting_reel
  · exact fleeting_devCause

/-- The work in hand ends and the sheet is drained, where there is nothing of either. -/
theorem rests_drained {s : State} (h : Quiet s) (ans : List Recalled) : Rests RestReg s (warmSheet ans (warmFinish s)) := by
  have h1 := rests_warmFinish h
  rw [warmSheet_quiet (h1.quiet h)]
  refine (h1.mono fun o ho => .inr ho).trans (Rests.trans ?_ (rests_engineStops _))
  exact ((rests_drainMode _).trans (rests_drainMode _)).mono fun o ho => .inl ho

theorem drained_flt {s : State} (h : Quiet s) (ans : List Recalled) : isSafe (warmSheet ans (warmFinish s)) = false ∧
    bitOf (rd (warmSheet ans (warmFinish s)) oFltStatus) 3 = (bitOf (rd s oFltStatus) 3 || isSafe s) := by
  have h1 := rests_warmFinish h
  have hflt : rd (warmFinish s) oFltStatus = rd s oFltStatus := h1.regs _ (by unfold ReelStateReg; decide)
  have hsafe : isSafe (warmFinish s) = isSafe s := by rw [isSafe, hflt, isSafe]
  obtain ⟨g1, g2⟩ := drainMode_flt (warmFinish s)
  obtain ⟨g3, g4⟩ := drainMode_flt (drainMode (warmFinish s))
  rw [warmSheet_quiet (h1.quiet h)]
  refine ⟨g3, ?_⟩
  change bitOf (rd (drainMode (drainMode (warmFinish s))) oFltStatus) 3 = _
  rw [g4, g1, g2, hflt, hsafe, Bool.or_false]

/-! ### Channels enter self-refresh (R245) -/

theorem memChans_writePasr (m lo : Nat) (s : State) : MemChans s (writePasr m lo s) := by
  unfold writePasr
  dsimp only
  split
  · rfl
  · exact memChans_foldl (fun t sc => memChans_foldl (fun u r => memChans_setChan m _ u) _ t) _ s

theorem memChans_prechargeAll (m : Nat) (s : State) : MemChans s (prechargeAll m s) := by
  unfold prechargeAll
  exact MemChans.trans (memChans_foldl (fun t sc => memChans_setChan m _ t) _ s) (memChans_setChan m _ _)

/-- The registers of channel `m`'s state. -/
def ChanStateReg (m o : Nat) : Prop := o = oMcStatus m ∨ o = 0x010300 + 8 * m

theorem rests_setChanState (m st : Nat) (s : State) : Rests (· = oMcStatus m) s (setChanState m st s) :=
  (rests_wrf_at s _ 0 3 st).trans (rests_wrf_at _ _ 6 1 0)

theorem chanState_setChanState_same (m st : Nat) (s : State) : chanState (setChanState m st s) m = st % 2 ^ 3 := by
  rw [chanState, setChanState, rdf_wrf_field_ne _ _ _ _ _ _ _ (by decide) (by decide), rdf_wrf_same _ _ _ _ _ (by decide)]

theorem chanState_of_regs {m : Nat} {s t : State} (h : rd t (oMcStatus m) = rd s (oMcStatus m)) : chanState t m = chanState s m := by
  rw [chanState, chanState, rdf, rdf, h]

theorem rests_enterSref (m : Nat) (s : State) : Rests (ChanStateReg m) s (enterSref m s) := by
  unfold enterSref
  refine Rests.trans ?_ (rests_raiseAt rfl m _ (.inr rfl))
  refine Rests.trans (rests_memChans ((memChans_writePasr m 16 s).trans (memChans_prechargeAll m _))) ?_
  exact (rests_setChanState m 3 _).mono fun o h => .inl h

theorem chanState_enterSref (m : Nat) (s : State) : chanState (enterSref m s) m = 3 := by
  have hne : oMcStatus m ≠ causeReg Cause.srefDone.domain m := by
    have : causeReg Cause.srefDone.domain m = 0x010300 + 8 * m := rfl
    unfold oMcStatus chanBase
    omega
  rw [enterSref, raiseAt_none rfl, chanState_of_regs (rd_wr_ne _ _ hne), chanState_setChanState_same]
  rfl

theorem chanStateReg_ne {m k : Nat} (h : k ≠ m) : ¬ ChanStateReg m (oMcStatus k) := by
  unfold ChanStateReg oMcStatus chanBase
  omega

theorem fleeting_chanState {m o : Nat} (hm : m < 8) (h : ChanStateReg m o) : Fleeting o := by
  rcases h with rfl | rfl
  · exact fleeting_mcStatus hm
  · exact fleeting_mcCause hm

theorem only_enterSref (m : Nat) (s : State) : Only [.regs, .mem] s (enterSref m s) := by
  have h := (memChans_writePasr m 16 s).trans (memChans_prechargeAll m (writePasr m 16 s))
  have h1 : Only [.regs, .mem] s (prechargeAll m (writePasr m 16 s)) := by
    rw [h]
    simp [only_iff]
  unfold enterSref
  rw [raiseAt_none rfl]
  refine h1.trans (Only.mono (k := [.regs]) ?_ (by simp))
  exact ((only_wrf _ _ _ _ _).trans (only_wrf _ _ _ _ _)).trans (only_wr _ _ _)

theorem rests_blankIf {p : Nat → Prop} (b : Nat → Bool) (s : State) : Rests p s (blankIf b s) :=
  ⟨rfl, rfl, rfl, rfl, rfl, rfl, rfl, rfl, rfl, rfl, id, regsOnly_of_regs rfl, id⟩

end Sys2Proof.Machine
end

section
/-! PROOFS. Resets (R342, R360 to R363, R366, R390, R398). -/

namespace Sys2Proof.Machine

/-! ### The channels over a warm reset -/

theorem rests_warmSref (m : Nat) (s : State) : Rests (ChanStateReg m) s (warmSref m s) := by
  unfold warmSref
  split
  · split
    · exact rests_enterSref m s
    · exact (rests_blankIf _ s).trans (rests_enterSref m _)
  · exact Rests.refl _ s

/-- A channel's state and whether its island is off. -/
def chanPower (s : State) (m : Nat) : Nat × Bool := (chanState s m, chanOff s m)

/-- What step SREF makes of them. -/
def srefPower (p : Nat × Bool) : Nat × Bool := (if (p.1 = 1 ∨ p.1 = 2) ∧ p.2 = false then 3 else p.1, p.2)

theorem chanOff_of_regs {m : Nat} {s t : State} (h : rd t oIslSts = rd s oIslSts) : chanOff t m = chanOff s m := by
  rw [chanOff, chanOff, h]

theorem islSts_not_chan (m : Nat) : ¬ ChanStateReg m oIslSts := by
  unfold ChanStateReg oIslSts oMcStatus chanBase
  omega

theorem chanPower_warmSref_same (m : Nat) (s : State) : chanPower (warmSref m s) m = srefPower (chanPower s m) := by
  have hoff := chanOff_of_regs (m := m) ((rests_warmSref m s).regs _ (islSts_not_chan m))
  refine Prod.ext ?_ hoff
  unfold warmSref srefPower chanPower
  by_cases h : (chanState s m = 1 ∨ chanState s m = 2) ∧ chanOff s m = false
  · rw [if_pos (by simpa using h), if_pos h]
    exact chanState_enterSref m _
  · rw [if_neg (by simpa using h), if_neg h]

theorem chanPower_warmSref_ne {m k : Nat} (h : k ≠ m) (s : State) : chanPower (warmSref m s) k = chanPower s k :=
  Prod.ext (chanState_of_regs ((rests_warmSref m s).regs _ (chanStateReg_ne h)))
    (chanOff_of_regs ((rests_warmSref m s).regs _ (islSts_not_chan m)))

/-- Step SREF of every channel. -/
def warmSrefs (s : State) : State := (List.range 8).foldl (fun s m => warmSref m s) s

/-- A register of the state of a channel that the block has. -/
def McReg (o : Nat) : Prop := ∃ m < 8, ChanStateReg m o

theorem fleeting_mc {o : Nat} (h : McReg o) : Fleeting o := by
  obtain ⟨m, hm, h⟩ := h
  exact fleeting_chanState hm h

theorem rests_warmSrefs (s : State) : Rests McReg s (warmSrefs s) := by
  unfold warmSrefs
  refine Rests.foldl_mem (p := McReg) (f := fun s m => warmSref m s) (l := List.range 8) (fun t m hm => ?_) s
  exact (rests_warmSref m t).mono fun _ h => ⟨m, List.mem_range.1 hm, h⟩

theorem chanState_warmSrefs {m : Nat} (hm : m < 8) (s : State) : chanState (warmSrefs s) m =
    if (chanState s m = 1 ∨ chanState s m = 2) ∧ chanOff s m = false then 3 else chanState s m := by
  have h : chanPower (warmSrefs s) m = if m ∈ List.range 8 then srefPower (chanPower s m) else chanPower s m :=
    foldl_each (I := fun _ => True) (val := chanPower) (g := fun _ => srefPower) (f := fun s m => warmSref m s)
      (fun _ _ _ _ => trivial) (fun _ t _ => chanPower_warmSref_same m t)
      (fun t j _ _ h => chanPower_warmSref_ne h t) List.nodup_range trivial
  rw [if_pos (List.mem_range.2 hm)] at h
  have h1 := congrArg Prod.fst h
  simp only [chanPower, srefPower] at h1
  exact h1.trans (if_congr Iff.rfl rfl rfl)

/-! ### The register file over a warm reset -/

section
variable {α : Type}

theorem sFind_filter {m : Sparse α} (h : sOrdered m = true) (p : Nat × α → Bool) (k : Nat) :
    sFind (m.filter p) k = (sFind m k).filter (fun v => p (k, v)) := by
  induction m with
  | nil => rfl
  | cons q m ih =>
    obtain ⟨j, v⟩ := q
    obtain ⟨hlt, ho⟩ := sOrdered_cons.1 h
    have hno : ∀ l : Sparse α, (∀ q ∈ l, j < q.1) → sFind l j = none := by
      intro l hl
      induction l with
      | nil => rfl
      | cons r l ihl =>
        have hr := hl r (by simp)
        rw [sFind, if_neg (by omega)]
        exact ihl fun q hq => hl q (by simp [hq])
    by_cases hk : k = j
    · subst hk
      by_cases hp : p (k, v) = true
      · simp [hp, sFind, Option.filter]
      · have hp : p (k, v) = false := Bool.not_eq_true _ ▸ hp
        rw [List.filter_cons_of_neg (by simp [hp]), hno _ fun q hq => hlt q (List.mem_of_mem_filter hq)]
        simp [sFind, hp, Option.filter]
    · by_cases hp : p (j, v) = true
      · simp [hp, sFind, hk, ih ho]
      · simp [hp, sFind, hk, ih ho]

theorem sFind_map (f : Nat → α → α) (m : Sparse α) (k : Nat) :
    sFind (m.map (fun p => (p.1, f p.1 p.2))) k = (sFind m k).map (f k) := by
  induction m with
  | nil => rfl
  | cons q m ih =>
    by_cases hk : k = q.1
    · subst hk; simp [sFind]
    · simp [sFind, hk, ih]

theorem sOrdered_map (f : Nat → α → α) (m : Sparse α) (h : sOrdered m = true) :
    sOrdered (m.map (fun p => (p.1, f p.1 p.2))) = true := by
  induction m with
  | nil => rfl
  | cons q m ih =>
    obtain ⟨hlt, ho⟩ := sOrdered_cons.1 h
    refine sOrdered_cons.2 ⟨fun r hr => ?_, ih ho⟩
    obtain ⟨x, hx, rfl⟩ := List.mem_map.1 hr
    exact hlt x hx

/-- A default that the map keeps is kept. -/
theorem sGet_map {d : α} (f : Nat → α → α) (m : Sparse α) (k : Nat) (hd : f k d = d) :
    sGet d (m.map (fun p => (p.1, f p.1 p.2))) k = f k (sGet d m k) := by
  rw [sGet, sFind_map, sGet]
  cases sFind m k with
  | none => exact hd.symm
  | some v => rfl

/-- Entries that equal the default need not be listed. -/
theorem sGet_filter_default [DecidableEq α] {d : α} {m : Sparse α} (h : sOrdered m = true) {p : Nat × α → Bool} {k : Nat}
    (hp : ∀ v, p (k, v) = false → v = d) : sGet d (m.filter p) k = sGet d m k := by
  rw [sGet, sFind_filter h, sGet]
  cases hv : sFind m k with
  | none => rfl
  | some v =>
    by_cases hb : p (k, v) = true
    · simp [hb, Option.filter]
    · have hb : p (k, v) = false := Bool.not_eq_true _ ▸ hb
      rw [Option.filter, if_neg (by simp [hb]), hp v hb]
      rfl

end

theorem warmReg_reset (o : Nat) : warmReg o (regReset o) = regReset o := by
  apply BitVec.eq_of_getLsbD_eq
  intro i hi
  simp only [warmReg, BitVec.getLsbD_or, BitVec.getLsbD_and, BitVec.getLsbD_not, hi, decide_true, Bool.true_and]
  cases (regReset o).getLsbD i <;> cases (warmKeep o).getLsbD i <;> rfl

/-- What a register reads in the register file of a warm reset. -/
theorem sGet_warmRegs {m : Sparse W64} (h : Regs.wf m = true) (o : Nat) :
    sGet (regReset o) (warmRegs m) o = warmReg o (sGet (regReset o) m o) := by
  have ho : sOrdered m = true := (Bool.and_eq_true_iff.1 h).1
  rw [warmRegs, sGet_filter_default (sOrdered_map warmReg m ho) (fun v hv => by simpa using hv), sGet_map _ _ _ (warmReg_reset o)]

theorem heldMask_kept (o : Nat) : heldMask o &&& warmKeep o = heldMask o := by
  have hall : ∀ x : W64, x &&& BitVec.allOnes 64 = x := fun x => BitVec.and_allOnes
  unfold warmKeep
  dsimp only
  split
  · exact hall _
  split
  · exact hall _
  split
  · exact hall _
  split
  · exact hall _
  split
  · exact hall _
  split
  next h => rw [h, fleeting_flt.1]; rfl
  next =>
    unfold heldMask
    cases regDesc o with
    | none => rfl
    | some d => exact BitVec.and_self

theorem warmReg_held (o : Nat) (v : W64) : warmReg o v &&& heldMask o = v &&& heldMask o := by
  rw [← heldMask_kept o]
  apply BitVec.eq_of_getLsbD_eq
  intro i hi
  simp only [warmReg, BitVec.getLsbD_or, BitVec.getLsbD_and, BitVec.getLsbD_not, hi, decide_true, Bool.true_and]
  cases v.getLsbD i <;> cases (warmKeep o).getLsbD i <;> simp

theorem warmReg_aon {o : Nat} (h : AonReg o) (v : W64) : warmReg o v = v := by
  have hk : warmKeep o = BitVec.allOnes 64 := if_pos h
  rw [warmReg, hk, BitVec.and_allOnes]
  simp

theorem warmKeep_ptStatus : ∀ n < 16, warmKeep (oPtStatus n) = 0 ∧ regReset (oPtStatus n) = 0 := by decide

theorem warmReg_ptStatus {n : Nat} (h : n < 16) (v : W64) : warmReg (oPtStatus n) v = 0 := by
  obtain ⟨h1, h2⟩ := warmKeep_ptStatus n h
  rw [warmReg, h1, h2]
  simp

theorem isSafe_warmReg (v : W64) : bitOf (warmReg oFltStatus v) 0 = false := by
  have hk : warmKeep oFltStatus = 0xFF800000#64 := by decide
  have hr : regReset oFltStatus = 0 := by decide
  simp [warmReg, hk, hr, bitOf]

/-! ### Step 5: the islands are reset -/

/-- What step RESET leaves, but for the channels' states, the reel slots' and PREV_SAFE. -/
def islandsReset (s : State) : State :=
  let z := State.reset
  { s with
    regs := warmRegs s.regs
    cap := { z.cap with removals := s.cap.removals.map (fun r => { r with swept := true }) }
    aon := { s.aon with standbyWait := false, standbyChans := [] }
    sheet := { z.sheet with seqCtr := s.sheet.seqCtr }
    dev := { z.dev with scratch := s.dev.scratch, reelA := s.dev.reelA, reelB := s.dev.reelB,
                        lineCrc := s.dev.lineCrc, misMatch := s.dev.misMatch }
    home := { z.home with seqNo := s.home.seqNo }
    mem := { s.mem with pwb := [], pwbWait := [], memq := [], rewrites := [],
                        chans := s.mem.chans.map (fun p => (p.1, p.2.warm)) }
    links := s.links.map (fun p => (p.1, p.2.warm))
    meter := { z.meter with lm := { z.meter.lm with recnum := s.meter.lm.recnum } }
    safe := z.safe
    xbar := z.xbar }

theorem warmIslands_eq (s : State) : warmIslands s =
    wrf (warmKept s (islandsReset s)) oFltStatus 3 1 (b2n (isSafe s || bitOf (rd s oFltStatus) 3)) := rfl

theorem rd_islandsReset {s : State} (h : Regs.wf s.regs = true) (o : Nat) : rd (islandsReset s) o = warmReg o (rd s o) :=
  sGet_warmRegs h o

theorem linkOf_islandsReset (s : State) (a : Nat) : linkOf (islandsReset s) a = (linkOf s a).warm :=
  sGet_map (d := Link.reset) (fun _ l => Link.warm l) s.links a rfl

/-- One channel's state as before. -/
def keepChan (t : State) (s : State) (m : Nat) : State :=
  if chanState t m = 4 then wr s (oMcStatus m) (rd t (oMcStatus m)) else setChanState m (chanState t m) s

/-- A DRAINING slot is READY. -/
def slotReady (s : State) (b : Bool) : State :=
  if reelState s b = 5 then setReelState b 3 (clearMisses b s) else s

theorem warmKept_eq (t s : State) :
    warmKept t s = slotReady (slotReady ((List.range 8).foldl (keepChan t) s) false) true := rfl

theorem rests_keepChan (t s : State) (m : Nat) : Rests (ChanStateReg m) s (keepChan t s m) := by
  unfold keepChan
  split
  · exact rests_wr s _ (.inl rfl)
  · exact (rests_setChanState m _ s).mono fun o h => .inl h

theorem rests_slotReady (s : State) (b : Bool) : Rests (· = oReel) s (slotReady s b) := by
  unfold slotReady
  split
  · exact (rests_updDev s rfl rfl rfl rfl).trans (rests_wrf_at (clearMisses b s) _ _ _ _)
  · exact Rests.refl _ s

theorem chanState_lt (s : State) (m : Nat) : chanState s m < 8 := by
  unfold chanState rdf fld
  exact Nat.mod_lt _ (by decide)

theorem chanState_keepChan_same (t s : State) (m : Nat) : chanState (keepChan t s m) m = chanState t m := by
  unfold keepChan
  split
  · exact chanState_of_regs (rd_wr_same _ _ _)
  · rw [chanState_setChanState_same]
    exact Nat.mod_eq_of_lt (chanState_lt t m)

/-- The registers that the reset of the islands writes again. -/
def IslandReg (o : Nat) : Prop := McReg o ∨ o = oReel ∨ o = oFltStatus

theorem fleeting_island {o : Nat} (h : IslandReg o) : Fleeting o := by
  rcases h with h | rfl | rfl
  · exact fleeting_mc h
  · exact fleeting_reel
  · exact fleeting_flt

theorem mcReg_ne {m o : Nat} (h : o = oReel ∨ o = oFltStatus) : o ≠ oMcStatus m := by
  unfold oMcStatus chanBase oReel oFltStatus at *
  omega

theorem rests_warmKept (t s : State) : Rests (fun o => McReg o ∨ o = oReel) s (warmKept t s) := by
  rw [warmKept_eq]
  have h1 : Rests (fun o => McReg o ∨ o = oReel) s ((List.range 8).foldl (keepChan t) s) :=
    Rests.foldl_mem (fun u m hm => (rests_keepChan t u m).mono fun o h => .inl ⟨m, List.mem_range.1 hm, h⟩) s
  exact (h1.trans ((rests_slotReady _ _).mono fun o h => .inr h)).trans ((rests_slotReady _ _).mono fun o h => .inr h)

theorem chanState_warmKept {m : Nat} (hm : m < 8) (t s : State) : chanState (warmKept t s) m = chanState t m := by
  have hr : ∀ u b, chanState (slotReady u b) m = chanState u m := fun u b =>
    chanState_of_regs ((rests_slotReady u b).regs _ fun h => mcReg_ne (.inl rfl) h.symm)
  have h : chanState ((List.range 8).foldl (keepChan t) s) m = if m ∈ List.range 8 then chanState t m else chanState s m :=
    foldl_each (I := fun _ => True) (val := chanState) (g := fun k _ => chanState t k) (f := keepChan t)
      (fun _ _ _ _ => trivial) (fun _ u _ => chanState_keepChan_same t u m)
      (fun u j _ _ h => chanState_of_regs ((rests_keepChan t u j).regs _ (chanStateReg_ne h))) List.nodup_range trivial
  rw [warmKept_eq, hr, hr, h, if_pos (List.mem_range.2 hm)]

theorem rests_warmIslands (s : State) : Rests IslandReg (islandsReset s) (warmIslands s) := by
  rw [warmIslands_eq]
  exact ((rests_warmKept s _).mono fun o h => h.imp_right .inl).trans (rests_wrf _ _ _ _ (.inr (.inr rfl)))

theorem chanState_warmIslands {m : Nat} (hm : m < 8) (s : State) : chanState (warmIslands s) m = chanState s m := by
  rw [warmIslands_eq, chanState_of_regs (rd_wrf_ne _ _ _ _ (mcReg_ne (.inr rfl)).symm), chanState_warmKept hm]

theorem warmIslands_flt {s : State} (h : Regs.wf s.regs = true) : isSafe (warmIslands s) = false ∧
    bitOf (rd (warmIslands s) oFltStatus) 3 = (isSafe s || bitOf (rd s oFltStatus) 3) := by
  have hno : ¬ (McReg oFltStatus ∨ oFltStatus = oReel) := by
    rintro (⟨m, -, h | h⟩ | h)
    · exact mcReg_ne (.inr rfl) h
    · unfold oFltStatus at h; omega
    · exact absurd h (by decide)
  have hr := (rests_warmKept s (islandsReset s)).regs oFltStatus hno
  rw [warmIslands_eq]
  constructor
  · rw [isSafe_wrf_field (by decide), isSafe, hr, rd_islandsReset h, isSafe_warmReg]
  · rw [rd_wrf_same, bitOf_setFld_one _ _ _ (by decide)]
    cases isSafe s || bitOf (rd s oFltStatus) 3 <;> rfl

/-- No link is in service after the reset of the islands. -/
theorem linkState_warmIslands {s : State} (h : Regs.wf s.regs = true) {a : Nat} (ha : a < 32) :
    linkState (warmIslands s) a = 0 := by
  have hno : ¬ IslandReg (oPtStatus (a / 2)) := by
    rintro (⟨m, -, h | h⟩ | h | h) <;> revert h <;> unfold oPtStatus portBase
    · unfold oMcStatus chanBase; omega
    · omega
    · unfold oReel; omega
    · unfold oFltStatus; omega
  rw [linkState, rdf, (rests_warmIslands s).regs _ hno, rd_islandsReset h, warmReg_ptStatus (by omega)]
  simp [fld]

/-! ### Steps 1 to 6 -/

/-- What steps 1 to 6 of a warm reset keep, and what they end. -/
structure WarmKept (s t : State) : Prop where
  pending : t.pending = s.pending
  shadow : t.shadow = s.shadow
  aon : t.aon = { s.aon with standbyWait := false, standbyChans := [] }
  tx : t.tx = s.tx
  dram : t.mem.dram = s.mem.dram
  scratch : t.dev.scratch = s.dev.scratch
  reelA : t.dev.reelA = s.dev.reelA
  reelB : t.dev.reelB = s.dev.reelB
  aonRegs : ∀ o, AonReg o → rd t o = rd s o
  held : ∀ o, rd t o &&& heldMask o = rd s o &&& heldMask o
  stopped : t.dev.running = false
  links : ∀ a, linkOf t a = (linkOf s a).warm
  down : ∀ a, a < 32 → linkState t a = 0
  calm : isSafe t = false
  prev : bitOf (rd t oFltStatus) 3 = isSafe s
  chans : ∀ m, m < 8 → chanState t m =
    if (chanState s m = 1 ∨ chanState s m = 2) ∧ chanOff s m = false then 3 else chanState s m

theorem warmKept_dev (s : State) : (warmIslands s).dev.running = false := by
  have h : ∀ u b, (slotReady u b).dev.running = u.dev.running := fun u b => by
    unfold slotReady
    split <;> rfl
  have hk : ∀ u m, (keepChan s u m).dev = u.dev := fun u m => by
    unfold keepChan
    split
    · exact (only_wr _ _ _).dev
    · exact ((only_wrf _ _ _ _ _).trans (only_wrf _ _ _ _ _)).dev
  have hf : ∀ (l : List Nat) (u : State), (l.foldl (keepChan s) u).dev = u.dev := fun l => by
    induction l with
    | nil => exact fun _ => rfl
    | cons m l ih => exact fun u => (ih _).trans (hk u m)
  rw [warmIslands_eq, wrf_dev, warmKept_eq, h, h, hf]
  rfl

/-- PREV_SAFE is cleared as the reset begins. -/
def resetBegun (s : State) : State := wrf s oFltStatus 3 1 0

/-- Where nothing is in hand, what is left before the islands are reset. -/
def beforeIslands (ans : List Recalled) (s : State) : State := warmSrefs (warmSheet ans (warmFinish (resetBegun s)))

theorem warmSteps_quiet {s : State} (h : Quiet s) (ans : List Recalled) :
    warmSteps ans s = warmIslands (beforeIslands ans s) := by
  have hq : Quiet (resetBegun s) := h
  obtain ⟨-, -, -, -, -, hp, -⟩ := (rests_drained hq ans).quiet hq
  unfold warmSteps
  dsimp only
  rw [show wrf s oFltStatus 3 1 0 = resetBegun s from rfl, writeOut_empty hp]
  rfl

theorem rests_beforeIslands {s : State} (h : Quiet s) (ans : List Recalled) :
    Rests (fun o => RestReg o ∨ McReg o) s (beforeIslands ans s) := by
  have hq : Quiet (resetBegun s) := h
  exact (((rests_wrf (p := RestReg) s 3 1 0 (.inl rfl)).trans (rests_drained hq ans)).mono fun o h => .inl h).trans
    ((rests_warmSrefs _).mono fun o h => .inr h)

theorem mcReg_not_low {o : Nat} (h : o < 0x10300) : ¬ McReg o := by
  rintro ⟨m, -, h | h⟩
  · unfold oMcStatus chanBase at h; omega
  · omega

theorem beforeIslands_flt {s : State} (h : Quiet s) (ans : List Recalled) :
    (isSafe (beforeIslands ans s) || bitOf (rd (beforeIslands ans s) oFltStatus) 3) = isSafe s := by
  have hq : Quiet (resetBegun s) := h
  obtain ⟨h1, h2⟩ := drained_flt hq ans
  have hr := (rests_warmSrefs (warmSheet ans (warmFinish (resetBegun s)))).regs oFltStatus (mcReg_not_low (by decide))
  have h3 : bitOf (rd (resetBegun s) oFltStatus) 3 = false := by
    rw [resetBegun, rd_wrf_same, bitOf_setFld_one _ _ _ (by decide)]
    rfl
  have h4 : isSafe (resetBegun s) = isSafe s := isSafe_wrf_field (by decide)
  rw [beforeIslands, isSafe, hr, ← isSafe, h1, h2, h3, h4, Bool.false_or, Bool.false_or]

/-- The reset of the islands keeps what the steps before it kept. -/
theorem warmKept_of_rests {s u : State} (hb : Rests (fun o => RestReg o ∨ McReg o) s u) (hw : Regs.wf s.regs = true)
    (hflt : (isSafe u || bitOf (rd u oFltStatus) 3) = isSafe s)
    (hch : ∀ m, m < 8 → chanState u m =
      if (chanState s m = 1 ∨ chanState s m = 2) ∧ chanOff s m = false then 3 else chanState s m) :
    WarmKept s (warmIslands u) := by
  have hi := rests_warmIslands u
  have hwf := hb.wf hw
  have hfleet : RegsOnly Fleeting s u := hb.regs.mono fun o ho => ho.elim fleeting_rest fleeting_mc
  have hfleet' : RegsOnly Fleeting (islandsReset u) (warmIslands u) := hi.regs.mono fun o ho => fleeting_island ho
  obtain ⟨hcalm, hprev⟩ := warmIslands_flt hwf
  refine ⟨hi.pending.trans hb.pending, hi.shadow.trans hb.shadow, hi.aon.trans ?_, hi.tx.trans hb.tx, hi.dram.trans hb.dram,
    hi.scratch.trans hb.scratch, hi.reelA.trans hb.reelA, hi.reelB.trans hb.reelB, fun o ho => ?_, fun o => ?_,
    warmKept_dev _, fun a => ?_, fun a ha => linkState_warmIslands hwf ha, hcalm, hprev.trans hflt,
    fun m hm => (chanState_warmIslands hm u).trans (hch m hm)⟩
  · exact congrArg (fun a : AonSide => { a with standbyWait := false, standbyChans := [] }) hb.aon
  · rw [hfleet'.aonReg ho, rd_islandsReset hwf, warmReg_aon ho, hfleet.aonReg ho]
  · rw [hfleet'.held, rd_islandsReset hwf, warmReg_held, hfleet.held]
  · rw [linkOf_congr hi.links, linkOf_islandsReset, linkOf_congr hb.links]

theorem chanState_beforeIslands {s : State} (h : Quiet s) (ans : List Recalled) {m : Nat} (hm : m < 8) :
    chanState (beforeIslands ans s) m =
      if (chanState s m = 1 ∨ chanState s m = 2) ∧ chanOff s m = false then 3 else chanState s m := by
  have hd := (rests_wrf (p := RestReg) s 3 1 0 (.inl rfl)).trans (rests_drained (s := resetBegun s) h ans)
  have hno : ∀ o, RestReg o → o ≠ oMcStatus m ∧ o ≠ oIslSts := by
    rintro o (rfl | rfl | rfl)
    · exact ⟨mcReg_ne (.inr rfl), by decide⟩
    · exact ⟨mcReg_ne (.inl rfl), by decide⟩
    · exact ⟨by unfold oMcStatus chanBase; omega, by decide⟩
  rw [beforeIslands, chanState_warmSrefs hm, chanState_of_regs (hd.regs _ fun hr => (hno _ hr).1 rfl),
    chanOff_of_regs (hd.regs _ fun hr => (hno _ hr).2 rfl)]

theorem warmKept_warmSteps {s : State} (h : Quiet s) (hw : Regs.wf s.regs = true) (ans : List Recalled) :
    WarmKept s (warmSteps ans s) := by
  rw [warmSteps_quiet h]
  exact warmKept_of_rests (rests_beforeIslands h ans) hw (beforeIslands_flt h ans) fun _ hm => chanState_beforeIslands h ans hm

/-! ### Step 7 -/

/-- The block is in RUN again, and PSTATE_DONE is raised. -/
def backOn (s : State) : State := raise0 .pstateDone (wrf s oPwrStatus 0 3 0)

theorem warmRestart_eq (s : State) : warmRestart s = reportLatched (backOn (stepsTaken (startLaps s))) := rfl

theorem regsOnly_backOn (s : State) : RegsOnly RestartReg s (backOn s) :=
  (regsOnly_wrf _ _ _ _ (.inl rfl)).trans ((regsOnly_raise0_none rfl _).mono fun _ h => .inr (.inl h))

theorem warmRestart_frame (s : State) : Only [.aon, .regs, .sheet, .mem] s (warmRestart s) ∧
    RegsOnly RestartReg s (warmRestart s) ∧ (warmRestart s).mem.dram = s.mem.dram ∧
    (warmRestart s).aon = { s.aon with stepQ := [], stepWait := 0, latched := 0 } := by
  obtain ⟨h1, -, h3⟩ := startLaps_keeps s
  obtain ⟨g1, g2⟩ := reportLatched_frame (backOn (stepsTaken (startLaps s)))
  have hb : Only [.regs] (stepsTaken (startLaps s)) (backOn (stepsTaken (startLaps s))) :=
    (only_wrf _ _ _ _ _).trans (only_raise0_none rfl _)
  have hu : Only [.aon] (backOn (stepsTaken (startLaps s))) (unlatch (backOn (stepsTaken (startLaps s)))) := only_updAon _ _
  have hs : Only [.aon] (startLaps s) (stepsTaken (startLaps s)) := only_updAon _ _
  refine ⟨?_, ?_, ?_, ?_⟩
  · exact (h1.mono (by simp)).trans ((hs.mono (by simp)).trans ((hb.mono (by simp)).trans
      ((hu.mono (by simp)).trans (g1.mono (by simp)))))
  · exact ((regsOnly_of_regs (hs.regs.trans h1.regs)).trans (regsOnly_backOn _)).trans
      (g2.mono fun _ h => .inr (.inr h))
  · rw [warmRestart_eq, g1.mem, hu.mem, hb.mem, hs.mem, h3]
  · have hun : ∀ u, (unlatch u).aon = { u.aon with latched := 0 } := fun _ => rfl
    rw [warmRestart_eq, g1.aon, hun, hb.aon, stepsTaken_aon, h1.aon]

theorem warmRestart_status (s : State) : pwrState (warmRestart s) = 0 ∧ Caused (warmRestart s) .pstateDone 0 := by
  have h1 := (reportLatched_frame (backOn (stepsTaken (startLaps s)))).2 oPwrStatus (by decide)
  have h2 : rd (backOn (stepsTaken (startLaps s))) oPwrStatus = rd (wrf (stepsTaken (startLaps s)) oPwrStatus 0 3 0) oPwrStatus :=
    regsOnly_raise0_none rfl _ _ (by decide)
  refine ⟨?_, caused_reportLatched (by decide) (.inr (caused_raise0 _ _))⟩
  rw [pwrState, rdf, warmRestart_eq, h1, h2, ← rdf, rdf_wrf_same _ _ _ _ _ (by decide)]
  rfl

theorem fleeting_restart {o : Nat} (h : RestartReg o) : Fleeting o := by
  rcases h with rfl | rfl | rfl
  · exact fleeting_pwr
  · exact fleeting_pwrCause
  · exact fleeting_aonCause

theorem restartReg_low {o : Nat} (h : RestartReg o) : o = 0x204 ∨ o = 0x010140 ∨ o = 0x010148 := h

theorem opWarmReset_run {s : State} (h : pwrState s = 0) (ans : List Recalled) :
    opWarmReset ans s = warmRestart (warmSteps ans s) := by
  unfold opWarmReset
  rw [if_neg (by unfold pwrState at h; omega)]

/-- A warm reset where nothing is in hand. -/
theorem warmReset_quiet {s : State} (hp : pwrState s = 0) (h : Quiet s) (hw : Regs.wf s.regs = true) (ans : List Recalled) :
    let t := opWarmReset ans s
    Timeless s t ∧ pwrState t = 0 ∧ Caused t .pstateDone 0 ∧ isSafe t = false ∧
      bitOf (rd t oFltStatus) 3 = isSafe s ∧ t.aon.ft = s.aon.ft ∧ (∀ o, AonReg o → rd t o = rd s o) ∧
      (∀ o, rd t o &&& heldMask o = rd s o &&& heldMask o) ∧
      t.mem.dram = s.mem.dram ∧ t.dev.reelA = s.dev.reelA ∧ t.dev.reelB = s.dev.reelB ∧
      t.dev.scratch = s.dev.scratch ∧ t.dev.running = false ∧ t.tx = s.tx ∧
      (∀ a, a < 32 → linkState t a = 0 ∧ detached t a = detached s a ∧ (linkOf t a).epoch = (linkOf s a).epoch) ∧
      (∀ m, m < 8 → chanState t m =
        (if (chanState s m = 1 ∨ chanState s m = 2) ∧ chanOff s m = false then 3 else chanState s m)) := by
  dsimp only
  rw [opWarmReset_run hp]
  have hk := warmKept_warmSteps h hw ans
  obtain ⟨h1, h2, h3, h4⟩ := warmRestart_frame (warmSteps ans s)
  obtain ⟨g1, g2⟩ := warmRestart_status (warmSteps ans s)
  have haon := h4.trans (congrArg (fun a : AonSide => { a with stepQ := [], stepWait := 0, latched := 0 }) hk.aon)
  have hflt : rd (warmRestart (warmSteps ans s)) oFltStatus = rd (warmSteps ans s) oFltStatus :=
    h2 _ fun h => absurd (restartReg_low h) (by decide)
  have hfleet : RegsOnly Fleeting (warmSteps ans s) (warmRestart (warmSteps ans s)) := h2.mono fun _ => fleeting_restart
  have hlink : ∀ a, linkOf (warmRestart (warmSteps ans s)) a = (linkOf s a).warm := fun a =>
    (linkOf_congr h1.links a).trans (hk.links a)
  refine ⟨⟨⟨h1.pending.trans hk.pending, ?_, ?_, ?_, ?_⟩, ?_, ?_⟩, g1, g2, ?_, ?_, ?_, fun o ho => ?_, fun o => ?_,
    h3.trans hk.dram, ?_, ?_, ?_, ?_, h1.tx.trans hk.tx, fun a ha => ⟨?_, ?_, ?_⟩, fun m hm => ?_⟩
  iterate 6 · rw [haon]
  · rw [isSafe, hflt]; exact hk.calm
  · rw [hflt]; exact hk.prev
  · rw [haon]
  · rw [hfleet.aonReg ho, hk.aonRegs o ho]
  · rw [hfleet.held, hk.held]
  · rw [h1.dev]; exact hk.reelA
  · rw [h1.dev]; exact hk.reelB
  · rw [h1.dev]; exact hk.scratch
  · rw [h1.dev]; exact hk.stopped
  · have hn : ¬ RestartReg (oPtStatus (a / 2)) := fun h => by
      have := restartReg_low h
      unfold oPtStatus portBase at this
      omega
    rw [linkState, rdf, h2 _ hn]
    exact hk.down a ha
  · rw [detached, hlink]; rfl
  · rw [hlink]; rfl
  · have hn : ¬ RestartReg (oMcStatus m) := fun h => by
      have := restartReg_low h
      unfold oMcStatus chanBase at this
      omega
    rw [chanState_of_regs (h2 _ hn)]
    exact hk.chans m hm

/-! ### The statement -/

/-- Settles O58: the cold reset is a reset state by its fields, and a warm reset goes step by step. -/
theorem resets : Obligations.Resets := by
  refine fun ans s => ⟨⟨opColdReset s, rfl, rfl, opColdReset_held s, rfl, rfl, rfl, rfl, rfl, rfl, rfl, rfl⟩, fun testen h => ?_,
    fun ha hp hq hw => ?_⟩
  · change Host.Outcome.next (opPorstRelease testen s) = _
    rw [opPorstRelease, h]
    rfl
  · obtain ⟨htime, h⟩ := warmReset_quiet hp hq hw ans
    obtain ⟨h1, h2, h3, h4, h5, h6, h7, h8⟩ := h
    refine ⟨_, live_timeless ha rfl htime, h1, h2, h3, h4, h5, h6, fun o d hd => ?_, h8⟩
    rw [← heldMask_of_desc hd]
    exact h7 o

end Sys2Proof.Machine
end

section
/-! PROOFS. Power states and wakes (R123, R270, R347, R353 to R356, R396). -/

namespace Sys2Proof.Machine

/-! ### Power commands -/

theorem pwrCmd_ok {s : State} {k : Nat} (h : isSafe s = false) (hp : pwrState s = k) (f : State → State) :
    pwrCmd k f s = f s := by
  unfold pwrCmd
  rw [h, hp, if_neg (by simp)]

theorem pwrCmd_refused {s : State} {k : Nat} (h : isSafe s = true ∨ pwrState s ≠ k) (f : State → State) :
    pwrCmd k f s = pwrRefuse s := if_pos (by simpa using h)

/-- A power command that is refused. -/
theorem exec_pwrRefused {i : Instr} {k : Nat} {f : State → State} {s : State} (hc : capAnswers s = true)
    (hex : exec i s = .next (capCmd (pwrCmd k f) s)) (h : isSafe s = true ∨ pwrState s ≠ k) :
    ∃ t, exec i s = .next t ∧ rdf t oPwrStatus 8 3 = 2 ∧ pwrState t = pwrState s ∧ Caused t .pstateDone 0 ∧
      Acked s t ∧ Only [.cap, .regs] s t ∧ RegsOnly (fun o => o = oPwrStatus ∨ o = 0x010140) s t := by
  let u := wrf (answered false 0 s) oPwrStatus 8 3 2
  have hr := regsOnly_raise0_none (c := .pstateDone) rfl u
  have ho := only_raise0_none (c := .pstateDone) rfl u
  have hst : rd (raise0 .pstateDone u) oPwrStatus = rd u oPwrStatus := hr _ (by decide)
  refine ⟨raise0 .pstateDone u, ?_, ?_, ?_, caused_raise0 _ _, ho.cap, ?_, ?_⟩
  · exact hex.trans (capCmd_timeless hc (pwrCmd_refused (s := answered false 0 s) h f) (timeless_of_aon ho.pending ho.aon))
  · rw [rdf, hst, ← rdf, rdf_wrf_same _ _ _ _ _ (by decide)]
    rfl
  · rw [pwrState, rdf, hst, ← rdf, rdf_wrf_field_ne _ _ _ _ _ _ _ (by decide) (by decide)]
    rfl
  · exact ((only_answered _ _ _).mono (by simp)).trans (((only_wrf _ _ _ _ _).mono (by simp)).trans (ho.mono (by simp)))
  · exact (regsOnly_of_regs (t := answered false 0 s) rfl).trans
      ((regsOnly_wrf _ _ _ _ (.inl rfl)).trans (hr.mono fun _ h => .inr h))

/-! ### Steps of the islands (R347) -/

theorem beginSteps_free {s : State} (hq : s.aon.stepQ = []) (hw : s.aon.stepWait = 0) (who n : Nat) :
    beginSteps who (n + 1) s = updAon (fun a => { a with stepQ := List.replicate n who, stepWait := stepSpacing }) s := by
  unfold beginSteps
  rw [if_neg (by omega), hq, hw]
  rfl

/-- The steps wait behind those under way. -/
def stepsQueued (who n : Nat) (s : State) : State :=
  updAon (fun a => { a with stepQ := a.stepQ ++ List.replicate n who }) s

theorem beginSteps_held {s : State} (h : ¬(s.aon.stepQ = [] ∧ s.aon.stepWait = 0)) (who n : Nat) :
    beginSteps who (n + 1) s = raise0 .stepHold (stepsQueued who (n + 1) s) := by
  unfold beginSteps
  rw [if_neg (by omega), if_neg (by simpa using h)]
  rfl

theorem beginSteps_frame (who n : Nat) (s : State) : Only [.aon, .regs] s (beginSteps who (n + 1) s) ∧
    RegsOnly (· = 0x010140) s (beginSteps who (n + 1) s) ∧
    (beginSteps who (n + 1) s).aon = { s.aon with
      stepQ := (beginSteps who (n + 1) s).aon.stepQ, stepWait := (beginSteps who (n + 1) s).aon.stepWait } := by
  by_cases h : s.aon.stepQ = [] ∧ s.aon.stepWait = 0
  · rw [beginSteps_free h.1 h.2]
    exact ⟨(only_updAon _ _).mono (by simp), regsOnly_of_regs rfl, rfl⟩
  · have ho := only_raise0_none (c := .stepHold) rfl (stepsQueued who (n + 1) s)
    rw [beginSteps_held h, ho.aon]
    exact ⟨((only_updAon _ _).mono (by simp)).trans (ho.mono (by simp)),
      (regsOnly_of_regs (t := stepsQueued who (n + 1) s) rfl).trans (regsOnly_raise0_none (c := .stepHold) rfl _), rfl⟩

/-! ### STANDBY (R354) -/

/-- Nothing waits for a channel. -/
def MemStill (s : State) : Prop := s.mem.memq = [] ∧ s.mem.pwb = [] ∧ s.mem.pwbWait = []

theorem drainChannel_still {s : State} (h : MemStill s) (m : Nat) : drainChannel m s = s := by
  obtain ⟨h1, h2, h3⟩ := h
  unfold drainChannel
  rw [h1, h2, h3]
  change ((s.mem.pwb.filter _).foldl _ s) = s
  rw [h2]
  rfl

/-- The channel is one that STANDBY puts into self-refresh. -/
def noteChan (m : Nat) (s : State) : State := updAon (fun a => { a with standbyChans := a.standbyChans ++ [m] }) s

/-- A channel's array before self-refresh: a partial one loses its regions, unless one of them is in use. -/
def keepArray (m : Nat) (s : State) : State := if losesUsed s m then s else blankLost m s

theorem standbySref_still {s : State} (h : MemStill s) (m : Nat) : standbySref m s =
    if chanState s m = 1 then enterSref m (keepArray m (noteChan m s)) else s := by
  have hs : drainChannel m (noteChan m s) = noteChan m s := drainChannel_still (s := noteChan m s) h m
  unfold standbySref
  dsimp only
  rw [show updAon (fun a => { a with standbyChans := a.standbyChans ++ [m] }) s = noteChan m s from rfl, hs]
  rfl

/-- The state of a channel and whether STANDBY is to bring it back. -/
def standbyView (s : State) (m : Nat) : Nat × Bool := (chanState s m, decide (m ∈ s.aon.standbyChans))

/-- What STANDBY makes of them. -/
def standbyNext (p : Nat × Bool) : Nat × Bool := (if p.1 = 1 then 3 else p.1, p.2 || decide (p.1 = 1))

/-- What a channel's entry into self-refresh keeps: the always-on island but the channels noted, and the stored data. -/
def SrefKept (s t : State) : Prop :=
  Only [.aon, .regs, .mem] s t ∧ t.aon = { s.aon with standbyChans := t.aon.standbyChans } ∧ t.mem.dram = s.mem.dram ∧
    (MemStill s → MemStill t)

theorem SrefKept.refl (s : State) : SrefKept s s := ⟨Only.refl _ s, rfl, rfl, id⟩

theorem SrefKept.trans {s t u : State} (h : SrefKept s t) (g : SrefKept t u) : SrefKept s u := by
  obtain ⟨h1, h2, h3, h4⟩ := h
  obtain ⟨g1, g2, g3, g4⟩ := g
  refine ⟨h1.trans g1, ?_, g3.trans h3, fun h => g4 (h4 h)⟩
  rw [g2, h2]

theorem enterSref_mem (m : Nat) (s : State) : (enterSref m s).mem = { s.mem with chans := (enterSref m s).mem.chans } := by
  have h := ((memChans_writePasr m 16 s).trans (memChans_prechargeAll m (writePasr m 16 s))).mem
  have hm : (enterSref m s).mem = (prechargeAll m (writePasr m 16 s)).mem := by
    rw [enterSref, raiseAt_none rfl]
    rfl
  rw [hm]
  exact h

theorem srefKept_standbySref {s : State} (h : MemStill s) (m : Nat) : SrefKept s (standbySref m s) := by
  rw [standbySref_still h]
  split
  · have h1 : SrefKept s (keepArray m (noteChan m s)) := by
      unfold keepArray
      split
      · exact ⟨(only_updAon _ _).mono (by simp), rfl, rfl, id⟩
      · exact ⟨((only_updAon _ _).mono (by simp)).trans ((only_updMem _ _).mono (by simp)), rfl, rfl, id⟩
    refine h1.trans ⟨(only_enterSref m _).mono (by simp), ?_, ?_, ?_⟩
    · rw [(only_enterSref m _).aon]
    · rw [enterSref_mem]
    · intro hs
      unfold MemStill
      rw [enterSref_mem]
      exact hs
  · exact SrefKept.refl s

theorem standbyView_same {s : State} (h : MemStill s) (m : Nat) :
    standbyView (standbySref m s) m = standbyNext (standbyView s m) := by
  rw [standbySref_still h]
  unfold standbyView standbyNext
  by_cases hc : chanState s m = 1
  · have haon : (keepArray m (noteChan m s)).aon = (noteChan m s).aon := by
      unfold keepArray
      split <;> rfl
    rw [if_pos hc, chanState_enterSref, (only_enterSref m _).aon, haon]
    simp [noteChan, hc]
  · simp [hc]

theorem standbyView_ne {s : State} (h : MemStill s) {m k : Nat} (hk : k ≠ m) :
    standbyView (standbySref m s) k = standbyView s k := by
  rw [standbySref_still h]
  split
  · have haon : (keepArray m (noteChan m s)).aon = (noteChan m s).aon := by
      unfold keepArray
      split <;> rfl
    have hregs : (keepArray m (noteChan m s)).regs = s.regs := by
      unfold keepArray
      split <;> rfl
    have hst : rd (enterSref m (keepArray m (noteChan m s))) (oMcStatus k) = rd s (oMcStatus k) :=
      ((rests_enterSref m _).regs _ (chanStateReg_ne hk)).trans (rd_congr hregs _)
    refine Prod.ext (chanState_of_regs hst) ?_
    unfold standbyView
    dsimp only
    rw [(only_enterSref m _).aon, haon]
    simp [noteChan, hk]
  · rfl

/-- The channels in RUN enter self-refresh. -/
def standbySrefs (s : State) : State := (List.range 8).foldl (fun s m => standbySref m s) s

theorem srefKept_standbySrefs {s : State} (h : MemStill s) : SrefKept s (standbySrefs s) := by
  have hf : ∀ (l : List Nat) (t : State), MemStill t → SrefKept t (l.foldl (fun s m => standbySref m s) t) := by
    intro l
    induction l with
    | nil => exact fun t _ => SrefKept.refl t
    | cons m l ih =>
      intro t ht
      have hk := srefKept_standbySref ht m
      exact hk.trans (ih _ (hk.2.2.2 ht))
  exact hf _ s h

theorem standbyView_standbySrefs {s : State} (h : MemStill s) {m : Nat} (hm : m < 8) :
    standbyView (standbySrefs s) m = standbyNext (standbyView s m) := by
  have hv := foldl_each (I := MemStill) (val := standbyView) (g := fun _ => standbyNext) (f := fun s m => standbySref m s)
    (l := List.range 8) (k := m) (fun t j _ ht => (srefKept_standbySref ht j).2.2.2 ht) (fun _ t ht => standbyView_same ht m)
    (fun t j _ ht h => standbyView_ne ht h) List.nodup_range h
  rw [if_pos (List.mem_range.2 hm)] at hv
  exact hv

/-- The block no longer waits for STANDBY. -/
def waitEnds (s : State) : State := updAon (fun a => { a with standbyWait := false }) s

/-- The block is in STANDBY, RESULT DONE. -/
def inStandby (s : State) : State := raise0 .pstateDone (wrf (wrf s oPwrStatus 0 3 1) oPwrStatus 8 3 1)

theorem opStandbyEnter_eq {s : State} (hw : s.aon.standbyWait = true) (hs : isSafe s = false) (hq : standbyQuiet s = true) :
    opStandbyEnter s = inStandby (beginSteps clockSteps 2 (standbySrefs (waitEnds s))) := by
  unfold opStandbyEnter
  rw [hw, hs, hq]
  rfl

theorem inStandby_frame (s : State) : Only [.regs] s (inStandby s) ∧
    RegsOnly (fun o => o = oPwrStatus ∨ o = 0x010140) s (inStandby s) :=
  ⟨((only_wrf _ _ _ _ _).trans (only_wrf _ _ _ _ _)).trans (only_raise0_none rfl _),
    ((regsOnly_wrf _ _ _ _ (.inl rfl)).trans (regsOnly_wrf _ _ _ _ (.inl rfl))).trans
      ((regsOnly_raise0_none rfl _).mono fun _ h => .inr h)⟩

theorem inStandby_status (s : State) : pwrState (inStandby s) = 1 ∧ rdf (inStandby s) oPwrStatus 8 3 = 1 := by
  have h : rd (inStandby s) oPwrStatus = rd (wrf (wrf s oPwrStatus 0 3 1) oPwrStatus 8 3 1) oPwrStatus :=
    regsOnly_raise0_none rfl _ _ (by decide)
  constructor
  · rw [pwrState, rdf, h, ← rdf, rdf_wrf_field_ne _ _ _ _ _ _ _ (by decide) (by decide), rdf_wrf_same _ _ _ _ _ (by decide)]
    rfl
  · rw [rdf, h, ← rdf, rdf_wrf_same _ _ _ _ _ (by decide)]
    rfl

/-- The registers of the power states and of PSTATE_DONE are no channel's. -/
theorem mcStatus_ne_pwr (m : Nat) : oMcStatus m ≠ oPwrStatus ∧ oMcStatus m ≠ 0x010140 ∧ oMcStatus m ≠ 0x010148 ∧
    oMcStatus m ≠ oAonSts := by
  unfold oMcStatus chanBase oPwrStatus oAonSts
  omega

/-- STANDBY once the channels are in self-refresh. -/
theorem standbyDone {s u : State} (hk : SrefKept (waitEnds s) u) :
    Only [.aon, .regs, .mem] s (inStandby (beginSteps clockSteps 2 u)) ∧
    Timeless s (inStandby (beginSteps clockSteps 2 u)) ∧
    (inStandby (beginSteps clockSteps 2 u)).aon.standbyWait = false ∧
    (inStandby (beginSteps clockSteps 2 u)).aon.standbyChans = u.aon.standbyChans ∧
    (inStandby (beginSteps clockSteps 2 u)).mem.dram = s.mem.dram ∧
    (s.aon.stepQ = [] → s.aon.stepWait = 0 → (inStandby (beginSteps clockSteps 2 u)).aon.stepQ = [clockSteps] ∧
      (inStandby (beginSteps clockSteps 2 u)).aon.stepWait = 1000) ∧
    (∀ m, chanState (inStandby (beginSteps clockSteps 2 u)) m = chanState u m) := by
  obtain ⟨k1, k2, k3, -⟩ := hk
  obtain ⟨b1, b2, b3⟩ := beginSteps_frame clockSteps 1 u
  obtain ⟨i1, i2⟩ := inStandby_frame (beginSteps clockSteps 2 u)
  have hw0 : Only [.aon] s (waitEnds s) := only_updAon _ _
  have hf : Only [.aon, .regs, .mem] s (inStandby (beginSteps clockSteps 2 u)) :=
    (hw0.mono (by simp)).trans (k1.trans ((b1.mono (by simp)).trans (i1.mono (by simp))))
  have hu : ∀ {α : Type} (p : AonSide → α), (∀ a c, p { a with standbyChans := c } = p a) → p u.aon = p (waitEnds s).aon :=
    fun p hp => by rw [k2, hp]
  have hb : ∀ {α : Type} (p : AonSide → α), (∀ a q w, p { a with stepQ := q, stepWait := w } = p a) →
      p (inStandby (beginSteps clockSteps 2 u)).aon = p u.aon := fun p hp => by rw [i1.aon, b3, hp]
  refine ⟨hf, ⟨⟨hf.pending, ?_, ?_, ?_, ?_⟩, ?_, ?_⟩, ?_, ?_, ?_, fun h1 h2 => ?_, fun m => ?_⟩
  · rw [hb (·.fuses) fun _ _ _ => rfl, hu (·.fuses) fun _ _ => rfl]; rfl
  · rw [hb (·.tap) fun _ _ _ => rfl, hu (·.tap) fun _ _ => rfl]; rfl
  · rw [hb (·.porstLow) fun _ _ _ => rfl, hu (·.porstLow) fun _ _ => rfl]; rfl
  · rw [hb (·.testMode) fun _ _ _ => rfl, hu (·.testMode) fun _ _ => rfl]; rfl
  · rw [hb (·.ft) fun _ _ _ => rfl, hu (·.ft) fun _ _ => rfl]; rfl
  · rw [hb (·.ftFrac) fun _ _ _ => rfl, hu (·.ftFrac) fun _ _ => rfl]; rfl
  · rw [hb (·.standbyWait) fun _ _ _ => rfl, hu (·.standbyWait) fun _ _ => rfl]; rfl
  · exact hb (·.standbyChans) fun _ _ _ => rfl
  · rw [i1.mem, b1.mem, k3]; rfl
  · have hq' : u.aon.stepQ = [] := (hu (·.stepQ) fun _ _ => rfl).trans h1
    have hw' : u.aon.stepWait = 0 := (hu (·.stepWait) fun _ _ => rfl).trans h2
    rw [i1.aon, beginSteps_free hq' hw']
    exact ⟨rfl, rfl⟩
  · obtain ⟨n1, n2, -⟩ := mcStatus_ne_pwr m
    exact (chanState_of_regs (i2 _ (by simp [n1, n2]))).trans (chanState_of_regs (b2 _ n2))

theorem exec_standbyEnter {s : State} (ha : asleep s = false) (hw : s.aon.standbyWait = true) (hs : isSafe s = false)
    (hq : standbyQuiet s = true) (hm : s.mem.memq = []) :
    ∃ t, exec .standbyEnter s = .next t ∧ pwrState t = 1 ∧ rdf t oPwrStatus 8 3 = 1 ∧ Caused t .pstateDone 0 ∧
      t.aon.standbyWait = false ∧
      (s.aon.stepQ = [] → s.aon.stepWait = 0 → t.aon.stepQ = [clockSteps] ∧ t.aon.stepWait = 1000) ∧
      (∀ m, m < 8 → chanState t m = (if chanState s m = 1 then 3 else chanState s m) ∧
        (chanState s m = 1 → m ∈ t.aon.standbyChans)) ∧
      t.mem.dram = s.mem.dram ∧ Only [.aon, .regs, .mem] s t := by
  have hstill : MemStill (waitEnds s) := by
    unfold standbyQuiet at hq
    simp only [Bool.and_eq_true, List.isEmpty_iff] at hq
    exact ⟨hm, hq.1.2, hq.2⟩
  obtain ⟨h1, h2, h3, h4, h5, h6, h7⟩ := standbyDone (srefKept_standbySrefs hstill)
  obtain ⟨i3, i4⟩ := inStandby_status (beginSteps clockSteps 2 (standbySrefs (waitEnds s)))
  refine ⟨_, live_timeless ha (opStandbyEnter_eq hw hs hq) h2, i3, i4, caused_raise0 _ _, h3, h6, fun m hm => ?_, h5, h1⟩
  have hv := standbyView_standbySrefs hstill hm
  have h0 : chanState (waitEnds s) m = chanState s m := rfl
  simp only [standbyView, standbyNext, h0, Prod.mk.injEq] at hv
  obtain ⟨hv1, hv2⟩ := hv
  rw [h7, hv1, h4]
  by_cases hc : chanState s m = 1
  · simpa [hc] using hv2
  · simp [hc]

theorem opStandbyTimeout_eq {s : State} (h : s.aon.standbyWait = true) :
    opStandbyTimeout s = wrf (waitEnds s) oPwrStatus 8 3 3 := by
  unfold opStandbyTimeout
  rw [h]
  rfl

/-! ### RUN (R354) -/

/-- A channel that STANDBY put into self-refresh leaves it. -/
def standbyExit (s : State) (m : Nat) : State := if chanState s m = 3 then enterRun m (writePasr m 24 s) else s

theorem wakeStandby_eq {s : State} (h : pwrState s = 1) : wakeStandby s =
    backInRun (noteWake 0 false (updAon (fun a => { a with standbyChans := [] })
      ((beginSteps clockSteps 2 s).aon.standbyChans.foldl standbyExit (beginSteps clockSteps 2 s)))) := by
  unfold wakeStandby
  rw [if_neg (by unfold pwrState at h; omega)]
  rfl

theorem enterRun_memChans (m : Nat) (s : State) : MemChans (setChanState m 1 s) (enterRun m s) :=
  (memChans_setChan m _ _).trans (memChans_setChan m _ _)

theorem standbyExit_frame (s : State) (m : Nat) : Only [.regs, .mem] s (standbyExit s m) ∧
    RegsOnly (· = oMcStatus m) s (standbyExit s m) ∧ (standbyExit s m).mem.dram = s.mem.dram := by
  unfold standbyExit
  split
  · have h1 := memChans_writePasr m 24 s
    have h2 := enterRun_memChans m (writePasr m 24 s)
    have o1 : Only [.mem] s (writePasr m 24 s) := by rw [h1]; simp [only_iff]
    have o2 : Only [.mem] (setChanState m 1 (writePasr m 24 s)) (enterRun m (writePasr m 24 s)) := by
      rw [h2]; simp [only_iff]
    have o3 : Only [.regs] (writePasr m 24 s) (setChanState m 1 (writePasr m 24 s)) :=
      (only_wrf _ _ _ _ _).trans (only_wrf _ _ _ _ _)
    refine ⟨(o1.mono (by simp)).trans ((o3.mono (by simp)).trans (o2.mono (by simp))), ?_, ?_⟩
    · exact (regsOnly_of_regs o1.regs).trans ((rests_setChanState m 1 _).regs.trans (regsOnly_of_regs o2.regs))
    · rw [h2.mem, o3.mem, h1.mem]
  · exact ⟨Only.refl _ s, RegsOnly.refl _ s, rfl⟩

theorem oMcStatus_inj {m k : Nat} (h : oMcStatus m = oMcStatus k) : m = k := by
  unfold oMcStatus chanBase at h
  omega

/-- A channel leaves self-refresh, or runs already. -/
theorem chanState_standbyExit {s : State} {m k : Nat} (h : m = k ∧ chanState s k = 3 ∨ chanState s k = 1) :
    chanState (standbyExit s m) k = 1 := by
  by_cases hk : m = k
  · subst hk
    unfold standbyExit
    split
    · have h1 := enterRun_memChans m (writePasr m 24 s)
      have hr : (enterRun m (writePasr m 24 s)).regs = (setChanState m 1 (writePasr m 24 s)).regs := by rw [h1]
      rw [chanState_of_regs (rd_congr hr _), chanState_setChanState_same]
      rfl
    next hn => exact h.elim (fun h => absurd h.2 hn) id
  · rw [chanState_of_regs ((standbyExit_frame s m).2.1 _ fun e => hk (oMcStatus_inj e).symm)]
    exact h.elim (fun h => absurd h.1 hk) id

theorem standbyExit_other {s : State} {m k : Nat} (h : k ≠ m) : chanState (standbyExit s m) k = chanState s k :=
  chanState_of_regs ((standbyExit_frame s m).2.1 _ fun e => h (oMcStatus_inj e))

theorem standbyExits_frame (l : List Nat) (s : State) : Only [.regs, .mem] s (l.foldl standbyExit s) ∧
    RegsOnly (fun o => ∃ m, o = oMcStatus m) s (l.foldl standbyExit s) ∧ (l.foldl standbyExit s).mem.dram = s.mem.dram := by
  induction l generalizing s with
  | nil => exact ⟨Only.refl _ s, RegsOnly.refl _ s, rfl⟩
  | cons m l ih =>
    obtain ⟨h1, h2, h3⟩ := standbyExit_frame s m
    obtain ⟨g1, g2, g3⟩ := ih (standbyExit s m)
    exact ⟨h1.trans g1, (h2.mono fun _ h => ⟨m, h⟩).trans g2, g3.trans h3⟩

theorem chanState_standbyExits {k : Nat} (l : List Nat) {s : State} (h : k ∈ l ∧ chanState s k = 3 ∨ chanState s k = 1) :
    chanState (l.foldl standbyExit s) k = 1 := by
  induction l generalizing s with
  | nil => exact h.resolve_left (by simp)
  | cons m l ih =>
    refine ih ?_
    rcases h with ⟨h, hs⟩ | h
    · by_cases hk : k = m
      · exact .inr (chanState_standbyExit (.inl ⟨hk.symm, hs⟩))
      · exact .inl ⟨(List.mem_cons.1 h).resolve_left hk, (standbyExit_other hk).trans hs⟩
    · exact .inr (chanState_standbyExit (.inr h))

/-- The block wakes from STANDBY. -/
theorem wakeStandby_frame {s : State} (h : pwrState s = 1) : Only [.aon, .regs, .mem] s (wakeStandby s) ∧
    pwrState (wakeStandby s) = 0 ∧ rdf (wakeStandby s) oPwrStatus 8 3 = 1 ∧ Caused (wakeStandby s) .pstateDone 0 ∧
    (wakeStandby s).aon = { s.aon with
      standbyChans := [], stepQ := (wakeStandby s).aon.stepQ, stepWait := (wakeStandby s).aon.stepWait, latched := 0 } ∧
    (wakeStandby s).mem.dram = s.mem.dram ∧
    (∀ m, m ∈ s.aon.standbyChans → chanState s m = 3 → chanState (wakeStandby s) m = 1) := by
  obtain ⟨b1, b2, b3⟩ := beginSteps_frame clockSteps 1 s
  have hchans : (beginSteps clockSteps 2 s).aon.standbyChans = s.aon.standbyChans := by rw [b3]
  let u := s.aon.standbyChans.foldl standbyExit (beginSteps clockSteps 2 s)
  let v := updAon (fun a => { a with standbyChans := [] }) u
  have hw : wakeStandby s = backInRun (noteWake 0 false v) := by
    rw [wakeStandby_eq h, hchans]
  obtain ⟨e1, e2, e3⟩ := standbyExits_frame s.aon.standbyChans (beginSteps clockSteps 2 s)
  have n1 := only_noteWake 0 false v
  have v1 : Only [.aon] u v := only_updAon _ _
  obtain ⟨r1, r2, r3⟩ := backInRun_frame (noteWake 0 false v)
  obtain ⟨q1, q2, q3⟩ := backInRun_status (noteWake 0 false v)
  have haon : (backInRun (noteWake 0 false v)).aon = { s.aon with
      standbyChans := [], stepQ := (beginSteps clockSteps 2 s).aon.stepQ,
      stepWait := (beginSteps clockSteps 2 s).aon.stepWait, latched := 0 } := by
    have hu : u.aon = (beginSteps clockSteps 2 s).aon := e1.aon
    have hv : v.aon = { u.aon with standbyChans := [] } := rfl
    rw [r3, n1.aon, hv, hu, b3]
  rw [hw]
  refine ⟨?_, q1, q2, q3, ?_, ?_, fun m hm hc => ?_⟩
  · exact (b1.mono (by simp)).trans ((e1.mono (by simp)).trans ((v1.mono (by simp)).trans
      ((n1.mono (by simp)).trans (r1.mono (by simp)))))
  · rw [haon]
  · rw [r1.mem, n1.mem, v1.mem, e3, b1.mem]
  · obtain ⟨m1, m2, m3, m4⟩ := mcStatus_ne_pwr m
    have h1 : chanState (beginSteps clockSteps 2 s) m = 3 := (chanState_of_regs (b2 _ m2)).trans hc
    have hn : ¬ RestartReg (oMcStatus m) := fun h => by
      rcases h with h | h | h
      · exact m1 h
      · exact m2 h
      · exact m3 h
    rw [chanState_of_regs (r2 _ hn), chanState_of_regs (rd_noteWake_ne m4 _ _ _), chanState_of_regs (rd_congr v1.regs _)]
    exact chanState_standbyExits _ (.inl ⟨hm, h1⟩)

theorem exec_run {s : State} (hc : capAnswers s = true) (hs : isSafe s = false) (hp : pwrState s = 1) :
    ∃ t, exec .run s = .next t ∧ pwrState t = 0 ∧ rdf t oPwrStatus 8 3 = 1 ∧ Caused t .pstateDone 0 ∧
      t.aon.standbyChans = [] ∧
      (∀ m, m < 8 → m ∈ s.aon.standbyChans → chanState s m = 3 → chanState t m = 1) ∧ t.mem.dram = s.mem.dram ∧
      Acked s t ∧ Only [.cap, .aon, .regs, .mem] s t := by
  obtain ⟨h1, h2, h3, h4, h5, h6, h7⟩ := wakeStandby_frame (s := answered false 0 s) hp
  refine ⟨_, capCmd_timeless hc (pwrCmd_ok (s := answered false 0 s) hs hp _) ⟨⟨h1.pending, ?_, ?_, ?_, ?_⟩, ?_, ?_⟩, h2, h3, h4, ?_,
    fun m _ => h7 m, h6, h1.cap, ((only_answered _ _ _).mono (by simp)).trans (h1.mono (by simp))⟩
  iterate 7 · exact (congrArg _ h5).trans rfl

/-! ### RETAIN and OFF (R355, R356) -/

/-- The islands are gated in a power state. -/
def gated (st : Nat) (s : State) : State := updAon (fun a => { a with pgate := true }) (wrf s oPwrStatus 0 3 st)

theorem pwrState_gated {st : Nat} (h : st < 8) (s : State) : pwrState (gated st s) = st := by
  have : pwrState (gated st s) = st % 2 ^ 3 := rdf_wrf_same s oPwrStatus 0 3 st (by decide)
  rw [this]
  exact Nat.mod_eq_of_lt h

theorem regsOnly_gated (st : Nat) (s : State) : RegsOnly (· = oPwrStatus) s (gated st s) :=
  (rests_wrf_at s oPwrStatus 0 3 st).regs.trans (regsOnly_of_regs rfl)

theorem exec_retain {s : State} (hc : capAnswers s = true) (hs : isSafe s = false) (hp : pwrState s = 0) (hq : Quiet s)
    (hw : Regs.wf s.regs = true) (ans : List Recalled) :
    ∃ t, exec (.retain ans) s = .next t ∧ pwrState t = 2 ∧ t.aon = { s.aon with
          standbyWait := false
          standbyChans := []
          pgate := true } ∧
        t.mem.dram = s.mem.dram ∧ t.dev.scratch = s.dev.scratch ∧ t.dev.reelA = s.dev.reelA ∧
        t.dev.reelB = s.dev.reelB ∧ (∀ o, AonReg o → rd t o = rd s o) ∧
        (∀ o d, regDesc o = some d →
          rd t o &&& (w64 d.rw ||| w64 d.rwc) = rd s o &&& (w64 d.rw ||| w64 d.rwc)) ∧ t.tx = s.tx ∧ t.shadow = s.shadow := by
  have hk := warmKept_warmSteps (s := answered false 0 s) hq hw ans
  have hfleet : RegsOnly Fleeting (warmSteps ans (answered false 0 s)) (gated 2 (warmSteps ans (answered false 0 s))) :=
    (regsOnly_gated 2 _).mono fun _ h => h ▸ fleeting_pwr
  have haon : (gated 2 (warmSteps ans (answered false 0 s))).aon = { s.aon with
      standbyWait := false, standbyChans := [], pgate := true } :=
    congrArg (fun a : AonSide => { a with pgate := true }) hk.aon
  refine ⟨_, capCmd_timeless hc (pwrCmd_ok (s := answered false 0 s) hs hp _) ⟨⟨hk.pending, ?_, ?_, ?_, ?_⟩, ?_, ?_⟩, pwrState_gated (by decide) _, haon,
    hk.dram, hk.scratch, hk.reelA, hk.reelB, fun o ho => ?_, fun o d hd => ?_, hk.tx, hk.shadow⟩
  iterate 6 · exact (congrArg _ haon).trans rfl
  · exact (hfleet.aonReg ho).trans (hk.aonRegs o ho)
  · rw [← heldMask_of_desc hd]
    exact (hfleet.held o).trans (hk.held o)

theorem rd_offState {s : State} (h : Regs.wf s.regs = true) (o : Nat) :
    rd (offState s) o = if 0x300 ≤ o ∧ o < 0x400 then rd s o else regReset o := by
  have ho : sOrdered s.regs = true := (Bool.and_eq_true_iff.1 h).1
  change sGet (regReset o) (s.regs.filter _) o = _
  rw [sGet, sFind_filter ho, rd, sGet]
  cases sFind s.regs o with
  | none => simp
  | some v =>
    by_cases hr : 0x300 ≤ o ∧ o < 0x400
    · simp [Option.filter, hr]
    · rw [if_neg hr, Option.filter, if_neg (by simpa using hr)]
      rfl

theorem exec_off {s : State} (hc : capAnswers s = true) (hs : isSafe s = false) (hp : pwrState s = 0) (hq : Quiet s)
    (hw : Regs.wf s.regs = true) (ans : List Recalled) :
    ∃ t, exec (.off ans) s = .next t ∧ pwrState t = 3 ∧ t.aon = { s.aon with
          standbyWait := false
          standbyChans := []
          pgate := true } ∧
        (∀ o, AonReg o → rd t o = rd s o) ∧ (∀ o, ¬ AonReg o → o ≠ oPwrStatus → rd t o = regReset o) ∧
        t.shadow = [] ∧ t.sheet = { State.reset.sheet with seqCtr := s.sheet.seqCtr } ∧ t.dev = State.reset.dev ∧
        t.home = State.reset.home ∧ t.mem = State.reset.mem ∧ t.links = [] ∧ t.tx = s.tx := by
  let u := warmSheet ans (warmFinish (answered false 0 s))
  have hd : Rests RestReg (answered false 0 s) u := rests_drained (s := answered false 0 s) hq ans
  have hpwb : u.mem.pwb = [] := by
    obtain ⟨-, -, -, -, -, h, -⟩ := hd.quiet hq
    exact h
  have hop : opOff ans (answered false 0 s) = gated 3 (offState u) := by
    unfold opOff
    rw [pwrCmd_ok (s := answered false 0 s) hs hp]
    rw [writeOut_empty hpwb]
    rfl
  have haon : (gated 3 (offState u)).aon = { s.aon with standbyWait := false, standbyChans := [], pgate := true } :=
    congrArg (fun a : AonSide => { a with standbyWait := false, standbyChans := [], pgate := true }) hd.aon
  have hregs : ∀ o, o ≠ oPwrStatus → rd (gated 3 (offState u)) o =
      if 0x300 ≤ o ∧ o < 0x400 then rd s o else regReset o := fun o ho => by
    rw [regsOnly_gated 3 _ o ho, rd_offState (hd.wf hw)]
    by_cases h : AonReg o
    · have hr : rd u o = rd s o := (hd.regs.mono fun _ => fleeting_rest).aonReg h
      rw [hr]
    · exact (if_neg h).trans (if_neg h).symm
  refine ⟨_, capCmd_timeless hc hop ⟨⟨hd.pending, ?_, ?_, ?_, ?_⟩, ?_, ?_⟩, pwrState_gated (by decide) _, haon, fun o ho => ?_,
    fun o ho hne => ?_, rfl, ?_, rfl, rfl, rfl, rfl, hd.tx⟩
  iterate 6 · exact (congrArg _ haon).trans rfl
  · rw [hregs o (by unfold AonReg at ho; unfold oPwrStatus; omega)]
    exact if_pos ho
  · exact (hregs o hne).trans (if_neg ho)
  · exact congrArg (fun q => { State.reset.sheet with seqCtr := q }) hd.seq

/-! ### Wakes -/

theorem timeless_noteOf (src : WakeSrc) (s : State) : Only [.regs] s (noteOf src s) := by
  cases src <;> exact only_noteWake _ _ _

theorem rd_noteOf_ne {o : Nat} (h : o ≠ oAonSts) (src : WakeSrc) (s : State) : rd (noteOf src s) o = rd s o := by
  cases src <;> exact rd_noteWake_ne h _ _ _

theorem noteOf_wrst (src : WakeSrc) (s : State) : bitOf (rd (noteOf src s) oAonSts) 16 = decide (src = .wrst) := by
  cases src <;> exact (noteWake_wrst _ _ _).trans rfl

theorem caused_noteOf {c : Cause} {u : Nat} (hu : u < 32) (src : WakeSrc) (s : State) :
    Caused (noteOf src s) c u ↔ Caused s c u := by cases src <;> exact caused_noteWake hu _ _ _

theorem exec_wake {s : State} {src : WakeSrc} (hp : s.aon.porstLow = false) (hd : pwrState s = 2 ∨ pwrState s = 3)
    (hw : wakes src s = true) :
    ∃ t, exec (.wake src) s = .next t ∧ pwrState t = 0 ∧ rdf t oPwrStatus 8 3 = 1 ∧ Caused t .pstateDone 0 ∧
      t.aon.pgate = false ∧ t.aon.fuseCopy = (if pwrState s = 3 then s.aon.fuses else s.aon.fuseCopy) ∧
      bitOf (rd t oAonSts) 16 = decide (src = .wrst) ∧
      (∀ i, src = .comparator i → rdf t oAonSts 8 6 = 2 ^ i) ∧ t.aon.stepQ = [] ∧
      t.sheet = { s.sheet with scrubLapStart := s.aon.ft } ∧
      t.mem = { s.mem with poolStart := s.aon.ft, chans := t.mem.chans } ∧
      (∀ m, m < 8 → chanOf t m = { chanOf s m with lapStart := s.aon.ft }) ∧ Only [.aon, .regs, .sheet, .mem] s t := by
  obtain ⟨h1, h2, h3, h4, h5, h6⟩ := restart_frame s
  obtain ⟨g1, g2, g3⟩ := backInRun_status (ungated s)
  have hn := timeless_noteOf src (restart s)
  have haon : (noteOf src (restart s)).aon = restartedAon s := hn.aon.trans h6
  have hpwr := rd_noteOf_ne (o := oPwrStatus) (by decide) src (restart s)
  refine ⟨_, awake_timeless hp (wakeUp_deep hp hd hw) ⟨⟨hn.pending.trans h1.pending, ?_, ?_, ?_, ?_⟩, ?_, ?_⟩, ?_, ?_,
    (caused_noteOf (by decide) src _).2 g3, ?_, ?_, noteOf_wrst src _, fun i hi => ?_, ?_, hn.sheet.trans h3, ?_, fun m hm => ?_,
    h1.trans (hn.mono (by simp))⟩
  iterate 6 · rw [haon]; rfl
  · rw [pwrState, rdf, hpwr]; exact g1
  · rw [rdf, hpwr]; exact g2
  · rw [haon]; rfl
  · rw [haon]; rfl
  · subst hi
    have hi6 : i < 6 := by
      simp only [wakes, Bool.and_eq_true, decide_eq_true_eq] at hw
      exact hw.1.1
    exact (noteWake_woke _ _ _).trans (Nat.mod_eq_of_lt (Nat.pow_lt_pow_right (by decide) hi6))
  · rw [haon]; rfl
  · rw [hn.mem]; exact h4
  · rw [chanOf_congr (congrArg MemSide.chans hn.mem)]
    exact h5 m hm

/-! ### The statement -/

/-- Settles O56: each command of Table PWR-2 by its own lemma, and a wake by the frame of the restart. -/
theorem powerStates : Obligations.PowerStates := by
  refine ⟨fun s => ⟨fun hc hs hp => ?_, exec_standbyEnter, fun ha hw => ?_, exec_run, fun hc ans => ?_⟩,
    fun ans s => ⟨fun hc hs hp hq hw => ⟨exec_retain hc hs hp hq hw ans, exec_off hc hs hp hq hw ans⟩, fun hp hd src => exec_wake hp hd⟩⟩
  · exact capCmd_timeless hc (pwrCmd_ok (s := answered false 0 s) hs hp _) ⟨⟨rfl, rfl, rfl, rfl, rfl⟩, rfl, rfl⟩
  · exact live_timeless ha (opStandbyTimeout_eq hw) ⟨⟨rfl, rfl, rfl, rfl, rfl⟩, rfl, rfl⟩
  · simp only [List.forall_mem_cons, List.not_mem_nil, false_implies, implies_true, and_true]
    exact ⟨exec_pwrRefused hc rfl, exec_pwrRefused hc rfl, exec_pwrRefused hc rfl, exec_pwrRefused hc rfl⟩

end Sys2Proof.Machine
end

section
/-! PROOFS. Channel and port islands (R297, R347, R368, R377 to R379). -/

namespace Sys2Proof.Machine

/-! ### What a register write leaves of the pool's layout -/

section
variable {α β : Type} {f : Nat × α → Option β} {k : Nat} (hf : ∀ v, f (k, v) = none)
include hf

theorem filterMap_sSet (m : Sparse α) (v : α) : (sSet m k v).filterMap f = m.filterMap f := by
  induction m with
  | nil => simp [sSet, hf]
  | cons p m ih =>
    obtain ⟨j, x⟩ := p
    rw [sSet]
    split
    · rw [List.filterMap_cons, hf]
    · split
      next h => subst h; rw [List.filterMap_cons, List.filterMap_cons, hf, hf]
      next => rw [List.filterMap_cons, List.filterMap_cons, ih]

theorem filterMap_sDel (m : Sparse α) : (sDel m k).filterMap f = m.filterMap f := by
  induction m with
  | nil => rfl
  | cons p m ih =>
    obtain ⟨j, x⟩ := p
    rw [sDel]
    split
    next h => subst h; rw [List.filterMap_cons, hf, ih]
    next => rw [List.filterMap_cons, List.filterMap_cons, ih]

theorem filterMap_sPut [DecidableEq α] (d : α) (m : Sparse α) (v : α) : (sPut d m k v).filterMap f = m.filterMap f := by
  unfold sPut
  split
  · exact filterMap_sDel hf m
  · exact filterMap_sSet hf m v

end

/-- A register outside the trays' blocks. -/
def NotTray (o : Nat) : Prop := o < 0x300000 ∨ 0x340004 ≤ o

theorem trayRanges_wr {s : State} {o : Nat} (h : NotTray o) (v : W64) : trayRanges (wr s o v) = trayRanges s := by
  unfold NotTray at h
  have hr : ∀ p : Nat × W64, 0x300000 ≤ p.1 → p.1 < 0x340000 → rdf (wr s o v) (p.1 + 4) 0 23 = rdf s (p.1 + 4) 0 23 :=
    fun p h1 h2 => rdf_wr_ne _ _ _ _ (by omega)
  unfold trayRanges
  rw [wr_regs, filterMap_sPut (fun x => if_neg (by simp only; omega))]
  refine List.filterMap_congr fun p _ => ?_
  dsimp only
  split
  next hp => rw [hr p hp.1 hp.2.1]
  next => rfl

/-- The registers that place structures on the pool, outside the trays' blocks. -/
def LayoutReg (o : Nat) : Prop :=
  o = oMcMap ∨ (∃ m, o = oMcCfg m) ∨ o = 0x020020 ∨ o = 0x020028 ∨ o = 0x209010 ∨ o = 0x342100 ∨ o = 0x342104 ∨ o = 0x342108

section
variable {s : State} {o : Nat} (h : ¬ LayoutReg o) (v : W64)
include h

theorem mapMode_wr : mapMode (wr s o v) = mapMode s := rdf_wr_ne _ _ _ _ fun e => h (.inl e.symm)

theorem chanGib_wr (m : Nat) : chanGib (wr s o v) m = chanGib s m := by
  have hc : rd (wr s o v) (oMcCfg m) = rd s (oMcCfg m) := rd_wr_ne _ _ fun e => h (.inr (.inl ⟨m, e.symm⟩))
  unfold chanGib chanPresent chanRanks
  rw [hc]

theorem chanBaseGib_wr (m : Nat) : chanBaseGib (wr s o v) m = chanBaseGib s m := by
  simp only [chanBaseGib, mapMode_wr h, chanGib_wr h]

theorem onChan_wr (m b n : Nat) : onChan (wr s o v) m b n = onChan s m b n := by
  simp only [onChan, mapMode_wr h, chanGib_wr h, chanBaseGib_wr h]

theorem placements_wr (ht : NotTray o) : placements (wr s o v) = placements s := by
  have h1 : rd (wr s o v) 0x020020 = rd s 0x020020 := rd_wr_ne _ _ fun e => h (by simp [LayoutReg, ← e])
  have h2 : rd (wr s o v) 0x020028 = rd s 0x020028 := rd_wr_ne _ _ fun e => h (by simp [LayoutReg, ← e])
  have h3 : rd (wr s o v) 0x209010 = rd s 0x209010 := rd_wr_ne _ _ fun e => h (by simp [LayoutReg, ← e])
  have h4 : rd (wr s o v) 0x342100 = rd s 0x342100 := rd_wr_ne _ _ fun e => h (by simp [LayoutReg, ← e])
  have h5 : rd (wr s o v) 0x342104 = rd s 0x342104 := rd_wr_ne _ _ fun e => h (by simp [LayoutReg, ← e])
  have h6 : rd (wr s o v) 0x342108 = rd s 0x342108 := rd_wr_ne _ _ fun e => h (by simp [LayoutReg, ← e])
  have hb : ∀ b, backingRegion (wr s o v) b = backingRegion s b := fun b => by
    cases b <;> simp [backingRegion, h1, h2]
  have hs : spareRange (wr s o v) = spareRange s := by simp only [spareRange, h3]
  have hl : lmRing (wr s o v) = lmRing s := by unfold lmRing rdf; rw [h4, h5, h6]
  simp only [placements, trayRanges_wr ht, hb, hs, hl]

theorem usedChan_wr (ht : NotTray o) (m : Nat) : usedChan (wr s o v) m = usedChan s m := by
  simp only [usedChan, placements_wr h v ht, onChan_wr h]

end

theorem layoutReg_high {o : Nat} (h : LayoutReg o) : 0x020000 ≤ o := by
  rcases h with rfl | ⟨m, rfl⟩ | rfl | rfl | rfl | rfl | rfl | rfl
  case inr.inl => unfold oMcCfg chanBase; omega
  all_goals decide

theorem not_layout_islCtrl : ¬ LayoutReg oIslCtrl := fun h => absurd (layoutReg_high h) (by decide)

/-! ### Channel island commands -/

/-- SVC_ISL_CTRL names the channel. -/
def islNamed (m : Nat) (s : State) : State := wrf (answered false 0 s) oIslCtrl 0 3 m

section
variable {s : State} (m : Nat)

theorem islBarred_named : islBarred (islNamed m s) = islBarred s := by
  have h1 : isSafe (islNamed m s) = isSafe s := isSafe_wr_ne _ (by decide)
  have h2 : rd (islNamed m s) oIslSts = rd s oIslSts := rd_wrf_ne _ _ _ _ (by decide)
  rw [islBarred, h1, h2, islBarred]

theorem islOffOk_named : islOffOk (islNamed m s) m = islOffOk s m := by
  have h1 : chanState (islNamed m s) m = chanState s m :=
    chanState_of_regs (rd_wrf_ne _ _ _ _ (by unfold oMcStatus chanBase oIslCtrl; omega))
  have h2 : usedChan (islNamed m s) m = usedChan s m := usedChan_wr (s := answered false 0 s) not_layout_islCtrl _ (.inl (by decide)) m
  rw [islOffOk, h1, h2, islOffOk]

theorem rdf_named {m : Nat} (hm : m < 8) : rdf (islNamed m s) oIslCtrl 0 3 = m := by
  rw [islNamed, rdf_wrf_same _ _ _ _ _ (by decide)]
  exact Nat.mod_eq_of_lt hm

end

/-- A command refused. -/
theorem islRefused {m : Nat} {i : Instr} {f : State → State} {s : State} (hc : capAnswers s = true)
    (hex : exec i s = .next (capCmd f s)) (hf : f (answered false 0 s) = islRefuse (islNamed m s)) :
    ∃ t, exec i s = .next t ∧ rdf t oIslSts 28 3 = 2 ∧ Acked s t ∧ Only [.cap, .regs] s t ∧
      RegsOnly (fun o => o = oIslCtrl ∨ o = oIslSts) s t := by
  refine ⟨_, hex.trans (capCmd_timeless hc hf (timeless_of_aon rfl rfl)), ?_, rfl, ?_, ?_⟩
  · exact rdf_wrf_same _ _ _ _ _ (by decide)
  · exact ((only_answered _ _ _).mono (by simp)).trans
      (((only_wrf _ _ _ _ _).mono (by simp)).trans ((only_wrf _ _ _ _ _).mono (by simp)))
  · exact (regsOnly_of_regs (t := answered false 0 s) rfl).trans
      ((regsOnly_wrf _ _ _ _ (.inl rfl)).trans (regsOnly_wrf _ _ _ _ (.inr rfl)))

/-- BUSY with the command, before its steps of current. -/
def islBusy (m : Nat) (up : Bool) (s : State) : State :=
  updCap (fun c => { c with islCmd := some (m, up) }) (wrf (islNamed m s) oIslSts 31 1 1)

theorem islBegin_named (m : Nat) (up : Bool) (s : State) :
    islBegin m up (islNamed m s) = beginSteps (chanSteps m) 3 (islBusy m up s) := rfl

theorem only_updCap (f : CapSide → CapSide) (s : State) : Only [.cap] s (updCap f s) := by simp [only_iff]

/-- What an accepted command leaves before its steps of current. -/
theorem islBusy_frame {m : Nat} (hm : m < 8) (up : Bool) (s : State) : bitOf (rd (islBusy m up s) oIslSts) 31 = true ∧
    rdf (islBusy m up s) oIslCtrl 0 3 = m ∧ Only [.cap, .regs] s (islBusy m up s) ∧
    RegsOnly (fun o => o = oIslCtrl ∨ o = oIslSts) s (islBusy m up s) := by
  refine ⟨?_, ?_, ?_, ?_⟩
  · refine (congrArg (bitOf · 31) (rd_wrf_same (islNamed m s) oIslSts 31 1 1)).trans ?_
    rw [bitOf_setFld_one _ _ _ (by decide)]
    rfl
  · exact (rdf_wrf_ne (islNamed m s) _ _ _ _ _ (by decide)).trans (rdf_named hm)
  · simp [only_iff, islBusy, islNamed, answered]
  · have h1 : RegsOnly (fun o => o = oIslCtrl ∨ o = oIslSts) (answered false 0 s) (islNamed m s) :=
      regsOnly_wrf _ _ _ _ (.inl rfl)
    have h2 : RegsOnly (fun o => o = oIslCtrl ∨ o = oIslSts) (islNamed m s) (wrf (islNamed m s) oIslSts 31 1 1) :=
      regsOnly_wrf _ _ _ _ (.inr rfl)
    have h3 := (h1.trans h2).trans (regsOnly_of_regs (only_updCap (fun c => { c with islCmd := some (m, up) }) _).regs)
    exact (regsOnly_of_regs (only_answered false 0 s).regs).trans h3

/-- A command accepted. -/
theorem islBegun {m : Nat} (hm : m < 8) {up : Bool} {i : Instr} {f : State → State} {s : State} (hc : capAnswers s = true)
    (hex : exec i s = .next (capCmd f s)) (hf : f (answered false 0 s) = islBegin m up (islNamed m s)) :
    ∃ t, exec i s = .next t ∧ bitOf (rd t oIslSts) 31 = true ∧ t.cap.islCmd = some (m, up) ∧
      t.cap.resp = { ack := true, err := false, rdata := 0 } ∧ rdf t oIslCtrl 0 3 = m ∧ Only [.cap, .regs, .aon] s t ∧
      (if s.aon.stepQ = [] ∧ s.aon.stepWait = 0 then
        t.aon = { s.aon with stepQ := [chanSteps m, chanSteps m], stepWait := 1000 } ∧
          RegsOnly (fun o => o = oIslCtrl ∨ o = oIslSts) s t
       else t.aon = { s.aon with stepQ := s.aon.stepQ ++ List.replicate 3 (chanSteps m) } ∧ Caused t .stepHold 0) := by
  obtain ⟨u1, u2, u3, u4⟩ := islBusy_frame hm up s
  obtain ⟨b1, b2, b3⟩ := beginSteps_frame (chanSteps m) 2 (islBusy m up s)
  have hts : Timeless s (beginSteps (chanSteps m) 3 (islBusy m up s)) := by
    refine ⟨⟨b1.pending, ?_, ?_, ?_, ?_⟩, ?_, ?_⟩ <;> rw [b3] <;> rfl
  have hsts : rd (beginSteps (chanSteps m) 3 (islBusy m up s)) oIslSts = rd (islBusy m up s) oIslSts := b2 _ (by decide)
  have hctl : rd (beginSteps (chanSteps m) 3 (islBusy m up s)) oIslCtrl = rd (islBusy m up s) oIslCtrl := b2 _ (by decide)
  refine ⟨_, hex.trans (capCmd_timeless hc (hf.trans (islBegin_named m up s)) hts), ?_, ?_, ?_, ?_, ?_, ?_⟩
  · rw [hsts, u1]
  · rw [b1.cap]; rfl
  · rw [b1.cap]; rfl
  · rw [rdf, hctl]
    exact u2
  · exact (u3.mono (by simp)).trans (b1.mono (by simp))
  · split
    next h =>
      rw [beginSteps_free (s := islBusy m up s) h.1 h.2]
      exact ⟨rfl, u4.trans (regsOnly_of_regs rfl)⟩
    next h =>
      rw [beginSteps_held (s := islBusy m up s) h]
      exact ⟨(only_raise0_none rfl _).aon, caused_raise0 _ _⟩

theorem opIslandOff_eq {m : Nat} {s : State} : opIslandOff m (answered false 0 s) =
    if islBarred s || !islOffOk s m then islRefuse (islNamed m s) else islBegin m false (islNamed m s) := by
  change (if islBarred (islNamed m s) || !islOffOk (islNamed m s) m then _ else _) = _
  rw [islBarred_named, islOffOk_named]
  rfl

theorem opIslandOn_eq {m : Nat} {s : State} : opIslandOn m (answered false 0 s) =
    if islBarred s then islRefuse (islNamed m s) else islBegin m true (islNamed m s) := by
  change (if islBarred (islNamed m s) then _ else _) = _
  rw [islBarred_named]
  rfl

/-! ### The end of an island's steps -/

/-- An island's cause: ISL_ON or ISL_OFF. -/
def islCause (up : Bool) : Cause := if up then .islOn else .islOff

theorem islCause_info (up : Bool) : (islCause up).cls = .none ∧ causeReg (islCause up).domain 0 = 0x010150 := by
  cases up <;> exact ⟨rfl, rfl⟩

/-- A write of SVC_ISL_STS and then the island's cause: the status stands, and nothing else changes. -/
theorem islCaused (up : Bool) {s u : State} (hu : RegsOnly (· = oIslSts) s u) : rd (raise0 (islCause up) u) oIslSts = rd u oIslSts ∧
    Caused (raise0 (islCause up) u) (islCause up) 0 ∧ Only [.regs] u (raise0 (islCause up) u) ∧
    RegsOnly (fun o => o = oIslSts ∨ o = 0x010150) s (raise0 (islCause up) u) := by
  obtain ⟨hc, hr⟩ := islCause_info up
  have h := regsOnly_raise0_none hc u
  rw [hr] at h
  exact ⟨h _ (by decide), caused_raise0 _ _, only_raise0_none hc u, (hu.mono fun _ h => .inl h).trans (h.mono fun _ h => .inr h)⟩

/-- SVC_ISL_STS at the end of a channel island's command. -/
def islStatus (m : Nat) (up : Bool) (s : State) : State :=
  wrf (wrf (wrf (updCap (fun c => { c with islCmd := none }) s) oIslSts 31 1 0) oIslSts 28 3 1) oIslSts (16 + m) 1 (b2n (!up))

theorem islEnd_done {m : Nat} {up : Bool} {s : State} (hc : s.cap.islCmd = some (m, up))
    (hs : stepsLeft s (chanSteps m) = false) : islEnd m up s = raise0 (islCause up) (islStatus m up s) := by
  unfold islEnd
  rw [if_pos ⟨hc, by simp [hs]⟩]
  rfl

theorem islEnd_waits {m : Nat} {s : State} (hs : stepsLeft s (chanSteps m) = true) (up : Bool) : islEnd m up s = s :=
  if_neg (by simp [hs])

/-- The end of a channel island's command. -/
theorem islEnded {m : Nat} (hm : m < 8) {up : Bool} {i : Instr} {s : State} (ha : asleep s = false)
    (hc : s.cap.islCmd = some (m, up)) (hs : stepsLeft s (chanSteps m) = false)
    (hex : exec i s = .next (live (islEnd m up) s)) :
    ∃ t, exec i s = .next t ∧ bitOf (rd t oIslSts) 31 = false ∧ rdf t oIslSts 28 3 = 1 ∧
      bitOf (rd t oIslSts) (16 + m) = !up ∧ t.cap = { s.cap with islCmd := none } ∧
      Caused t (if up then .islOn else .islOff) 0 ∧ Only [.cap, .regs] s t ∧
      RegsOnly (fun o => o = oIslSts ∨ o = 0x010150) s t := by
  have hw : RegsOnly (· = oIslSts) s (islStatus m up s) :=
    (rests_wrf_at (updCap (fun c => { c with islCmd := none }) s) oIslSts 31 1 0).regs.trans
      ((rests_wrf_at _ oIslSts 28 3 1).regs.trans (rests_wrf_at _ oIslSts (16 + m) 1 (b2n (!up))).regs)
  have ho : Only [.cap, .regs] s (islStatus m up s) := by simp [only_iff, islStatus]
  obtain ⟨h1, h2, h3, h4⟩ := islCaused up hw
  refine ⟨_, hex.trans (live_timeless ha (islEnd_done hc hs) (timeless_of_aon h3.pending h3.aon)), ?_, ?_, ?_, h3.cap, h2,
    ho.trans (h3.mono (by simp)), h4⟩
  · rw [h1, islStatus, rd_wrf_same, bitOf_setFld_ne _ _ _ _ _ (.inr (by omega)), rd_wrf_same,
      bitOf_setFld_ne _ _ _ _ _ (.inr (by decide)), rd_wrf_same, bitOf_setFld_one _ _ _ (by decide)]
    rfl
  · rw [rdf, h1, ← rdf, islStatus, rdf_wrf_field_ne _ _ _ _ _ _ _ (.inr (by omega)) (by decide), rdf_wrf_same _ _ _ _ _ (by decide)]
    rfl
  · rw [h1, islStatus, rd_wrf_same, bitOf_setFld_one _ _ _ (by omega)]
    cases up <;> rfl

/-- A port island goes off or on. -/
theorem islPort {n : Nat} (hn : n < 16) {up : Bool} {i : Instr} {f : State → State} {s : State} (ha : asleep s = false)
    (hex : exec i s = .next (live f s)) (hf : f s = raise0 (islCause up) (wrf s oIslSts n 1 (b2n (!up)))) :
    ∃ t, exec i s = .next t ∧ bitOf (rd t oIslSts) n = !up ∧ Caused t (islCause up) 0 ∧ Only [.regs] s t ∧
      RegsOnly (fun o => o = oIslSts ∨ o = 0x010150) s t := by
  obtain ⟨h1, h2, h3, h4⟩ := islCaused up (rests_wrf_at s oIslSts n 1 (b2n (!up))).regs
  refine ⟨_, hex.trans (live_timeless ha hf (timeless_of_aon h3.pending h3.aon)), ?_, h2, (only_wrf _ _ _ _ _).trans h3, h4⟩
  rw [h1, rd_wrf_same, bitOf_setFld_one _ _ _ (by omega)]
  cases up <;> rfl

theorem opIslOff_port {n : Nat} {s : State} (hb : bitOf (rd s oIslSts) n = false) (hs : stepsLeft s (portSteps n) = false)
    (hl : ∀ a ∈ portLinks s n, linkState s a = 5) : opIslOff (.port n) s = raise0 .islOff (wrf s oIslSts n 1 1) := by
  have hall : (portLinks s n).all (fun a => decide (linkState s a = 5)) = true :=
    List.all_eq_true.2 fun a ha => decide_eq_true (hl a ha)
  change (if !bitOf (rd s oIslSts) n && !stepsLeft s (portSteps n) && _ then _ else s) = _
  rw [hb, hs, hall]
  rfl

theorem opIslOn_port {n : Nat} {s : State} (hb : bitOf (rd s oIslSts) n = true) (hs : stepsLeft s (portSteps n) = false)
    (hl : ∃ a ∈ portLinks s n, linkState s a ≠ 0 ∧ linkState s a ≠ 5) :
    opIslOn (.port n) s = raise0 .islOn (wrf s oIslSts n 1 0) := by
  have hany : (portLinks s n).any (fun a => decide (linkState s a ≠ 0) && decide (linkState s a ≠ 5)) = true := by
    obtain ⟨a, ha, h0, h5⟩ := hl
    exact List.any_eq_true.2 ⟨a, ha, by simp [h0, h5]⟩
  change (if bitOf (rd s oIslSts) n && !stepsLeft s (portSteps n) && _ then _ else s) = _
  rw [hb, hs, hany]
  rfl

/-- Settles O59: a command by its refusal or its start, and an island by the end of its steps. -/
theorem islandsCycle : Obligations.IslandsCycle := by
  intro m n s hm hn
  have hmo : ∀ f : State → State, onUnit (okChan m) f s = .next (f s) := fun f => onUnit_true (decide_eq_true hm) f s
  have hno : ∀ f : State → State, onUnit (okPort n) f s = .next (f s) := fun f => onUnit_true (decide_eq_true hn) f s
  refine ⟨fun hc hb => ⟨fun hok => ?_, ?_⟩, fun hc => ?_, fun ha => ⟨fun hs => ⟨?_, ?_⟩, fun hcmd hs => ?_, fun hcmd hs => ?_,
    fun hb hs hl => ?_, fun hb hs hl => ?_⟩⟩
  · have hoff : islOffOk s m = true := by
      rcases hok with h | ⟨h1, h2⟩
      · simp [islOffOk, h]
      · simp [islOffOk, h1, h2]
    exact islBegun hm hc (hmo _) (opIslandOff_eq.trans (if_neg (by simp [hb, hoff])))
  · exact islBegun hm hc (hmo _) (opIslandOn_eq.trans (if_neg (by simp [hb])))
  · simp only [List.forall_mem_cons, List.not_mem_nil, false_implies, implies_true, and_true]
    refine ⟨fun h => islRefused hc (hmo _) (opIslandOff_eq.trans (if_pos ?_)),
      fun h => islRefused hc (hmo _) (opIslandOn_eq.trans (if_pos ?_))⟩
    · rcases h with h | ⟨-, h⟩ <;> simp [h]
    · rcases h with h | ⟨h, -⟩
      · exact h
      · exact absurd h (by simp)
  · exact (hmo _).trans (live_timeless ha (islEnd_waits hs false) (timeless_of_aon rfl rfl))
  · exact (hmo _).trans (live_timeless ha (islEnd_waits hs true) (timeless_of_aon rfl rfl))
  · exact islEnded hm ha hcmd hs (hmo _)
  · exact islEnded hm ha hcmd hs (hmo _)
  · exact islPort hn (up := false) ha (hno _) (opIslOff_port hb hs hl)
  · exact islPort hn (up := true) ha (hno _) (opIslOn_port hb hs hl)

end Sys2Proof.Machine
end

section
/-! PROOFS. Reading a way of the sheet; the sheet peek and soft-repair registers; scrub visits and rechecks (R112, R113, R136 to
R139). -/

namespace Sys2Proof.Machine

theorem onUnit_next {ok : Bool} {f : State → State} {s t : State} (hok : ok = true) (h : f s = t) :
    onUnit ok f s = .next t := by rw [onUnit_true hok, h]

/-! ### Reading a way with at most three wrong symbols (R112) -/

/-- A corrected way is written back and read again later. -/
def rewritten (key : Nat) (errs : List SymErr) (s : State) : State :=
  let s := putWay key (storedWay s key) s
  { s with sheet := { s.sheet with recheck := s.sheet.recheck ++ errs.map (fun p => (key, p.1)) } }

/-- A way whose wrong symbols have been corrected: written back, to be read again, counted and raised. -/
def corrected (key : Nat) (errs : List SymErr) (s : State) : State :=
  let s := rewritten key errs s
  raise0 .sheetCe (wr s 0x030018 (satInc32 (rd s 0x030018)))

theorem readWay_clean {bank set way : Nat} {s : State} (h : sGet [] s.sheet.errs (wayKey bank set way) = []) :
    readWay bank set way s = (.clean (storedWay s (wayKey bank set way)), s) := by
  simp [readWay, h]

theorem readWay_fixed {bank set way : Nat} {l : List SymErr} {s : State}
    (h : sGet [] s.sheet.errs (wayKey bank set way) = l) (hne : l ≠ []) (hl : l.length ≤ 3) :
    readWay bank set way s =
      (.fixed (storedWay s (wayKey bank set way)), corrected (wayKey bank set way) l s) := by
  have h0 : ¬ l.length = 0 := fun e => hne (List.length_eq_zero_iff.1 e)
  unfold readWay
  simp only [h, if_neg h0, if_pos hl]
  rfl

theorem sFind_putWay_stored (key k : Nat) (s : State) :
    sFind (putWay key (storedWay s key) s).sheet.ways k = sFind s.sheet.ways k := by
  cases h : storedWay s key with
  | some e =>
    by_cases hk : k = key
    · subst hk
      exact (sFind_sSet_same _ _ _).trans h.symm
    · exact sFind_sSet_ne _ _ hk
  | none =>
    by_cases hk : k = key
    · subst hk
      exact (sFind_sDel_same _ _).trans h.symm
    · exact sFind_sDel_ne _ hk

theorem only_corrected (key : Nat) (errs : List SymErr) (s : State) : Only [.regs, .sheet] s (corrected key errs s) := by
  have h1 : Only [.sheet] s (rewritten key errs s) := by simp [only_iff, rewritten, putWay]
  exact (h1.mono (by simp)).trans (((only_wr _ _ _).trans (only_raise_ce (.inr rfl) _ _ _)).mono (by simp))

theorem sheet_corrected (key : Nat) (errs : List SymErr) (s : State) :
    (corrected key errs s).sheet = (rewritten key errs s).sheet :=
  ((only_wr _ _ _).trans (only_raise_ce (.inr rfl) _ _ _)).sheet

/-- A correction keeps every entry, and leaves nothing wrong in its way. -/
theorem corrected_ways (key : Nat) (errs : List SymErr) (s : State) :
    (∀ k, sFind (corrected key errs s).sheet.ways k = sFind s.sheet.ways k) ∧
    sGet [] (corrected key errs s).sheet.errs key = [] ∧ (corrected key errs s).sheet.peek = s.sheet.peek := by
  rw [sheet_corrected]
  refine ⟨fun k => sFind_putWay_stored key k s, ?_, rfl⟩
  show sGet [] (sDel s.sheet.errs key) key = []
  rw [sGet, sFind_sDel_same]
  rfl

theorem caused_corrected (key : Nat) (errs : List SymErr) (s : State) : Caused (corrected key errs s) .sheetCe 0 :=
  caused_raise0 _ _

/-- Beside the sheet, a correction changes the count of corrections, its cause and the fault class counters. -/
theorem regsOnly_corrected (key : Nat) (errs : List SymErr) (s : State) :
    RegsOnly (fun o => o = 0x030018 ∨ o = 0x010118 ∨ ClassReg o) s (corrected key errs s) := by
  refine RegsOnly.trans (t := rewritten key errs s) (regsOnly_of_regs rfl) ?_
  exact RegsOnly.trans (regsOnly_wr _ _ (.inl rfl)) ((regsOnly_raise .sheetCe 0 PsRec.none _).mono fun o h => .inr h)

theorem rd_corrected_count (key : Nat) (errs : List SymErr) (s : State) :
    rd (corrected key errs s) 0x030018 = satInc32 (rd s 0x030018) := by
  refine (regsOnly_raise .sheetCe 0 PsRec.none _ _ (by unfold ClassReg; decide)).trans ?_
  exact rd_wr_same _ _ _

/-! ### Peek (R113) -/

/-- The data registers of a peek take 96 bits, and DONE is set. -/
def peekFilled (b : BitVec 96) (s : State) : State :=
  wrf (wr (wr (wr s 0x030030 (w64 (fld b 0 32))) 0x030034 (w64 (fld b 32 32))) 0x030038 (w64 (fld b 64 32))) 0x030028 30 1 1

theorem only_peekFilled (b : BitVec 96) (s : State) : Only [.regs] s (peekFilled b s) := by simp [only_iff, peekFilled]

theorem peekFilled_regs (b : BitVec 96) (s : State) : rd (peekFilled b s) 0x030030 = w64 (fld b 0 32) ∧
    rd (peekFilled b s) 0x030034 = w64 (fld b 32 32) ∧ rd (peekFilled b s) 0x030038 = w64 (fld b 64 32) ∧
    bitOf (rd (peekFilled b s) 0x030028) 30 = true := by
  unfold peekFilled
  refine ⟨?_, ?_, ?_, ?_⟩
  · rw [rd_wrf_ne _ _ _ _ (by decide), rd_wr_ne _ _ (by decide), rd_wr_ne _ _ (by decide), rd_wr_same]
  · rw [rd_wrf_ne _ _ _ _ (by decide), rd_wr_ne _ _ (by decide), rd_wr_same]
  · rw [rd_wrf_ne _ _ _ _ (by decide), rd_wr_same]
  · rw [rd_wrf_same, bitOf_setFld_one _ _ _ (by decide)]
    rfl

theorem regsOnly_peekFilled (b : BitVec 96) (s : State) :
    RegsOnly (fun o => 0x030028 ≤ o ∧ o ≤ 0x030038) s (peekFilled b s) := by
  unfold peekFilled
  refine RegsOnly.trans ?_ (regsOnly_wrf _ _ _ _ (by decide))
  iterate 3 refine RegsOnly.trans ?_ (regsOnly_wr _ _ (by decide))
  exact RegsOnly.refl _ _

/-- The way that SHEET_PEEK names. -/
def peekKey (s : State) : Nat := wayKey (fld (rd s 0x030028) 0 5) (fld (rd s 0x030028) 8 14) (fld (rd s 0x030028) 5 3)

/-- The sheet as the read of the peek finds it, with what is wrong in the way. -/
def peekWay (errs : List SymErr) (s : State) : State :=
  upset (peekKey s) errs (updSheet (fun x => { x with peek := false }) s)

theorem opPeekDone_eq {errs : List SymErr} {s t : State} {r : WayRead} (hp : s.sheet.peek = true) (hr : r ≠ .bad)
    (h : readWay (fld (rd s 0x030028) 0 5) (fld (rd s 0x030028) 8 14) (fld (rd s 0x030028) 5 3) (peekWay errs s) = (r, t)) :
    opPeekDone errs s = peekFilled (wayBits r.entry) t := by
  unfold opPeekDone
  simp only [hp, Bool.not_true, Bool.false_eq_true, if_false]
  have h' := h
  unfold peekWay peekKey at h'
  simp only [h']
  cases r with
  | bad => exact absurd rfl hr
  | clean e => rfl
  | fixed e => rfl

theorem only_upset (key : Nat) (errs : List SymErr) (s : State) : Only [.sheet] s (upset key errs s) := only_updSheet _ s

theorem errs_upset (key : Nat) (errs : List SymErr) (s : State) :
    sGet [] (upset key errs s).sheet.errs key = addErrs (sGet [] s.sheet.errs key) errs := sGet_sPut_same _ _ _ _

/-- The peek's answer, and what it leaves of the sheet. -/
theorem opPeekDone_reads {errs bad : List SymErr} {s : State} (hp : s.sheet.peek = true)
    (hb : addErrs (sGet [] s.sheet.errs (peekKey s)) errs = bad) (hl : bad.length ≤ 3) :
    ∃ u, opPeekDone errs s = peekFilled (wayBits (sFind s.sheet.ways (peekKey s))) u ∧ Only [.regs, .sheet] s u ∧
      u.sheet.peek = false ∧ (∀ k, sFind u.sheet.ways k = sFind s.sheet.ways k) ∧
      (bad ≠ [] → Caused u .sheetCe 0 ∧ rd u 0x030018 = satInc32 (rd s 0x030018) ∧
        sGet [] u.sheet.errs (peekKey s) = []) := by
  have hw : Only [.sheet] s (peekWay errs s) := (only_updSheet _ _).trans (only_upset _ _ _)
  have he : sGet [] (peekWay errs s).sheet.errs (peekKey s) = bad := hb ▸ errs_upset _ _ _
  have hst : storedWay (peekWay errs s) (peekKey s) = sFind s.sheet.ways (peekKey s) := rfl
  rw [← hst]
  by_cases hbad : bad = []
  · have hr := readWay_clean (s := peekWay errs s) (he.trans hbad)
    exact ⟨peekWay errs s, opPeekDone_eq (r := .clean _) hp (by simp) hr, hw.mono (by simp), rfl, fun _ => rfl, fun h => absurd hbad h⟩
  · have hr := readWay_fixed (s := peekWay errs s) he hbad hl
    obtain ⟨hways, herrs, hpeek⟩ := corrected_ways (peekKey s) bad (peekWay errs s)
    exact ⟨_, opPeekDone_eq (r := .fixed _) hp (by simp) hr, (hw.mono (by simp)).trans (only_corrected _ _ _), hpeek, fun k => hways k,
      fun _ => ⟨caused_corrected _ _ _, rd_corrected_count _ _ _, herrs⟩⟩

/-! ### Soft repair (R139) -/

theorem find?_congr {α : Type} {p q : α → Bool} {l : List α} (h : ∀ a ∈ l, p a = q a) : l.find? p = l.find? q := by
  induction l with
  | nil => rfl
  | cons a l ih =>
    rw [List.find?_cons, List.find?_cons, h a (List.mem_cons_self ..), ih fun b hb => h b (List.mem_cons_of_mem _ hb)]

/-- A set that no soft-repair register of the bank names, before or after, keeps its row. -/
theorem rowOf_unnamed {s t : State} {b set : Nat} (hf : t.aon = s.aon)
    (h : ∀ q < 32, rdf s (oSr b q) 0 14 ≠ set ∧ rdf t (oSr b q) 0 14 ≠ set) : rowOf t b set = rowOf s b set := by
  have hn : ∀ u : State, (∀ q < 32, rdf u (oSr b q) 0 14 ≠ set) →
      (List.range 32).find? (fun r => bitOf (rd u (oSr b r)) 31 && decide (rdf u (oSr b r) 0 14 = set)) = none := by
    intro u hu
    rw [List.find?_eq_none]
    intro q hq
    simp [hu q (List.mem_range.1 hq)]
  rw [rowOf, rowOf, hn t fun q hq => (h q hq).2, hn s fun q hq => (h q hq).1, hf]

theorem oSr_inj {b q r : Nat} : oSr b q = oSr b r ↔ q = r := by unfold oSr; omega

/-- What a soft-repair register that takes `w` leaves: the errors in rows replaced are gone (R139). -/
def repaired (b r : Nat) (w : W64) (s : State) : State :=
  let t := wr s (oSr b r) w
  let moved := (List.range 32).flatMap (fun q => [rdf s (oSr b q) 0 14, rdf t (oSr b q) 0 14])
  rowsMoved b (moved.filter (fun set => decide (rowOf s b set ≠ rowOf t b set))) t

theorem repaired_frame (b r : Nat) (w : W64) (s : State) : Only [.regs, .sheet] s (repaired b r w s) ∧
    (repaired b r w s).regs = (wr s (oSr b r) w).regs ∧
    (repaired b r w s).sheet = { s.sheet with errs := (repaired b r w s).sheet.errs } :=
  ⟨((only_wr _ _ _).mono (by simp)).trans ((only_updSheet _ _).mono (by simp)), rfl, rfl⟩

theorem mem_repaired {b r : Nat} {w : W64} {s : State} {p : Nat × List SymErr} (h : p ∈ (repaired b r w s).sheet.errs) :
    p ∈ s.sheet.errs ∧ (p.1 / 131072 = b → rowOf (wr s (oSr b r) w) b (p.1 / 8 % 16384) = rowOf s b (p.1 / 8 % 16384)) := by
  obtain ⟨hm, hp⟩ := List.mem_filter.1 h
  refine ⟨hm, fun hb => ?_⟩
  by_contra hrow
  refine hrow (rowOf_unnamed rfl fun q hq => ?_)
  have hset : ∀ v, v ∈ [rdf s (oSr b q) 0 14, rdf (wr s (oSr b r) w) (oSr b q) 0 14] → v ≠ p.1 / 8 % 16384 := by
    intro v hv hve
    subst hve
    simp only [hb, decide_true, Bool.true_and, Bool.not_eq_true', List.contains_iff_mem, Bool.eq_false_iff, ne_eq,
      List.mem_filter, not_and, decide_eq_true_eq] at hp
    exact hp (List.mem_flatMap.2 ⟨q, List.mem_range.2 hq, hv⟩) (Ne.symm hrow)
  exact ⟨hset _ (by simp), hset _ (by simp)⟩

theorem repaired_other {b r : Nat} {w : W64} {s : State} {p : Nat × List SymErr} (h : p ∈ s.sheet.errs)
    (hb : p.1 / 131072 ≠ b) : p ∈ (repaired b r w s).sheet.errs :=
  List.mem_filter.2 ⟨h, by simp [hb]⟩

theorem bankState_congr {s t : State} (h : t.regs = s.regs) (b : Nat) : bankState t b = bankState s b := rdf_congr h _ _ _

theorem repairConflict_congr {s t : State} (h : t.regs = s.regs) (ha : t.aon = s.aon) (b r : Nat) (v : W64) :
    repairConflict t b r v = repairConflict s b r v := by
  have hrd : ∀ o, rd t o = rd s o := rd_congr h
  simp only [repairConflict, rdf, hrd, fusedCount, ha]
  rfl

theorem raise0_sheet {c : Cause} (h : c.cls = .none) (hd : c.domain = 3) (s : State) :
    raise0 c s = wr s 0x010118 (rd s 0x010118 ||| w64 (2 ^ c.bit)) := by
  rw [raise0, raise_none h, setCause, hd]
  rfl

/-- Settles O14: a peek reads its way as `readWay` does, and a soft-repair register moves only the rows of sets it names. -/
theorem peekAndSoftRepair : Obligations.PeekAndSoftRepair := by
  unfold Obligations.PeekAndSoftRepair
  refine ⟨⟨fun bank set way s hb hs hw hc => ?_, fun errs s ha hp => ?_⟩, fun b r v s hb hr hc => ?_⟩
  · refine onUnit_next (by simp [okBank, hb, hs, hw]) (capCmd_eq hc ?_ rfl rfl)
    unfold opPeek updSheet
    rw [Nat.mod_eq_of_lt hb, Nat.mod_eq_of_lt (b := 2 ^ 14) hs, Nat.mod_eq_of_lt hw]
    rfl
  · intro v key bad bits hl
    obtain ⟨u, hu, hO, hpk, hways, hce⟩ := opPeekDone_reads (errs := errs) hp rfl hl
    rw [show wayBits (sFind s.sheet.ways (peekKey s)) = bits from rfl] at hu
    have hF := only_peekFilled bits u
    have hR := regsOnly_peekFilled bits u
    have hO' := hO.trans (hF.mono (by simp))
    obtain ⟨h0, h1, h2, h3⟩ := peekFilled_regs bits u
    refine ⟨_, exec_live (ok := true) rfl ha hu hO'.pending hO'.aon, h0, h1, h2, h3, ?_, ?_, fun hne => ?_, hO'⟩
    · rw [hF.sheet, hpk]
    · rw [hF.sheet]; exact hways
    · obtain ⟨hc1, hc2, hc3⟩ := hce hne
      refine ⟨?_, ?_, by rw [hF.sheet]; exact hc3⟩
      · rw [Caused, hR _ (by decide)]; exact hc1
      · rw [hR _ (by decide)]; exact hc2
  intro w a
  have hS : ∀ k, bankState a k = bankState s k := bankState_congr rfl
  have hC : repairConflict a b r w = repairConflict s b r w := repairConflict_congr rfl rfl b r w
  have hok : (okBank b && decide (r < 32)) = true := by simp [okBank, hb, hr]
  refine ⟨fun hst hcf => ?_, fun hst hcf => ?_, fun h3 h4 => ?_⟩
  · have hgo : opSoftRepair b r v a = repaired b r w a := by
      unfold opSoftRepair
      rw [if_neg (by rw [hS]; omega)]
      simp only [show (v.setWidth 64 &&& 0x803F3FFF#64) = w from rfl, hC, hcf, Bool.false_eq_true, if_false]
      rfl
    obtain ⟨hO, hregs, hsh⟩ := repaired_frame b r w a
    have hA : Only [.cap, .regs, .sheet] s (repaired b r w a) := ((only_answered _ _ _).mono (by simp)).trans (hO.mono (by simp))
    refine ⟨repaired b r w a, onUnit_next hok (capCmd_eq hc hgo hA.pending hA.aon), hregs,
      hO.cap, hsh, fun k e hke => ?_, fun p hpm hpb => repaired_other hpm hpb, hA⟩
    obtain ⟨hm, hrow⟩ := mem_repaired hke
    refine ⟨hm, fun hkb => ?_⟩
    exact hrow hkb
  · refine onUnit_next hok (capCmd_eq hc ?_ rfl rfl)
    unfold opSoftRepair
    rw [if_neg (by rw [hS]; omega)]
    exact (if_pos (hC.trans hcf)).trans (raise0_sheet (c := .srConflict) rfl rfl _)
  · refine onUnit_next hok (capCmd_eq hc ?_ rfl rfl)
    unfold opSoftRepair
    rw [if_pos (by rw [hS]; exact ⟨h3, h4⟩)]
    exact raise0_sheet (c := .bankCmd) rfl rfl _

end Sys2Proof.Machine
end

section
/-! PROOFS. Scrub visits and rechecks, bank commands and the spare-row test (R136 to R143, R341). -/

namespace Sys2Proof.Machine

/-! ### Scrub visits (R136) -/

theorem foldl_fixed {α : Type} {f : State → α → State} {s : State} {l : List α} (h : ∀ a ∈ l, f s a = s) : l.foldl f s = s := by
  induction l with
  | nil => rfl
  | cons a l ih => rw [List.foldl_cons, h a (List.mem_cons_self ..), ih fun b hb => h b (List.mem_cons_of_mem _ hb)]

/-- A cause stays set where its register is not among those changed. -/
theorem Caused.keep {p : Nat → Prop} {s t : State} {c : Cause} {u : Nat} (h : Caused s c u) (hr : RegsOnly p s t)
    (hn : ¬ p (causeReg c.domain u)) : Caused t c u := by rwa [Caused, hr _ hn]

theorem Caused.wr {s : State} {c : Cause} {u o : Nat} {v : W64} (h : Caused s c u) (hn : causeReg c.domain u ≠ o) :
    Caused (wr s o v) c u := h.keep (regsOnly_wr (p := (· = o)) _ _ rfl) hn

theorem scrubWay_sound {bank set way : Nat} {s : State} (h : s.sheet.errs = []) : scrubWay bank set way s = s := by
  have he : sGet [] s.sheet.errs (wayKey bank set way) = [] := by rw [h]; rfl
  unfold scrubWay
  simp only [he, List.isEmpty_nil, if_true, readWay_clean he, ite_self]

theorem opScrubVisit_sound {s : State} (hr : rdf s 0x204 0 3 = 0) (he : s.sheet.errs = []) (hen : bitOf (rd s 0x030010) 31 = true) :
    opScrubVisit [] s = scrubNext s := by
  have hs : scrubs s = true := by simp [scrubs, hen, oPwrStatus, hr]
  have hu : upsetAll [] s = s := rfl
  unfold opScrubVisit
  simp only [hu, hs, Bool.not_true, Bool.false_eq_true, if_false]
  exact congrArg scrubNext (foldl_fixed fun b _ => foldl_fixed fun w _ => scrubWay_sound he)

theorem scrubNext_middle {s : State} (hs : s.sheet.scrubSeen = []) (h : s.sheet.scrubSet + 1 < 16384) :
    scrubNext s = updSheet (fun x => { x with scrubSet := s.sheet.scrubSet + 1 }) s := by
  have hn : 16383 - s.sheet.scrubSet = (16383 - s.sheet.scrubSet - 1) + 1 := by omega
  have hf : (List.range' (s.sheet.scrubSet + 1) (16383 - s.sheet.scrubSet)).find? (fun k => !s.sheet.scrubSeen.contains (32, k)) =
      some (s.sheet.scrubSet + 1) := by
    rw [hn, List.range'_succ, hs]
    rfl
  unfold scrubNext
  dsimp only
  rw [hf]

/-- The state at the end of a lap, before SCRUB_LAP is raised. -/
def lapDone (s : State) : State :=
  updSheet (fun x => { x with scrubSet := 0, scrubLapStart := s.aon.ft, scrubSeen := [] })
    (wr s 0x030014 (w64 (elapsed s s.sheet.scrubLapStart 4000 % 2 ^ 32)))

theorem scrubNext_last {s : State} (h : s.sheet.scrubSet = 16383) :
    scrubNext s = raise0 .scrubLap (lapDone s) := by
  unfold scrubNext
  simp only [h, Nat.sub_self, List.range'_zero, List.find?_nil]
  rfl

/-! ### Rechecks (R138) -/

/-- A symbol found wrong again raises ROW_HARD, and the first is logged. -/
def hardFound (bank set way i : Nat) (s : State) : State :=
  let s := raise0 .rowHard s
  if bitOf (rd s 0x03001C) 31 then s
  else wr s 0x03001C (w64 (bank + 2 ^ 5 * way + 2 ^ 8 * rowOf s bank set + 2 ^ 23 * i + 2 ^ 31))

theorem only_hardFound (bank set way i : Nat) (s : State) : Only [.regs] s (hardFound bank set way i s) := by
  have h1 : Only [.regs] s (raise0 .rowHard s) := only_raise_ce (.inr rfl) _ _ _
  unfold hardFound
  dsimp only
  split
  · exact h1
  · exact h1.trans (only_wr _ _ _)

theorem rowOf_lt {s : State} {bank set : Nat} (hs : set < 16384) (hf : (sGet [] s.aon.fuseCopy.rows bank).length ≤ 64) :
    rowOf s bank set < 2 ^ 15 := by
  unfold rowOf
  split
  next r _ =>
    have : rdf s (oSr bank r) 16 6 < 2 ^ 6 := Nat.mod_lt _ (by decide)
    omega
  · split
    next i hi =>
      have := (List.findIdx?_eq_some_iff_findIdx_eq.1 hi).1
      omega
    · omega

theorem testBit_top {n k : Nat} (h : n < 2 ^ k) : (n + 2 ^ k).testBit k = true := by
  rw [Nat.add_comm, Nat.testBit_two_pow_add_eq, Nat.testBit_lt_two_pow h]
  rfl

/-- The recheck register is valid after a symbol is found wrong again. -/
theorem hardFound_logged {bank set way i : Nat} {s : State} (hb : bank < 32) (hs : set < 16384) (hw : way < 8) (hi : i < 18)
    (hf : (sGet [] s.aon.fuseCopy.rows bank).length ≤ 64) : bitOf (rd (hardFound bank set way i s) 0x03001C) 31 = true := by
  have hraise : Only [.regs] s (raise0 .rowHard s) := only_raise_ce (.inr rfl) _ _ _
  have hrow : rowOf (raise0 .rowHard s) bank set < 2 ^ 15 := rowOf_lt hs (by rw [hraise.aon]; exact hf)
  unfold hardFound
  dsimp only
  split
  next h => exact h
  next h =>
    rw [rd_wr_same, bitOf, w64, BitVec.getLsbD_ofNat, testBit_top (by omega)]
    rfl

theorem caused_hardFound (bank set way i : Nat) (s : State) : Caused (hardFound bank set way i s) .rowHard 0 := by
  have h := caused_raise0 .rowHard s
  unfold hardFound
  dsimp only
  split
  · exact h
  · exact h.wr (by decide)

theorem Caused.corrected {c : Cause} {u key : Nat} {errs : List SymErr} {s : State} (h : Caused s c u) (hu : u < 32)
    (hn : causeReg c.domain u ≠ 0x030018) : Caused (corrected key errs s) c u :=
  caused_raise_of (by decide) hu (Caused.wr (s := rewritten key errs s) h hn)

/-- The sheet as a recheck's read finds it: this recheck is over, and one symbol is wrong. -/
def rechecking (key : Nat) (errs : List SymErr) (s : State) : State :=
  upset key errs (updSheet (fun x => { x with recheck := x.recheck.filter (fun p => decide (p.1 ≠ key)) }) s)

theorem errs_rechecking {key i : Nat} {x : Byte} {s : State} (hx : x ≠ 0) (he : sGet [] s.sheet.errs key = []) :
    sGet [] (rechecking key [(i, x)] s).sheet.errs key = [(i, x)] := by
  refine (errs_upset _ _ _).trans ?_
  show addErrs (sGet [] s.sheet.errs key) [(i, x)] = _
  rw [he]
  simpa [addErrs] using hx

theorem opScrubRecheck_again {bank set way i : Nat} {x : Byte} {s : State} (hx : x ≠ 0)
    (hm : (wayKey bank set way, i) ∈ s.sheet.recheck) (he : sGet [] s.sheet.errs (wayKey bank set way) = []) :
    opScrubRecheck bank set way [(i, x)] s =
      (readWay bank set way (hardFound bank set way i (rechecking (wayKey bank set way) [(i, x)] s))).2 := by
  have hmem : i ∈ (s.sheet.recheck.filter (fun p => decide (p.1 = wayKey bank set way))).map (·.2) :=
    List.mem_map.2 ⟨_, List.mem_filter.2 ⟨hm, by simp⟩, rfl⟩
  have hne : ((s.sheet.recheck.filter (fun p => decide (p.1 = wayKey bank set way))).map (·.2)).isEmpty = false := by
    rw [List.isEmpty_eq_false_iff_exists_mem]
    exact ⟨i, hmem⟩
  have herr := errs_rechecking (s := s) (i := i) hx he
  have hrc : upset (wayKey bank set way) [(i, x)] (updSheet (fun x => { x with
      recheck := x.recheck.filter (fun p => decide (p.1 ≠ wayKey bank set way)) }) s) =
      rechecking (wayKey bank set way) [(i, x)] s := rfl
  unfold opScrubRecheck
  simp only [hne, Bool.false_eq_true, if_false, hrc, herr, List.map_cons, List.map_nil, List.filter_cons,
    List.contains_iff_mem.2 hmem, if_true, List.filter_nil]
  rfl

theorem only_rechecking (key : Nat) (errs : List SymErr) (s : State) : Only [.sheet] s (rechecking key errs s) :=
  (only_updSheet _ _).trans (only_upset _ _ _)

/-- Settles O16: a visit reads ways without errors as they are, and a recheck corrects the one wrong symbol. -/
theorem scrubVisits : Obligations.ScrubVisits := by
  unfold Obligations.ScrubVisits
  refine ⟨fun s ha hr he hseen hen => ?_, fun bank set way i x s hb hs hw ha hx => ?_⟩
  · have hv := opScrubVisit_sound hr he hen
    refine ⟨fun hset => ?_, fun hset => ?_⟩
    · exact exec_live (ok := true) rfl ha (hv.trans (scrubNext_middle hseen hset)) rfl rfl
    · rw [scrubNext_last hset] at hv
      have hO1 : Only [.regs, .sheet] s (lapDone s) := ((only_wr _ _ _).mono (by simp)).trans ((only_updSheet _ _).mono (by simp))
      have hR1 : RegsOnly (fun o => o = 0x030014 ∨ o = 0x010118) s (lapDone s) := regsOnly_wr _ _ (.inl rfl)
      have hO2 := hO1.trans ((only_raise0_none (c := .scrubLap) rfl (lapDone s)).mono (by simp))
      have hR2 := regsOnly_raise0_none (c := .scrubLap) rfl (lapDone s)
      refine ⟨_, exec_live (ok := true) rfl ha hv hO2.pending hO2.aon, ?_, caused_raise0 _ _, ?_, hO2,
        hR1.trans (hR2.mono fun o ho => .inr ho)⟩
      · rw [(only_raise0_none (c := .scrubLap) rfl _).sheet]
        show { s.sheet with scrubSet := 0, scrubLapStart := s.aon.ft, scrubSeen := [] } = _
        rw [← hseen]
      · exact (hR2 _ (by decide)).trans (rd_wr_same _ _ _)
  · intro key hm he hi hf
    have hop := opScrubRecheck_again (bank := bank) (set := set) (way := way) hx hm he
    have hO1 := only_rechecking key [(i, x)] s
    have hO2 := only_hardFound bank set way i (rechecking key [(i, x)] s)
    have herr : sGet [] (hardFound bank set way i (rechecking key [(i, x)] s)).sheet.errs key = [(i, x)] := by
      rw [hO2.sheet]
      exact errs_rechecking hx he
    rw [readWay_fixed herr (by simp) (by simp)] at hop
    obtain ⟨hways, herrs, -⟩ := corrected_ways key [(i, x)] (hardFound bank set way i (rechecking key [(i, x)] s))
    have hO3 := only_corrected key [(i, x)] (hardFound bank set way i (rechecking key [(i, x)] s))
    have hR3 := regsOnly_corrected key [(i, x)] (hardFound bank set way i (rechecking key [(i, x)] s))
    have hO := ((hO1.mono (by simp : [Side.sheet] ⊆ [.regs, .sheet])).trans (hO2.mono (by simp))).trans hO3
    refine ⟨_, exec_live (by simp [okBank, hb, hs, hw]) ha hop hO.pending hO.aon, ?_, caused_corrected _ _ _, ?_, herrs,
      fun k => ?_, hO⟩
    · exact (caused_hardFound _ _ _ _ _).corrected (by decide) (by decide)
    · rw [hR3 _ (by unfold ClassReg; decide)]
      exact hardFound_logged hb hs hw hi (by rw [hO1.aon]; exact hf)
    · rw [hways, hO2.sheet]
      rfl

end Sys2Proof.Machine
end

section
/-! PROOFS. Bank commands and the spare-row test, and the self-test (R132 to R135, R140 to R143, R341). -/

namespace Sys2Proof.Machine

/-! ### Running nothing -/

theorem go_nil (s : State) : go [] s = s := rfl

theorem waitingWb_empty {s : State} (h : s.dev.ctxs = []) : waitingWb s = [] := by rw [waitingWb, h]; rfl

/-! ### Bank commands (R140 to R143) -/

theorem bankState_wrf (s : State) (b x : Nat) : bankState (wrf s (oBank b) 0 3 x) b = x % 2 ^ 3 :=
  rdf_wrf_same _ _ _ _ _ (by decide)

theorem startSweep_drain (b : Nat) (s : State) : startSweep (.drain b) s = updSheet (fun x => { x with
    sweeps := x.sweeps ++ [{ kind := .drain b, next := 0, fogged := false, posted := true, raised := false }] }) s := rfl

/-- May a DRAIN of the bank start: no Safelight state, the bank ONLINE, and after start-up every other bank too? -/
def drainRefused (s : State) (b : Nat) : Bool :=
  isSafe s || decide (bankState s b ≠ 0) || (started s && (List.range 32).any (fun k => decide (k ≠ b) && decide (bankState s k ≠ 0)))

theorem drainRefused_iff {s : State} {b : Nat} : drainRefused s b = true ↔
    isSafe s = true ∨ bankState s b ≠ 0 ∨ (rdf s 0x030000 1 2 = 2 ∧ ∃ k, k < 32 ∧ k ≠ b ∧ bankState s k ≠ 0) := by
  simp [drainRefused, started, or_assoc]

/-- A command of a bank whose condition refuses it. -/
theorem capCmd_bankRefuse {f : State → State} {s : State} (hc : capAnswers s = true) (h : f (answered false 0 s) = bankRefuse (answered false 0 s)) :
    capCmd f s = wr (answered false 0 s) 0x010118 (rd s 0x010118 ||| 0x200#64) :=
  capCmd_eq hc (h.trans (raise0_sheet (c := .bankCmd) rfl rfl _)) rfl rfl

/-- A bank command that writes its bank's state, and changes the sheet by `f`. -/
theorem bank_written {b x : Nat} (hx : x < 8) (s : State) (f : SheetSide → SheetSide) :
    let t := updSheet f (wrf (answered false 0 s) (oBank b) 0 3 x)
    bankState t b = x ∧ Acked s t ∧ t.sheet = f s.sheet ∧ Only [.cap, .regs, .sheet] s t ∧ RegsOnly (· = oBank b) s t := by
  intro t
  refine ⟨?_, rfl, rfl, ?_, ?_⟩
  · exact (bankState_wrf (answered false 0 s) b x).trans (Nat.mod_eq_of_lt hx)
  · exact ((only_answered _ _ _).mono (by simp)).trans (((only_wrf _ _ _ _ _).mono (by simp)).trans ((only_updSheet _ _).mono (by simp)))
  · exact regsOnly_wrf (answered false 0 s) _ _ _ rfl

/-! ### The log of the self-test (R135) -/

theorem clearBistLog_frame (s : State) : Only [.regs] s (clearBistLog s) ∧
    RegsOnly (fun o => o = 0x030008 ∨ o = 0x030040 ∨ 0x030400 ≤ o ∧ o < 0x030500) s (clearBistLog s) := by
  unfold clearBistLog
  refine ⟨((only_wr _ _ _).trans (only_wr _ _ _)).trans (Only.foldl (fun t i => only_wr _ _ _) _ _), ?_⟩
  refine ((regsOnly_wr _ _ (.inl rfl)).trans (regsOnly_wr _ _ (.inr (.inl rfl)))).trans (RegsOnly.foldl_mem (fun t i hi => ?_) _)
  have := List.mem_range.1 hi
  exact regsOnly_wr _ _ (by omega)

theorem clearBistLog_log {i : Nat} (hi : i < 64) (s : State) : rd (clearBistLog s) (0x030400 + 4 * i) = 0 := by
  unfold clearBistLog
  dsimp only
  rw [foldl_each (k := i) (f := fun s i => wr s (0x030400 + 4 * i) 0) (I := fun _ => True) (val := fun s k => rd s (0x030400 + 4 * k)) (g := fun _ _ => 0) (fun _ _ _ _ => trivial)
    (fun _ _ _ => rd_wr_same _ _ _) (fun s m _ _ h => rd_wr_ne _ _ (by omega)) List.nodup_range trivial]
  simp [hi]

theorem clearBistLog_heads (s : State) : rd (clearBistLog s) 0x030008 = 0 ∧ rd (clearBistLog s) 0x030040 = 0 := by
  have hR : ∀ t : State, RegsOnly (fun o => 0x030400 ≤ o) t ((List.range 64).foldl (fun s i => wr s (0x030400 + 4 * i) 0) t) :=
    fun t => RegsOnly.foldl (fun t i => regsOnly_wr _ _ (by omega)) _ _
  unfold clearBistLog
  refine ⟨(hR _ _ (by decide)).trans ?_, (hR _ _ (by decide)).trans (rd_wr_same _ _ _)⟩
  rw [rd_wr_ne _ _ (by decide), rd_wr_same]

/-- A register of the log of failing rows. -/
def LogReg (o : Nat) : Prop := o = 0x030040 ∨ 0x030400 ≤ o ∧ o < 0x030500

/-- Word `i` of the log, where there is a row to log. -/
def logWord (keep : List BistFail) (s : State) (i : Nat) : State :=
  match keep[i]? with
  | some f => wr s (0x030400 + 4 * i) (failWord f (rowInUse s f.bank f.row))
  | none => s

theorem logWord_frame (keep : List BistFail) (s : State) (i : Nat) (hi : i < 64) :
    Only [.regs] s (logWord keep s i) ∧ RegsOnly LogReg s (logWord keep s i) := by
  unfold logWord
  split
  · exact ⟨only_wr _ _ _, regsOnly_wr _ _ (by unfold LogReg; omega)⟩
  · exact ⟨Only.refl _ _, RegsOnly.refl _ _⟩

theorem logFails_frame (l : List BistFail) (s : State) : Only [.regs] s (logFails l s) ∧ RegsOnly LogReg s (logFails l s) := by
  have hi : ∀ i ∈ List.range (l.take 64).length, i < 64 := fun i hi => by
    have := List.mem_range.1 hi
    rw [List.length_take] at this
    omega
  have h1 : Only [.regs] s ((List.range (l.take 64).length).foldl (logWord (l.take 64)) s) :=
    Only.foldl_mem (fun t i h => (logWord_frame _ _ _ (hi i h)).1) _
  have h2 : RegsOnly LogReg s ((List.range (l.take 64).length).foldl (logWord (l.take 64)) s) :=
    RegsOnly.foldl_mem (fun t i h => (logWord_frame _ _ _ (hi i h)).2) _
  exact ⟨h1.trans (only_wr _ _ _), h2.trans (regsOnly_wr _ _ (.inl rfl))⟩

/-! ### The order of the failing rows (R135) -/

theorem failInsert_ne_nil (f : BistFail) (l : List BistFail) : failInsert f l ≠ [] := by
  cases l with
  | nil => simp [failInsert]
  | cons g gs =>
    unfold failInsert
    split
    · split <;> simp
    · split <;> simp

theorem mem_failInsert {f g : BistFail} {l : List BistFail} (h : g ∈ failInsert f l) : g = f ∨ g ∈ l := by
  induction l with
  | nil => exact .inl (by simpa [failInsert] using h)
  | cons a l ih =>
    unfold failInsert at h
    split at h
    · split at h
      · exact (List.mem_cons.1 h).imp_right (List.mem_cons_of_mem _)
      · exact .inr h
    · split at h
      · exact List.mem_cons.1 h
      · rcases List.mem_cons.1 h with h | h
        · exact .inr (h ▸ List.mem_cons_self ..)
        · exact (ih h).imp_right (List.mem_cons_of_mem _)

theorem bank_failInsert {f : BistFail} {b : Nat} {l : List BistFail} (h : f.bank = b ∨ ∃ g ∈ l, g.bank = b) :
    ∃ g ∈ failInsert f l, g.bank = b := by
  induction l with
  | nil =>
    rcases h with h | ⟨g, hg, -⟩
    · exact ⟨f, by simp [failInsert], h⟩
    · exact absurd hg (by simp)
  | cons a l ih =>
    unfold failInsert
    split
    next hab =>
      have hh : a.bank = b ∨ ∃ g ∈ l, g.bank = b := by
        rcases h with h | ⟨g, hg, hgb⟩
        · exact .inl (hab.1.trans h)
        · exact (List.mem_cons.1 hg).imp (fun (e : g = a) => e ▸ hgb) fun hm => ⟨g, hm, hgb⟩
      split <;> rcases hh with hh | ⟨g, hg, hgb⟩
      · exact ⟨f, by simp, hab.1.symm.trans hh⟩
      · exact ⟨g, by simp [hg], hgb⟩
      · exact ⟨a, by simp, hh⟩
      · exact ⟨g, by simp [hg], hgb⟩
    · split
      · rcases h with h | ⟨g, hg, hgb⟩
        · exact ⟨f, by simp, h⟩
        · exact ⟨g, List.mem_cons_of_mem _ hg, hgb⟩
      · have hh : a.bank = b ∨ (f.bank = b ∨ ∃ g ∈ l, g.bank = b) := by
          rcases h with h | ⟨g, hg, hgb⟩
          · exact .inr (.inl h)
          · rcases List.mem_cons.1 hg with e | hm
            · exact .inl (e ▸ hgb)
            · exact .inr (.inr ⟨g, hm, hgb⟩)
        rcases hh with hh | hh
        · exact ⟨a, List.mem_cons_self .., hh⟩
        · obtain ⟨g, hg, hgb⟩ := ih hh
          exact ⟨g, List.mem_cons_of_mem _ hg, hgb⟩

theorem foldl_failInsert {l acc : List BistFail} :
    (∀ g ∈ l.foldl (fun acc f => failInsert f acc) acc, g ∈ l ∨ g ∈ acc) ∧
    (∀ b, (∃ g ∈ l, g.bank = b) ∨ (∃ g ∈ acc, g.bank = b) → ∃ g ∈ l.foldl (fun acc f => failInsert f acc) acc, g.bank = b) := by
  induction l generalizing acc with
  | nil => exact ⟨fun g hg => .inr hg, fun b h => h.resolve_left (by simp)⟩
  | cons f l ih =>
    obtain ⟨h1, h2⟩ := ih (acc := failInsert f acc)
    refine ⟨fun g hg => ?_, fun b h => h2 b ?_⟩
    · rcases h1 g hg with h | h
      · exact .inl (List.mem_cons_of_mem _ h)
      · exact (mem_failInsert h).imp_left fun (e : g = f) => e ▸ List.mem_cons_self ..
    · rcases h with ⟨g, hg, hgb⟩ | h
      · rcases List.mem_cons.1 hg with e | hm
        · exact .inr (bank_failInsert (.inl (e ▸ hgb)))
        · exact .inl ⟨g, hm, hgb⟩
      · exact .inr (bank_failInsert (.inr h))

/-- The log lists only rows that fail. -/
theorem mem_failSort {l : List BistFail} {g : BistFail} (h : g ∈ failSort l) : g ∈ l :=
  (foldl_failInsert.1 g h).resolve_right (by simp)

/-- Every bank with a failing row is in the log. -/
theorem bank_failSort {l : List BistFail} {f : BistFail} (h : f ∈ l) : ∃ g ∈ failSort l, g.bank = f.bank :=
  foldl_failInsert.2 f.bank (.inl ⟨f, h, rfl⟩)

theorem failSort_cons {l : List BistFail} {f : BistFail} (h : f ∈ l) : ∃ g gs, failSort l = g :: gs ∧ g ∈ l := by
  obtain ⟨g, hg, -⟩ := bank_failSort h
  cases hl : failSort l with
  | nil => rw [hl] at hg; exact absurd hg (by simp)
  | cons a as => exact ⟨a, as, rfl, mem_failSort (hl ▸ List.mem_cons_self ..)⟩

theorem failReal_bank {f : BistFail} (h : failReal f = true) : f.bank < 32 ∧ f.row < 16448 ∧ f.step ≤ 6 := by
  simp only [failReal, Bool.and_eq_true, decide_eq_true_eq] at h
  exact ⟨h.1.1.1, h.1.1.2, h.2⟩

/-! ### The spare-row test (R143) -/

/-- The failing rows that a spare-row test of a bank counts. -/
def spareFails (b : Nat) (fails : List BistFail) (s : State) : List BistFail :=
  fails.filter (fun f => failReal f && decide (f.bank = b) && decide (16384 ≤ f.row) && (softSpares s b).contains (f.row - 16384))

theorem mem_spareFails {b : Nat} {fails : List BistFail} {s : State} {f : BistFail} : f ∈ spareFails b fails s ↔
    f ∈ fails ∧ failReal f = true ∧ f.bank = b ∧ 16384 ≤ f.row ∧ f.row - 16384 ∈ softSpares s b := by
  simp [spareFails, and_assoc]

/-- The test of a bank's spare rows is over. -/
def spareTested (b : Nat) (s : State) : State := updSheet (fun x => { x with spareTest := x.spareTest.filter (· ≠ b) }) s

theorem opSpareTestDone_pass {b : Nat} {fails : List BistFail} {s : State} (hb : b ∈ s.sheet.spareTest)
    (h : spareFails b fails s = []) (hc : s.dev.ctxs = []) :
    opSpareTestDone b fails s = raise0 .bankOnline (wrf (spareTested b s) (oBank b) 0 3 0) := by
  have hs : softSpares (spareTested b s) b = softSpares s b := rfl
  have hl : failSort (fails.filter (fun f => failReal f && decide (f.bank = b) && decide (16384 ≤ f.row) &&
      (softSpares s b).contains (f.row - 16384))) = [] := by
    rw [show fails.filter _ = [] from h]
    rfl
  unfold opSpareTestDone
  rw [if_neg (by simp [hb])]
  rw [show updSheet (fun x => { x with spareTest := x.spareTest.filter (· ≠ b) }) s = spareTested b s from rfl]
  simp only [hs, hl]
  rw [waitingWb_empty, go_nil]
  exact (only_raise0_none (c := .bankOnline) rfl _).dev ▸ hc

/-- A spare row of the bank fails: the bank is FAILED, the rows are logged and the lowest is recorded. -/
def spareFailed (b : Nat) (l : List BistFail) (f : BistFail) (s : State) : State :=
  recordRow f (logFails l (wrf (spareTested b s) (oBank b) 0 3 4))

theorem opSpareTestDone_fail {b : Nat} {fails gs : List BistFail} {f : BistFail} {s : State} (hb : b ∈ s.sheet.spareTest)
    (h : failSort (spareFails b fails s) = f :: gs) :
    opSpareTestDone b fails s = raise .srFail b (sheetRec b f.row 0 f.step) (spareFailed b (f :: gs) f s) := by
  have hs : softSpares (spareTested b s) b = softSpares s b := rfl
  unfold opSpareTestDone
  rw [if_neg (by simp [hb])]
  rw [show updSheet (fun x => { x with spareTest := x.spareTest.filter (· ≠ b) }) s = spareTested b s from rfl]
  unfold spareFails at h
  simp only [hs, h]
  rfl

theorem spareFailed_frame (b : Nat) (l : List BistFail) (f : BistFail) (s : State) :
    Only [.regs] (spareTested b s) (spareFailed b l f s) ∧
    RegsOnly (fun o => LogReg o ∨ o = 0x030008 ∨ o = oBank b) s (spareFailed b l f s) := by
  obtain ⟨hO, hR⟩ := logFails_frame l (wrf (spareTested b s) (oBank b) 0 3 4)
  refine ⟨((only_wrf _ _ _ _ _).trans hO).trans (only_wr _ _ _), ?_⟩
  have h1 : RegsOnly (fun o => LogReg o ∨ o = 0x030008 ∨ o = oBank b) s (wrf (spareTested b s) (oBank b) 0 3 4) :=
    regsOnly_wrf (spareTested b s) _ _ _ (.inr (.inr rfl))
  exact (h1.trans (hR.mono fun o h => .inl h)).trans (regsOnly_wr _ _ (.inr (.inl rfl)))

theorem bankState_spareFailed {b : Nat} (hb : b < 32) (l : List BistFail) (f : BistFail) (s : State) :
    bankState (spareFailed b l f s) b = 4 := by
  have h1 : rd (spareFailed b l f s) (oBank b) = rd (wrf (spareTested b s) (oBank b) 0 3 4) (oBank b) :=
    (rd_wr_ne _ _ (by unfold oBank; omega)).trans ((logFails_frame l _).2 _ (by unfold LogReg oBank; omega))
  rw [bankState, rdf, h1]
  exact bankState_wrf _ _ _

theorem recordRow_valid {f : BistFail} (h : failReal f = true) (s : State) : bitOf (rd (recordRow f s) 0x030008) 31 = true := by
  obtain ⟨hb, hr, hst⟩ := failReal_bank h
  rw [recordRow, rd_wr_same, bitOf, w64, BitVec.getLsbD_ofNat, testBit_top (by omega)]
  rfl

/-- Settles O15: each bank command is a write of its bank's state or of the sheet's bookkeeping, or is refused. -/
theorem bankCommandsAndSpareTest : Obligations.BankCommandsAndSpareTest := by
  unfold Obligations.BankCommandsAndSpareTest
  refine ⟨fun b s hb hc hsafe => ⟨fun h0 hup => ?_, fun h1 => ?_, fun h12 hctx => ?_, fun h34 => ?_, fun h2 hbusy => ?_⟩,
    fun b s hb hc => ?_, fun b fails s hb ha hm => ⟨fun hf hctx => ?_, fun f hf hreal hfb hrow hsp => ?_⟩⟩
  · have hnot : drainRefused (answered false 0 s) b = false := by
      rw [Bool.eq_false_iff, ne_eq, drainRefused_iff]
      rintro (h | h | ⟨h2, k, hk, -, hks⟩)
      · exact absurd ((h : isSafe s = true).symm.trans hsafe) (by decide)
      · exact h h0
      · rcases hup with hup | hup
        · exact hup h2
        · exact hks (hup k hk)
    have hop : opDrain b (answered false 0 s) = startSweep (.drain b) (wrf (answered false 0 s) (oBank b) 0 3 1) :=
      if_neg (by rw [show (_ || _ || _) = drainRefused (answered false 0 s) b from rfl, hnot]; simp)
    rw [startSweep_drain] at hop
    obtain ⟨hst, hack, hsh, hO, hR⟩ := bank_written (b := b) (x := 1) (by decide) s _
    exact ⟨_, onUnit_next (by simp [okBank, hb]) (capCmd_eq hc hop rfl rfl), hst, hack, hsh, hO, hR⟩
  · have hop : opOffline b (answered false 0 s) = wrf (answered false 0 s) (oBank b) 0 3 2 :=
      if_neg (by
        rw [show isSafe (answered false 0 s) = isSafe s from rfl, show bankState (answered false 0 s) b = bankState s b from rfl, hsafe, h1]
        simp)
    refine ⟨_, onUnit_next (by simp [okBank, hb]) (capCmd_eq hc hop rfl rfl), bankState_wrf _ _ _, rfl,
      ((only_answered _ _ _).mono (by simp)).trans ((only_wrf _ _ _ _ _).mono (by simp)), regsOnly_wrf (answered false 0 s) _ _ _ rfl⟩
  · have hop : opCancel b (answered false 0 s) = updSheet (fun x => { x with
        sweeps := x.sweeps.filter (fun w => decide (w.kind ≠ .drain b)) }) (wrf (answered false 0 s) (oBank b) 0 3 0) := by
      unfold opCancel
      rw [if_neg (by
        rw [show isSafe (answered false 0 s) = isSafe s from rfl, show bankState (answered false 0 s) b = bankState s b from rfl, hsafe]
        simp only [Bool.false_or, Bool.and_eq_true, decide_eq_true_eq]
        omega)]
      dsimp only
      rw [waitingWb_empty, go_nil]
      exact hctx
    obtain ⟨hst, hack, hsh, hO, hR⟩ := bank_written (b := b) (x := 0) (by decide) s _
    exact ⟨_, onUnit_next (by simp [okBank, hb]) (capCmd_eq hc hop rfl rfl), hst, hack, hsh, hO, hR⟩
  · obtain ⟨hO, hR⟩ := clearBistLog_frame (answered false 0 s)
    obtain ⟨hr1, hr2⟩ := clearBistLog_heads (answered false 0 s)
    have hop : opOnline b (answered false 0 s) = updSheet (fun x => { x with
        spareTest := b :: x.spareTest.filter (· ≠ b) }) (clearBistLog (answered false 0 s)) :=
      if_neg (by
        rw [show isSafe (answered false 0 s) = isSafe s from rfl, show bankState (answered false 0 s) b = bankState s b from rfl, hsafe]
        simp only [Bool.false_or, Bool.and_eq_true, decide_eq_true_eq]
        omega)
    have hO2 := only_updSheet (fun x => { x with spareTest := b :: x.spareTest.filter (· ≠ b) }) (clearBistLog (answered false 0 s))
    have hO' : Only [.cap, .regs, .sheet] s _ :=
      ((only_answered _ _ _).mono (by simp)).trans ((hO.mono (by simp)).trans (hO2.mono (by simp)))
    have hA : Acked s _ := hO2.cap.trans hO.cap
    exact ⟨_, onUnit_next (by simp [okBank, hb]) (capCmd_eq hc hop hO'.pending hO'.aon), List.mem_cons_self ..,
      (rd_congr hO2.regs _).trans hr1, (rd_congr hO2.regs _).trans hr2, hA, hO', hR.trans (regsOnly_of_regs hO2.regs)⟩
  · exact exec_live (by simp [okBank, hb]) (by simpa [capAnswers_eq] using hc) (if_pos ⟨h2, by simp [hbusy]⟩) rfl rfl
  · intro t
    refine ⟨fun h => ?_, fun h => ?_, fun h => ?_, fun h => ?_⟩
    all_goals refine onUnit_next (by simp [okBank, hb]) (capCmd_bankRefuse hc (if_pos ?_))
    · show drainRefused s b = true
      rw [drainRefused_iff]
      rcases h with h | h | ⟨h2, k, hk, hks⟩
      · exact .inl h
      · exact .inr (.inl h)
      · by_cases hkb : k = b
        · exact .inr (.inl (hkb ▸ hks))
        · exact .inr (.inr ⟨h2, k, hk, hkb, hks⟩)
    · show (isSafe s || decide (bankState s b ≠ 1)) = true
      simpa using h
    · show (isSafe s || (decide (bankState s b ≠ 1) && decide (bankState s b ≠ 2))) = true
      simpa using h
    · show (isSafe s || (decide (bankState s b ≠ 3) && decide (bankState s b ≠ 4))) = true
      simpa using h
  · have hnil : spareFails b fails s = [] :=
      List.eq_nil_iff_forall_not_mem.2 fun f h => by
        obtain ⟨hm', hreal, hfb, hrow, hsp⟩ := mem_spareFails.1 h
        exact hf f hm' ⟨hreal, hfb, hrow, hsp⟩
    have hop := opSpareTestDone_pass hm hnil hctx
    have hO := only_raise0_none (c := .bankOnline) rfl (wrf (spareTested b s) (oBank b) 0 3 0)
    have hR := regsOnly_raise0_none (c := .bankOnline) rfl (wrf (spareTested b s) (oBank b) 0 3 0)
    refine ⟨_, exec_live (by simp [okBank, hb]) ha hop hO.pending hO.aon, ?_, caused_raise0 _ _, ?_, ?_, ?_⟩
    · rw [bankState, rdf, hR _ (by show oBank b ≠ 0x010118; unfold oBank; omega)]
      exact bankState_wrf _ _ _
    · rw [hO.sheet]
      simp [spareTested]
    · exact ((only_updSheet _ _).mono (by simp)).trans ((only_wrf _ _ _ _ _).mono (by simp)) |>.trans (hO.mono (by simp))
    · exact RegsOnly.trans (t := wrf (spareTested b s) (oBank b) 0 3 0) (regsOnly_wrf (spareTested b s) _ _ _ (.inl rfl))
        (hR.mono fun o h => .inr h)
  · obtain ⟨g, gs, hsort, hg⟩ := failSort_cons (mem_spareFails.2 ⟨hf, hreal, hfb, hrow, hsp⟩)
    obtain ⟨-, hgreal, -, -, -⟩ := mem_spareFails.1 hg
    have hop := opSpareTestDone_fail hm hsort
    obtain ⟨hO1, hR1⟩ := spareFailed_frame b (g :: gs) g s
    have hO2 := only_raise_regs (c := .srFail) (by decide) b (sheetRec b g.row 0 g.step) (spareFailed b (g :: gs) g s)
    have hR2 := regsOnly_raise .srFail b (sheetRec b g.row 0 g.step) (spareFailed b (g :: gs) g s)
    have hO : Only [.regs, .sheet] s _ := ((only_updSheet _ _).mono (by simp)).trans ((hO1.trans hO2).mono (by simp))
    refine ⟨_, exec_live (by simp [okBank, hb]) ha hop hO.pending hO.aon, ?_, caused_raise .srFail hb _ _, ?_, ?_, ?_, hO⟩
    · rw [bankState, rdf, hR2 _ (by
        show ¬ (oBank b = 0x010118 ∨ ClassReg (oBank b))
        unfold ClassReg oBank
        omega)]
      exact bankState_spareFailed hb _ _ _
    · rw [hO2.sheet, hO1.sheet]
      simp [spareTested]
    · rw [hR2 _ (by
        show ¬ (0x030008 = 0x010118 ∨ ClassReg 0x030008)
        unfold ClassReg
        decide)]
      exact recordRow_valid hgreal _
    · rw [rd_raise_counter (c := .srFail) rfl hb, hR1 _ (by unfold LogReg oBank; omega)]

end Sys2Proof.Machine
end

section
/-! PROOFS. The self-test of the contact sheet (R132 to R135). -/

namespace Sys2Proof.Machine

/-! ### SHEET_BIST_GO -/

/-- The last result and the log cleared. -/
def resultCleared (s : State) : State := clearBistLog (wr s 0x030004 0)

/-- The self-test runs. -/
def bistRunning (s : State) : State := updSheet (fun x => { x with bistRun := true }) (wrf s 0x030000 1 2 1)

/-- The registers of the self-test's result and log. -/
def BistReg (o : Nat) : Prop := o = 0x030000 ∨ o = 0x030004 ∨ o = 0x030008 ∨ o = 0x030040 ∨ 0x030400 ≤ o ∧ o < 0x030500

theorem resultCleared_frame (s : State) : Only [.regs] s (resultCleared s) ∧ RegsOnly BistReg s (resultCleared s) := by
  obtain ⟨hO, hR⟩ := clearBistLog_frame (wr s 0x030004 0)
  exact ⟨(only_wr s 0x030004 0).trans hO, (regsOnly_wr _ _ (.inr (.inl rfl))).trans (hR.mono fun o h => .inr (.inr h))⟩

theorem resultCleared_regs (s : State) : rd (resultCleared s) 0x030004 = 0 ∧ rd (resultCleared s) 0x030008 = 0 ∧
    rd (resultCleared s) 0x030040 = 0 ∧ ∀ i, i < 64 → rd (resultCleared s) (0x030400 + 4 * i) = 0 := by
  obtain ⟨-, hR⟩ := clearBistLog_frame (wr s 0x030004 0)
  obtain ⟨h1, h2⟩ := clearBistLog_heads (wr s 0x030004 0)
  exact ⟨(hR _ (by decide)).trans (rd_wr_same _ _ _), h1, h2, fun i hi => clearBistLog_log hi _⟩

theorem bistRunning_sheet (s : State) : (bistRunning s).sheet = { s.sheet with bistRun := true } :=
  congrArg (fun x : SheetSide => { x with bistRun := true }) (only_wrf s 0x030000 1 2 1).sheet

theorem bistRunning_frame (s : State) : Only [.regs, .sheet] s (bistRunning s) ∧ RegsOnly (· = 0x030000) s (bistRunning s) ∧
    rdf (bistRunning s) 0x030000 1 2 = 1 :=
  ⟨((only_wrf _ _ _ _ _).mono (by simp)).trans ((only_updSheet _ _).mono (by simp)), regsOnly_wrf s _ _ _ rfl,
    rdf_wrf_same s _ _ _ _ (by decide)⟩

/-! ### SHEET_BIST_DONE -/

/-- The failing rows and checker patterns that fail the self-test. -/
def bistBad (fails : List BistFail) (s : State) : List BistFail := fails.filter (fun f => failReal f && failCounts s f)

theorem mem_bistBad {fails : List BistFail} {s : State} {f : BistFail} : f ∈ bistBad fails s ↔
    f ∈ fails ∧ failReal f = true ∧ (rowInUse s f.bank f.row = true ∨ 2 ≤ f.step) := by
  simp [bistBad, failCounts]

/-- The rows that the log lists. -/
def bistLogged (fails : List BistFail) (s : State) : List BistFail :=
  (failSort (fails.filter failReal)).filter (fun f => rowInUse s f.bank f.row || decide (16384 ≤ f.row))

/-- The self-test has left every entry invalid, and its log is written. -/
def bistCleared (fails : List BistFail) (s : State) : State :=
  logFails (bistLogged fails s)
    (updSheet (fun x => { x with bistRun := false, ways := [], errs := [], recheck := [], overQuota := [] }) s)

/-- Every bank is ONLINE. -/
def banksOnline (s : State) : State := (List.range 32).foldl (fun s b => wrf s (oBank b) 0 3 0) s

theorem opBistDone_pass {fails : List BistFail} {s : State} (hr : s.sheet.bistRun = true) (h : bistBad fails s = []) :
    opBistDone fails s = banksOnline (wrf (bistCleared fails s) 0x030000 1 2 2) := by
  have hl : failSort (fails.filter (fun f => failReal f && failCounts s f)) = [] := by
    rw [show fails.filter _ = [] from h]
    rfl
  unfold opBistDone
  simp only [hr, hl, Bool.not_true, Bool.false_eq_true, if_false]
  rfl

/-- The banks of failing rows as a mask. -/
def bankMask (l : List BistFail) : Nat := l.foldl (fun v g => Nat.lor v (2 ^ g.bank)) 0

/-- The self-test fails: the banks that failed, and the lowest failing row. -/
def bistFailed (fails bad : List BistFail) (f : BistFail) (s : State) : State :=
  recordRow f (wrf (wr (bistCleared fails s) 0x030004 (w64 (bankMask bad))) 0x030000 1 2 3)

theorem opBistDone_fail {fails gs : List BistFail} {f : BistFail} {s : State} (hr : s.sheet.bistRun = true)
    (h : failSort (bistBad fails s) = f :: gs) :
    opBistDone fails s = raise .bistFail f.bank (sheetRec f.bank f.row 0 f.step) (bistFailed fails (f :: gs) f s) := by
  unfold bistBad at h
  unfold opBistDone
  simp only [hr, h, Bool.not_true, Bool.false_eq_true, if_false]
  rfl

theorem bistCleared_frame (fails : List BistFail) (s : State) : Only [.regs, .sheet] s (bistCleared fails s) ∧
    (bistCleared fails s).sheet = { s.sheet with bistRun := false, ways := [], errs := [], recheck := [], overQuota := [] } := by
  obtain ⟨hO, -⟩ := logFails_frame (bistLogged fails s)
    (updSheet (fun x => { x with bistRun := false, ways := [], errs := [], recheck := [], overQuota := [] }) s)
  exact ⟨((only_updSheet _ _).mono (by simp)).trans (hO.mono (by simp)), hO.sheet⟩

theorem banksOnline_frame (s : State) : Only [.regs] s (banksOnline s) ∧ RegsOnly (fun o => 0x030100 ≤ o) s (banksOnline s) :=
  ⟨Only.foldl (fun _ _ => only_wrf _ _ _ _ _) _ _, RegsOnly.foldl (fun _ _ => regsOnly_wrf _ _ _ _ (by unfold oBank; omega)) _ _⟩

theorem bankState_banksOnline {b : Nat} (hb : b < 32) (s : State) : bankState (banksOnline s) b = 0 := by
  unfold banksOnline
  rw [foldl_each (k := b) (f := fun s b => wrf s (oBank b) 0 3 0) (I := fun _ => True) (val := bankState) (g := fun _ _ => 0)
    (fun _ _ _ _ => trivial) (fun _ s _ => bankState_wrf s b 0)
    (fun s m _ _ h => rdf_wrf_ne _ _ _ _ _ _ (by unfold oBank; omega)) List.nodup_range trivial]
  simp [hb]

theorem testBit_foldl_lor {l : List BistFail} {b v : Nat} (h : v.testBit b = true ∨ ∃ g ∈ l, g.bank = b) :
    (l.foldl (fun v g => Nat.lor v (2 ^ g.bank)) v).testBit b = true := by
  induction l generalizing v with
  | nil => exact h.resolve_right (by simp)
  | cons a l ih =>
    refine ih ?_
    rcases h with h | ⟨g, hg, hgb⟩
    · exact .inl (by show (v ||| 2 ^ a.bank).testBit b = true; simp [h])
    · rcases List.mem_cons.1 hg with e | hm
      · refine .inl ?_
        show (v ||| 2 ^ a.bank).testBit b = true
        rw [Nat.testBit_or, ← e, hgb, Nat.testBit_two_pow_self, Bool.or_true]
      · exact .inr ⟨g, hm, hgb⟩

theorem bankMask_bit {l : List BistFail} {b : Nat} (hb : b < 32) (h : ∃ g ∈ l, g.bank = b) : bitOf (w64 (bankMask l)) b = true := by
  rw [bitOf, w64, BitVec.getLsbD_ofNat, bankMask, testBit_foldl_lor (.inr h)]
  simp
  omega

theorem bistFailed_frame (fails bad : List BistFail) (f : BistFail) (s : State) :
    Only [.regs] (bistCleared fails s) (bistFailed fails bad f s) :=
  ((only_wr _ _ _).trans (only_wrf _ _ _ _ _)).trans (only_wr _ _ _)

theorem bistFailed_regs (fails bad : List BistFail) (f : BistFail) (s : State) :
    rdf (bistFailed fails bad f s) 0x030000 1 2 = 3 ∧ rd (bistFailed fails bad f s) 0x030004 = w64 (bankMask bad) := by
  unfold bistFailed recordRow
  refine ⟨?_, ?_⟩
  · rw [rdf_wr_ne _ _ _ _ (by decide)]
    exact rdf_wrf_same _ _ _ _ _ (by decide)
  · rw [rd_wr_ne _ _ (by decide), rd_wrf_ne _ _ _ _ (by decide), rd_wr_same]

/-- Settles O13: the start clears the last result; the end clears the sheet, and gives PASS where no failure counts. -/
theorem selfTests : Obligations.SelfTests := by
  unfold Obligations.SelfTests
  refine ⟨fun s hc => ⟨fun hrun hd => ?_, fun h => ?_⟩, fun fails s ha hr => ⟨fun hall => ?_, fun f hf hreal hbad => ?_⟩⟩
  · obtain ⟨hO1, hR1⟩ := resultCleared_frame (answered false 0 s)
    obtain ⟨h1, h2, h3, h4⟩ := resultCleared_regs (answered false 0 s)
    obtain ⟨hO2, hR2, h0⟩ := bistRunning_frame (resultCleared (answered false 0 s))
    have hop : opBistGo (answered false 0 s) = bistRunning (resultCleared (answered false 0 s)) :=
      if_neg (by
        rintro (h | h)
        · exact hrun h
        · exact absurd ((h : s.dev.dispatched = true).symm.trans hd) (by decide))
    have hA := hO2.cap.trans hO1.cap
    have hO : Only [.cap, .regs, .sheet] s _ :=
      ((only_answered _ _ _).mono (by simp)).trans ((hO1.mono (by simp)).trans (hO2.mono (by simp)))
    refine ⟨_, onUnit_next (ok := true) rfl (capCmd_eq hc hop hO.pending hO.aon), h0, ?_, (hR2 _ (by decide)).trans h1,
      (hR2 _ (by decide)).trans h2, (hR2 _ (by decide)).trans h3, fun i hi => (hR2 _ (by omega)).trans (h4 i hi), hA, hO,
      RegsOnly.trans hR1 (hR2.mono fun o h => .inl h)⟩
    rw [bistRunning_sheet, hO1.sheet, (only_answered false 0 s).sheet]
  · exact onUnit_next (ok := true) rfl (capCmd_eq hc (if_pos h) rfl rfl)
  · have hnil : bistBad fails s = [] := List.eq_nil_iff_forall_not_mem.2 fun f h => by
      obtain ⟨hm, hreal, hcount⟩ := mem_bistBad.1 h
      obtain ⟨hu, hst⟩ := hall f hm hreal
      rcases hcount with h | h
      · rw [hu] at h
        exact absurd h (by decide)
      · omega
    have hop := opBistDone_pass hr hnil
    obtain ⟨hO1, hsh⟩ := bistCleared_frame fails s
    have hO2 := only_wrf (bistCleared fails s) 0x030000 1 2 2
    obtain ⟨hO3, hR3⟩ := banksOnline_frame (wrf (bistCleared fails s) 0x030000 1 2 2)
    have hO := hO1.trans ((hO2.trans hO3).mono (by simp))
    have hsheet := (hO2.trans hO3).sheet.trans hsh
    refine ⟨_, exec_live (ok := true) rfl ha hop hO.pending hO.aon, ?_, fun b hb => bankState_banksOnline hb _, ?_, ?_, ?_, hO⟩
    · rw [rdf, hR3 _ (by decide)]
      exact rdf_wrf_same _ _ _ _ _ (by decide)
    all_goals rw [hsheet]
  · obtain ⟨g, hg, hgb⟩ := bank_failSort (mem_bistBad.2 ⟨hf, hreal, hbad⟩)
    obtain ⟨k, ks, hsort, hk⟩ := failSort_cons (mem_bistBad.2 ⟨hf, hreal, hbad⟩)
    rw [hsort] at hg
    obtain ⟨-, hkreal, -⟩ := mem_bistBad.1 hk
    have hkb := (failReal_bank hkreal).1
    have hop := opBistDone_fail hr hsort
    obtain ⟨hO1, hsh⟩ := bistCleared_frame fails s
    have hO2 := bistFailed_frame fails (k :: ks) k s
    have hO3 := only_raise .bistFail k.bank (sheetRec k.bank k.row 0 k.step) (bistFailed fails (k :: ks) k s)
    have hR3 := regsOnly_raise .bistFail k.bank (sheetRec k.bank k.row 0 k.step) (bistFailed fails (k :: ks) k s)
    obtain ⟨h0, h1⟩ := bistFailed_regs fails (k :: ks) k s
    have hn : ∀ o, 0x030000 ≤ o → ¬ (o = 0x010118 ∨ ClassReg o) := fun o ho => by unfold ClassReg; omega
    have hO : Only [.regs, .sheet, .safe] s _ := (hO1.mono (by simp)).trans ((hO2.mono (by simp)).trans (hO3.mono (by simp)))
    have hsheet := hO3.sheet.trans (hO2.sheet.trans hsh)
    refine ⟨_, exec_live (ok := true) rfl ha hop hO.pending hO.aon, ?_, ?_, caused_raise .bistFail hkb _ _,
      isSafe_raise_gf rfl _ _ _, ?_, ?_, hO⟩
    · rw [rdf, hR3 _ (hn _ (by decide))]
      exact h0
    · rw [hR3 _ (hn _ (by decide)), h1]
      exact bankMask_bit (failReal_bank hreal).1 ⟨g, hg, hgb⟩
    all_goals rw [hsheet]

end Sys2Proof.Machine
end

section
/-! PROOFS. Commits: what one answers, and what it applies (R9, R10, R15, R317). -/

namespace Sys2Proof.Machine

/-! ### The configuration a commit would make active -/

/-- The state with other contents of the CAP side. -/
def withCap (c : CapSide) (s : State) : State := { s with cap := c }

theorem foldl_withCap {f : State → Nat → State} {c : CapSide} (h : ∀ s a, f (withCap c s) a = withCap c (f s a)) (l : List Nat) (s : State) :
    l.foldl f (withCap c s) = withCap c (l.foldl f s) := by
  induction l generalizing s with
  | nil => rfl
  | cons a l ih => rw [List.foldl_cons, h, ih]; rfl

theorem candidate_withCap (c : CapSide) (s : State) : candidate (withCap c s) = withCap c (candidate s) :=
  foldl_withCap (fun _ _ => rfl) _ _

theorem only_candidate (s : State) : Only [.regs] s (candidate s) := Only.foldl (fun _ _ => only_wr _ _ _) _ _

theorem nodup_rwcKeys (s : State) : (rwcKeys s).Nodup := (List.nodup_dedup _).filter _

/-- What a register reads once the shadows are active. -/
theorem rd_candidate (s : State) (r : Nat) : rd (candidate s) r =
    if r ∈ rwcKeys s then (rd s r &&& ~~~rwcMask r) ||| rdShadow s r else rd s r := by
  unfold candidate
  refine foldl_each (k := r) (f := takeShadow) (I := fun t => t.shadow = s.shadow) (val := rd)
    (g := fun k v => (v &&& ~~~rwcMask k) ||| rdShadow s k) (fun t m _ h => h) (fun _ t h => ?_) (fun t m _ _ h => rd_wr_ne _ _ h)
    (nodup_rwcKeys s) rfl
  have h' : rdShadow t r = rdShadow s r := by rw [rdShadow, rdShadow, h]
  exact (rd_wr_same _ _ _).trans (by rw [h'])

theorem mem_rwcKeys {s : State} {r : Nat} : r ∈ rwcKeys s ↔ (r ∈ s.shadow.map (·.1) ∨ r ∈ s.regs.map (·.1)) ∧ rwcMask r ≠ 0 := by
  simp [rwcKeys]

theorem mem_changedRegs {s t : State} {r : Nat} : r ∈ changedRegs s t ↔ r ∈ rwcKeys s ∧ rd s r ≠ rd t r := by
  simp [changedRegs]

/-- A register that the commit does not change reads as before. -/
theorem rd_candidate_unchanged {s : State} {r : Nat} (h : r ∉ changedRegs s (candidate s)) : rd (candidate s) r = rd s r := by
  by_contra hne
  refine h (mem_changedRegs.2 ⟨?_, Ne.symm hne⟩)
  by_contra hk
  exact hne (by rw [rd_candidate, if_neg hk])

theorem sFind_unlisted {α : Type} {m : Sparse α} {k : Nat} (h : k ∉ m.map (·.1)) : sFind m k = none := by
  induction m with
  | nil => rfl
  | cons p m ih =>
    obtain ⟨j, v⟩ := p
    simp only [List.map_cons, List.mem_cons, not_or] at h
    simp only [sFind, if_neg h.1]
    exact ih h.2

/-- Every register with RWC fields takes its shadow, listed or not. -/
theorem rd_candidate_rwc {s : State} {r : Nat} (h : rwcMask r ≠ 0) :
    rd (candidate s) r = (rd s r &&& ~~~rwcMask r) ||| rdShadow s r := by
  rw [rd_candidate]
  split
  · rfl
  next hk =>
    rw [mem_rwcKeys, not_and_or, not_or] at hk
    obtain ⟨h1, h2⟩ := hk.resolve_right (not_not.2 h)
    have hs : rdShadow s r = regReset r &&& rwcMask r := by rw [rdShadow, sGet, sFind_unlisted h1]; rfl
    have hr : rd s r = regReset r := by rw [rd, sGet, sFind_unlisted h2]; rfl
    rw [hs, hr]
    ext i
    simp only [BitVec.getElem_or, BitVec.getElem_and, BitVec.getElem_not]
    cases (regReset r)[i] <;> cases (rwcMask r)[i] <;> rfl

theorem rd_candidate_plain {s : State} {r : Nat} (h : rwcMask r = 0) : rd (candidate s) r = rd s r := by
  rw [rd_candidate, if_neg fun hk => (mem_rwcKeys.1 hk).2 h]

/-! ### The answer (R9, R24) -/

theorem changedRegs_answered (s : State) :
    changedRegs (answered false 0 s) (candidate (answered false 0 s)) = changedRegs s (candidate s) := by
  rw [show answered false 0 s = withCap (answered false 0 s).cap s from rfl, candidate_withCap]
  rfl

theorem commitFails_answered (s : State) : commitFails (answered false 0 s) = commitFails s := by
  have h : candidate (answered false 0 s) = withCap (answered false 0 s).cap (candidate s) := candidate_withCap _ _
  unfold commitFails
  rw [h]
  rfl

/-- The failure that is reported lies at the lowest offset, and of those has the lowest code. -/
theorem worstFail_min {l : List Fail} {f : Fail} (h : f ∈ l) :
    ∃ g, worstFail l = some g ∧ g ∈ l ∧ g.1 ≤ f.1 ∧ (g.1 = f.1 → g.2 ≤ f.2) := by
  induction l generalizing f with
  | nil => exact absurd h (by simp)
  | cons a l ih =>
    have hself : ∀ b : Fail, b.1 ≤ b.1 ∧ (b.1 = b.1 → b.2 ≤ b.2) := fun b => ⟨le_refl _, fun _ => le_refl _⟩
    unfold worstFail
    cases hw : worstFail l with
    | none =>
      have hl : l = [] := by
        cases l with
        | nil => rfl
        | cons b l =>
          obtain ⟨g, hg, -⟩ := ih (List.mem_cons_self ..)
          rw [hw] at hg
          exact absurd hg (by simp)
      subst hl
      have hfa : f = a := by simpa using h
      exact ⟨a, rfl, by simp, hfa ▸ hself a⟩
    | some g =>
      have hgl : g ∈ l := by
        cases l with
        | nil => exact absurd hw (by simp [worstFail])
        | cons b l =>
          obtain ⟨k, hk, hkl, -⟩ := ih (f := b) (List.mem_cons_self ..)
          rw [hw] at hk
          exact Option.some.inj hk ▸ hkl
      have hf : f = a ∨ g.1 ≤ f.1 ∧ (g.1 = f.1 → g.2 ≤ f.2) := by
        refine (List.mem_cons.1 h).imp_right fun hm => ?_
        obtain ⟨k, hk, -, hkf⟩ := ih hm
        rw [hw] at hk
        exact Option.some.inj hk ▸ hkf
      dsimp only
      split
      next hlt =>
        refine ⟨g, rfl, List.mem_cons_of_mem _ hgl, ?_⟩
        rcases hf with rfl | hf
        · omega
        · exact hf
      next hlt =>
        refine ⟨a, rfl, List.mem_cons_self .., ?_⟩
        rcases hf with rfl | hf
        · exact hself f
        · omega

/-! ### The application (R10, R317) -/

/-- A counter starts at 0. -/
def startCounter (c : Nat) (s : State) : State :=
  updMeter (fun m => { m with ctrAcc := sDel m.ctrAcc c }) (wr s (oCtrVal c) 0)

theorem only_startCounter (c : Nat) (s : State) : Only [.regs, .meter] s (startCounter c s) :=
  ((only_wr _ _ _).mono (by simp)).trans ((only_updMeter _ _).mono (by simp))

theorem rd_startCounter_same (c : Nat) (s : State) : rd (startCounter c s) (oCtrVal c) = 0 := rd_wr_same s (oCtrVal c) 0

theorem rd_startCounter_ne {c o : Nat} (h : o ≠ oCtrVal c) (s : State) : rd (startCounter c s) o = rd s o := rd_wr_ne s 0 h

/-- A counter whose configuration changes starts at 0. -/
def counterStarts (s : State) (r : Nat) : State :=
  if inRow r 0x341000 4 256 then startCounter ((r - 0x341000) / 4) s else s

theorem inRow_iff {x b st n : Nat} : inRow x b st n = true ↔ b ≤ x ∧ x < b + st * n ∧ (x - b) % st = 0 := by
  simp [inRow, and_assoc]

/-- The value register of a counter. -/
def CtrValReg (o : Nat) : Prop := ∃ c, c < 256 ∧ o = oCtrVal c

theorem counterStarts_frame (s : State) (r : Nat) :
    Only [.regs, .meter] s (counterStarts s r) ∧ RegsOnly CtrValReg s (counterStarts s r) := by
  unfold counterStarts
  split
  next h =>
    rw [inRow_iff] at h
    refine ⟨only_startCounter _ _, fun o ho => rd_startCounter_ne (fun e => ho ⟨_, ?_, e⟩) _⟩
    omega
  · exact ⟨Only.refl _ _, RegsOnly.refl _ _⟩

theorem counterStarts_zero {s : State} {o : Nat} (h : rd s o = 0) (r : Nat) : rd (counterStarts s r) o = 0 := by
  unfold counterStarts
  split
  · generalize (r - 0x341000) / 4 = c
    by_cases ho : o = oCtrVal c
    · rw [ho, rd_startCounter_same]
    · rw [rd_startCounter_ne ho, h]
  · exact h

theorem counterStarts_same {c r : Nat} (hc : c < 256) (hr : r = 0x341000 + 4 * c) (s : State) :
    rd (counterStarts s r) (oCtrVal c) = 0 := by
  have hrow : inRow r 0x341000 4 256 = true := inRow_iff.2 (by omega)
  have hdiv : (r - 0x341000) / 4 = c := by omega
  rw [counterStarts, if_pos hrow, hdiv, rd_startCounter_same]

theorem foldl_counterStarts_zero {l : List Nat} {s : State} {c : Nat} (hc : c < 256)
    (h : (∃ r ∈ l, r = 0x341000 + 4 * c) ∨ rd s (oCtrVal c) = 0) : rd (l.foldl counterStarts s) (oCtrVal c) = 0 := by
  induction l generalizing s with
  | nil => exact h.resolve_left (by simp)
  | cons a l ih =>
    refine ih ?_
    rcases h with ⟨r, hr, he⟩ | h
    · rcases List.mem_cons.1 hr with ha | hm
      · exact .inr (counterStarts_same hc (ha ▸ he) s)
      · exact .inl ⟨r, hm, he⟩
    · exact .inr (counterStarts_zero h a)

theorem foldl_congr_mem {α : Type} {f g : State → α → State} {l : List α} (h : ∀ t, ∀ a ∈ l, f t a = g t a) (s : State) :
    l.foldl f s = l.foldl g s := by
  induction l generalizing s with
  | nil => rfl
  | cons a l ih => rw [List.foldl_cons, List.foldl_cons, h s a (by simp), ih fun t b hb => h t b (by simp [hb])]

/-- The registers of the order block, and the counters' configuration. -/
def SimpleReg (r : Nat) : Prop := 0x040000 ≤ r ∧ r < 0x050000 ∨ 0x341000 ≤ r ∧ r < 0x341400

theorem markLost_unqueued {s : State} (h : ∀ p ∈ s.home.reqs, p.place ≠ .chain) : markLost s = s := by
  have hm : s.home.reqs.map (fun p => if p.place = .chain ∧ waiterLost s p then { p with lost := true } else p) = s.home.reqs := by
    conv_rhs => rw [← List.map_id s.home.reqs]
    exact List.map_congr_left fun p hp => if_neg fun e => h p hp e.1
  simp only [markLost, updHome, hm]

theorem traysUsed_lt {s : State} {n : Nat} (h : n ∈ traysUsed s) : n < 64 := by
  obtain ⟨p, -, hp⟩ := List.mem_filterMap.1 (List.mem_dedup.1 h)
  split at hp
  next hr =>
    have := Option.some.inj hp
    omega
  · exact absurd hp (by simp)

/-- A commit of order registers and counter configurations starts counters, and settles the CAP's list of removals. -/
theorem commitEffects_simple {old s : State} (hch : ∀ r ∈ changedRegs old s, SimpleReg r)
    (hrd : ∀ r, ¬ SimpleReg r → rd s r = rd old r) (hreq : ∀ p ∈ s.home.reqs, p.place ≠ .chain) :
    ∃ f : CapSide → CapSide, commitEffects old s = (changedRegs old s).foldl counterStarts (updCap f s) ∧
      ∀ c, (f c).commitBusy = c.commitBusy := by
  have hrem : removedAgents old s = [] := by
    refine List.flatMap_eq_nil_iff.2 fun n hn => ?_
    have hlt := traysUsed_lt hn
    rw [List.map_eq_nil_iff, List.filter_eq_nil_iff]
    intro a ha
    have hrdn : rd s (oMemb n) = rd old (oMemb n) := hrd _ (by unfold SimpleReg oMemb trayBase; omega)
    have hmem : isMember s n a = true := by
      rw [isMember, hrdn]
      have ha' := (List.mem_filter.1 ha).2
      simp only [lo32, BitVec.getLsbD_setWidth, Bool.and_eq_true] at ha'
      exact ha'.2
    simp [hmem]
  have hresv : ∀ f, resvTrays old (updCap f s) = [] := by
    intro f
    unfold resvTrays
    rw [List.filterMap_eq_nil_iff.2, List.dedup_nil]
    intro r hr
    have := hch r (show r ∈ changedRegs old s from hr)
    unfold SimpleReg at this
    exact if_neg (by omega)
  have hmap : ∀ f, remapped old (updCap f s) = [] := by
    intro f
    unfold remapped
    rw [List.filterMap_eq_nil_iff.2, List.dedup_nil]
    intro r hr
    have := hch r (show r ∈ changedRegs old s from hr)
    unfold SimpleReg at this
    exact if_neg (by omega)
  unfold commitEffects
  simp only [markLost_unqueued hreq, hresv, hmap, hrem, List.foldl_nil]
  refine ⟨_, foldl_congr_mem (fun t r hr => ?_) _, fun _ => rfl⟩
  have h := hch r hr
  unfold SimpleReg at h
  have h1 : inRow r 0x300090 0x1000 64 = false := by simp only [inRow, Bool.and_eq_false_iff, decide_eq_false_iff_not]; omega
  have h2 : inRow r 0x100010 0x10000 16 = false := by simp only [inRow, Bool.and_eq_false_iff, decide_eq_false_iff_not]; omega
  have h3 : inRow r 0x300084 0x1000 64 = false := by simp only [inRow, Bool.and_eq_false_iff, decide_eq_false_iff_not]; omega
  have h4 : ¬ r = 0x342000 := by omega
  have h5 : decide (r = 0x342100) = false := decide_eq_false (by omega)
  unfold counterStarts
  simp only [h1, h2, h3, if_neg h4, h5, Bool.false_and, Bool.false_eq_true, if_false]
  rfl

/-- The state when the commit's values are active and the commit is over, before it is reported. -/
def committed (s : State) : State :=
  commitEffects s (updCap (fun c => { c with commitBusy := false, heldShadow := [] }) (candidate s))

/-- The commit is reported DONE and counted. -/
def commitCounted (t : State) : State :=
  wr (commitStatus 2 0 0 t) oCommitSeq (w64 ((rd t oCommitSeq + 1).toNat % 2 ^ 32))

theorem opCommitApply_eq {s : State} (hb : s.cap.commitBusy = true) (hh : s.cap.heldShadow = [])
    (hr : ∀ p ∈ s.dev.ctxs, p.2.inFlight = none) : opCommitApply s = commitCounted (committed s) := by
  have hrule : ruleBoundary s = true := by
    simp only [ruleBoundary, Bool.not_eq_true', List.any_eq_false]
    intro p hp
    simp [hr p hp]
  unfold opCommitApply
  rw [if_neg (by simp [hb, hrule])]
  simp only [hh, List.foldl_nil]
  rfl

theorem opCommitApply_waits {c : Nat} {x : Ctx} {s : State} (hx : ctxOf s c = some x) (h : x.inFlight.isSome = true) :
    opCommitApply s = s := by
  have hm : ∀ m : Sparse Ctx, sFind m c = some x → (c, x) ∈ m := by
    intro m
    induction m with
    | nil => intro h; exact absurd h (by simp)
    | cons p m ih =>
      obtain ⟨k, v⟩ := p
      intro h
      simp only [sFind] at h
      split at h
      next e => rw [← e, ← Option.some.inj h]; exact List.mem_cons_self ..
      · exact List.mem_cons_of_mem _ (ih h)
  have hrule : ruleBoundary s = false := by
    simp only [ruleBoundary, Bool.not_eq_false', List.any_eq_true]
    exact ⟨_, hm _ hx, h⟩
  exact if_pos (by simp [hrule])

theorem exec_unchanged {f : State → State} {s : State} (h : f s = s) : live f s = s := by
  unfold live
  split
  · rfl
  · exact (untimed_eq (by rw [h]) (by rw [h])).trans h

theorem ctrCfg_row {c : Nat} (hc : c < 256) : SimpleReg (0x341000 + 4 * c) := by unfold SimpleReg; omega

/-- What a commit of order registers and counter configurations leaves before it is reported. -/
theorem committed_frame {s : State} (hreq : ∀ p ∈ s.home.reqs, p.place ≠ .chain)
    (hch : ∀ r ∈ changedRegs s (candidate s), SimpleReg r) : Only [.regs, .cap, .meter] s (committed s) ∧
    (committed s).cap.commitBusy = false ∧ RegsOnly CtrValReg (candidate s) (committed s) ∧
    ∀ c, c < 256 → 0x341000 + 4 * c ∈ changedRegs s (candidate s) → rd (committed s) (oCtrVal c) = 0 := by
  have hO1 := only_candidate s
  have hcap : ∀ f, Only [.cap] (candidate s) (updCap f (candidate s)) := fun f => by simp [only_iff]
  obtain ⟨f, heq, hf⟩ := commitEffects_simple (old := s)
    (s := updCap (fun c => { c with commitBusy := false, heldShadow := [] }) (candidate s)) hch
    (fun r hr => rd_candidate_unchanged fun hm => hr (hch r hm)) (by
      show ∀ p ∈ (candidate s).home.reqs, p.place ≠ .chain
      rw [hO1.home]
      exact hreq)
  have hO2 := Only.foldl (fun t r => (counterStarts_frame t r).1) (changedRegs s (candidate s))
    (updCap f (updCap (fun c => { c with commitBusy := false, heldShadow := [] }) (candidate s)))
  have hR2 := RegsOnly.foldl (fun t r => (counterStarts_frame t r).2) (changedRegs s (candidate s))
    (updCap f (updCap (fun c => { c with commitBusy := false, heldShadow := [] }) (candidate s)))
  unfold committed
  rw [heq]
  refine ⟨?_, ?_, hR2, fun c hc hm => foldl_counterStarts_zero hc (.inl ⟨_, hm, rfl⟩)⟩
  · exact (hO1.mono (by simp)).trans (((hcap (f ∘ fun c => { c with commitBusy := false, heldShadow := [] })).mono (by simp)).trans
      (hO2.mono (by simp)))
  · exact (congrArg CapSide.commitBusy hO2.cap).trans (hf _)

theorem rwcMask_status : rwcMask 0x14 = 0 ∧ rwcMask 0x18 = 0 := by decide

theorem not_ctrVal {o : Nat} (h : o < 0x340000 ∨ 0x340800 ≤ o) : ¬ CtrValReg o := by
  rintro ⟨c, hc, e⟩
  unfold oCtrVal at e
  omega

/-- A register with RWC fields is no counter's value. -/
theorem rwcMask_ctrVal {c : Nat} (hc : c < 256) : rwcMask (oCtrVal c) = 0 := by
  have h : regDesc (oCtrVal c) = regCounters (8 * c) := by
    unfold regDesc oCtrVal
    rw [if_neg (by omega), if_neg (by omega), if_neg (by omega), if_neg (by omega), if_neg (by omega), if_neg (by omega),
      if_neg (by omega), if_neg (by omega), if_neg (by omega), if_neg (by omega), if_pos (by omega),
      show 0x340000 + 8 * c - 0x340000 = 8 * c by omega]
  have hrow : inRow (8 * c) 0 8 256 = true := inRow_iff.2 (by omega)
  rw [rwcMask, h]
  simp only [regCounters, hrow, if_true]
  rfl

theorem commitCounted_frame (t : State) : Only [.regs] t (commitCounted t) ∧
    RegsOnly (fun o => o = 0x14 ∨ o = 0x18) t (commitCounted t) ∧ rd (commitCounted t) 0x14 = 2#64 ∧
    rd (commitCounted t) 0x18 = w64 ((rd t 0x18 + 1).toNat % 2 ^ 32) :=
  ⟨(only_wr _ _ _).trans (only_wr _ _ _), (regsOnly_wr _ _ (.inl rfl)).trans (regsOnly_wr _ _ (.inr rfl)),
    (rd_wr_ne _ _ (by decide)).trans (rd_wr_same _ _ _), rd_wr_same _ _ _⟩

/-- What a commit answers when its checks have named the failing register of lowest offset, or none. -/
def commitChecked (w : Option (Nat × Nat)) (s : State) : State :=
  match w with
  | some (o, c) => commitStatus 3 c o s
  | none => updCap (fun c => { c with commitBusy := true }) (commitStatus 1 0 0 s)

/-- A commit outside Safelight state with none under way. -/
theorem opCommit_eq {s : State} (hb : s.cap.commitBusy = false) (hs : isSafe s = false) :
    opCommit (answered false 0 s) =
      if (changedRegs s (candidate s)).isEmpty then commitStatus 4 0 0 (answered false 0 s)
      else commitChecked (worstFail (commitFails s)) (answered false 0 s) := by
  unfold opCommit
  rw [if_neg (by rw [show (answered false 0 s).cap.commitBusy = s.cap.commitBusy from rfl, hb]; decide),
    if_neg (by rw [show isSafe (answered false 0 s) = isSafe s from rfl, hs]; decide), changedRegs_answered, commitFails_answered]
  generalize changedRegs s (candidate s) = l
  generalize worstFail (commitFails s) = w
  cases w <;> rfl

/-- Settles O12: the answer follows from the list of failing checks; the application is the candidate's values and the counters
that start anew. -/
theorem commits : Obligations.Commits := by
  unfold Obligations.Commits
  refine ⟨fun s hc hb hs => ⟨fun hch => ?_, fun hch hf => ?_, fun f hf hch => ?_⟩, fun c x s hx hi => ?_,
    fun s ha hb hh hr hreq hch => ?_⟩
  · refine onUnit_next (ok := true) rfl (capCmd_eq hc ?_ rfl rfl)
    rw [opCommit_eq hb hs, if_pos (by simp [hch])]
    rfl
  · have hop : opCommit (answered false 0 s) =
        updCap (fun c => { c with commitBusy := true }) (commitStatus 1 0 0 (answered false 0 s)) := by
      rw [opCommit_eq hb hs, if_neg (by simpa using hch), hf]
      rfl
    exact ⟨_, onUnit_next (ok := true) rfl (capCmd_eq hc hop rfl rfl), rfl, rfl, rfl⟩
  · obtain ⟨g, hw, hg, hmin, htie⟩ := worstFail_min hf
    refine ⟨g.1, g.2, hg, hmin, htie, onUnit_next (ok := true) rfl (capCmd_eq hc ?_ rfl rfl)⟩
    rw [opCommit_eq hb hs, if_neg (by simpa using hch), hw]
    rfl
  · exact congrArg Host.Outcome.next (exec_unchanged (opCommitApply_waits hx hi))
  · obtain ⟨hO1, hbusy, hR1, hzero⟩ := committed_frame hreq hch
    obtain ⟨hO2, hR2, h14, h18⟩ := commitCounted_frame (committed s)
    have hop := opCommitApply_eq hb hh hr
    have hO := hO1.trans (hO2.mono (by simp))
    have hrd : ∀ r, r ≠ 0x14 → r ≠ 0x18 → ¬ CtrValReg r → rd (commitCounted (committed s)) r = rd (candidate s) r :=
      fun r h1 h2 h3 => (hR2 r (by rintro (h | h) <;> contradiction)).trans (hR1 r h3)
    refine ⟨_, exec_live (ok := true) rfl ha hop hO.pending hO.aon, ?_, fun r hm _ => ?_, fun r hm h1 h2 h3 => ?_, h14, ?_,
      fun c hc hne => ?_, hO.shadow, hO.home, hO.mem, hO.sheet, hO.dev, hO.tx⟩
    · rw [hO2.cap, hbusy]
    · rw [hrd r (fun e => hm (e ▸ rwcMask_status.1)) (fun e => hm (e ▸ rwcMask_status.2))
        (fun ⟨c, hc, e⟩ => hm (e ▸ rwcMask_ctrVal hc)), rd_candidate_rwc hm]
    · rw [hrd r h1 h2 (fun ⟨c, hc, e⟩ => h3 c hc e), rd_candidate_plain hm]
    · rw [h18, hR1 _ (not_ctrVal (by decide)), rd_candidate_plain rwcMask_status.2]
    · have hr1 : ∀ o, o = 0x341000 + 4 * c → rd (commitCounted (committed s)) o = rd (candidate s) o := fun o ho =>
        hrd o (by omega) (by omega) (not_ctrVal (by omega))
      have hmem : 0x341000 + 4 * c ∈ changedRegs s (candidate s) := by
        by_contra hm
        exact hne (by rw [hr1 _ rfl, rd_candidate_unchanged hm])
      have hr2 : ∀ o, o = oCtrVal c → rd (commitCounted (committed s)) o = rd (committed s) o := fun o ho =>
        hR2 o (by unfold oCtrVal at ho; omega)
      exact (hr2 _ rfl).trans (hzero c hc hmem)

end Sys2Proof.Machine
end

section
/-! PROOFS. The engine starts, management requests begin, and the crossbar's starvation log (R132, R150, R151, R220). -/

namespace Sys2Proof.Machine

/-! ### Taking a context in a block with nothing in hand (R53, R155) -/

theorem choose_default {s : State} (n : Nat) (h : s.picks = []) : choose n s = (0, s) := by rw [choose, h]

theorem takeEntry_fresh {s : State} (hc : s.dev.ctxs = []) (hl : s.home.latent = []) (hp : s.picks = []) :
    takeEntry s = some (0, s) := by
  have h0 : entryFree s 0 = true := by simp [entryFree, ctxOf, entryHeld, hc, hl]
  rw [takeEntry, choose_default _ hp, show Config.latentEntries = 8191 + 1 from rfl]
  dsimp only
  rw [scanFree, if_pos (show entryFree s (0 % Config.latentEntries) = true from h0)]
  rfl

/-- A context as a bind leaves it. -/
def bound (s : State) (x : Ctx) : Ctx := { x with reelB := activeReel s, byRule := s.dev.byRule }

theorem ctxOf_bindCtx (c : Nat) (x : Ctx) (s : State) : ctxOf (bindCtx c x s) c = some (bound s x) := by
  unfold bindCtx
  dsimp only
  split
  · exact ctxOf_setCtx_same c (bound s x) s
  · exact ctxOf_setCtx_same c (bound s x) s

theorem bindCtx_frame (c : Nat) (x : Ctx) (s : State) : Only [.regs, .dev] s (bindCtx c x s) ∧
    RegsOnly (· = 0x020008) s (bindCtx c x s) ∧ (bindCtx c x s).dev = { s.dev with ctxs := sSet s.dev.ctxs c (bound s x) } := by
  have h1 := only_setCtx c (bound s x) s
  unfold bindCtx
  dsimp only
  split
  · exact ⟨(h1.mono (by simp)).trans ((only_wr _ _ _).mono (by simp)), regsOnly_wr (setCtx c (bound s x) s) _ rfl, rfl⟩
  · exact ⟨h1.mono (by simp), regsOnly_of_regs rfl, rfl⟩

/-- An event of a context that idles becomes ready. -/
theorem postEvent_idle {e : Event} {x : Ctx} {s : State} (hx : ctxOf s e.ctx = some x) (hi : idles s e.ctx x = true) :
    postEvent e s = updDev (fun d => { d with ready := d.ready ++ [e] }) s := by
  rw [postEvent, hx]
  exact if_pos hi

/-- A context that has just begun idles where no event is ready. -/
theorem idles_begun {s : State} {c : Nat} {x : Ctx} (hr : s.dev.ready = []) (hf : x.inFlight = none) (hc : x.chain = 0)
    (hs : x.stall = none) : idles s c x = true := by simp [idles, hr, hf, hc, hs]

/-! ### The engine's start (R132) -/

theorem opEngineStart_starts {byRule : Bool} {s : State} (hr : s.dev.running = false) (he : engEn s = true) (hb : bistPass s = true)
    (ha : reelAny s = true) (hs : isSafe s = false) (hc : s.dev.ctxs = []) (hm : bitOf (rd s 0x02020C) 31 = false) :
    opEngineStart byRule s = updDev (fun d => { d with running := true, dispatched := true, byRule := byRule }) s := by
  unfold opEngineStart
  rw [if_neg (by simp [hr, he, hb, ha, hs])]
  have hw : ∀ f : DevSide → DevSide, (f s.dev).ctxs = [] → mreqAdvance (go (waitingWb (updDev f s)) (updDev f s)) = updDev f s := by
    intro f hf
    rw [waitingWb_empty hf, go_nil]
    exact if_pos (by simp [show rd (updDev f s) 0x02020C = rd s 0x02020C from rfl, hm])
  refine (hw _ (by simp [hc])).trans ?_
  rw [updDev, updDev, hc]
  rfl

theorem opEngineStart_waits {byRule : Bool} {s : State}
    (h : s.dev.running = true ∨ engEn s = false ∨ bistPass s = false ∨ reelAny s = false ∨ isSafe s = true) :
    opEngineStart byRule s = s := if_pos (by simpa [or_assoc] using h)

/-! ### Management requests (R150, R151) -/

/-- The context of a management request without a line, before it binds. -/
def mgmtBlank (s : State) : Ctx :=
  { Ctx.blank (.mgmt false) with
      deadline := s.dev.mreqAt, ed := s.dev.mreqAt, variant := BitVec.ofNat 3 (fld (rd s 0x020208) 16 3), ea := w64 0,
      ex := w64 (0x3D + 2 ^ 6 * fld (rd s 0x020208) 0 16) }

/-- The context of a management request without a line. -/
def mgmtCtx (s : State) : Ctx :=
  { bound s (mgmtBlank s) with byRule := true }

/-- The state with the request's context bound. -/
def mgmtBound (s : State) : State :=
  modCtx 0 (fun y => { y with byRule := true }) (bindCtx 0 (mgmtBlank s) s)

/-- The event of the request. -/
def mgmtEvent (s : State) : Event :=
  { ts := 43, ctx := 0, typ := 0x3D#6, ea := w64 0, es := BitVec.ofNat 5 0, ed := s.dev.mreqAt,
    ex := w64 (0x3D + 2 ^ 6 * fld (rd s 0x020208) 0 16), code := none }

theorem mgmtBound_frame (s : State) : Only [.regs, .dev] s (mgmtBound s) ∧ RegsOnly (· = 0x020008) s (mgmtBound s) ∧
    ctxOf (mgmtBound s) 0 = some (mgmtCtx s) ∧ (mgmtBound s).dev.ready = s.dev.ready := by
  obtain ⟨hO, hR, hd⟩ := bindCtx_frame 0 (mgmtBlank s) s
  refine ⟨hO.trans ((only_modCtx _ _ _).mono (by simp)), hR, ctxOf_modCtx_same (ctxOf_bindCtx _ _ _) _, ?_⟩
  exact (congrArg DevSide.ready hd :)

theorem mreqAdvance_begins {s : State} (hs : isSafe s = false) (hrun : s.dev.running = true) (hb : bitOf (rd s 0x02020C) 31 = true)
    (hl : bitOf (rd s 0x020200) 0 = false) (hc : s.dev.ctxs = []) (hr : s.dev.ready = []) (hlat : s.home.latent = [])
    (hch : s.home.chains = []) (hp : s.picks = []) :
    mreqAdvance s = updDev (fun d => { d with ready := d.ready ++ [mgmtEvent s] }) (mgmtBound s) := by
  have hbeg : mreqBegun s = false := by simp [mreqBegun, hc, hch]
  obtain ⟨-, -, hx, hready⟩ := mgmtBound_frame s
  unfold mreqAdvance
  simp only [hs, hrun, hb, hl, hbeg, Bool.not_true, Bool.or_false, Bool.false_and, Bool.false_eq_true, if_false,
    takeEntry_fresh hc hlat hp]
  exact postEvent_idle (e := mgmtEvent s) (s := mgmtBound s) hx (idles_begun (hready.trans hr) rfl rfl rfl)

/-- The request in hand is BUSY from now on. -/
def mreqBusy (s : State) : State :=
  updDev (fun d => { d with mreqAt := BitVec.ofNat 32 (nowNs s) }) (wr s 0x02020C (w64 (2 ^ 31)))

theorem opMreqGo_goes {s : State} (hs : isSafe s = false) (hb : bitOf (rd s 0x02020C) 31 = false)
    (hl : bitOf (rd s 0x020200) 0 = false) : opMreqGo s = mreqAdvance (mreqBusy s) := by
  unfold opMreqGo
  rw [if_neg (by simp [hs, hb])]
  dsimp only
  rw [if_neg (by simp [hl])]
  rfl

theorem opMreqGo_beyond {s : State} (hs : isSafe s = false) (hb : bitOf (rd s 0x02020C) 31 = false)
    (hl : bitOf (rd s 0x020200) 0 = true) (hpool : poolGib s * 2 ^ 24 ≤ fld (rd s 0x020200) 6 36) : opMreqGo s = mreqEnd 3 s := by
  unfold opMreqGo
  rw [if_neg (by simp [hs, hb])]
  exact if_pos (by rw [hl, decide_eq_true hpool]; rfl)

theorem mreqBusy_regs (s : State) : (mreqBusy s).regs = (wr s 0x02020C (w64 (2 ^ 31))).regs := rfl

theorem isSafe_mreqBusy (s : State) : isSafe (mreqBusy s) = isSafe s :=
  (isSafe_congr (mreqBusy_regs s)).trans (isSafe_wr_ne _ (by decide))

theorem rd_mreqBusy_same (s : State) : rd (mreqBusy s) 0x02020C = w64 (2 ^ 31) :=
  (rd_congr (mreqBusy_regs s) _).trans (rd_wr_same _ _ _)

theorem rd_mreqBusy_ne {o : Nat} (h : o ≠ 0x02020C) (s : State) : rd (mreqBusy s) o = rd s o :=
  (rd_congr (mreqBusy_regs s) _).trans (rd_wr_ne _ _ h)

/-! ### Starvation (R220) -/

/-- The first starving input and output since VALID was cleared are named. -/
def starved (i o : Nat) (s : State) : State :=
  let s := raise0 .starve s
  if bitOf (rd s 0x040304) 31 then s else wr s 0x040304 (w64 (i + 2 ^ 8 * o + 2 ^ 31))

theorem starved_frame (i o : Nat) (s : State) : Only [.regs] s (starved i o s) ∧
    RegsOnly (fun r => r = 0x040304 ∨ r = 0x010128) s (starved i o s) ∧ Caused (starved i o s) .starve 0 ∧
    rd (starved i o s) 0x040304 = if bitOf (rd s 0x040304) 31 then rd s 0x040304 else w64 (i + 2 ^ 8 * o + 2 ^ 31) := by
  have hO := only_raise0_none (c := .starve) rfl s
  have hR := regsOnly_raise0_none (c := .starve) rfl s
  have hrd : rd (raise0 .starve s) 0x040304 = rd s 0x040304 := hR _ (by decide)
  have hc := caused_raise0 .starve s
  unfold starved
  dsimp only
  rw [hrd]
  split
  · exact ⟨hO, hR.mono fun o h => .inr h, hc, hrd⟩
  · exact ⟨hO.trans (only_wr _ _ _), (hR.mono fun o h => .inr h).trans (regsOnly_wr _ _ (.inl rfl)), hc.wr (by decide),
      rd_wr_same _ _ _⟩

/-- Settles O43: the start and the requests are guarded writes; a request without a line takes the first entry. -/
theorem engineStartsAndManages : Obligations.EngineStartsAndManages := by
  unfold Obligations.EngineStartsAndManages
  refine ⟨fun byRule s ha => ⟨?_, fun hr he hb hre hs hc hm => ?_, fun h => ?_⟩,
    fun s hc => ⟨fun hs hb hl hrun hct hre hlat hch hp => ?_, fun hs hb hl hpool => ?_, fun h => ?_⟩,
    fun i o s hi ho ha => ⟨fun h0 hreq hg => ?_, fun h => ?_⟩⟩
  · have hc : capAnswers s = true := by rw [capAnswers_eq, ha]; rfl
    refine ⟨wrf (answered false 0 s) 0x020000 0 1 1, onUnit_next (ok := true) rfl (capCmd_eq hc rfl rfl rfl), ?_, rfl,
      ((only_answered _ _ _).mono (by simp)).trans ((only_wrf _ _ _ _ _).mono (by simp)), regsOnly_wrf (answered false 0 s) _ _ _ rfl⟩
    rw [engEn, rd_wrf_same, bitOf_setFld_one _ _ _ (by decide)]
    rfl
  · exact exec_live (ok := true) rfl ha (opEngineStart_starts hr he hb hre hs hc hm) rfl rfl
  · exact exec_live (ok := true) rfl ha (opEngineStart_waits h) rfl rfl
  · have hb1 := rd_mreqBusy_same (answered false 0 s)
    have hop : opMreqGo (answered false 0 s) = updDev (fun d => { d with ready := d.ready ++ [mgmtEvent (mreqBusy (answered false 0 s))] })
        (mgmtBound (mreqBusy (answered false 0 s))) := by
      rw [opMreqGo_goes (s := answered false 0 s) hs hb hl]
      exact mreqAdvance_begins ((isSafe_mreqBusy _).trans hs) hrun (by rw [hb1]; decide)
        ((congrArg (bitOf · 0) (rd_mreqBusy_ne (by decide) _)).trans hl) hct hre hlat hch hp
    have hO0 : Only [.cap, .regs, .dev] s (mreqBusy (answered false 0 s)) :=
      ((only_answered _ _ _).mono (by simp)).trans (((only_wr _ _ _).mono (by simp)).trans ((only_updDev _ _).mono (by simp)))
    obtain ⟨hO, hR, hx, hready⟩ := mgmtBound_frame (mreqBusy (answered false 0 s))
    have hOt : Only [.cap, .regs, .dev] s _ := (hO0.trans (hO.mono (by simp))).trans ((only_updDev
      (fun d => { d with ready := d.ready ++ [mgmtEvent (mreqBusy (answered false 0 s))] }) _).mono (by simp))
    refine ⟨_, mgmtCtx (mreqBusy (answered false 0 s)), mgmtEvent (mreqBusy (answered false 0 s)),
      onUnit_next (ok := true) rfl (capCmd_eq hc hop hOt.pending hOt.aon), ?_, hx, rfl, rfl, rfl, ?_, rfl, rfl, rfl, hOt⟩
    · exact (hR _ (by decide)).trans hb1
    · show (mgmtBound (mreqBusy (answered false 0 s))).dev.ready ++ [_] = _
      rw [hready, show (mreqBusy (answered false 0 s)).dev.ready = s.dev.ready from rfl, hre]
      rfl
  · have hop := opMreqGo_beyond (s := answered false 0 s) hs hb hl hpool
    have hO := only_raise0_none (c := .mreqDone) rfl (wr (answered false 0 s) 0x02020C (w64 3))
    have hR := regsOnly_raise0_none (c := .mreqDone) rfl (wr (answered false 0 s) 0x02020C (w64 3))
    refine ⟨_, onUnit_next (ok := true) rfl (capCmd_eq hc hop hO.pending hO.aon), ?_, caused_raise0 _ _,
      ((only_answered _ _ _).mono (by simp)).trans (((only_wr _ _ _).mono (by simp)).trans (hO.mono (by simp)))⟩
    exact (hR _ (by decide)).trans (rd_wr_same _ _ _)
  · exact onUnit_next (ok := true) rfl (capCmd_eq hc (if_pos (by
      show (isSafe s || bitOf (rd s 0x02020C) 31) = true
      rw [Bool.or_eq_true]
      exact h)) rfl rfl)
  · obtain ⟨hO, hR, hc, hrd⟩ := starved_frame i o s
    exact ⟨_, exec_live (by simp [hi, ho]) ha (if_neg (by simp [h0, hreq, hg])) hO.pending hO.aon, hc, hrd, hO, hR⟩
  · exact exec_live (by simp [hi, ho]) ha (if_pos (by simpa using h)) rfl rfl

end Sys2Proof.Machine
end

section
/-! PROOFS. Layer: what counting an event, an access to DRAM, and the posted write buffer leave alone (R71, R232 to R236, R248,
R264 to R266, R315 to R318). -/

namespace Sys2Proof.Machine

/-! ### Counting an event (R315 to R318) -/

/-- The registers that counting may change: the counters' block, and the cause of a wrapped counter. -/
def CountReg (o : Nat) : Prop := 0x340000 ≤ o ∧ o < 0x350000 ∨ o = 0x010138

/-- A change of registers and of the Light Meter's side, as counting makes. -/
def Counts (s t : State) : Prop := Only [.regs, .meter] s t ∧ RegsOnly CountReg s t

theorem Counts.refl (s : State) : Counts s s := ⟨Only.refl _ _, RegsOnly.refl _ _⟩

theorem Counts.trans {s t u : State} (h : Counts s t) (g : Counts t u) : Counts s u := ⟨h.1.trans g.1, h.2.trans g.2⟩

theorem counts_wr (s : State) {o : Nat} (v : W64) (h : CountReg o) : Counts s (wr s o v) :=
  ⟨(only_wr _ _ _).mono (by simp), regsOnly_wr _ _ h⟩

theorem counts_meter (f : MeterSide → MeterSide) (s : State) : Counts s (updMeter f s) :=
  ⟨(only_updMeter _ _).mono (by simp), regsOnly_of_regs rfl⟩

theorem counts_statAdd (ev scope unit n : Nat) (s : State) : Counts s (statAdd ev scope unit n s) :=
  ⟨(only_statAdd _ _ _ _ _).mono (by simp), regsOnly_of_regs rfl⟩

theorem counts_ctrWrap {c : Nat} (hc : c < 256) (s : State) : Counts s (ctrWrap c s) := by
  have h1 : Counts s (wr s (0x342040 + 4 * (c / 32)) (rd s (0x342040 + 4 * (c / 32)) ||| w64 (2 ^ (c % 32)))) :=
    counts_wr _ _ (by unfold CountReg; omega)
  have h2 : ∀ t : State, Counts t (raise0 .ovf t) := fun t =>
    ⟨(only_raise0_none rfl _).mono (by simp), (regsOnly_raise0_none (c := .ovf) rfl t).mono fun o h => .inr h⟩
  unfold ctrWrap
  dsimp only
  split
  · exact h1.trans (h2 _)
  · exact (h1.trans (h2 _)).trans (counts_meter (fun m => { m with sampleReq := some c, runs := [] }) _)

theorem counts_ctrAdd {c : Nat} (hc : c < 256) (n : Nat) (s : State) : Counts s (ctrAdd c n s) := by
  have hval : ∀ t v, Counts t (wr t (oCtrVal c) v) := fun t v => counts_wr _ _ (by unfold CountReg oCtrVal; omega)
  unfold ctrAdd
  split
  · exact Counts.refl s
  · split
    · exact counts_meter (fun m => { m with ctrAcc := sPut 0 m.ctrAcc c (sGet 0 m.ctrAcc c + w64 n) }) s
    · dsimp only
      split
      · exact (hval _ _).trans (counts_ctrWrap hc _)
      · exact hval _ _
    · exact hval _ _

theorem mem_ctrConfigured {s : State} {p : Nat × W64} (h : p ∈ ctrConfigured s) : p.1 < 256 := by
  obtain ⟨q, hq, rfl⟩ := List.mem_map.1 h
  obtain ⟨h1, h2, -⟩ := inRow_iff.1 (List.mem_filter.1 hq).2
  show (q.1 - 0x341000) / 4 < 256
  omega

/-- The Light Meter counts an event at a unit, where one is named. -/
def statMaybe (ev scope n : Nat) (unit : Option Nat) (s : State) : State :=
  match unit with
  | some u => statAdd ev scope u n s
  | none => s

theorem counts_statMaybe (ev scope n : Nat) (unit : Option Nat) (s : State) : Counts s (statMaybe ev scope n unit s) := by
  cases unit with
  | none => exact Counts.refl s
  | some u => exact counts_statAdd _ _ _ _ _

/-- Every counter configured for an event takes it. -/
def ctrCount (ev : Nat) (u : Units) (n : Nat) (s : State) : State :=
  (ctrConfigured s).foldl (fun s p => if ctrMatches p.2 ev u then ctrAdd p.1 n s else s) s

theorem count_eq (ev : Nat) (u : Units) (n : Nat) (s : State) : count ev u n s =
    statMaybe ev 4 n u.chan (statMaybe ev 3 n (u.agent.map (· / 2)) (statMaybe ev 1 n u.tray
      (statAdd ev 0 0 n (ctrCount ev u n s)))) := by
  obtain ⟨t, a, c⟩ := u
  cases t <;> cases a <;> cases c <;> rfl

/-- Counting an event changes the counters and the Light Meter's counts alone. -/
theorem counts_count (ev : Nat) (u : Units) (n : Nat) (s : State) : Counts s (count ev u n s) := by
  have hfold : ∀ l : List (Nat × W64), (∀ p ∈ l, p.1 < 256) → ∀ t : State,
      Counts t (l.foldl (fun s p => if ctrMatches p.2 ev u then ctrAdd p.1 n s else s) t) := by
    intro l hl
    induction l with
    | nil => exact Counts.refl
    | cons p l ih =>
      intro t
      refine Counts.trans ?_ (ih (fun q hq => hl q (List.mem_cons_of_mem _ hq)) _)
      dsimp only
      split
      · exact counts_ctrAdd (hl p (List.mem_cons_self ..)) n t
      · exact Counts.refl t
  rw [count_eq]
  exact ((((hfold _ (fun p hp => mem_ctrConfigured hp) s).trans (counts_statAdd _ _ _ _ _)).trans (counts_statMaybe _ _ _ _ _)).trans
    (counts_statMaybe _ _ _ _ _)).trans (counts_statMaybe _ _ _ _ _)

/-- With no counter configured an event changes the Light Meter's counts alone. -/
theorem only_count {s : State} (h : NoCounter s) (ev : Nat) (u : Units) (n : Nat) : Only [.meter] s (count ev u n s) := by
  obtain ⟨m, hm⟩ := count_none h ev u n
  rw [hm]
  simp [only_iff]

theorem noCounter_congr {s t : State} (h : t.regs = s.regs) : NoCounter t ↔ NoCounter s := by
  rw [NoCounter, NoCounter, ctrConfigured, ctrConfigured, h]

/-- A register outside the counters' configuration leaves no counter configured. -/
theorem NoCounter.wr {s : State} {o : Nat} {v : W64} (h : NoCounter s) (ho : inRow o 0x341000 4 256 = false) : NoCounter (wr s o v) := by
  unfold NoCounter ctrConfigured at *
  rw [List.map_eq_nil_iff, List.filter_eq_nil_iff] at *
  intro p hp
  rcases mem_sPut hp with ⟨rfl, -⟩ | hm
  · simp [ho]
  · exact h p hm

/-! ### Access to DRAM (R232 to R236, R248) -/

/-- A part of the memory side. -/
inductive MemPart where
  | dram | ldws | burstErr | pwb | pwbWait | memq | written | fills | chans | rewrites | poolStart | poolLaps | opSeq
  deriving DecidableEq

/-- Two states agree on a part of the memory side. -/
def SameMem (x : MemPart) (s t : State) : Prop :=
  match x with
  | .dram => t.mem.dram = s.mem.dram
  | .ldws => t.mem.ldws = s.mem.ldws
  | .burstErr => t.mem.burstErr = s.mem.burstErr
  | .pwb => t.mem.pwb = s.mem.pwb
  | .pwbWait => t.mem.pwbWait = s.mem.pwbWait
  | .memq => t.mem.memq = s.mem.memq
  | .written => t.mem.written = s.mem.written
  | .fills => t.mem.fills = s.mem.fills
  | .chans => t.mem.chans = s.mem.chans
  | .rewrites => t.mem.rewrites = s.mem.rewrites
  | .poolStart => t.mem.poolStart = s.mem.poolStart
  | .poolLaps => t.mem.poolLaps = s.mem.poolLaps
  | .opSeq => t.mem.opSeq = s.mem.opSeq

/-- Nothing of the memory side but the parts listed has changed. -/
def MemOnly (k : List MemPart) (s t : State) : Prop := ∀ x, x ∉ k → SameMem x s t

theorem memOnly_iff (k : List MemPart) (s t : State) : MemOnly k s t ↔
    (.dram ∈ k ∨ t.mem.dram = s.mem.dram) ∧ (.ldws ∈ k ∨ t.mem.ldws = s.mem.ldws) ∧
    (.burstErr ∈ k ∨ t.mem.burstErr = s.mem.burstErr) ∧ (.pwb ∈ k ∨ t.mem.pwb = s.mem.pwb) ∧
    (.pwbWait ∈ k ∨ t.mem.pwbWait = s.mem.pwbWait) ∧ (.memq ∈ k ∨ t.mem.memq = s.mem.memq) ∧
    (.written ∈ k ∨ t.mem.written = s.mem.written) ∧ (.fills ∈ k ∨ t.mem.fills = s.mem.fills) ∧
    (.chans ∈ k ∨ t.mem.chans = s.mem.chans) ∧ (.rewrites ∈ k ∨ t.mem.rewrites = s.mem.rewrites) ∧
    (.poolStart ∈ k ∨ t.mem.poolStart = s.mem.poolStart) ∧ (.poolLaps ∈ k ∨ t.mem.poolLaps = s.mem.poolLaps) ∧
    (.opSeq ∈ k ∨ t.mem.opSeq = s.mem.opSeq) := by
  simp only [or_iff_not_imp_left]
  constructor
  · intro h
    exact ⟨h .dram, h .ldws, h .burstErr, h .pwb, h .pwbWait, h .memq, h .written, h .fills, h .chans, h .rewrites, h .poolStart, h .poolLaps, h .opSeq⟩
  · rintro ⟨h1, h2, h3, h4, h5, h6, h7, h8, h9, h10, h11, h12, h13⟩ x hx
    cases x
    exacts [h1 hx, h2 hx, h3 hx, h4 hx, h5 hx, h6 hx, h7 hx, h8 hx, h9 hx, h10 hx, h11 hx, h12 hx, h13 hx]

theorem MemOnly.refl (k : List MemPart) (s : State) : MemOnly k s s := fun x _ => by cases x <;> rfl

theorem SameMem.trans {x : MemPart} {s t u : State} (h : SameMem x s t) (g : SameMem x t u) : SameMem x s u := by
  cases x <;> exact Eq.trans g h

theorem MemOnly.trans {k : List MemPart} {s t u : State} (h : MemOnly k s t) (g : MemOnly k t u) : MemOnly k s u :=
  fun x hx => (h x hx).trans (g x hx)

theorem MemOnly.mono {k l : List MemPart} {s t : State} (h : MemOnly k s t) (hkl : k ⊆ l) : MemOnly l s t :=
  fun x hx => h x fun hk => hx (hkl hk)

theorem memOnly_of_mem {s t : State} (k : List MemPart) (h : t.mem = s.mem) : MemOnly k s t := fun x _ => by
  cases x <;> exact congrArg _ h

theorem memOnly_of_only {k : List Side} {s t : State} (l : List MemPart) (h : Only k s t) (hk : .mem ∉ k := by decide) : MemOnly l s t :=
  memOnly_of_mem l (h.mem hk)

section
variable {k : List MemPart} {s t : State} (h : MemOnly k s t)
include h

theorem MemOnly.dram (hk : .dram ∉ k := by decide) : t.mem.dram = s.mem.dram := h .dram hk
theorem MemOnly.ldws (hk : .ldws ∉ k := by decide) : t.mem.ldws = s.mem.ldws := h .ldws hk
theorem MemOnly.burstErr (hk : .burstErr ∉ k := by decide) : t.mem.burstErr = s.mem.burstErr := h .burstErr hk
theorem MemOnly.pwb (hk : .pwb ∉ k := by decide) : t.mem.pwb = s.mem.pwb := h .pwb hk
theorem MemOnly.pwbWait (hk : .pwbWait ∉ k := by decide) : t.mem.pwbWait = s.mem.pwbWait := h .pwbWait hk
theorem MemOnly.memq (hk : .memq ∉ k := by decide) : t.mem.memq = s.mem.memq := h .memq hk
theorem MemOnly.written (hk : .written ∉ k := by decide) : t.mem.written = s.mem.written := h .written hk
theorem MemOnly.fills (hk : .fills ∉ k := by decide) : t.mem.fills = s.mem.fills := h .fills hk
theorem MemOnly.chans (hk : .chans ∉ k := by decide) : t.mem.chans = s.mem.chans := h .chans hk
theorem MemOnly.rewrites (hk : .rewrites ∉ k := by decide) : t.mem.rewrites = s.mem.rewrites := h .rewrites hk
theorem MemOnly.poolStart (hk : .poolStart ∉ k := by decide) : t.mem.poolStart = s.mem.poolStart := h .poolStart hk
theorem MemOnly.poolLaps (hk : .poolLaps ∉ k := by decide) : t.mem.poolLaps = s.mem.poolLaps := h .poolLaps hk
theorem MemOnly.opSeq (hk : .opSeq ∉ k := by decide) : t.mem.opSeq = s.mem.opSeq := h .opSeq hk

end

theorem MemChans.memOnly {s t : State} (h : MemChans s t) : MemOnly [.chans] s t := by
  rw [h]
  simp [memOnly_iff]

theorem MemChans.only {s t : State} (h : MemChans s t) : Only [.mem] s t := by
  rw [h]
  simp [only_iff]

theorem MemChans.regs {s t : State} (h : MemChans s t) : t.regs = s.regs := h.only.regs

theorem memChans_setSched (m sc : Nat) (f : Sched → Sched) (s : State) : MemChans s (setSched m sc f s) := memChans_setChan _ _ _

theorem memChans_batchLook (m sc : Nat) (s : State) : MemChans s (batchLook m sc s) := by
  unfold batchLook
  split
  · exact memChans_setSched _ _ _ _
  · rfl

theorem memChans_lookLine (line : Nat) (s : State) : MemChans s (lookLine line s) := by
  unfold lookLine
  split
  · exact memChans_batchLook _ _ _
  · rfl

theorem memChans_leadNext (line : Nat) (s : State) : MemChans s (leadNext line s) := by
  unfold leadNext
  split
  · exact (memChans_batchLook _ _ _).trans (memChans_setSched _ _ _ _)
  · rfl

theorem memChans_issueCmds (m sc : Nat) (l : List DramCmd) (s : State) : MemChans s (issueCmds m sc l s) := memChans_setSched _ _ _ _

/-- An activate is counted. -/
def rowCounted (m : Nat) (c : Coord) (s : State) : State :=
  if sFind (chanOf s m).openRow (bankKey c) = some c.row then s else count 0x1A ⟨none, none, some m⟩ 1 s

/-- An access counts its activate, and issues commands. -/
theorem rowAccess_eq (m : Nat) (c : Coord) (close write : Bool) (s : State) : MemChans (rowCounted m c s) (rowAccess m c close write s) :=
  (memChans_setChan m _ (rowCounted m c s)).trans (memChans_issueCmds _ _ _ _)

theorem counts_rowCounted (m : Nat) (c : Coord) (s : State) : Counts s (rowCounted m c s) := by
  unfold rowCounted
  split
  · exact Counts.refl s
  · exact counts_count _ _ _ _

theorem rowAccess_frame (m : Nat) (c : Coord) (close write : Bool) (s : State) :
    Only [.regs, .meter, .mem] s (rowAccess m c close write s) ∧ RegsOnly CountReg s (rowAccess m c close write s) ∧
    MemOnly [.chans] s (rowAccess m c close write s) := by
  have h1 := counts_rowCounted m c s
  have h2 := rowAccess_eq m c close write s
  exact ⟨(h1.1.mono (by simp)).trans (h2.only.mono (by simp)), h1.2.trans (regsOnly_of_regs h2.regs),
    (memOnly_of_only _ h1.1).trans h2.memOnly⟩

theorem only_rowAccess {s : State} (h : NoCounter s) (m : Nat) (c : Coord) (close write : Bool) :
    Only [.meter, .mem] s (rowAccess m c close write s) := by
  have h1 : Only [.meter] s (rowCounted m c s) := by
    unfold rowCounted
    split
    · exact Only.refl _ _
    · exact only_count h _ _ _
  exact (h1.mono (by simp)).trans ((rowAccess_eq m c close write s).only.mono (by simp))

theorem only_moveLine (i m line : Nat) (dl : BitVec 32) (s : State) : Only [.xbar] s (moveLine i m line dl s) := by
  simp [only_iff, moveLine, request]

/-! ### The posted write buffer (R71, R264 to R266) -/

/-- The registers that the memory side's own work may change: those of counting, and channel 0's cause FILL_DONE. -/
def FillReg (o : Nat) : Prop := CountReg o ∨ o = 0x010300

theorem fillFinish_frame (k : Nat) (s : State) : Only [.regs, .mem] s (fillFinish k s) ∧ RegsOnly FillReg s (fillFinish k s) ∧
    MemOnly [.written, .fills] s (fillFinish k s) := by
  unfold fillFinish
  split
  next f _ =>
    split
    · exact ⟨Only.refl _ _, RegsOnly.refl _ _, MemOnly.refl _ _⟩
    · have hO := only_raise0_none (c := .fillDone) rfl
        (updMem (fun m => { m with written := f.region :: m.written, fills := sDel m.fills k }) s)
      have hR := regsOnly_raise0_none (c := .fillDone) rfl
        (updMem (fun m => { m with written := f.region :: m.written, fills := sDel m.fills k }) s)
      have hM : MemOnly [.written, .fills] s (updMem (fun m => { m with written := f.region :: m.written, fills := sDel m.fills k }) s) := by
        simp [memOnly_iff]
      exact ⟨((only_updMem _ _).mono (by simp)).trans (hO.mono (by simp)),
        RegsOnly.trans (regsOnly_of_regs rfl) (hR.mono fun o h => .inr h), hM.trans (memOnly_of_only _ hO)⟩
  · exact ⟨Only.refl _ _, RegsOnly.refl _ _, MemOnly.refl _ _⟩

theorem only_choose (n : Nat) (s : State) : Only [.picks] s (choose n s).2 := by
  unfold choose
  split <;> simp [only_iff]

theorem develop_frame (line : Nat) (s : State) : Only [.regs, .mem, .picks] s (develop line s) ∧ RegsOnly FillReg s (develop line s) ∧
    MemOnly [.written, .fills] s (develop line s) := by
  have hM : ∀ (t : State) (k : Nat) (f : Fill), MemOnly [.written, .fills] t (updMem (fun x => { x with fills := sSet x.fills k f }) t) :=
    fun t k f => by simp [memOnly_iff]
  unfold develop
  split
  · exact ⟨Only.refl _ _, RegsOnly.refl _ _, MemOnly.refl _ _⟩
  · split
    next k f _ =>
      split
      · exact ⟨Only.refl _ _, RegsOnly.refl _ _, MemOnly.refl _ _⟩
      · obtain ⟨hO, hR, hm⟩ := fillFinish_frame k
          (updMem (fun x => { x with fills := sSet x.fills k { f with filled := line :: f.filled } }) s)
        exact ⟨((only_updMem _ _).mono (by simp)).trans (hO.mono (by simp)), RegsOnly.trans (regsOnly_of_regs rfl) hR,
          (hM _ _ _).trans hm⟩
    · have hO := only_choose ((List.range 16).filter (fun k => (sFind s.mem.fills k).isNone)).length s
      unfold chooseFrom
      dsimp only
      split
      next k t h =>
        obtain ⟨-, rfl⟩ := Prod.mk.inj h
        exact ⟨(hO.mono (by simp)).trans ((only_updMem _ _).mono (by simp)),
          RegsOnly.trans (regsOnly_of_regs hO.regs) (regsOnly_of_regs rfl), (memOnly_of_only _ hO).trans (hM _ _ _)⟩
      next t h =>
        obtain ⟨-, rfl⟩ := Prod.mk.inj h
        exact ⟨hO.mono (by simp), regsOnly_of_regs hO.regs, memOnly_of_only _ hO⟩

/-- The place in the order of operations of a line that enters. -/
def pwbPlaced (p : PwbLine) (s : State) : PwbLine := { p with seq := s.mem.opSeq }

/-- The memory side takes a buffered line in. -/
def pwbPut (p : PwbLine) (s : State) : State :=
  lookLine p.line (updMem (fun m => { m with opSeq := m.opSeq + 1, pwb := m.pwb ++ [pwbPlaced p s] }) s)

theorem pwbEnter_eq (p : PwbLine) (s : State) : pwbEnter p s =
    pwbPut p (if p.clears then clearResv p.line (develop p.line s) else develop p.line s) := by
  unfold pwbEnter
  simp only [nextOp]
  generalize develop p.line s = t
  split <;> rfl

theorem pwbEnter_kept {p : PwbLine} (h : p.clears = false) (s : State) : pwbEnter p s = pwbPut p (develop p.line s) := by
  rw [pwbEnter_eq, if_neg (by simp [h])]

theorem pwbEnter_clears {p : PwbLine} (h : p.clears = true) (s : State) :
    pwbEnter p s = pwbPut p (clearResv p.line (develop p.line s)) := by rw [pwbEnter_eq, if_pos h]

theorem pwbPut_frame (p : PwbLine) (s : State) : Only [.mem] s (pwbPut p s) ∧ MemOnly [.opSeq, .pwb, .chans] s (pwbPut p s) ∧
    (pwbPut p s).mem.pwb = s.mem.pwb ++ [pwbPlaced p s] ∧ (pwbPut p s).mem.opSeq = s.mem.opSeq + 1 := by
  have h := memChans_lookLine p.line (updMem (fun m => { m with opSeq := m.opSeq + 1, pwb := m.pwb ++ [pwbPlaced p s] }) s)
  have hM : MemOnly [.opSeq, .pwb, .chans] s (updMem (fun m => { m with opSeq := m.opSeq + 1, pwb := m.pwb ++ [pwbPlaced p s] }) s) := by
    simp [memOnly_iff]
  exact ⟨(only_updMem _ _).trans h.only, hM.trans (h.memOnly.mono (by simp)), h.memOnly.pwb, h.memOnly.opSeq⟩

/-- The burst of a buffered line is stored, where the line has one. -/
def pwbStore (p : PwbLine) (s : State) : State :=
  match lineChan s p.line with
  | some (m, co) =>
    let s := count 0x19 ⟨trayOf s p.line, none, some m⟩ 1 s
    let s := rowAccess m (coordOf s m co) p.close true (moveLine (chanLane m) m p.line p.deadline s)
    writeBurst (m * 2 ^ 39 + co) p.data p.ldw s
  | none => s

theorem pwbDrain_eq (p : PwbLine) (s : State) :
    pwbDrain p s = leadNext p.line (updMem (fun m => { m with pwb := m.pwb.erase p }) (pwbStore p s)) := by
  unfold pwbDrain pwbStore
  cases lineChan s p.line <;> rfl

theorem writeBurst_frame (a : Nat) (d : LineBits) (l : W32) (s : State) : Only [.mem] s (writeBurst a d l s) ∧
    MemOnly [.dram, .ldws, .burstErr] s (writeBurst a d l s) := by simp [only_iff, memOnly_iff, writeBurst]

theorem pwbStore_frame (p : PwbLine) (s : State) : Only [.regs, .meter, .mem, .xbar] s (pwbStore p s) ∧
    RegsOnly CountReg s (pwbStore p s) ∧ MemOnly [.dram, .ldws, .burstErr, .chans] s (pwbStore p s) := by
  unfold pwbStore
  split
  next m co _ =>
    have h1 := counts_count 0x19 ⟨trayOf s p.line, none, some m⟩ 1 s
    have h2 := only_moveLine (chanLane m) m p.line p.deadline (count 0x19 ⟨trayOf s p.line, none, some m⟩ 1 s)
    obtain ⟨h3, hR, hm⟩ := rowAccess_frame m (coordOf (count 0x19 ⟨trayOf s p.line, none, some m⟩ 1 s) m co) p.close true
      (moveLine (chanLane m) m p.line p.deadline (count 0x19 ⟨trayOf s p.line, none, some m⟩ 1 s))
    have hw := fun t => writeBurst_frame (m * 2 ^ 39 + co) p.data p.ldw t
    exact ⟨(h1.1.mono (by simp)).trans ((h2.mono (by simp)).trans ((h3.mono (by simp)).trans ((hw _).1.mono (by simp)))),
      h1.2.trans ((regsOnly_of_regs h2.regs).trans (hR.trans (regsOnly_of_regs (hw _).1.regs))),
      (memOnly_of_only _ h1.1).trans ((memOnly_of_only _ h2).trans ((hm.mono (by simp)).trans ((hw _).2.mono (by simp))))⟩
  · exact ⟨Only.refl _ _, RegsOnly.refl _ _, MemOnly.refl _ _⟩

theorem pwbDrain_frame (p : PwbLine) (s : State) : Only [.regs, .meter, .mem, .xbar] s (pwbDrain p s) ∧
    RegsOnly CountReg s (pwbDrain p s) ∧ MemOnly [.dram, .ldws, .burstErr, .chans, .pwb] s (pwbDrain p s) ∧
    (pwbDrain p s).mem.pwb = s.mem.pwb.erase p := by
  obtain ⟨hO, hR, hm⟩ := pwbStore_frame p s
  have h := memChans_leadNext p.line (updMem (fun m => { m with pwb := m.pwb.erase p }) (pwbStore p s))
  have hM : MemOnly [.dram, .ldws, .burstErr, .chans, .pwb] (pwbStore p s) (updMem (fun m => { m with pwb := m.pwb.erase p }) (pwbStore p s)) := by
    simp [memOnly_iff]
  rw [pwbDrain_eq]
  refine ⟨hO.trans (((only_updMem _ _).trans h.only).mono (by simp)), hR.trans (regsOnly_of_regs h.regs),
    (hm.mono (by simp)).trans (hM.trans (h.memOnly.mono (by simp))), h.memOnly.pwb.trans ?_⟩
  show (pwbStore p s).mem.pwb.erase p = _
  rw [hm.pwb]

end Sys2Proof.Machine
end

section
/-! PROOFS. The scratch and reel windows, VERIFY, SWITCH and CLEAR (R158, R161 to R166, R195 to R198). -/

namespace Sys2Proof.Machine

/-! ### The state of a reel slot -/

theorem reelField_ne (b : Bool) : (if (!b) then 12 else 8) + 3 ≤ (if b then 12 else 8) ∨ (if b then 12 else 8) + 3 ≤ (if (!b) then 12 else 8) := by
  cases b <;> decide

theorem reelState_set_same (b : Bool) (st : Nat) (s : State) : reelState (setReelState b st s) b = st % 2 ^ 3 :=
  rdf_wrf_same _ _ _ _ _ (by cases b <;> decide)

theorem reelState_set_other (b : Bool) (st : Nat) (s : State) : reelState (setReelState b st s) (!b) = reelState s (!b) :=
  rdf_wrf_field_ne _ _ _ _ _ _ _ (reelField_ne b) (by cases b <;> decide)

theorem only_setReelState (b : Bool) (st : Nat) (s : State) : Only [.regs] s (setReelState b st s) := only_wrf _ _ _ _ _

theorem regsOnly_setReelState (b : Bool) (st : Nat) (s : State) : RegsOnly (· = 0x020010) s (setReelState b st s) :=
  regsOnly_wrf s _ _ _ rfl

theorem reelState_congr {s t : State} (h : rd t 0x020010 = rd s 0x020010) (b : Bool) : reelState t b = reelState s b := by
  rw [reelState, reelState, rdf, rdf]
  exact congrArg (fld · _ 3) h

/-! ### The scratch window (R158) -/

theorem fld_half (v : W64) (x : Nat) {k : Nat} (hk : k = 0 ∨ k = 32) :
    fld (setFld v k 32 x) k 32 = x % 2 ^ 32 ∧ fld (setFld v k 32 x) (32 - k) 32 = fld v (32 - k) 32 := by
  rcases hk with rfl | rfl
  · exact ⟨fld_setFld_same _ _ _ _ (by decide), fld_setFld_ne _ _ _ _ _ _ (by decide) (by decide)⟩
  · exact ⟨fld_setFld_same _ _ _ _ (by decide), fld_setFld_ne _ _ _ _ _ _ (by decide) (by decide)⟩

theorem scratchPut_frame (w : Nat) (v : W64) (s : State) : Only [.dev] s (scratchPut w v s) ∧
    sFind (scratchPut w v s).dev.scratch w = some v ∧
    (∀ k, k ≠ w → sFind (scratchPut w v s).dev.scratch k = sFind s.dev.scratch k) ∧
    (scratchPut w v s).dev = { s.dev with scratch := (scratchPut w v s).dev.scratch } :=
  ⟨only_updDev _ _, sFind_sSet_same _ _ _, fun _ hk => sFind_sSet_ne _ _ hk, rfl⟩

theorem opScratchWrite_eq {off : Nat} {wide : Bool} {v : W64} {s : State} (hc : capAnswers s = true) (h1 : 0x600000 ≤ off)
    (h2 : off < 0x640000) (hal : off % (if wide then 8 else 4) = 0) :
    opScratchWrite off wide v s = scratchCapWrite (off - 0x600000) wide v (answered false 0 s) := by
  unfold opScratchWrite
  rw [hc, aligned_eq, decide_eq_true hal, if_neg (by decide), if_neg (by omega), if_neg (by decide)]
  rfl

theorem exec_scratchWrite {off : BitVec 24} {wide : Bool} {v w : W64} {s : State} {k : Nat}
    (h : opScratchWrite off.toNat wide v s = scratchPut k w (answered false 0 s)) :
    exec (.scratchWrite off wide v) s = .next (scratchPut k w (answered false 0 s)) := untimed_next h rfl rfl

/-! ### The reel windows (R161, R164) -/

theorem reelBytes_store_same (b : Bool) (a : Nat) (bs : List Byte) (s : State) :
    reelBytes (reelStore b a bs s) b = memWrite (reelBytes s b) a bs := by cases b <;> rfl

theorem reelBytes_store_other (b : Bool) (a : Nat) (bs : List Byte) (s : State) :
    reelBytes (reelStore b a bs s) (!b) = reelBytes s (!b) := by cases b <;> rfl

theorem reelBytes_congr {s t : State} (ha : t.dev.reelA = s.dev.reelA) (hb : t.dev.reelB = s.dev.reelB) (b : Bool) :
    reelBytes t b = reelBytes s b := by
  cases b
  · exact ha
  · exact hb

theorem recrc_frame (b : Bool) (k : Nat) (s : State) : Only [.dev] s (recrc b k s) ∧
    (recrc b k s).dev = { s.dev with lineCrc := (recrc b k s).dev.lineCrc } := by
  unfold recrc
  split
  · exact ⟨only_updDev _ _, rfl⟩
  · exact ⟨Only.refl _ _, rfl⟩

theorem reelBytes_recrc (b c : Bool) (k : Nat) (s : State) : reelBytes (recrc b k s) c = reelBytes s c :=
  reelBytes_congr (by rw [(recrc_frame b k s).2]) (by rw [(recrc_frame b k s).2]) c

theorem lineGood_recrc {b : Bool} {k : Nat} (hk : k < 8512) (s : State) : lineGood (recrc b k s) b k = true := by
  have hf : fetchBytes (recrc b k s) b k = fetchBytes s b k := by rw [fetchBytes, reelBytes_recrc, fetchBytes]
  rw [lineGood, hf, decide_eq_true_eq]
  unfold lineCrcOf recrc
  rw [if_pos hk]
  exact (sGet_sPut_same _ _ _ _).symm

theorem lineCrcOf_recrc_ne {b : Bool} {k j : Nat} (h : j ≠ k) (s : State) : lineCrcOf (recrc b k s) b j = lineCrcOf s b j := by
  unfold recrc
  split
  · exact sGet_sPut_ne _ _ _ _ (by unfold fetchKey; omega)
  · rfl

theorem lineCrcOf_congr {s t : State} (h : t.dev.lineCrc = s.dev.lineCrc) (b : Bool) (k : Nat) : lineCrcOf t b k = lineCrcOf s b k := by
  rw [lineCrcOf, lineCrcOf, h]

theorem lineGood_congr {s t : State} (h : t.dev = s.dev) (b : Bool) (k : Nat) : lineGood t b k = lineGood s b k := by
  rw [lineGood, lineGood, fetchBytes, fetchBytes, lineCrcOf_congr (congrArg DevSide.lineCrc h),
    reelBytes_congr (congrArg DevSide.reelA h) (congrArg DevSide.reelB h)]

/-- A CAP write that its slot takes. -/
def reelWritten (b : Bool) (x : Nat) (bs : List Byte) (s : State) : State := setReelState b 1 (recrc b (x / 64) (reelStore b x bs s))

theorem lineCrc_store (b : Bool) (x : Nat) (bs : List Byte) (s : State) : (reelStore b x bs s).dev.lineCrc = s.dev.lineCrc := by
  cases b <;> rfl

theorem reelWritten_frame (b : Bool) (x : Nat) (bs : List Byte) (s : State) :
    Only [.regs, .dev] s (reelWritten b x bs s) ∧ RegsOnly (· = 0x020010) s (reelWritten b x bs s) ∧
    reelState (reelWritten b x bs s) b = 1 ∧ reelBytes (reelWritten b x bs s) b = memWrite (reelBytes s b) x bs ∧
    reelBytes (reelWritten b x bs s) (!b) = reelBytes s (!b) ∧
    (x / 64 < 8512 → lineGood (reelWritten b x bs s) b (x / 64) = true) ∧
    ∀ k, k ≠ x / 64 → lineCrcOf (reelWritten b x bs s) b k = lineCrcOf s b k := by
  have h1 : Only [.dev] s (reelStore b x bs s) := only_updDev _ _
  have h2 := (recrc_frame b (x / 64) (reelStore b x bs s)).1
  have h3 := only_setReelState b 1 (recrc b (x / 64) (reelStore b x bs s))
  refine ⟨((h1.trans h2).mono (by simp)).trans (h3.mono (by simp)),
    (regsOnly_of_regs (h1.trans h2).regs).trans (regsOnly_setReelState _ _ _), reelState_set_same _ _ _, ?_, ?_, fun hk => ?_,
    fun k hk => ?_⟩
  · exact (reelBytes_recrc _ _ _ _).trans (reelBytes_store_same _ _ _ _)
  · exact (reelBytes_recrc _ _ _ _).trans (reelBytes_store_other _ _ _ _)
  · exact (lineGood_congr h3.dev _ _).trans (lineGood_recrc hk _)
  · exact (lineCrcOf_recrc_ne hk _).trans (lineCrcOf_congr (lineCrc_store _ _ _ _) _ _)

theorem length_bytesOf {n : Nat} (v : BitVec n) (k : Nat) : (bytesOf v k).length = k := by simp [bytesOf]

theorem getElem_bytesOf {n : Nat} (v : BitVec n) (k i : Nat) (h : i < (bytesOf v k).length) : (bytesOf v k)[i] = byteAt v i := by
  simp [bytesOf]

theorem raise0_reel {c : Cause} (h : c.cls = .none) (hd : c.domain = 4) (s : State) :
    raise0 c s = wr s 0x010120 (rd s 0x010120 ||| w64 (2 ^ c.bit)) := by
  rw [raise0, raise_none h, setCause, hd]
  rfl

theorem opReelWrite_eq {off : Nat} {wide : Bool} {v : W64} {s : State} (hc : capAnswers s = true) (h1 : 0x400000 ≤ off)
    (h2 : off < 0x600000) (hx : off % 0x100000 < 0x86000) (hal : off % (if wide then 8 else 4) = 0) :
    opReelWrite off wide v s =
      if reelState s (decide (0x500000 ≤ off)) = 0 ∨ reelState s (decide (0x500000 ≤ off)) = 1 ∨
        reelState s (decide (0x500000 ≤ off)) = 3 ∨ reelState s (decide (0x500000 ≤ off)) = 6
      then reelWritten (decide (0x500000 ≤ off)) (off % 0x100000) (writeBytes wide v) (answered false 0 s)
      else raise0 .reelWr (answered false 0 s) := by
  unfold opReelWrite
  rw [hc, aligned_eq, decide_eq_true hal, if_neg (by decide), if_neg (by omega), if_neg (by decide)]
  exact if_neg (by omega)

/-! ### VERIFY (R163, R165, R195 to R197) -/

/-- The registers that the end of a VERIFY, or a SWITCH, writes. -/
def VerifyReg (r : Nat) : Prop := r = 0x020010 ∨ r = 0x020014 ∨ r = 0x010120

/-- The slot's state after a VERIFY with a result. -/
def verifyState (res : Nat) : Nat := if res = 1 then 3 else 6

/-- The lines of a slot that becomes READY have had no mismatch. -/
def missesOf (res : Nat) (b : Bool) (s : State) : State := if res = 1 then clearMisses b s else s

theorem missesOf_frame (res : Nat) (b : Bool) (s : State) : Only [.dev] s (missesOf res b s) ∧
    (missesOf res b s).dev = { s.dev with misMatch := (missesOf res b s).dev.misMatch } := by
  unfold missesOf
  split
  · exact ⟨only_updDev _ _, rfl⟩
  · exact ⟨Only.refl _ _, rfl⟩

theorem verifyEnd_eq (b : Bool) (res : Nat) (s : State) :
    verifyEnd b res s = raise0 .verifyDone (setReelState b (verifyState res) (missesOf res b (wrf s 0x020014 0 4 res))) := by
  unfold verifyEnd verifyState missesOf
  by_cases h : res = 1
  · simp only [if_pos h]
    rfl
  · simp only [if_neg h]
    rfl

theorem verifyEnd_frame (b : Bool) {res : Nat} (hres : res < 16) (s : State) : Only [.regs, .dev] s (verifyEnd b res s) ∧
    RegsOnly VerifyReg s (verifyEnd b res s) ∧ (verifyEnd b res s).dev = { s.dev with misMatch := (verifyEnd b res s).dev.misMatch } ∧
    reelState (verifyEnd b res s) b = verifyState res ∧ rdf (verifyEnd b res s) 0x020014 0 4 = res ∧
    Caused (verifyEnd b res s) .verifyDone 0 := by
  rw [verifyEnd_eq]
  obtain ⟨h2, hd⟩ := missesOf_frame res b (wrf s 0x020014 0 4 res)
  have h3 := only_setReelState b (verifyState res) (missesOf res b (wrf s 0x020014 0 4 res))
  have hR3 := regsOnly_setReelState b (verifyState res) (missesOf res b (wrf s 0x020014 0 4 res))
  have h4 := only_raise0_none (c := .verifyDone) rfl (setReelState b (verifyState res) (missesOf res b (wrf s 0x020014 0 4 res)))
  have hR4 := regsOnly_raise0_none (c := .verifyDone) rfl (setReelState b (verifyState res) (missesOf res b (wrf s 0x020014 0 4 res)))
  have hst : verifyState res % 2 ^ 3 = verifyState res := by unfold verifyState; split <;> rfl
  refine ⟨((only_wrf _ _ _ _ _).mono (by simp)).trans ((h2.mono (by simp)).trans ((h3.trans h4).mono (by simp))), ?_, ?_, ?_, ?_,
    caused_raise0 _ _⟩
  · exact (regsOnly_wrf s _ _ _ (.inr (.inl rfl))).trans ((regsOnly_of_regs h2.regs).trans
      ((hR3.mono fun o h => .inl h).trans (hR4.mono fun o h => .inr (.inr h))))
  · rw [h4.dev, h3.dev]
    exact hd
  · rw [reelState_congr (hR4 _ (by decide)), reelState_set_same, hst]
  · rw [rdf, hR4 _ (by decide), hR3 _ (by decide), rd_congr h2.regs]
    exact (rdf_wrf_same _ _ _ _ _ (by decide)).trans (Nat.mod_eq_of_lt hres)

/-- The result of the checks of a VERIFY, in R165's order, where no backing copy is written. -/
def verifyRes (s : State) (b : Bool) : Nat :=
  if !headerOk s b then 2 else if !linesOk s b then 4 else if !signatureOk s b then 3 else if backingSrc s b ≠ 1 then 1 else 5

theorem verifyRes_lt (s : State) (b : Bool) : verifyRes s b < 16 := by
  unfold verifyRes
  split
  · decide
  · split
    · decide
    · split
      · decide
      · split <;> decide

theorem opVerifyDone_checked {s : State} {b : Bool} (h2 : reelState s b = 2)
    (h : (headerOk s b && linesOk s b && signatureOk s b) = false ∨ backingSrc s b ≠ 1 ∨ backingOk s b = false) :
    opVerifyDone b s = verifyEnd b (verifyRes s b) s := by
  unfold opVerifyDone verifyRes
  rw [if_neg (not_not.2 h2)]
  cases hh : headerOk s b with
  | false => simp only [Bool.not_false, if_true]
  | true =>
    cases hl : linesOk s b with
    | false => simp only [Bool.not_true, Bool.not_false, Bool.false_eq_true, if_true, if_false]
    | true =>
      cases hs : signatureOk s b with
      | false => simp only [Bool.not_true, Bool.not_false, Bool.false_eq_true, if_true, if_false]
      | true =>
        rw [hh, hl, hs] at h
        simp only [Bool.not_true, Bool.false_eq_true, if_false]
        by_cases hb : backingSrc s b = 1
        · have hok : backingOk s b = false := (h.resolve_left (by decide)).resolve_left (not_not.2 hb)
          simp only [if_neg (not_not.2 hb), hok, Bool.not_false, if_true]
        · simp only [if_pos hb]

theorem opVerifyDone_backing {s : State} {b : Bool} (h2 : reelState s b = 2)
    (h : (headerOk s b && linesOk s b && signatureOk s b) = true) (h1 : backingSrc s b = 1) (hok : backingOk s b = true) :
    opVerifyDone b s = if backingWaits s b then s else verifyEnd b 1 (writeBacking b s) := by
  simp only [Bool.and_eq_true] at h
  obtain ⟨⟨hh, hl⟩, hs⟩ := h
  unfold opVerifyDone
  rw [if_neg (not_not.2 h2), hh, hl, hs, if_neg (not_not.2 h1), hok]
  simp only [Bool.not_true, Bool.false_eq_true, if_false]

/-! ### The backing copy (R163) -/

/-- What the block's own writes leave: the memory side, with nothing buffered that was not before. -/
def OwnWritten (s t : State) : Prop :=
  Only [.regs, .mem, .meter, .xbar, .picks] s t ∧ RegsOnly FillReg s t ∧ (s.mem.pwb = [] → t.mem.pwb = [])

theorem OwnWritten.refl (s : State) : OwnWritten s s := ⟨Only.refl _ _, RegsOnly.refl _ _, id⟩

theorem OwnWritten.trans {s t u : State} (h : OwnWritten s t) (g : OwnWritten t u) : OwnWritten s u :=
  ⟨h.1.trans g.1, h.2.1.trans g.2.1, fun e => g.2.2 (h.2.2 e)⟩

theorem drainLine_acked {p : PwbLine} (h : p.acked = true) (s : State) : drainLine p s = pwbDrain p s := by
  unfold drainLine
  rw [h]
  rfl

/-- Every buffered write of a line goes out. -/
def drainOf (line : Nat) (s : State) : State :=
  (s.mem.pwb.filter (fun p => decide (p.line = line))).foldl (fun s p => drainLine p s) s

theorem ownWrite_eq (line : Nat) (d : LineBits) (s : State) : ownWrite line d s =
    drainOf line (pwbEnter { ownLine line d false ldwEmpty (drainOf line s) with close := false } (drainOf line s)) := rfl

/-- With nothing buffered, the block's own write goes through the buffer alone. -/
theorem ownWrite_empty {line : Nat} {d : LineBits} {s : State} (h : s.mem.pwb = []) : OwnWritten s (ownWrite line d s) := by
  have h0 : drainOf line s = s := by rw [drainOf, h]; rfl
  rw [ownWrite_eq, h0, pwbEnter_kept rfl]
  generalize hp : ({ ownLine line d false ldwEmpty s with close := false } : PwbLine) = p
  have hline : p.line = line := by rw [← hp]; rfl
  have hack : p.acked = true := by rw [← hp]; rfl
  obtain ⟨hO1, hR1, hM1⟩ := develop_frame p.line s
  obtain ⟨hO2, -, hpwb, -⟩ := pwbPut_frame p (develop p.line s)
  rw [hM1.pwb, h, List.nil_append] at hpwb
  have hdrain : drainOf line (pwbPut p (develop p.line s)) = pwbDrain (pwbPlaced p (develop p.line s)) (pwbPut p (develop p.line s)) := by
    have hf : [pwbPlaced p (develop p.line s)].filter (fun q => decide (q.line = line)) = [pwbPlaced p (develop p.line s)] :=
      List.filter_eq_self.2 fun q hq => by rw [List.mem_singleton.1 hq]; exact decide_eq_true hline
    rw [drainOf, hpwb, hf, List.foldl_cons, List.foldl_nil]
    exact drainLine_acked (p := pwbPlaced p (develop p.line s)) hack _
  obtain ⟨hO3, hR3, -, hpwb3⟩ := pwbDrain_frame (pwbPlaced p (develop p.line s)) (pwbPut p (develop p.line s))
  rw [hpwb, List.erase_cons_head] at hpwb3
  rw [hdrain]
  exact ⟨(hO1.mono (by simp)).trans ((hO2.mono (by simp)).trans (hO3.mono (by simp))),
    hR1.trans ((regsOnly_of_regs hO2.regs).trans (hR3.mono fun o h => .inl h)), fun _ => hpwb3⟩

theorem writeBacking_empty {b : Bool} {s : State} (h : s.mem.pwb = []) : OwnWritten s (writeBacking b s) := by
  have hfold : ∀ l : List Nat, ∀ t : State, t.mem.pwb = [] →
      OwnWritten t (l.foldl (fun s k => ownWrite (backingLine s b k) (lineOf (fetchBytes s b k)) s) t) := by
    intro l
    induction l with
    | nil => exact fun t _ => OwnWritten.refl t
    | cons k l ih =>
      intro t ht
      have h1 := ownWrite_empty (line := backingLine t b k) (d := lineOf (fetchBytes t b k)) ht
      exact h1.trans (ih _ (h1.2.2 ht))
  exact hfold _ s h

theorem opVerifyDone_pool {s : State} {b : Bool} (h2 : reelState s b = 2)
    (h : (headerOk s b && linesOk s b && signatureOk s b) = true) (h1 : backingSrc s b = 1) (hok : backingOk s b = true)
    (hw : backingWaits s b = false) (hp : s.mem.pwb = []) : ∃ u, opVerifyDone b s = verifyEnd b 1 u ∧
      Only [.regs, .mem, .meter, .xbar, .picks] s u ∧ u.mem.pwb = [] := by
  obtain ⟨hO, -, hpwb⟩ := writeBacking_empty (b := b) hp
  exact ⟨writeBacking b s, (opVerifyDone_backing h2 h h1 hok).trans (if_neg (by rw [hw]; decide)), hO, hpwb hp⟩

/-! ### SWITCH and CLEAR (R164, R166, R198) -/

/-- The target is ACTIVE, and the result OK. -/
def switched (b : Bool) (s : State) : State := wrf (wrf (setReelState b 4 (wrf s 0x020014 4 4 1)) oReel 17 1 1) oReel 16 1 (b2n b)

theorem switched_frame (b : Bool) (s : State) : Only [.regs] s (switched b s) ∧ RegsOnly VerifyReg s (switched b s) ∧
    reelState (switched b s) b = 4 ∧ reelState (switched b s) (!b) = reelState s (!b) ∧ activeReel (switched b s) = b ∧
    reelAny (switched b s) = true ∧ rdf (switched b s) 0x020014 4 4 = 1 := by
  have hst : ∀ (c : Bool) (t : State) (k x : Nat), 16 ≤ k → k + 1 ≤ 64 → reelState (wrf t oReel k 1 x) c = reelState t c :=
    fun c t k x h1 h2 => rdf_wrf_field_ne _ _ _ _ _ _ _ (.inl (by cases c <;> simp <;> omega)) (by cases c <;> decide)
  have h14 : ∀ c, reelState (wrf s 0x020014 4 4 1) c = reelState s c := fun c => rdf_wrf_ne _ _ _ _ _ _ (by decide)
  unfold switched
  refine ⟨?_, ?_, ?_, ?_, ?_, ?_, ?_⟩
  · exact (((only_wrf _ _ _ _ _).trans (only_setReelState _ _ _)).trans (only_wrf _ _ _ _ _)).trans (only_wrf _ _ _ _ _)
  · exact (((regsOnly_wrf s _ _ _ (.inr (.inl rfl))).trans ((regsOnly_setReelState _ _ _).mono fun o h => .inl h)).trans
      (regsOnly_wrf _ _ _ _ (.inl rfl))).trans (regsOnly_wrf _ _ _ _ (.inl rfl))
  · rw [hst _ _ _ _ (by decide) (by decide), hst _ _ _ _ (by decide) (by decide), reelState_set_same]
    rfl
  · rw [hst _ _ _ _ (by decide) (by decide), hst _ _ _ _ (by decide) (by decide), reelState_set_other, h14]
  · rw [activeReel, rd_wrf_same, bitOf_setFld_one _ _ _ (by decide)]
    cases b <;> rfl
  · rw [reelAny, rd_wrf_same, bitOf_setFld_ne _ _ _ _ _ (by decide), rd_wrf_same, bitOf_setFld_one _ _ _ (by decide)]
    rfl
  · rw [rdf_wrf_ne _ _ _ _ _ _ (by decide), rdf_wrf_ne _ _ _ _ _ _ (by decide)]
    exact (rdf_wrf_ne _ _ _ _ _ _ (by decide)).trans (rdf_wrf_same _ _ _ _ _ (by decide))

theorem opSwitch_eq {b : Bool} {s : State} (hs : isSafe s = false) (h3 : reelState s b = 3) (h5 : reelState s (!b) ≠ 5)
    (hc : reelAny s = true → compatible s b = true) : opSwitch b s =
      if reelAny s then reelDrain (!b) (setReelState (!b) 5 (switched b s)) else switched b s := by
  have hcomp : (reelAny s && !compatible s b) = false := by
    cases ha : reelAny s with
    | false => rfl
    | true => rw [hc ha]; rfl
  unfold opSwitch
  rw [hs, if_neg (by decide), if_neg (not_not.2 h3), if_neg h5, hcomp, if_neg (by decide)]
  rfl

/-- The slot that was ACTIVE drains, and is READY at once where no context holds it. -/
theorem reelDrain_frame (c : Bool) (s : State) : let t := reelDrain c (setReelState c 5 s)
    Only [.regs, .dev] s t ∧ RegsOnly (fun r => r = 0x020010 ∨ r = 0x010120) s t ∧ t.dev = { s.dev with misMatch := t.dev.misMatch } ∧
    reelState t (!c) = reelState s (!c) ∧ (∀ k, 15 ≤ k → bitOf (rd t oReel) k = bitOf (rd s oReel) k) ∧
    (reelHeld s c = true → reelState t c = 5) ∧ (reelHeld s c = false → reelState t c = 3 ∧ Caused t .reelDrained 0) := by
  have h0 := only_setReelState c 5 s
  have hR0 := regsOnly_setReelState c 5 s
  have hbit : ∀ (u : State) (st k : Nat), 15 ≤ k → bitOf (rd (setReelState c st u) oReel) k = bitOf (rd u oReel) k := by
    intro u st k hk
    unfold setReelState
    rw [rd_wrf_same, bitOf_setFld_ne _ _ _ _ _ (.inr (by cases c <;> simp <;> omega))]
  have hheld : reelHeld (setReelState c 5 s) c = reelHeld s c := rfl
  have h5 : reelState (setReelState c 5 s) c = 5 := reelState_set_same c 5 s
  intro t
  cases hh : reelHeld s c with
  | true =>
    have ht : t = setReelState c 5 s := if_neg (by rw [hheld, hh]; simp)
    rw [ht]
    exact ⟨h0.mono (by simp), hR0.mono fun o h => .inl h, rfl, reelState_set_other _ _ _, fun k hk => hbit _ _ k hk, fun _ => h5,
      fun e => absurd e (by decide)⟩
  | false =>
    have ht : t = raise0 .reelDrained (setReelState c 3 (clearMisses c (setReelState c 5 s))) :=
      if_pos ⟨h5, by rw [hheld, hh]; rfl⟩
    have h1 : Only [.dev] (setReelState c 5 s) (clearMisses c (setReelState c 5 s)) := only_updDev _ _
    have h2 := only_setReelState c 3 (clearMisses c (setReelState c 5 s))
    have hR2 := regsOnly_setReelState c 3 (clearMisses c (setReelState c 5 s))
    have h3 := only_raise0_none (c := .reelDrained) rfl (setReelState c 3 (clearMisses c (setReelState c 5 s)))
    have hR3 := regsOnly_raise0_none (c := .reelDrained) rfl (setReelState c 3 (clearMisses c (setReelState c 5 s)))
    rw [ht]
    refine ⟨(h0.mono (by simp)).trans ((h1.mono (by simp)).trans ((h2.trans h3).mono (by simp))), ?_, ?_, ?_, fun k hk => ?_,
      fun e => absurd e (by decide), fun _ => ⟨?_, caused_raise0 _ _⟩⟩
    · exact ((hR0.mono fun o h => .inl h).trans (regsOnly_of_regs h1.regs)).trans
        ((hR2.mono fun o h => .inl h).trans (hR3.mono fun o h => .inr h))
    · rw [h3.dev, h2.dev]
      rfl
    · rw [reelState_congr (hR3 _ (by decide)), reelState_set_other]
      exact reelState_set_other c 5 s
    · rw [hR3 _ (by decide), hbit _ _ _ hk]
      exact hbit _ _ _ hk
    · rw [reelState_congr (hR3 _ (by decide)), reelState_set_same]
      rfl

/-- A cleared slot's storage. -/
def slotCleared (b : Bool) (s : State) : State :=
  updDev (fun d => { d with reelA := if b then d.reelA else [], reelB := if b then [] else d.reelB,
                            lineCrc := d.lineCrc.filter (fun p => decide (8512 ≤ p.1) != b) }) s

theorem opClear_eq {b : Bool} {s : State} (h : reelState s b = 1 ∨ reelState s b = 3 ∨ reelState s b = 6) :
    opClear b s = setReelState b 0 (slotCleared b s) := if_pos h

theorem slotCleared_bytes (b : Bool) (s : State) : reelBytes (slotCleared b s) b = [] ∧
    reelBytes (slotCleared b s) (!b) = reelBytes s (!b) := by cases b <;> exact ⟨rfl, rfl⟩

/-- Settles O44: each command is guarded by its slot's state; VERIFY_DONE runs R165's checks in order. -/
theorem scratchAndReelWindows : Obligations.ScratchAndReelWindows := by
  unfold Obligations.ScratchAndReelWindows
  refine ⟨fun off v s hc h1 h2 => ?_, fun off wide v s hc h1 h2 hx hal => ?_, fun b s hc => ⟨fun h => ?_, fun h => ?_⟩,
    fun b s ha => ?_, fun b s hc => ⟨fun hs h3 h5 hcomp => ?_, fun h => ?_, fun h1 h3 h6 => ?_⟩⟩
  · intro w
    refine ⟨fun hal => ?_, fun hal => ?_⟩
    · obtain ⟨hO, hw, hne, hd⟩ := scratchPut_frame w v (answered false 0 s)
      exact ⟨_, exec_scratchWrite (opScratchWrite_eq hc h1 h2 (by simpa using hal)), hw, hne, rfl, hd,
        ((only_answered _ _ _).mono (by simp)).trans (hO.mono (by simp))⟩
    · have hoff : (off.toNat - 0x600000) % 8 = off.toNat % 8 := by omega
      have hk : 8 * (off.toNat % 8) = 0 ∨ 8 * (off.toNat % 8) = 32 := by omega
      obtain ⟨hO, hw, hne, hd⟩ := scratchPut_frame w
        (setFld (scratchRead s w) (8 * (off.toNat % 8)) 32 (v.toNat % 2 ^ 32)) (answered false 0 s)
      obtain ⟨hsame, hother⟩ := fld_half (scratchRead s w) (v.toNat % 2 ^ 32) hk
      refine ⟨_, _, exec_scratchWrite ((opScratchWrite_eq hc h1 h2 (by simpa using hal)).trans ?_), hw, ?_, hother, hne, rfl, hd,
        ((only_answered _ _ _).mono (by simp)).trans (hO.mono (by simp))⟩
      · unfold scratchCapWrite
        rw [hoff]
        rfl
      · rw [hsame, Nat.mod_mod]
  · intro slotB x n
    have hop := opReelWrite_eq (v := v) hc h1 h2 hx hal
    refine ⟨fun hst => ?_, fun hn0 hn1 hn3 hn6 => ?_⟩
    · rw [if_pos hst] at hop
      obtain ⟨hO, hR, hst', hbytes, hother, hgood, hcrc⟩ := reelWritten_frame slotB x (writeBytes wide v) (answered false 0 s)
      have hlen : (writeBytes wide v).length = n := length_bytesOf _ _
      have hOt : Only [.cap, .regs, .dev] s _ := ((only_answered _ _ _).mono (by simp)).trans (hO.mono (by simp))
      refine ⟨_, untimed_next hop hOt.pending hOt.aon, hst', fun i hi => ?_, fun a h => ?_, hother, hgood, fun k _ hk => hcrc k hk,
        hO.cap, hOt, hR⟩
      · rw [hbytes, memGet_memWrite_in _ _ _ _ (by rw [hlen]; exact hi)]
        exact getElem_bytesOf _ _ _ _
      · rw [hbytes, memGet_memWrite_out _ _ (by rw [hlen]; exact h)]
        rfl
    · rw [if_neg (by
        rintro (h | h | h | h)
        · exact hn0 h
        · exact hn1 h
        · exact hn3 h
        · exact hn6 h), raise0_reel (c := .reelWr) rfl rfl] at hop
      exact untimed_next hop rfl rfl
  · exact ⟨setReelState b 2 (answered false 0 s), onUnit_next (ok := true) rfl (capCmd_eq hc (if_pos h) rfl rfl),
      reelState_set_same _ _ _, rfl, ((only_answered _ _ _).mono (by simp)).trans ((only_setReelState _ _ _).mono (by simp)),
      regsOnly_setReelState b 2 (answered false 0 s)⟩
  · exact onUnit_next (ok := true) rfl (capCmd_eq hc ((if_neg h).trans (raise0_reel (c := .reelCmd) rfl rfl _)) rfl rfl)
  · intro ended shape
    refine ⟨fun h2 hsh => ?_, fun h2 hsh h1 hok => ⟨fun hw => ?_, fun hw hp hn => ?_⟩, fun h2 => ?_⟩
    · intro res
      obtain ⟨hO, hR, hd, hst, hrdf, hcause⟩ := verifyEnd_frame b (verifyRes_lt s b) s
      have hbytes : ∀ c, reelBytes (verifyEnd b (verifyRes s b) s) c = reelBytes s c := reelBytes_congr (by rw [hd]) (by rw [hd])
      exact ⟨_, exec_live (ok := true) rfl ha (opVerifyDone_checked h2 hsh) hO.pending hO.aon,
        ⟨hst, hrdf, hcause, hbytes true, hbytes false⟩, hO, hd, hR⟩
    · exact exec_live (ok := true) rfl ha ((opVerifyDone_backing h2 hsh h1 hok).trans (if_pos hw)) rfl rfl
    · obtain ⟨u, hop, hO1, hpwb⟩ := opVerifyDone_pool h2 hsh h1 hok hw hp
      obtain ⟨hO, hR, hd, hst, hrdf, hcause⟩ := verifyEnd_frame b (res := 1) (by decide) u
      have hA : (verifyEnd b 1 u).dev.reelA = u.dev.reelA := by rw [hd]
      have hB : (verifyEnd b 1 u).dev.reelB = u.dev.reelB := by rw [hd]
      have hbytes : ∀ c, reelBytes (verifyEnd b 1 u) c = reelBytes s c :=
        reelBytes_congr (hA.trans (congrArg DevSide.reelA hO1.dev)) (hB.trans (congrArg DevSide.reelB hO1.dev))
      have hOt : Only [.regs, .dev, .mem, .meter, .xbar, .picks] s _ := (hO1.mono (by simp)).trans (hO.mono (by simp))
      exact ⟨_, exec_live (ok := true) rfl ha hop hOt.pending hOt.aon, ⟨hst, hrdf, hcause, hbytes true, hbytes false⟩,
        by rw [hO.mem]; exact hpwb, hOt⟩
    · exact exec_live (ok := true) rfl ha (if_pos h2) rfl rfl
  · have hop := opSwitch_eq (s := answered false 0 s) hs h3 h5 hcomp
    obtain ⟨hO1, hR1, hst, hoth, hact, hany, hres⟩ := switched_frame b (answered false 0 s)
    cases ha : reelAny s with
    | false =>
      rw [show reelAny (answered false 0 s) = reelAny s from rfl, ha, if_neg (by decide)] at hop
      have hOt : Only [.cap, .regs, .dev] s _ := ((only_answered _ _ _).mono (by simp)).trans (hO1.mono (by simp))
      refine ⟨_, onUnit_next (ok := true) rfl (capCmd_eq hc hop hOt.pending hOt.aon), hst, hact, hany, hres,
        fun e => absurd e (by decide), fun e => absurd e (by decide), fun _ => hoth, hO1.cap, ?_, hOt, hR1⟩
      rw [hO1.dev]
      rfl
    | true =>
      rw [show reelAny (answered false 0 s) = reelAny s from rfl, ha, if_pos rfl] at hop
      obtain ⟨hO2, hR2, hd2, hst2, hbits, hheld, hfree⟩ := reelDrain_frame (!b) (switched b (answered false 0 s))
      have hOt : Only [.cap, .regs, .dev] s _ :=
        ((only_answered _ _ _).mono (by simp)).trans ((hO1.mono (by simp)).trans (hO2.mono (by simp)))
      have hh : reelHeld (switched b (answered false 0 s)) (!b) = reelHeld s (!b) := by
        rw [reelHeld, hO1.dev]
        rfl
      rw [Bool.not_not] at hst2
      refine ⟨_, onUnit_next (ok := true) rfl (capCmd_eq hc hop hOt.pending hOt.aon), hst2.trans hst, (hbits 16 (by decide)).trans hact,
        (hbits 17 (by decide)).trans hany, ?_, fun _ e => hheld (hh.trans e), fun _ e => hfree (hh.trans e),
        fun e => absurd e (by decide), hO2.cap.trans hO1.cap, ?_, hOt, hR1.trans (hR2.mono ?_)⟩
      · rw [rdf, hR2 _ (by decide)]
        exact hres
      · rw [hd2, hO1.dev]
        rfl
      · rintro o (h | h)
        · exact .inl h
        · exact .inr (.inr h)
  · obtain ⟨hb1, hb2⟩ := slotCleared_bytes b (answered false 0 s)
    have h0 : Only [.dev] (answered false 0 s) (slotCleared b (answered false 0 s)) := only_updDev _ _
    have hO := only_setReelState b 0 (slotCleared b (answered false 0 s))
    have hOt : Only [.cap, .regs, .dev] s (setReelState b 0 (slotCleared b (answered false 0 s))) :=
      ((only_answered _ _ _).mono (by simp)).trans ((h0.mono (by simp)).trans (hO.mono (by simp)))
    exact ⟨_, onUnit_next (ok := true) rfl (capCmd_eq hc (opClear_eq (s := answered false 0 s) h) rfl rfl), reelState_set_same _ _ _,
      hb1, hb2, rfl, hOt, RegsOnly.trans (regsOnly_of_regs rfl) (regsOnly_setReelState b 0 (slotCleared b (answered false 0 s)))⟩
  · exact onUnit_next (ok := true) rfl (capCmd_eq hc ((if_neg (by
      rintro (h | h | h)
      · exact h1 h
      · exact h3 h
      · exact h6 h)).trans (raise0_reel (c := .reelCmd) rfl rfl _)) rfl rfl)

end Sys2Proof.Machine
end

section
/-! PROOFS. Reads of a line, and refetch and refill of a fetch line (O45: R71, R162, R163, R227, R256, R263). -/

namespace Sys2Proof.Machine

/-! ### Bytes of a line -/

theorem natOfBytes_div (bs : List Byte) : ∀ i (h : i < bs.length), natOfBytes bs / 2 ^ (8 * i) % 256 = bs[i].toNat := by
  induction bs with
  | nil => exact fun i h => absurd h (by simp)
  | cons b bs ih =>
    intro i h
    have hb : b.toNat < 256 := b.isLt
    cases i with
    | zero => simp [natOfBytes]; omega
    | succ i =>
      have he : 2 ^ (8 * (i + 1)) = 256 * 2 ^ (8 * i) := by rw [Nat.mul_succ, Nat.pow_add, Nat.mul_comm]
      rw [natOfBytes, he, ← Nat.div_div_eq_div_mul, show (b.toNat + 256 * natOfBytes bs) / 256 = natOfBytes bs by omega,
        ih i (by simpa using h)]
      rfl

theorem byteAt_lineOf {bs : List Byte} (hl : bs.length = 64) {i : Nat} (h : i < bs.length) : byteAt (lineOf bs) i = bs[i] := by
  have h8 : (2 : Nat) ^ 512 = 2 ^ (8 * i) * (256 * 2 ^ (504 - 8 * i)) := by
    have h5 : 512 = 8 * i + (8 + (504 - 8 * i)) := by omega
    exact (congrArg (2 ^ ·) h5).trans (by rw [Nat.pow_add, Nat.pow_add])
  apply BitVec.eq_of_toNat_eq
  rw [byteAt, lineOf, BitVec.toNat_ofNat, BitVec.toNat_ofNat, Nat.shiftRight_eq_div_pow, h8, Nat.mod_mul_right_div_self,
    Nat.mod_mod_of_dvd _ (Dvd.intro _ rfl), natOfBytes_div bs i h]

theorem lineBytes_lineOf {bs : List Byte} (hl : bs.length = 64) : lineBytes (lineOf bs) = bs := by
  apply List.ext_getElem (by rw [lineBytes, length_bytesOf, hl])
  intro i _ h2
  exact (getElem_bytesOf _ _ _ _).trans (byteAt_lineOf hl h2)

theorem length_memRead (m : List Host.Cell) (a n : Nat) : (memRead m a n).length = n := by simp [memRead]

theorem memRead_memWrite_same (m : List Host.Cell) (a : Nat) (bs : List Byte) : memRead (memWrite m a bs) a bs.length = bs := by
  apply List.ext_getElem (length_memRead _ _ _)
  intro i _ h2
  have hg : (memRead (memWrite m a bs) a bs.length)[i] = memGet (memWrite m a bs) (a + i) := by simp [memRead]
  exact hg.trans (memGet_memWrite_in _ _ _ _ h2)

/-! ### Reads (R71, R256) -/

/-- The newest buffered line is the newest among those before a later operation. -/
theorem pwbBefore_newest {s : State} {line bound : Nat} {p : PwbLine} (h : pwbFind s line = some p) (hs : p.seq < bound) :
    pwbBefore s line bound = some p := by
  unfold pwbFind at h
  unfold pwbBefore
  obtain ⟨l, hl⟩ := List.getLast?_eq_some_iff.1 h
  have hf : s.mem.pwb.filter (fun p => decide (p.line = line) && decide (p.seq < bound)) =
      (s.mem.pwb.filter (fun p => decide (p.line = line))).filter (fun p => decide (p.seq < bound)) := by
    rw [List.filter_filter]
    exact List.filter_congr fun p _ => Bool.and_comm _ _
  rw [hf, hl, List.filter_append, List.filter_singleton, decide_eq_true hs]
  exact List.getLast?_concat

theorem pwbBefore_none {s : State} {line : Nat} (h : pwbFind s line = none) (bound : Nat) : pwbBefore s line bound = none := by
  unfold pwbFind at h
  unfold pwbBefore
  rw [List.getLast?_eq_none_iff, List.filter_eq_nil_iff] at *
  intro p hp he
  simp only [Bool.and_eq_true] at he
  exact h p hp he.1

theorem memReadAt_buffered {s : State} {line bound : Nat} {p : PwbLine} (hd : isDark s line = false) (hb : lineBlank s line = false)
    (h : pwbBefore s line bound = some p) (src : ReadSrc) (close : Bool) (extra : List SymErr) :
    memReadAt bound line src close extra s = (readBuffered p, s) := by
  unfold memReadAt
  rw [hd, hb, h]
  rfl

/-- A read from DRAM is counted and accesses its row. -/
def dramAccessed (m co line : Nat) (close : Bool) (s : State) : State :=
  rowAccess m (coordOf (count 0x18 ⟨trayOf s line, none, some m⟩ 1 s) m co) close false (count 0x18 ⟨trayOf s line, none, some m⟩ 1 s)

theorem dramAccessed_frame (m co line : Nat) (close : Bool) (s : State) : Only [.regs, .meter, .mem] s (dramAccessed m co line close s) ∧
    RegsOnly CountReg s (dramAccessed m co line close s) ∧ MemOnly [.chans] s (dramAccessed m co line close s) := by
  have h1 := counts_count 0x18 ⟨trayOf s line, none, some m⟩ 1 s
  obtain ⟨hO, hR, hM⟩ := rowAccess_frame m (coordOf (count 0x18 ⟨trayOf s line, none, some m⟩ 1 s) m co) close false
    (count 0x18 ⟨trayOf s line, none, some m⟩ 1 s)
  exact ⟨(h1.1.mono (by simp)).trans hO, h1.2.trans hR, (memOnly_of_only _ h1.1).trans hM⟩

theorem only_dramAccessed {s : State} (h : NoCounter s) (m co line : Nat) (close : Bool) :
    Only [.meter, .mem] s (dramAccessed m co line close s) := by
  have h1 := only_count h 0x18 ⟨trayOf s line, none, some m⟩ 1
  exact (h1.mono (by simp)).trans (only_rowAccess ((noCounter_congr h1.regs).2 h) _ _ _ _)

/-- What a sound burst delivers. -/
def soundRead (s : State) (a : Nat) : ReadOut :=
  { data := burstData s a, ldw := sGet 0 s.mem.ldws (a / 64), uncor := false, fog := ldwFogged (sGet 0 s.mem.ldws (a / 64)), fixed := false }

/-- A burst without a wrong symbol whose LDW is valid decodes to what is stored (R256, R258). -/
theorem decodeBurst_clean {m co : Nat} {s : State} (he : sGet [] s.mem.burstErr ((m * 2 ^ 39 + co) / 64) = [])
    (hl : ldwInvalid (sGet 0 s.mem.ldws ((m * 2 ^ 39 + co) / 64)) = false) (line : Nat) (src : ReadSrc) :
    decodeBurst m co line src [] s = (soundRead s (m * 2 ^ 39 + co), s) := by
  unfold decodeBurst
  dsimp only
  rw [he]
  simp only [addErrs, classify]
  rw [hl]
  rfl

theorem memReadAt_dram {s : State} {line bound m co : Nat} (hd : isDark s line = false) (hb : lineBlank s line = false)
    (h : pwbBefore s line bound = none) (hc : lineChan s line = some (m, co)) (src : ReadSrc) (close : Bool) (extra : List SymErr) :
    memReadAt bound line src close extra s = decodeBurst m co line src extra (dramAccessed m co line close s) := by
  unfold memReadAt
  rw [hd, hb, h, hc]
  rfl

theorem memReadAt_sound {s : State} {line bound m co : Nat} (hd : isDark s line = false) (hb : lineBlank s line = false)
    (h : pwbBefore s line bound = none) (hc : lineChan s line = some (m, co))
    (he : sGet [] s.mem.burstErr ((m * 2 ^ 39 + co) / 64) = [])
    (hl : ldwInvalid (sGet 0 s.mem.ldws ((m * 2 ^ 39 + co) / 64)) = false) (src : ReadSrc) (close : Bool) :
    memReadAt bound line src close [] s = (soundRead s (m * 2 ^ 39 + co), dramAccessed m co line close s) := by
  obtain ⟨-, -, hM⟩ := dramAccessed_frame m co line close s
  rw [memReadAt_dram hd hb h hc, decodeBurst_clean (by rw [hM.burstErr]; exact he) (by rw [hM.ldws]; exact hl), soundRead]
  unfold burstData
  rw [hM.dram, hM.ldws]
  rfl

/-! ### A backing line lands (R162, R163) -/

/-- A matching line goes into the slot. -/
def repairLanded (b : Bool) (k : Nat) (bs : List Byte) (s : State) : State :=
  unstallAll (fetchKey b k) (raise0 .fetchCe (reelStore b (64 * k) bs s))

/-- A second mismatch. -/
def doubleLanded (b : Bool) (k : Nat) (s : State) : State :=
  raise .fetchDouble 0 (storeRec 2 b k) (updDev (fun d => { d with refetch := d.refetch.filter (· ≠ fetchKey b k) }) s)

theorem fetchKey_keyLine {key : Nat} (h : key < 17024) : fetchKey (keyLine key).1 (keyLine key).2 = key := by
  unfold fetchKey keyLine b2n
  by_cases hk : 8512 ≤ key
  · simp only [decide_eq_true hk, if_true]; omega
  · simp only [decide_eq_false hk, Bool.false_eq_true, if_false]; omega

theorem keyLine_fetchKey (b : Bool) {k : Nat} (h : k < 8512) : keyLine (fetchKey b k) = (b, k) := by
  unfold fetchKey keyLine b2n
  cases b with
  | false => simp; omega
  | true => simp; omega

theorem backingLands_some {b : Bool} {k : Nat} (h : k < 8512) (bs : List Byte) (s : State) :
    backingLands (fetchKey b k) (some bs) s =
      if crc32 bs = lineCrcOf s b k then repairLanded b k bs s else doubleLanded b k s := by
  unfold backingLands
  rw [keyLine_fetchKey b h]
  rfl

theorem unstallAll_idle {s : State} (h : s.dev.stalled = []) (key : Nat) : unstallAll key s =
    updDev (fun d => { d with stalled := [], refetch := d.refetch.filter (· ≠ key) }) s := by
  unfold unstallAll
  rw [h]
  simp [updDev, h]

theorem reelStore_dev (b : Bool) (a : Nat) (bs : List Byte) (s : State) : (reelStore b a bs s).dev =
    { s.dev with reelA := (reelStore b a bs s).dev.reelA, reelB := (reelStore b a bs s).dev.reelB } := by cases b <;> rfl

/-- The line of the slot is replaced, FETCH_CE is raised, and the refetch is over. -/
theorem repairLanded_frame {b : Bool} {k : Nat} {bs : List Byte} {s : State} (hbs : bs.length = 64) (hst : s.dev.stalled = [])
    (hrf : s.dev.refetch = [fetchKey b k]) : Only [.regs, .dev] s (repairLanded b k bs s) ∧
    (repairLanded b k bs s).dev.refetch = [] ∧ Caused (repairLanded b k bs s) .fetchCe 0 ∧
    fetchBytes (repairLanded b k bs s) b k = bs ∧ reelBytes (repairLanded b k bs s) (!b) = reelBytes s (!b) ∧
    rd (repairLanded b k bs s) 0x020030 = rd s 0x020030 := by
  have h1 : Only [.dev] s (reelStore b (64 * k) bs s) := only_updDev _ _
  have h2 : Only [.regs] (reelStore b (64 * k) bs s) (raise0 .fetchCe (reelStore b (64 * k) bs s)) := only_raise_regs (by decide) _ _ _
  have hR := regsOnly_raise .fetchCe 0 PsRec.none (reelStore b (64 * k) bs s)
  have hdev := h2.dev
  have hst2 : (raise0 .fetchCe (reelStore b (64 * k) bs s)).dev.stalled = [] := by rw [hdev, reelStore_dev]; exact hst
  have he : repairLanded b k bs s = _ := unstallAll_idle hst2 _
  have hc := caused_raise0 .fetchCe (reelStore b (64 * k) bs s)
  have hreel : ∀ c, reelBytes (repairLanded b k bs s) c = reelBytes (reelStore b (64 * k) bs s) c := by
    intro c
    rw [he]
    exact reelBytes_congr (s := reelStore b (64 * k) bs s) (t := raise0 .fetchCe (reelStore b (64 * k) bs s)) (by rw [hdev]) (by rw [hdev]) c
  refine ⟨?_, ?_, ?_, ?_, ?_, ?_⟩
  · rw [he]
    exact (h1.mono (by simp)).trans ((h2.mono (by simp)).trans ((only_updDev _ _).mono (by simp)))
  · rw [he]
    show (raise0 .fetchCe (reelStore b (64 * k) bs s)).dev.refetch.filter _ = []
    rw [hdev, reelStore_dev]
    show s.dev.refetch.filter _ = []
    rw [hrf]
    simp
  · rw [he]
    exact hc
  · rw [fetchBytes, hreel, reelBytes_store_same, ← hbs, memRead_memWrite_same]
  · rw [hreel, reelBytes_store_other]
  · rw [he]
    exact hR 0x020030 (by unfold ClassReg; decide)

/-- Safelight state, with FETCH_DOUBLE; the slots stand, and the refetch is over. -/
theorem doubleLanded_frame (b : Bool) (k : Nat) (s : State) : Only [.regs, .dev, .safe] s (doubleLanded b k s) ∧
    Caused (doubleLanded b k s) .fetchDouble 0 ∧ isSafe (doubleLanded b k s) = true ∧
    (∀ c, reelBytes (doubleLanded b k s) c = reelBytes s c) ∧
    (doubleLanded b k s).dev.refetch = s.dev.refetch.filter (· ≠ fetchKey b k) := by
  have hO := only_raise .fetchDouble 0 (storeRec 2 b k) (updDev (fun d => { d with refetch := d.refetch.filter (· ≠ fetchKey b k) }) s)
  refine ⟨?_, caused_raise _ (by decide) _ _, isSafe_raise_gf rfl _ _ _, ?_, ?_⟩
  · exact ((only_updDev _ _).mono (by simp)).trans (hO.mono (by simp))
  · exact reelBytes_congr ((congrArg DevSide.reelA hO.dev).trans rfl) ((congrArg DevSide.reelB hO.dev).trans rfl)
  · exact congrArg DevSide.refetch hO.dev

/-! ### The three operations -/

theorem capAnswers_of_asleep {s : State} (h : asleep s = false) : capAnswers s = true := by rw [capAnswers_eq, h]; rfl


/-- A refetch whose backing line is read, with data and no error. -/
theorem opRefetchDone_lands {b : Bool} {k line : Nat} {s t : State} {o : ReadOut} (hk : k < 8512)
    (hrf : s.dev.refetch = [fetchKey b k]) (hb : backingSrc s b = 1) (hline : line = backingLine s b k)
    (hr : ownReads s line false = true) (hread : memReadLine line .txn false [] s = (o, t)) (ho : o.uncor = false) :
    opRefetchDone s = backingLands (fetchKey b k) (some (lineBytes o.data)) t := by
  have hfind : s.dev.refetch.find? (fun key => decide (backingSrc s (keyLine key).1 = 1)) = some (fetchKey b k) := by
    rw [hrf, List.find?_cons, keyLine_fetchKey b hk, decide_eq_true hb]
  unfold opRefetchDone
  rw [hfind]
  dsimp only
  rw [keyLine_fetchKey b hk, ← hline, hr, hread]
  dsimp only
  rw [ho]
  rfl

/-- What a refetch leaves, when the backing line comes from a state that differs in the memory side alone. -/
theorem exec_refetchDone {b : Bool} {k : Nat} {bs : List Byte} {s u : State} (ha : asleep s = false) (hk : k < 8512)
    (hst : s.dev.stalled = []) (hrf : s.dev.refetch = [fetchKey b k]) (hu : Only [.meter, .mem] s u) (hdram : u.mem.dram = s.mem.dram)
    (hbs : bs.length = 64) (hop : opRefetchDone s = backingLands (fetchKey b k) (some bs) u) :
    (lineCrcOf s b k = crc32 bs → ∃ t, exec .refetchDone s = .next t ∧ t.dev.refetch = [] ∧ Caused t .fetchCe 0 ∧
      fetchBytes t b k = bs ∧ reelBytes t (!b) = reelBytes s (!b) ∧ t.mem.dram = s.mem.dram ∧ Only [.regs, .dev, .mem, .meter] s t) ∧
    (lineCrcOf s b k ≠ crc32 bs → ∃ t, exec .refetchDone s = .next t ∧ Caused t .fetchDouble 0 ∧ isSafe t = true ∧
      reelBytes t true = reelBytes s true ∧ reelBytes t false = reelBytes s false ∧ t.mem.dram = s.mem.dram ∧
      Only [.regs, .dev, .safe, .mem, .meter] s t) := by
  have hcrc : lineCrcOf u b k = lineCrcOf s b k := lineCrcOf_congr (congrArg DevSide.lineCrc hu.dev) b k
  have hreel : ∀ c, reelBytes u c = reelBytes s c := reelBytes_congr (congrArg DevSide.reelA hu.dev) (congrArg DevSide.reelB hu.dev)
  rw [backingLands_some hk, hcrc] at hop
  refine ⟨fun h => ?_, fun h => ?_⟩
  · rw [if_pos h.symm] at hop
    obtain ⟨hO, href, hc, hf, hoth, -⟩ := repairLanded_frame hbs ((congrArg DevSide.stalled hu.dev).trans hst)
      ((congrArg DevSide.refetch hu.dev).trans hrf)
    have hOt : Only [.regs, .dev, .mem, .meter] s _ := (hu.mono (by simp)).trans (hO.mono (by simp))
    exact ⟨_, exec_live (ok := true) rfl ha hop hOt.pending hOt.aon, href, hc, hf, hoth.trans (hreel _),
      (congrArg MemSide.dram hO.mem).trans hdram, hOt⟩
  · rw [if_neg (Ne.symm h)] at hop
    obtain ⟨hO, hc, hsafe, hr, -⟩ := doubleLanded_frame b k u
    have hOt : Only [.regs, .dev, .safe, .mem, .meter] s _ := (hu.mono (by simp)).trans (hO.mono (by simp))
    exact ⟨_, exec_live (ok := true) rfl ha hop hOt.pending hOt.aon, hc, hsafe, (hr _).trans (hreel _), (hr _).trans (hreel _),
      (congrArg MemSide.dram hO.mem).trans hdram, hOt⟩

theorem length_lineBytes (d : LineBits) : (lineBytes d).length = 64 := length_bytesOf _ _

theorem length_refillBytes (s : State) : (refillBytes s).length = 64 := by
  simp [refillBytes, length_bytesOf]

theorem refillAsk_none {s : State} (h : s.dev.refetch = []) : refillAsk s = s := by
  unfold refillAsk
  rw [h]
  split <;> rfl

/-- The refill the block has asked for is taken. -/
def refillTaken (s : State) : State := wrf s 0x020030 31 1 0

theorem refillBytes_taken (s : State) : refillBytes (refillTaken s) = refillBytes s := by
  unfold refillBytes
  apply List.flatMap_congr
  intro j hj
  rw [refillTaken, rd_wrf_ne]
  simp at hj
  omega

theorem opRefillGo_eq {s : State} (h : bitOf (rd s 0x020030) 31 = true) :
    opRefillGo s = refillAsk (backingLands (refillKey s) (some (refillBytes s)) (refillTaken s)) := by
  unfold opRefillGo
  rw [h]
  rfl

/-- Settles O45: a backing line, read from the buffer or from DRAM, or written by the CAP, repairs the slot or is a second mismatch. -/
theorem refetchAndRefill : Obligations.RefetchAndRefill := by
  unfold Obligations.RefetchAndRefill
  refine ⟨fun key s ha hsafe hn hkey hrf hst hsrc => ?_, fun s ha hsafe hask => ⟨?_, ?_⟩⟩
  · intro line hdark hblank repaired second
    have hk : (keyLine key).2 < 8512 := Nat.mod_lt _ (by decide)
    rw [← fetchKey_keyLine hkey] at hrf
    have own : ∀ bs u, Only [.meter, .mem] s u → u.mem.dram = s.mem.dram → bs.length = 64 →
        opRefetchDone s = backingLands (fetchKey (keyLine key).1 (keyLine key).2) (some bs) u → repaired bs ∧ second bs :=
      fun bs u hu hd hb h => exec_refetchDone ha hk hst hrf hu hd hb h
    have hline : line = backingLine s (keyLine key).1 (keyLine key).2 := rfl
    clear_value line
    refine ⟨fun p hp hseq => ?_, fun m co hp hown hchan => ?_⟩
    · have hr : ownReads s line false = true := by
        unfold ownReads readAtOnce
        rw [hp, Option.isSome_some, Bool.or_true, Bool.true_or]
      have hread : memReadLine line .txn false [] s = (readBuffered p, s) :=
        memReadAt_buffered hdark hblank (pwbBefore_newest hp hseq) .txn false []
      have hop := opRefetchDone_lands hk hrf hsrc hline hr hread rfl
      exact own (lineBytes p.data) s (Only.refl _ s) rfl (length_lineBytes _) hop
    · intro a he hl
      have hread : memReadLine line .txn false [] s = (soundRead s a, dramAccessed m co line false s) :=
        memReadAt_sound hdark hblank (pwbBefore_none hp _) hchan he hl .txn false
      have hop := opRefetchDone_lands hk hrf hsrc hline hown hread rfl
      obtain ⟨-, -, hM⟩ := dramAccessed_frame m co line false s
      rw [soundRead, burstData, lineBytes_lineOf (length_memRead _ _ _)] at hop
      exact own _ _ (only_dramAccessed hn m co line false) hM.dram (length_memRead _ _ _) hop
  · intro b k hk hrf hst
    have hc : capAnswers s = true := capAnswers_of_asleep ha
    have hkey : refillKey (answered false 0 s) = fetchKey b k := rfl
    have hop := opRefillGo_eq (s := answered false 0 s) hask
    rw [hkey, backingLands_some hk] at hop
    have hbs : refillBytes (answered false 0 s) = refillBytes s := rfl
    have hcrc : lineCrcOf (refillTaken (answered false 0 s)) b k = lineCrcOf s b k := rfl
    rw [hbs, hcrc] at hop
    have hO0 : Only [.cap, .regs] s (refillTaken (answered false 0 s)) :=
      ((only_answered _ _ _).mono (by simp)).trans ((only_wrf _ _ _ _ _).mono (by simp))
    refine ⟨fun h => ?_, fun h => ?_⟩
    · rw [if_pos h.symm] at hop
      obtain ⟨hO, href, hce, hf, hoth, hreg⟩ := repairLanded_frame (bs := refillBytes s) (s := refillTaken (answered false 0 s))
        (length_refillBytes s) hst hrf
      rw [refillAsk_none href] at hop
      have hOt : Only [.cap, .regs, .dev] s _ := (hO0.mono (by simp)).trans (hO.mono (by simp))
      refine ⟨_, onUnit_next (ok := true) rfl (capCmd_eq hc hop hOt.pending hOt.aon), href, ?_, hce, hf, hoth, hO.cap, hOt⟩
      rw [hreg, refillTaken, rd_wrf_same, bitOf_setFld_one _ _ _ (by decide)]
      rfl
    · rw [if_neg (Ne.symm h)] at hop
      obtain ⟨hO, hce, hs, -, href⟩ := doubleLanded_frame b k (refillTaken (answered false 0 s))
      have hemp : (doubleLanded b k (refillTaken (answered false 0 s))).dev.refetch = [] := by
        rw [href]
        show s.dev.refetch.filter _ = []
        rw [hrf]
        simp
      rw [refillAsk_none hemp] at hop
      have hOt : Only [.cap, .regs, .dev, .safe] s _ := (hO0.mono (by simp)).trans (hO.mono (by simp))
      exact ⟨_, onUnit_next (ok := true) rfl (capCmd_eq hc hop hOt.pending hOt.aon), hce, hs, hO.cap, hOt⟩
  · have hop : opFetchTimeout s = raise .fetchTimeout 0 (storeRec 2 (bitOf (rd s 0x020030) 30) (rdf s 0x020030 0 14)) s :=
      if_neg (by rw [hask]; decide)
    have hO := only_raise .fetchTimeout 0 (storeRec 2 (bitOf (rd s 0x020030) 30) (rdf s 0x020030 0 14)) s
    exact ⟨_, exec_live (ok := true) rfl ha hop hO.pending hO.aon, caused_raise _ (by decide) _ _, isSafe_raise_gf rfl _ _ _, hO⟩

end Sys2Proof.Machine
end

section
/-! PROOFS. The states of a memory channel (O46: R225 to R228, R245 to R248, R332, R379). -/

namespace Sys2Proof.Machine

/-! ### One channel changes -/

/-- Nothing but channel `m` changes. -/
def ChanAlone (m : Nat) (s t : State) : Prop := MemChans s t ∧ ∀ k, k ≠ m → chanOf t k = chanOf s k

theorem ChanAlone.refl (m : Nat) (s : State) : ChanAlone m s s := ⟨rfl, fun _ _ => rfl⟩

theorem ChanAlone.trans {m : Nat} {s t u : State} (h : ChanAlone m s t) (g : ChanAlone m t u) : ChanAlone m s u :=
  ⟨h.1.trans g.1, fun k hk => (g.2 k hk).trans (h.2 k hk)⟩

theorem chanAlone_setChan (m : Nat) (f : Chan → Chan) (s : State) : ChanAlone m s (setChan m f s) :=
  ⟨memChans_setChan _ _ _, fun _ hk => chanOf_setChan_ne hk f s⟩

theorem ChanAlone.foldl {α : Type} {m : Nat} {f : State → α → State} (h : ∀ t a, ChanAlone m t (f t a)) (l : List α) (s : State) :
    ChanAlone m s (l.foldl f s) := by
  induction l generalizing s with
  | nil => exact ChanAlone.refl m s
  | cons a l ih => exact (h s a).trans (ih _)

theorem ChanAlone.only {m : Nat} {s t : State} (h : ChanAlone m s t) : Only [.mem] s t := h.1.only

theorem ChanAlone.regs {m : Nat} {s t : State} (h : ChanAlone m s t) : t.regs = s.regs := h.1.regs

theorem chanAlone_setSched (m sc : Nat) (f : Sched → Sched) (s : State) : ChanAlone m s (setSched m sc f s) := chanAlone_setChan _ _ _

theorem chanAlone_writePasr (m lo : Nat) (s : State) : ChanAlone m s (writePasr m lo s) := by
  unfold writePasr
  dsimp only
  split
  · exact ChanAlone.refl m s
  · exact ChanAlone.foldl (fun t sc => ChanAlone.foldl (fun u r => chanAlone_setChan m _ u) _ t) _ s

theorem chanAlone_prechargeAll (m : Nat) (s : State) : ChanAlone m s (prechargeAll m s) := by
  unfold prechargeAll
  exact ChanAlone.trans (ChanAlone.foldl (fun t sc => chanAlone_setChan m _ t) _ s) (chanAlone_setChan m _ _)

theorem openRow_prechargeAll (m : Nat) (s : State) : (chanOf (prechargeAll m s) m).openRow = [] := by
  unfold prechargeAll closeRows
  rw [chanOf_setChan_same]

/-! ### A channel enters a state (R225, R228, R245) -/

/-- Channel `m` is in state `st` with its rows closed, and nothing else has changed. -/
def ChanEntered (m st : Nat) (s t : State) : Prop :=
  chanState t m = st ∧ (chanOf t m).openRow = [] ∧ (∀ k, k ≠ m → chanOf t k = chanOf s k) ∧
  t.mem = { s.mem with chans := t.mem.chans } ∧ Only [.regs, .mem] s t ∧ RegsOnly (· = oMcStatus m) s t

theorem srefPend_setChanState (m st : Nat) (s : State) : srefPend (setChanState m st s) m = false := by
  rw [srefPend, setChanState, rd_wrf_same, bitOf_setFld_one _ _ _ (by decide)]
  rfl

theorem only_setChanState (m st : Nat) (s : State) : Only [.regs] s (setChanState m st s) :=
  (only_wrf _ _ _ _ _).trans (only_wrf _ _ _ _ _)

theorem regsOnly_setChanState (m st : Nat) (s : State) : RegsOnly (· = oMcStatus m) s (setChanState m st s) :=
  RegsOnly.trans (regsOnly_wrf (p := (· = oMcStatus m)) s _ _ _ rfl) (regsOnly_wrf _ _ _ _ rfl)

/-- The state is written and, around it, only channel `m` changes. -/
theorem chanEntered_of {m st : Nat} {s u t : State} (hst : st < 2 ^ 3) (h : ChanAlone m s u) (g : ChanAlone m (setChanState m st u) t)
    (hrow : (chanOf t m).openRow = []) : ChanEntered m st s t := by
  have hO := only_setChanState m st u
  refine ⟨?_, hrow, fun k hk => ?_, ?_, ?_, ?_⟩
  · rw [chanState_of_regs (rd_congr g.regs _), chanState_setChanState_same, Nat.mod_eq_of_lt hst]
  · rw [g.2 k hk, chanOf_congr (congrArg MemSide.chans hO.mem), h.2 k hk]
  · rw [g.1.mem, hO.mem, h.1.mem]
  · exact (h.only.mono (by simp)).trans ((hO.mono (by simp)).trans (g.only.mono (by simp)))
  · exact (regsOnly_of_regs h.regs).trans ((regsOnly_setChanState m st u).trans (regsOnly_of_regs g.regs))

theorem chanEntered_enterRun (m : Nat) {s u : State} (h : ChanAlone m s u) : ChanEntered m 1 s (enterRun m u) := by
  refine chanEntered_of (by decide) h (ChanAlone.trans (chanAlone_setChan m _ _) (chanAlone_setChan m _ _)) ?_
  unfold enterRun startRecover closeRows
  rw [chanOf_setChan_same, chanOf_setChan_same]

theorem chanEntered_init (m : Nat) (s : State) : ChanEntered m 0 s (closeRows m (setChanState m 0 (writePasr m 24 s))) := by
  refine chanEntered_of (by decide) (chanAlone_writePasr m 24 s) (chanAlone_setChan m _ _) ?_
  unfold closeRows
  rw [chanOf_setChan_same]

theorem chanEntered_paused (m : Nat) (s : State) : ChanEntered m 2 s (prechargeAll m (setChanState m 2 s)) :=
  chanEntered_of (by decide) (ChanAlone.refl m s) (chanAlone_prechargeAll m _) (openRow_prechargeAll m _)

theorem causeReg_ne_mcStatus {c : Cause} (h : c.domain = 2) (m : Nat) : oMcStatus m ≠ causeReg c.domain m := by
  have : causeReg c.domain m = 0x010300 + 8 * m := by rw [h]; rfl
  unfold oMcStatus chanBase
  omega

/-! ### The commands -/

theorem mcAllowed_true {s : State} {m st : Nat} (h1 : chanOff s m = false) (h2 : chanState s m = st) (h3 : srefPend s m = false) :
    mcAllowed s m st = true := by
  rw [mcAllowed, h1, h3, decide_eq_true h2]
  rfl

theorem mcAllowed_false {s : State} {m st : Nat} (h : chanOff s m = true ∨ chanState s m ≠ st ∨ srefPend s m = true) :
    mcAllowed s m st = false := by
  rw [mcAllowed]
  rcases h with h | h | h
  · rw [h]
    rfl
  · rw [decide_eq_false h, Bool.and_false, Bool.false_and]
  · rw [h]
    exact Bool.and_false _

theorem mcRefuse_eq (m : Nat) (s : State) : mcRefuse m s = wr s (0x010300 + 8 * m) (rd s (0x010300 + 8 * m) ||| 0x100#64) :=
  raiseAt_none rfl m s

/-- A channel command that is refused. -/
theorem exec_mcRefused {i : Instr} {m : Nat} {f : State → State} {s : State} (hm : m < 8) (hc : capAnswers s = true)
    (hi : exec i s = onUnit (okChan m) (capCmd f) s) (hf : f (answered false 0 s) = mcRefuse m (answered false 0 s)) :
    exec i s = .next (wr (answered false 0 s) (0x010300 + 8 * m) (rd s (0x010300 + 8 * m) ||| 0x100#64)) := by
  rw [hi]
  exact onUnit_next (decide_eq_true hm) (capCmd_eq hc (hf.trans (mcRefuse_eq m _)) rfl rfl)

/-- A channel command that is accepted. -/
theorem exec_chanEntered {i : Instr} {m st : Nat} {f : State → State} {s t : State} (hm : m < 8) (hc : capAnswers s = true)
    (hi : exec i s = onUnit (okChan m) (capCmd f) s) (hf : f (answered false 0 s) = t) (h : ChanEntered m st (answered false 0 s) t) :
    ∃ t, exec i s = .next t ∧ chanState t m = st ∧ (chanOf t m).openRow = [] ∧ (∀ k, k ≠ m → chanOf t k = chanOf s k) ∧
      t.mem = { s.mem with chans := t.mem.chans } ∧ Acked s t ∧ Only [.cap, .regs, .mem] s t ∧ RegsOnly (· = oMcStatus m) s t := by
  obtain ⟨hst, hrow, hk, hmem, hO, hR⟩ := h
  refine ⟨t, ?_, hst, hrow, hk, hmem, hO.cap, ((only_answered _ _ _).mono (by simp)).trans (hO.mono (by simp)), hR⟩
  rw [hi]
  exact onUnit_next (decide_eq_true hm) (capCmd_eq hc hf hO.pending hO.aon)

/-! ### Self-refresh (R245 to R247) -/

theorem drainChannel_empty {s : State} (m : Nat) (h1 : s.mem.memq = []) (h2 : s.mem.pwb = []) (h3 : s.mem.pwbWait = []) :
    drainChannel m s = s := by
  unfold drainChannel
  rw [h1, h2, h3]
  simp only [List.length_nil, finishOps, h2, List.filter_nil, List.foldl_nil]

theorem mem_blankLost (m r : Nat) (s : State) : r ∈ (blankLost m s).mem.written ↔
    r ∈ s.mem.written ∧ ¬ ∃ g ∈ lostSegments s m, g.1 ≤ r ∧ r < g.1 + g.2 := by
  unfold blankLost blankIf
  simp [updMem, List.mem_filter]

theorem only_blankLost (m : Nat) (s : State) : Only [.mem] s (blankLost m s) := only_updMem _ _

/-! ### DARK (R227) -/

/-- No lap of the pool ends while no channel has completed one. -/
theorem poolLapCheck_open {s : State} (h : ∀ k, (chanOf s k).lapInPool = false) : poolLapCheck s = s := by
  unfold poolLapCheck
  dsimp only
  refine if_pos ?_
  cases hl : (List.range 8).filter (fun m => chanPresent s m && decide (chanState s m ≠ 4)) with
  | nil => rfl
  | cons m l => simp [h]

/-- A channel turned DARK, before what is queued for it is lost. -/
def darkened (m sc : Nat) (cause : Cause) (s : State) : State :=
  let s := closeRows m (setChanState m 4 s)
  let s := setChan m (fun c => { c with recover := false }) s
  let s := setSched m 1 (fun x => { x with replay := false }) (setSched m 0 (fun x => { x with replay := false }) s)
  raise cause m (unitRec m 2 sc 4) s

/-- The channel turned DARK, before its cause is raised. -/
def darkState (m : Nat) (s : State) : State :=
  setSched m 1 (fun x => { x with replay := false }) (setSched m 0 (fun x => { x with replay := false })
    (setChan m (fun c => { c with recover := false }) (closeRows m (setChanState m 4 s))))

theorem darkened_eq (m sc : Nat) (cause : Cause) (s : State) : darkened m sc cause s = raise cause m (unitRec m 2 sc 4) (darkState m s) := rfl

/-- A change of a channel that keeps what `g` reads of it. -/
theorem setChan_keeps {α : Type} (g : Chan → α) {f : Chan → Chan} (hf : ∀ c, g (f c) = g c) (m k : Nat) (s : State) :
    g (chanOf (setChan m f s) k) = g (chanOf s k) := by
  by_cases hk : k = m
  · subst hk
    rw [chanOf_setChan_same, hf]
  · rw [chanOf_setChan_ne hk]

/-- A change of a scheduler keeps what `g` reads of the channel beside its schedulers. -/
theorem setSched_keeps {α : Type} (g : Chan → α) (hg : ∀ c a b, g { c with sched0 := a, sched1 := b } = g c) (m sc k : Nat)
    (f : Sched → Sched) (s : State) : g (chanOf (setSched m sc f s) k) = g (chanOf s k) := by
  refine setChan_keeps g (fun c => ?_) m k s
  split
  · exact hg c _ c.sched1
  · exact hg c c.sched0 _

theorem darkState_frame (m : Nat) (s : State) : ChanEntered m 4 s (darkState m s) ∧
    ∀ k, (chanOf (darkState m s) k).lapInPool = (chanOf s k).lapInPool := by
  refine ⟨chanEntered_of (by decide) (ChanAlone.refl m s) ?_ ?_, fun k => ?_⟩
  · exact (chanAlone_setChan m _ _).trans ((chanAlone_setChan m _ _).trans ((chanAlone_setSched m 0 _ _).trans (chanAlone_setSched m 1 _ _)))
  · rw [darkState, setSched_keeps Chan.openRow (fun _ _ _ => rfl), setSched_keeps Chan.openRow (fun _ _ _ => rfl), chanOf_setChan_same,
      closeRows, chanOf_setChan_same]
  · rw [darkState, setSched_keeps Chan.lapInPool (fun _ _ _ => rfl), setSched_keeps Chan.lapInPool (fun _ _ _ => rfl),
      setChan_keeps Chan.lapInPool (f := fun c => { c with recover := false }) (fun _ => rfl), closeRows,
      setChan_keeps Chan.lapInPool (f := fun c => { c with openRow := [] }) (fun _ => rfl),
      chanOf_congr (congrArg MemSide.chans (only_setChanState m 4 s).mem)]

/-- The reads queued for a channel complete as uncorrectable. -/
def readsLost (m : Nat) (s : State) : State :=
  (s.mem.memq.filter (fun q => decide (chanNo s q.line = m))).foldl (fun s q =>
    if q.sector then completeSector q [] s else completeRead q [] s) s

/-- The lines buffered for a channel are dropped. -/
def linesDropped (m : Nat) (s : State) : State :=
  (s.mem.pwb.filter (fun p => decide (chanNo s p.line = m))).foldl (fun s p =>
    if s.mem.pwb.contains p then dropLine p s else s) s

/-- The lines that wait for room on their way to a channel are dropped. -/
def waitsDropped (m : Nat) (s : State) : State :=
  (s.mem.pwbWait.filter (fun p => decide (chanNo s p.ent.line = m))).foldl (fun s p =>
    if s.mem.pwbWait.contains p then dropWaiting p s else s) s

theorem enterDark_eq (m sc : Nat) (cause : Cause) (s : State) :
    enterDark m sc cause s = poolLapCheck (waitsDropped m (linesDropped m (readsLost m (darkened m sc cause s)))) := rfl

theorem readsLost_empty {s : State} (h : s.mem.memq = []) (m : Nat) : readsLost m s = s := by
  unfold readsLost
  rw [h]
  rfl

theorem linesDropped_empty {s : State} (h : s.mem.pwb = []) (m : Nat) : linesDropped m s = s := by
  unfold linesDropped
  rw [h]
  rfl

theorem waitsDropped_empty {s : State} (h : s.mem.pwbWait = []) (m : Nat) : waitsDropped m s = s := by
  unfold waitsDropped
  rw [h]
  rfl

/-- With nothing queued a channel that turns DARK loses no operation. -/
theorem enterDark_idle {s : State} (m sc : Nat) (cause : Cause) (h1 : s.mem.memq = []) (h2 : s.mem.pwb = []) (h3 : s.mem.pwbWait = [])
    (hl : ∀ k, (chanOf s k).lapInPool = false) : enterDark m sc cause s = darkened m sc cause s := by
  obtain ⟨⟨-, -, -, hmem, -⟩, hlap⟩ := darkState_frame m s
  have hm : (darkened m sc cause s).mem = (darkState m s).mem := (only_raise _ _ _ _).mem
  rw [hmem] at hm
  have hopen : ∀ k, (chanOf (darkened m sc cause s) k).lapInPool = false := fun k => by
    rw [darkened_eq, chanOf_congr (congrArg MemSide.chans (only_raise _ _ _ _).mem) k, hlap k, hl k]
  rw [enterDark_eq, readsLost_empty (by rw [hm]; exact h1), linesDropped_empty (by rw [hm]; exact h2),
    waitsDropped_empty (by rw [hm]; exact h3), poolLapCheck_open hopen]

/-- A channel turned DARK for an LF cause of the channels. -/
theorem darkened_frame {m : Nat} (hm : m < 8) (sc : Nat) {cause : Cause} (hcls : cause.cls = .lf) (hdom : cause.domain = 2) (s : State) :
    chanState (darkened m sc cause s) m = 4 ∧ Caused (darkened m sc cause s) cause m ∧
    rd (darkened m sc cause s) 0x010028 = satInc32 (rd s 0x010028) ∧
    (darkened m sc cause s).mem = { s.mem with chans := (darkened m sc cause s).mem.chans } ∧
    Only [.regs, .mem] s (darkened m sc cause s) := by
  obtain ⟨⟨hst, -, -, hmem, hO, hR⟩, -⟩ := darkState_frame m s
  have hO2 := only_raise_regs (c := cause) (by rw [hcls]; decide) m (unitRec m 2 sc 4) (darkState m s)
  rw [darkened_eq]
  refine ⟨?_, caused_raise _ (by omega) _ _, ?_, ?_, hO.trans (hO2.mono (by simp))⟩
  · rw [chanState_of_regs (regsOnly_raise _ _ _ _ _ ?_), hst]
    have hreg : causeReg cause.domain m = 0x010300 + 8 * m := by rw [hdom]; rfl
    unfold ClassReg oMcStatus chanBase
    omega
  · rw [rd_raise_counter (o := 0x010028) (by rw [hcls]; rfl) (by omega), hR _ (by unfold oMcStatus chanBase; omega)]
  · rw [hO2.mem]
    exact hmem

/-- A self-refresh entry begins: the regions that are not kept turn blank, and SREF_PEND is set. -/
theorem exec_sref {m : Nat} {s : State} (hm : m < 8) (ha : asleep s = false) (h1 : chanOff s m = false) (h2 : chanState s m = 1)
    (h3 : srefPend s m = false) (hl : losesUsed s m = false) (hq : s.mem.memq = []) (hb : s.mem.pwb = []) (hw : s.mem.pwbWait = []) :
    ∃ t, exec (.sref m) s = .next t ∧ srefPend t m = true ∧ chanState t m = 1 ∧ Acked s t ∧
      (∀ r, r ∈ t.mem.written ↔ r ∈ s.mem.written ∧ ¬ ∃ g ∈ lostSegments s m, g.1 ≤ r ∧ r < g.1 + g.2) ∧
      Only [.cap, .regs, .mem] s t ∧ RegsOnly (· = oMcStatus m) s t := by
  have hop : opSref m (answered false 0 s) = wrf (blankLost m (answered false 0 s)) (oMcStatus m) 6 1 1 := by
    unfold opSref
    rw [drainChannel_empty (s := answered false 0 s) m hq hb hw, if_neg]
    rw [mcAllowed_true (s := answered false 0 s) h1 h2 h3, show losesUsed (answered false 0 s) m = losesUsed s m from rfl, hl]
    decide
  have hO1 := only_blankLost m (answered false 0 s)
  have hO2 := only_wrf (blankLost m (answered false 0 s)) (oMcStatus m) 6 1 1
  have hOt : Only [.cap, .regs, .mem] s (wrf (blankLost m (answered false 0 s)) (oMcStatus m) 6 1 1) :=
    ((only_answered _ _ _).mono (by simp)).trans ((hO1.mono (by simp)).trans (hO2.mono (by simp)))
  have hR : RegsOnly (· = oMcStatus m) s (wrf (blankLost m (answered false 0 s)) (oMcStatus m) 6 1 1) := regsOnly_wrf _ _ _ _ rfl
  refine ⟨_, onUnit_next (decide_eq_true hm) (capCmd_eq (capAnswers_of_asleep ha) hop hOt.pending hOt.aon), ?_, ?_, hO2.cap.trans hO1.cap,
    fun r => mem_blankLost m r (answered false 0 s), hOt, hR⟩
  · rw [srefPend, rd_wrf_same, bitOf_setFld_one _ _ _ (by decide)]
    rfl
  · rw [chanState, rdf_wrf_field_ne _ _ _ _ _ _ _ (by decide) (by decide)]
    exact h2

theorem exec_srefDone {m : Nat} {s : State} (hm : m < 8) (ha : asleep s = false) (hp : srefPend s m = true) :
    ∃ t, exec (.srefDone m) s = .next t ∧ chanState t m = 3 ∧ srefPend t m = false ∧ Caused t .srefDone m ∧
      (chanOf t m).openRow = [] ∧ Only [.regs, .mem] s t := by
  have hO := only_enterSref m s
  refine ⟨_, exec_live (decide_eq_true hm) ha (if_pos hp) hO.pending hO.aon, chanState_enterSref m s, ?_, ?_, ?_, hO⟩
  · rw [enterSref, raiseAt_none rfl, srefPend, rd_wr_ne _ _ (causeReg_ne_mcStatus rfl m)]
    exact srefPend_setChanState m 3 _
  · exact caused_raise _ (by omega) PsRec.none _
  · have hO3 : Only [.regs] (prechargeAll m (writePasr m 16 s)) (enterSref m s) :=
      (only_setChanState m 3 _).trans (only_raise_regs (by decide) m PsRec.none _)
    rw [chanOf_congr (congrArg MemSide.chans hO3.mem)]
    exact openRow_prechargeAll m (writePasr m 16 s)

theorem exec_pauseTimeout {m : Nat} {s : State} (hm : m < 8) (ha : asleep s = false) (h1 : chanOff s m = false) (h2 : chanState s m = 2)
    (h3 : srefPend s m = false) : ∃ t, exec (.pauseTimeout m) s = .next t ∧ chanState t m = 1 ∧ Caused t .pauseTimeout m ∧ Only [.regs] s t ∧
      RegsOnly (fun o => o = oMcStatus m ∨ o = 0x010300 + 8 * m) s t := by
  have hO : Only [.regs] s (raiseAt .pauseTimeout m (setChanState m 1 s)) :=
    (only_setChanState m 1 s).trans (only_raise_regs (by decide) _ _ _)
  refine ⟨_, exec_live (decide_eq_true hm) ha (if_pos (mcAllowed_true h1 h2 h3)) hO.pending hO.aon, ?_, caused_raise _ (by omega) _ _, hO, ?_⟩
  · rw [raiseAt_none rfl, chanState_of_regs (rd_wr_ne _ _ (causeReg_ne_mcStatus rfl m)), chanState_setChanState_same]
    rfl
  · rw [raiseAt_none rfl]
    exact ((regsOnly_setChanState m 1 s).mono fun o h => .inl h).trans (regsOnly_wr _ _ (.inr rfl))

theorem exec_darken {m : Nat} {s : State} (hm : m < 8) (hc : capAnswers s = true) (h1 : chanOff s m = false) (h2 : chanState s m ≠ 4)
    (hq : s.mem.memq = []) (hb : s.mem.pwb = []) (hw : s.mem.pwbWait = []) (hlap : ∀ k, (chanOf s k).lapInPool = false) :
    ∃ t, exec (.darken m) s = .next t ∧ chanState t m = 4 ∧ Caused t .chDark m ∧ rd t 0x010028 = satInc32 (rd s 0x010028) ∧
      t.mem = { s.mem with chans := t.mem.chans } ∧ Acked s t ∧ Only [.cap, .regs, .mem] s t := by
  have hop : opDarken m (answered false 0 s) = darkened m 0 .chDark (answered false 0 s) := by
    refine Eq.trans (if_neg ?_) (enterDark_idle (s := answered false 0 s) m 0 .chDark hq hb hw hlap)
    rw [show chanOff (answered false 0 s) m = chanOff s m from rfl, show chanState (answered false 0 s) m = chanState s m from rfl,
      h1, decide_eq_false h2]
    decide
  obtain ⟨hst, hce, hcnt, hmem, hO⟩ := darkened_frame hm 0 (cause := .chDark) rfl rfl (answered false 0 s)
  have hOt : Only [.cap, .regs, .mem] s _ := ((only_answered _ _ _).mono (by simp)).trans (hO.mono (by simp))
  exact ⟨_, onUnit_next (decide_eq_true hm) (capCmd_eq hc hop hOt.pending hOt.aon), hst, hce, hcnt, hmem, hO.cap, hOt⟩

/-- A channel command in the state that accepts it, and in any other. -/
theorem exec_chanCommand {m : Nat} {s : State} (hm : m < 8) (hc : capAnswers s = true) {p : Instr × Nat × Nat}
    (hp : p ∈ [(Instr.start m, 0, 1), (.resume m, 2, 1), (.exit m, 3, 1), (.exitInit m, 3, 0), (.pause m, 1, 2)]) :
    (chanOff s m = false → chanState s m = p.2.1 → srefPend s m = false →
      (p.1 = .pause m → rdf s (chanBase m + 0x50) 0 8 < rdf s 0x02001C 0 20) →
      ∃ t, exec p.1 s = .next t ∧ chanState t m = p.2.2 ∧ (chanOf t m).openRow = [] ∧
        (∀ k, k ≠ m → chanOf t k = chanOf s k) ∧ t.mem = { s.mem with chans := t.mem.chans } ∧ Acked s t ∧
        Only [.cap, .regs, .mem] s t ∧ RegsOnly (· = oMcStatus m) s t) ∧
    (chanOff s m = true ∨ chanState s m ≠ p.2.1 ∨ srefPend s m = true →
      exec p.1 s = .next (wr (answered false 0 s) (0x010300 + 8 * m) (rd s (0x010300 + 8 * m) ||| 0x100#64))) := by
  simp only [List.mem_cons, List.not_mem_nil, or_false] at hp
  rcases hp with rfl | rfl | rfl | rfl | rfl <;> refine ⟨fun h1 h2 h3 hlim => ?_, fun h => ?_⟩
  · exact exec_chanEntered hm hc rfl (if_pos (mcAllowed_true (s := answered false 0 s) h1 h2 h3)) (chanEntered_enterRun m (ChanAlone.refl m _))
  · exact exec_mcRefused hm hc rfl (if_neg (by rw [mcAllowed_false (s := answered false 0 s) h]; decide))
  · exact exec_chanEntered hm hc rfl (if_pos (mcAllowed_true (s := answered false 0 s) h1 h2 h3)) (chanEntered_enterRun m (ChanAlone.refl m _))
  · exact exec_mcRefused hm hc rfl (if_neg (by rw [mcAllowed_false (s := answered false 0 s) h]; decide))
  · exact exec_chanEntered hm hc rfl (if_pos (mcAllowed_true (s := answered false 0 s) h1 h2 h3)) (chanEntered_enterRun m (chanAlone_writePasr m 24 _))
  · exact exec_mcRefused hm hc rfl (if_neg (by rw [mcAllowed_false (s := answered false 0 s) h]; decide))
  · exact exec_chanEntered hm hc rfl (if_pos (mcAllowed_true (s := answered false 0 s) h1 h2 h3)) (chanEntered_init m _)
  · exact exec_mcRefused hm hc rfl (if_neg (by rw [mcAllowed_false (s := answered false 0 s) h]; decide))
  · refine exec_chanEntered hm hc rfl (if_pos ?_) (chanEntered_paused m _)
    rw [mcAllowed_true (s := answered false 0 s) h1 h2 h3, Bool.true_and]
    exact decide_eq_true (hlim rfl)
  · refine exec_mcRefused hm hc rfl (if_neg ?_)
    rw [mcAllowed_false (s := answered false 0 s) h, Bool.false_and]
    decide

/-- Settles O46: each command by the guard it runs under; what is accepted changes its channel alone. -/
theorem channelStates : Obligations.ChannelStates := by
  unfold Obligations.ChannelStates
  refine ⟨fun m s hm hc p hp => exec_chanCommand hm hc hp, fun m s hm ha => ⟨exec_sref hm ha, fun hl => ?_, exec_srefDone hm ha,
    exec_pauseTimeout hm ha, ?_⟩, fun m s hm hc => ⟨exec_darken hm hc, fun h => ?_⟩⟩
  · refine exec_mcRefused hm (capAnswers_of_asleep ha) rfl (if_pos ?_)
    rw [show losesUsed (answered false 0 s) m = losesUsed s m from rfl, hl, Bool.or_true]
  · exact ⟨opBatchEnd m s, exec_live (decide_eq_true hm) ha rfl rfl rfl, chanOf_setChan_same _ _ _,
      (chanAlone_setChan m _ s).2, (chanAlone_setChan m _ s).only⟩
  · refine exec_mcRefused hm hc rfl (if_pos ?_)
    rw [show chanState (answered false 0 s) m = chanState s m from rfl, decide_eq_true h, Bool.or_true]

end Sys2Proof.Machine
end

section
/-! PROOFS. Refresh, temperature polls and command replays (O47: R238, R239, R243, R248 to R250). -/

namespace Sys2Proof.Machine

/-! ### Schedulers -/

theorem schedOf_setSched_same {sc : Nat} (m : Nat) (f : Sched → Sched) (s : State) :
    schedOf (setSched m sc f s) m sc = f (schedOf s m sc) := by
  unfold schedOf setSched
  rw [chanOf_setChan_same]
  split <;> rfl

theorem schedOf_setSched_ne {sc sd : Nat} (m : Nat) (f : Sched → Sched) (s : State) (h : sc = 0 ∧ sd ≠ 0 ∨ sc ≠ 0 ∧ sd = 0) :
    schedOf (setSched m sd f s) m sc = schedOf s m sc := by
  unfold schedOf setSched
  rw [chanOf_setChan_same]
  rcases h with ⟨h1, h2⟩ | ⟨h1, h2⟩
  · rw [if_pos h1, if_neg h2, if_pos h1]
  · rw [if_neg h1, if_pos h2, if_neg h1]

/-- A change of the channel beside its schedulers keeps them. -/
theorem schedOf_setChan {m sc : Nat} {f : Chan → Chan} (h0 : ∀ c, (f c).sched0 = c.sched0) (h1 : ∀ c, (f c).sched1 = c.sched1)
    (s : State) : schedOf (setChan m f s) m sc = schedOf s m sc := by
  unfold schedOf
  rw [chanOf_setChan_same, h0, h1]

theorem schedOf_congr {s t : State} (h : t.mem.chans = s.mem.chans) (m sc : Nat) : schedOf t m sc = schedOf s m sc := by
  rw [schedOf, schedOf, chanOf_congr h]

theorem replaying_congr {s t : State} (h : t.mem.chans = s.mem.chans) (m sc : Nat) : replaying t m sc = replaying s m sc := by
  rw [replaying, replaying, schedOf_congr h]

/-! ### Refresh (R238, R243) -/

theorem takeDrift_alone (m sc rank : Nat) (s : State) : ChanAlone m s (takeDrift m sc rank s) :=
  ChanAlone.foldl (fun t _ => chanAlone_setChan m _ t) _ s

/-- Offset q of a rank's drift registers takes effect. -/
def driftTaken (m sc rank : Nat) (s : State) (q : Nat) : State :=
  let v := lo32 (rd s (chanBase m + delaySet sc rank (0xF4 + 4 * q)))
  setChan m (fun c => { c with drift := sPut 0 c.drift ((sc * 8 + rank) * 3 + q) v }) s

theorem takeDrift_eq (m sc rank : Nat) (s : State) : takeDrift m sc rank s =
    driftTaken m sc rank (driftTaken m sc rank (driftTaken m sc rank s 0) 1) 2 := rfl

theorem drift_driftTaken_same (m sc rank q : Nat) (s : State) :
    sGet 0 (chanOf (driftTaken m sc rank s q) m).drift ((sc * 8 + rank) * 3 + q) =
      lo32 (rd s (chanBase m + delaySet sc rank (0xF4 + 4 * q))) := by
  rw [driftTaken, chanOf_setChan_same, sGet_sPut_same]

theorem drift_driftTaken_ne (m sc rank q : Nat) {k : Nat} (s : State) (h : k ≠ (sc * 8 + rank) * 3 + q) :
    sGet 0 (chanOf (driftTaken m sc rank s q) m).drift k = sGet 0 (chanOf s m).drift k := by
  rw [driftTaken, chanOf_setChan_same, sGet_sPut_ne _ _ _ _ h]

theorem drift_takeDrift_same (m sc rank : Nat) {q : Nat} (hq : q < 3) (s : State) :
    sGet 0 (chanOf (takeDrift m sc rank s) m).drift ((sc * 8 + rank) * 3 + q) =
      lo32 (rd s (chanBase m + delaySet sc rank (0xF4 + 4 * q))) := by
  have hr : ∀ (t : State) (k o : Nat), rd (driftTaken m sc rank t k) o = rd t o := fun _ _ _ => rfl
  rw [takeDrift_eq]
  have h3 : q = 0 ∨ q = 1 ∨ q = 2 := by omega
  rcases h3 with rfl | rfl | rfl
  · rw [drift_driftTaken_ne _ _ _ _ _ (by omega), drift_driftTaken_ne _ _ _ _ _ (by omega), drift_driftTaken_same]
  · rw [drift_driftTaken_ne _ _ _ _ _ (by omega), drift_driftTaken_same, hr]
  · rw [drift_driftTaken_same, hr, hr]

theorem drift_takeDrift_ne (m sc rank : Nat) {k : Nat} (s : State) (h : ∀ q, q < 3 → k ≠ (sc * 8 + rank) * 3 + q) :
    sGet 0 (chanOf (takeDrift m sc rank s) m).drift k = sGet 0 (chanOf s m).drift k := by
  rw [takeDrift_eq, drift_driftTaken_ne _ _ _ _ _ (h 2 (by decide)), drift_driftTaken_ne _ _ _ _ _ (h 1 (by decide)),
    drift_driftTaken_ne _ _ _ _ _ (h 0 (by decide))]

theorem chan_takeDrift {α : Type} (g : Chan → α) (hg : ∀ c d, g { c with drift := d } = g c) (m sc rank : Nat) (s : State) :
    g (chanOf (takeDrift m sc rank s) m) = g (chanOf s m) := by
  have h : ∀ t q, g (chanOf (driftTaken m sc rank t q) m) = g (chanOf t m) := fun t q => by
    rw [driftTaken, chanOf_setChan_same, hg]
  rw [takeDrift_eq, h, h, h]

/-- A rank of one subchannel refreshed. -/
def refreshed (m rank sc : Nat) (s : State) : State :=
  takeDrift m sc rank (closeRank m sc rank (issueCmds m sc [rankCmd s .pre rank, rankCmd s .ref rank] s))

theorem refreshOn_eq {m rank sc : Nat} {s : State} (h : replaying s m sc = false) (hw : windowRoom s m sc 2 = true) :
    refreshOn m rank sc s = refreshed m rank sc s := by
  unfold refreshOn
  rw [show (schedOf s m sc).replay = false from h, hw]
  rfl

theorem refreshed_frame (m rank sc : Nat) (s : State) : ChanAlone m s (refreshed m rank sc s) ∧
    (chanOf (refreshed m rank sc s) m).openRow = (chanOf s m).openRow.filter (fun p => decide (p.1 / 32 ≠ sc * 8 + rank)) ∧
    (∀ q, q < 3 → sGet 0 (chanOf (refreshed m rank sc s) m).drift ((sc * 8 + rank) * 3 + q) =
      lo32 (rd s (chanBase m + 0x3000 + 0x1000 * sc + 0x100 * rank + 0xF4 + 4 * q))) ∧
    ∀ k, (∀ q, q < 3 → k ≠ (sc * 8 + rank) * 3 + q) →
      sGet 0 (chanOf (refreshed m rank sc s) m).drift k = sGet 0 (chanOf s m).drift k := by
  refine ⟨?_, ?_, fun q hq => ?_, fun k hk => ?_⟩
  · exact (chanAlone_setSched m sc _ s).trans ((chanAlone_setChan m _ _).trans (takeDrift_alone m sc rank _))
  · rw [refreshed, chan_takeDrift Chan.openRow (fun _ _ => rfl), closeRank, chanOf_setChan_same, issueCmds,
      setSched_keeps Chan.openRow (fun _ _ _ => rfl)]
  · rw [refreshed, drift_takeDrift_same _ _ _ hq]
    have ho : chanBase m + delaySet sc rank (0xF4 + 4 * q) = chanBase m + 0x3000 + 0x1000 * sc + 0x100 * rank + 0xF4 + 4 * q := by
      unfold delaySet
      omega
    rw [ho]
    rfl
  · rw [refreshed, drift_takeDrift_ne _ _ _ _ hk, closeRank,
      setChan_keeps Chan.drift (f := fun c => { c with openRow := c.openRow.filter _ }) (fun _ => rfl), issueCmds,
      setSched_keeps Chan.drift (fun _ _ _ => rfl)]

/-- The refresh of subchannel 0 leaves the scheduler of subchannel 1. -/
theorem schedOf_refreshed (m rank : Nat) (s : State) : schedOf (refreshed m rank 0 s) m 1 = schedOf s m 1 := by
  have h : ∀ t : State, schedOf (takeDrift m 0 rank t) m 1 = (chanOf (takeDrift m 0 rank t) m).sched1 := fun _ => rfl
  rw [refreshed, h, chan_takeDrift Chan.sched1 (fun _ _ => rfl)]
  show schedOf (closeRank m 0 rank _) m 1 = _
  rw [closeRank, schedOf_setChan (f := fun c => { c with openRow := c.openRow.filter _ }) (fun _ => rfl) (fun _ => rfl), issueCmds, schedOf_setSched_ne _ _ _ (.inr ⟨by decide, rfl⟩)]

theorem windowRoom_congr {s t : State} {m sc : Nat} (hr : t.regs = s.regs) (ha : t.aon = s.aon) (h : schedOf t m sc = schedOf s m sc)
    (n : Nat) : windowRoom t m sc n = windowRoom s m sc n := by
  unfold windowRoom dataRate
  rw [h, ha, rdf_congr hr, rdf_congr hr]

/-! ### Polls (R239) -/

/-- A poll of one rank that does not report a critical temperature, before the channel becomes hot or cool. -/
def polled (m : Nat) (r : RankRate) (s : State) : State :=
  setChan m (fun c => { c with tcrit := false, cool := if r.hot then 0 else c.cool + 1 })
    (wrf (wrf s (chanBase m + 0x44) 8 3 r.code.toNat) (chanBase m + 0x44) 12 3 0)

theorem opRefreshPoll_eq {m : Nat} {r : RankRate} {s : State} (hr : refreshing s m = true) (hn : 0 < chanRanks s m) (hc : r.crit = false) :
    opRefreshPoll m [r] s =
      if r.hot then (if bitOf (rd s (oMcStatus m)) 5 then polled m r s else raiseAt .refHot m (wrf (polled m r s) (oMcStatus m) 5 1 1))
      else if bitOf (rd s (oMcStatus m)) 5 && decide (2 ≤ (chanOf (polled m r s) m).cool) then
        raiseAt .refCool m (wrf (polled m r s) (oMcStatus m) 5 1 0)
      else polled m r s := by
  have hne : oMcStatus m ≠ chanBase m + 0x44 := by unfold oMcStatus; omega
  have ht : [r].take (chanRanks s m) = [r] := by
    obtain ⟨k, hk⟩ := Nat.exists_eq_succ_of_ne_zero (Nat.ne_of_gt hn)
    rw [hk, List.take_succ_cons, List.take_nil]
  unfold opRefreshPoll
  rw [ht, hr]
  simp only [List.isEmpty_cons, Bool.not_true, Bool.or_self, Bool.false_eq_true, if_false, List.any_cons, List.any_nil, hc, Bool.or_false,
    Bool.false_or, topRate, List.isEmpty_nil, Bool.true_or, if_true, rd_wrf_ne _ _ _ _ hne]
  rfl

theorem polled_frame (m : Nat) (r : RankRate) (s : State) : Only [.regs, .mem] s (polled m r s) ∧
    rdf (polled m r s) (chanBase m + 0x44) 8 3 = r.code.toNat ∧ rdf (polled m r s) (chanBase m + 0x44) 12 3 = 0 ∧
    bitOf (rd (polled m r s) (oMcStatus m)) 5 = bitOf (rd s (oMcStatus m)) 5 ∧
    (chanOf (polled m r s) m).cool = if r.hot then 0 else (chanOf s m).cool + 1 := by
  have hregs := fun o => rd_congr (chanAlone_setChan m (fun c => { c with tcrit := false, cool := if r.hot then 0 else c.cool + 1 })
    (wrf (wrf s (chanBase m + 0x44) 8 3 r.code.toNat) (chanBase m + 0x44) 12 3 0)).regs o
  change ∀ o, rd (polled m r s) o = _ at hregs
  have hne : oMcStatus m ≠ chanBase m + 0x44 := by unfold oMcStatus; omega
  refine ⟨?_, ?_, ?_, ?_, ?_⟩
  · exact (((only_wrf _ _ _ _ _).trans (only_wrf _ _ _ _ _)).mono (by simp)).trans ((chanAlone_setChan m _ _).only.mono (by simp))
  · rw [rdf, hregs, ← rdf, rdf_wrf_field_ne _ _ _ _ _ _ _ (by decide) (by decide), rdf_wrf_same _ _ _ _ _ (by decide)]
    exact Nat.mod_eq_of_lt r.code.isLt
  · rw [rdf, hregs, ← rdf, rdf_wrf_same _ _ _ _ _ (by decide)]
    rfl
  · rw [hregs, rd_wrf_ne _ _ _ _ hne, rd_wrf_ne _ _ _ _ hne]
  · have hO := (only_wrf s (chanBase m + 0x44) 8 3 r.code.toNat).trans (only_wrf _ (chanBase m + 0x44) 12 3 0)
    rw [polled, chanOf_setChan_same, ← chanOf_congr (congrArg MemSide.chans hO.mem)]

/-! ### Replays (R249, R250) -/

theorem replaying_setReplay {sc : Nat} (m : Nat) (b : Bool) (s : State) : replaying (setReplay m sc b s) m sc = b := by
  rw [replaying, setReplay, schedOf_setSched_same]

/-- The channel as a replay finds it: marked, with the banks of the subchannel closed. -/
def replayMarked (m sc : Nat) (s : State) : State :=
  setChan m (fun c => { c with openRow := c.openRow.filter (fun p => decide (p.1 / 256 ≠ sc)) }) (setReplay m sc true s)

theorem startReplay_eq (m sc : Nat) (s : State) : startReplay m sc s =
    raiseAt .caParity m (wr (replayMarked m sc s) (chanBase m + 0x74) (satInc32 (rd s (chanBase m + 0x74)))) := rfl

theorem startReplay_frame {m : Nat} (hm : m < 8) (sc : Nat) (s : State) : replaying (startReplay m sc s) m sc = true ∧
    Caused (startReplay m sc s) .caParity m ∧ rd (startReplay m sc s) (chanBase m + 0x74) = satInc32 (rd s (chanBase m + 0x74)) ∧
    rd (startReplay m sc s) (oMcStatus m) = rd s (oMcStatus m) ∧ Only [.regs, .mem] s (startReplay m sc s) := by
  have hA : ChanAlone m s (replayMarked m sc s) := (chanAlone_setSched m sc _ s).trans (chanAlone_setChan m _ _)
  have hW := only_wr (replayMarked m sc s) (chanBase m + 0x74) (satInc32 (rd s (chanBase m + 0x74)))
  have hO : Only [.regs] (replayMarked m sc s) (startReplay m sc s) := hW.trans (only_raise_regs (by decide) _ _ _)
  have hR := regsOnly_raise .caParity m PsRec.none
    (wr (replayMarked m sc s) (chanBase m + 0x74) (satInc32 (rd s (chanBase m + 0x74))))
  have hreg : causeReg Cause.caParity.domain m = 0x010300 + 8 * m := rfl
  refine ⟨?_, caused_raise _ (by omega) PsRec.none _, ?_, ?_, (hA.only.mono (by simp)).trans (hO.mono (by simp))⟩
  · rw [replaying_congr (congrArg MemSide.chans hO.mem), replaying, replayMarked,
      schedOf_setChan (f := fun c => { c with openRow := c.openRow.filter _ }) (fun _ => rfl) (fun _ => rfl)]
    exact replaying_setReplay m true s
  · rw [startReplay_eq, raiseAt, hR _ (by unfold ClassReg chanBase; omega), rd_wr_same]
  · rw [startReplay_eq, raiseAt, hR _ (by unfold ClassReg oMcStatus chanBase; omega), rd_wr_ne _ _ (by unfold oMcStatus; omega)]
    rfl

/-- The failed replays of a subchannel. -/
theorem failReplay_eq (m sc : Nat) (s : State) : failReplay m sc s =
    if 4 ≤ rdf s (oMcStatus m) (8 + 4 * sc) 3 + 1 then
      enterDark m sc .caFail (wrf s (oMcStatus m) (8 + 4 * sc) 3 (rdf s (oMcStatus m) (8 + 4 * sc) 3 + 1))
    else startReplay m sc (wrf s (oMcStatus m) (8 + 4 * sc) 3 (rdf s (oMcStatus m) (8 + 4 * sc) 3 + 1)) := rfl

/-- A failed replay that is not the fourth in a row starts the next. -/
theorem failReplay_frame {m sc : Nat} (hm : m < 8) (hsc : sc < 2) {s : State} (hn : rdf s (oMcStatus m) (8 + 4 * sc) 3 < 3) :
    replaying (failReplay m sc s) m sc = true ∧
    rdf (failReplay m sc s) (oMcStatus m) (8 + 4 * sc) 3 = rdf s (oMcStatus m) (8 + 4 * sc) 3 + 1 ∧
    Caused (failReplay m sc s) .caParity m ∧ chanState (failReplay m sc s) m = chanState s m ∧
    Only [.regs, .mem] s (failReplay m sc s) := by
  rw [failReplay_eq, if_neg (by omega)]
  have hW := only_wrf s (oMcStatus m) (8 + 4 * sc) 3 (rdf s (oMcStatus m) (8 + 4 * sc) 3 + 1)
  have hcnt := rdf_wrf_same s (oMcStatus m) (8 + 4 * sc) 3 (rdf s (oMcStatus m) (8 + 4 * sc) 3 + 1) (by omega)
  have hst := rdf_wrf_field_ne s (oMcStatus m) (8 + 4 * sc) 3 (rdf s (oMcStatus m) (8 + 4 * sc) 3 + 1) 0 3 (.inl (by omega)) (by decide)
  generalize wrf s (oMcStatus m) (8 + 4 * sc) 3 (rdf s (oMcStatus m) (8 + 4 * sc) 3 + 1) = u at hW hcnt hst ⊢
  obtain ⟨hr, hc, -, hreg, hO⟩ := startReplay_frame hm sc u
  refine ⟨hr, ?_, hc, ?_, (hW.mono (by simp)).trans hO⟩
  · rw [rdf, hreg, ← rdf, hcnt]
    omega
  · rw [chanState_of_regs hreg, chanState, hst, chanState]

/-! ### The commands issued again -/

/-- Commands issued again change the channels, the bursts' wrong symbols and, where no counter is configured, counts of the Light
Meter alone. -/
def Reissued (s t : State) : Prop := Only [.meter, .mem] s t ∧ MemOnly [.chans, .burstErr] s t

theorem Reissued.refl (s : State) : Reissued s s := ⟨Only.refl _ _, MemOnly.refl _ _⟩

theorem Reissued.trans {s t u : State} (h : Reissued s t) (g : Reissued t u) : Reissued s u := ⟨h.1.trans g.1, h.2.trans g.2⟩

theorem reissued_memChans {s t : State} (h : MemChans s t) : Reissued s t := ⟨h.only.mono (by simp), h.memOnly.mono (by simp)⟩

theorem reissued_count {s : State} (h : NoCounter s) (ev : Nat) (u : Units) (n : Nat) : Reissued s (count ev u n s) := by
  have hO := only_count h ev u n
  exact ⟨hO.mono (by simp), memOnly_of_only _ hO⟩

theorem noCounter_of {s t : State} {k : List Side} (h : NoCounter s) (hO : Only k s t) (hk : .regs ∉ k := by decide) : NoCounter t :=
  (noCounter_congr (hO.regs hk)).2 h

/-- A column command issued again, up to its burst. -/
def columnAgain (m sc : Nat) (close : Bool) (c : DramCmd) (s : State) : State :=
  let cur := sFind (chanOf s m).openRow (cmdBank sc c)
  let act := if cur = some c.row then [] else [{ c with ft := s.aon.ft, op := DramOp.act }]
  let s := if act.isEmpty then s else count 0x1A ⟨none, none, some m⟩ 1 s
  let s := issueCmds m sc (act ++ [{ c with ft := s.aon.ft }]) s
  setChan m (fun h => { h with openRow := if close then sDel h.openRow (cmdBank sc c) else sSet h.openRow (cmdBank sc c) c.row }) s

theorem replayColumn_eq (m sc : Nat) (write close : Bool) (c : DramCmd) (s : State) : replayColumn m sc write close c s =
    if write then updMem (fun x => { x with burstErr := sDel x.burstErr (cmdBurst (columnAgain m sc close c s) m sc c) })
      (columnAgain m sc close c s) else columnAgain m sc close c s := rfl

theorem columnAgain_frame {s : State} (h : NoCounter s) (m sc : Nat) (close : Bool) (c : DramCmd) :
    Reissued s (columnAgain m sc close c s) := by
  unfold columnAgain
  dsimp only
  refine Reissued.trans ?_ ((reissued_memChans (memChans_issueCmds m sc _ _)).trans (reissued_memChans (memChans_setChan m _ _)))
  by_cases he : sFind (chanOf s m).openRow (cmdBank sc c) = some c.row
  · rw [if_pos he]
    exact Reissued.refl s
  · rw [if_neg he, if_neg (by simp)]
    exact reissued_count h _ _ _

theorem openRow_columnAgain (m sc : Nat) (c : DramCmd) (s : State) :
    sFind (chanOf (columnAgain m sc false c s) m).openRow (cmdBank sc c) = some c.row := by
  unfold columnAgain
  dsimp only
  rw [chanOf_setChan_same]
  exact sFind_sSet_same _ _ _

theorem replayColumn_frame {s : State} (h : NoCounter s) (m sc : Nat) (write close : Bool) (c : DramCmd) :
    Reissued s (replayColumn m sc write close c s) := by
  have h1 := columnAgain_frame h m sc close c
  rw [replayColumn_eq]
  split
  · exact h1.trans ⟨(only_updMem _ _).mono (by simp), by simp [memOnly_iff]⟩
  · exact h1

theorem replayCmd_frame {s : State} (h : NoCounter s) (m sc : Nat) (c : DramCmd) : Reissued s (replayCmd m sc s c) := by
  unfold replayCmd
  cases c.op with
  | rd => exact replayColumn_frame h _ _ _ _ _
  | rda => exact replayColumn_frame h _ _ _ _ _
  | wr => exact replayColumn_frame h _ _ _ _ _
  | wra => exact replayColumn_frame h _ _ _ _ _
  | act =>
    exact (reissued_count h _ _ _).trans ((reissued_memChans (memChans_issueCmds m sc _ _)).trans (reissued_memChans (memChans_setChan m _ _)))
  | pre =>
    dsimp only
    split
    · exact (reissued_memChans (memChans_issueCmds m sc _ _)).trans (reissued_memChans (memChans_setChan m _ _))
    · exact (reissued_memChans (memChans_issueCmds m sc _ _)).trans (reissued_memChans (memChans_setChan m _ _))
  | ref => exact (reissued_memChans (memChans_issueCmds m sc _ _)).trans (reissued_memChans (memChans_setChan m _ _))

theorem reissue_frame {s : State} (h : NoCounter s) (m sc : Nat) : Reissued s (reissue m sc s) := by
  have hfold : ∀ (l : List DramCmd) (t : State), NoCounter t → Reissued t (l.foldl (replayCmd m sc) t) := by
    intro l
    induction l with
    | nil => exact fun t _ => Reissued.refl t
    | cons c l ih =>
      intro t ht
      have h1 := replayCmd_frame ht m sc c
      exact h1.trans (ih _ (noCounter_of ht h1.1))
  have hM := memChans_setSched m sc (fun x => { x with retry := [] }) s
  have hl := hfold (schedOf s m sc).retry _ (noCounter_of h hM.only)
  rw [reissue]
  exact (reissued_memChans hM).trans hl

theorem startRecover_keeps {α : Type} (g : Chan → α) (hg : ∀ c b, g { c with recover := b } = g c) (m k : Nat) (s : State) :
    g (chanOf (startRecover m s) k) = g (chanOf s k) := setChan_keeps g (fun c => hg c _) m k s

theorem schedOf_startRecover (m sc : Nat) (s : State) : schedOf (startRecover m s) m sc = schedOf s m sc := by
  rw [schedOf, startRecover_keeps Chan.sched0 (fun _ _ => rfl), startRecover_keeps Chan.sched1 (fun _ _ => rfl), schedOf]

/-- A replay that ends well. -/
def replayDone (m sc : Nat) (u : State) : State := startRecover m (setReplay m sc false (wrf u (oMcStatus m) (8 + 4 * sc) 3 0))

theorem replayDone_frame {m sc : Nat} (hsc : sc < 2) (u : State) : replaying (replayDone m sc u) m sc = false ∧
    rdf (replayDone m sc u) (oMcStatus m) (8 + 4 * sc) 3 = 0 ∧
    (chanOf (replayDone m sc u) m).recover = decide (rdf u (chanBase m + 0x30) 20 8 ≠ 0) ∧
    (chanOf (replayDone m sc u) m).openRow = (chanOf u m).openRow ∧
    Only [.regs, .mem] u (replayDone m sc u) ∧ RegsOnly (· = oMcStatus m) u (replayDone m sc u) ∧
    MemOnly [.chans] u (replayDone m sc u) := by
  have hO := only_wrf u (oMcStatus m) (8 + 4 * sc) 3 0
  have hA : ChanAlone m (wrf u (oMcStatus m) (8 + 4 * sc) 3 0) (replayDone m sc u) :=
    (chanAlone_setSched m sc _ _).trans (chanAlone_setChan m _ _)
  refine ⟨?_, ?_, ?_, ?_, (hO.mono (by simp)).trans (hA.only.mono (by simp)), RegsOnly.trans (p := (· = oMcStatus m)) (regsOnly_wrf u _ _ _ rfl) (regsOnly_of_regs hA.regs),
    (memOnly_of_only _ hO).trans hA.1.memOnly⟩
  · have hs := schedOf_startRecover m sc (setReplay m sc false (wrf u (oMcStatus m) (8 + 4 * sc) 3 0))
    rw [replaying, replayDone, hs]
    exact replaying_setReplay m false _
  · rw [rdf_congr hA.regs, rdf_wrf_same _ _ _ _ _ (by omega)]
    rfl
  · rw [replayDone, startRecover, chanOf_setChan_same]
    have hr : rdf (wrf u (oMcStatus m) (8 + 4 * sc) 3 0) (chanBase m + 0x30) 20 8 = rdf u (chanBase m + 0x30) 20 8 :=
      rdf_wrf_ne _ _ _ _ _ _ (by unfold oMcStatus; omega)
    have hs : (setReplay m sc false (wrf u (oMcStatus m) (8 + 4 * sc) 3 0)).regs = (wrf u (oMcStatus m) (8 + 4 * sc) 3 0).regs :=
      (chanAlone_setSched m sc _ _).regs
    rw [← hr, rdf_congr hs]
  · rw [replayDone, startRecover_keeps Chan.openRow (fun _ _ => rfl), setReplay, setSched_keeps Chan.openRow (fun _ _ _ => rfl), chanOf_congr (congrArg MemSide.chans hO.mem)]

/-- The channel becomes hot or cool. -/
theorem hotSet_frame {m : Nat} (hm : m < 8) {c : Cause} (hcls : c.cls = .none) (hdom : c.domain = 2) (x : Nat) (s : State) :
    Only [.regs] s (raiseAt c m (wrf s (oMcStatus m) 5 1 x)) ∧
    bitOf (rd (raiseAt c m (wrf s (oMcStatus m) 5 1 x)) (oMcStatus m)) 5 = decide (x % 2 = 1) ∧
    rd (raiseAt c m (wrf s (oMcStatus m) 5 1 x)) (chanBase m + 0x44) = rd s (chanBase m + 0x44) := by
  have hreg : causeReg c.domain m = 0x010300 + 8 * m := by rw [hdom]; rfl
  rw [raiseAt_none hcls]
  refine ⟨(only_wrf _ _ _ _ _).trans (only_wr _ _ _), ?_, ?_⟩
  · rw [rd_wr_ne _ _ (causeReg_ne_mcStatus hdom m), rd_wrf_same, bitOf_setFld_one _ _ _ (by decide)]
  · rw [rd_wr_ne _ _ (by rw [hreg]; unfold chanBase; omega), rd_wrf_ne _ _ _ _ (by unfold oMcStatus; omega)]

theorem cmdBurst_congr {s t : State} (h : t.regs = s.regs) (m sc : Nat) (c : DramCmd) : cmdBurst t m sc c = cmdBurst s m sc c := by
  unfold cmdBurst chanRanks
  rw [rd_congr h]

/-- A retry buffer of one write: its burst loses its wrong symbols, and its row is open. -/
theorem reissue_one {m sc : Nat} {k : DramCmd} {s : State} (hn : NoCounter s) (h : (schedOf s m sc).retry = [k]) (hw : k.op = .wr) :
    sFind (reissue m sc s).mem.burstErr (cmdBurst s m sc k) = none ∧
    sFind (chanOf (reissue m sc s) m).openRow (cmdBank sc k) = some k.row := by
  have he : reissue m sc s = replayColumn m sc true false k (setSched m sc (fun x => { x with retry := [] }) s) := by
    rw [reissue, h, List.foldl_cons, List.foldl_nil, replayCmd, hw]
  have hM := memChans_setSched m sc (fun x => { x with retry := [] }) s
  rw [he, replayColumn_eq, if_pos rfl]
  generalize setSched m sc (fun x => { x with retry := [] }) s = u at hM
  have hO := (columnAgain_frame (noCounter_of hn hM.only) m sc false k).1
  have hrow := openRow_columnAgain m sc k u
  rw [cmdBurst_congr (hO.regs.trans hM.regs)]
  generalize columnAgain m sc false k u = v at hrow ⊢
  exact ⟨sFind_sDel_same _ _, hrow⟩

/-- Settles O47: a refresh by its two subchannels, a poll by its one rank, a replay by how it ends. -/
theorem refreshAndReplays : Obligations.RefreshAndReplays := by
  unfold Obligations.RefreshAndReplays
  refine ⟨fun m rank r s hm ha hr hrank => ⟨fun hfree => ?_, fun hcrit => ⟨fun hhot h5 => ?_, fun hhot h5 hcool => ?_, fun hhot h5 hcool => ?_⟩⟩,
    fun m sc s hm hsc ha hoff => ?_⟩
  · obtain ⟨h0, w0⟩ := hfree 0 (by decide)
    obtain ⟨h1, w1⟩ := hfree 1 (by decide)
    obtain ⟨hA0, hrow0, hd0, -⟩ := refreshed_frame m rank 0 s
    have hs := schedOf_refreshed m rank s
    have hop : opRefresh m rank s = refreshed m rank 1 (refreshed m rank 0 s) := by
      unfold opRefresh
      rw [hr, decide_eq_true hrank, refreshOn_eq h0 w0,
        refreshOn_eq (by rw [replaying, hs]; exact h1) (by rw [windowRoom_congr hA0.regs (hA0.only.aon) hs]; exact w1)]
      rfl
    generalize refreshed m rank 0 s = u at hA0 hrow0 hd0 hop
    obtain ⟨hA1, hrow1, hd1, hk1⟩ := refreshed_frame m rank 1 u
    have hA := hA0.trans hA1
    refine ⟨_, exec_live (decide_eq_true hm) ha hop hA.only.pending hA.only.aon, ?_, fun sc q hsc hq => ?_, hA.2, hA.only⟩
    · rw [hrow1, hrow0, List.filter_filter]
      refine List.filter_congr fun p _ => ?_
      simp only [Nat.zero_mul, Nat.zero_add, Nat.one_mul]
      exact Bool.and_comm _ _
    · have hs2 : sc = 0 ∨ sc = 1 := by omega
      rcases hs2 with rfl | rfl
      · rw [hk1 _ (fun j hj => by omega), hd0 q hq]
      · rw [hd1 q hq, rd_congr hA0.regs]
  · have hop := opRefreshPoll_eq hr (Nat.zero_lt_of_lt hrank) hcrit
    rw [if_pos hhot, if_neg (by rw [h5]; decide)] at hop
    obtain ⟨hO, hcode, hzero, -, -⟩ := polled_frame m r s
    obtain ⟨hOt, hb, hR⟩ := hotSet_frame (c := .refHot) hm rfl rfl 1 (polled m r s)
    have hOa := hO.trans (hOt.mono (by simp))
    refine ⟨_, exec_live (decide_eq_true hm) ha hop hOa.pending hOa.aon, hb, caused_raise _ (by omega) PsRec.none _, ?_, ?_, hOa⟩
    · rw [rdf, hR, ← rdf, hcode]
    · rw [rdf, hR, ← rdf, hzero]
  · have hop := opRefreshPoll_eq hr (Nat.zero_lt_of_lt hrank) hcrit
    obtain ⟨hO, hcode, -, -, hc⟩ := polled_frame m r s
    rw [if_neg (by rw [hhot]; decide), if_pos (by rw [h5, hc, hhot]; simpa using hcool)] at hop
    obtain ⟨hOt, hb, hR⟩ := hotSet_frame (c := .refCool) hm rfl rfl 0 (polled m r s)
    have hOa := hO.trans (hOt.mono (by simp))
    refine ⟨_, exec_live (decide_eq_true hm) ha hop hOa.pending hOa.aon, hb, caused_raise _ (by omega) PsRec.none _, ?_, hOa⟩
    rw [rdf, hR, ← rdf, hcode]
  · have hop := opRefreshPoll_eq hr (Nat.zero_lt_of_lt hrank) hcrit
    obtain ⟨hO, -, -, hb, hc⟩ := polled_frame m r s
    rw [hhot, if_neg (by decide), hcool] at hc
    rw [if_neg (by rw [hhot]; decide), if_neg (by rw [h5, hc]; decide)] at hop
    exact ⟨_, exec_live (decide_eq_true hm) ha hop hO.pending hO.aon, hb.trans h5, hc, hO⟩
  · have hok : okSc m sc = true := by rw [okSc, decide_eq_true hsc, okChan, decide_eq_true hm]; rfl
    have halert : chanState s m < 3 → (chanOff s m || decide (3 ≤ chanState s m)) = false := fun h => by
      rw [hoff, decide_eq_false (by omega)]
      rfl
    intro cnt
    refine ⟨fun hst hr => ?_, fun hr hc c hmem hst => ?_, fun hr hc h1 h2 h3 hl => ?_, fun hr hn => ?_⟩
    · have hop : opAlert m sc s = startReplay m sc s := by
        unfold opAlert
        rw [halert hst, hr]
        rfl
      obtain ⟨hrep, hce, hcnt, hreg, hO⟩ := startReplay_frame hm sc s
      refine ⟨_, exec_live hok ha hop hO.pending hO.aon, hrep, hce, hcnt, ?_, chanState_of_regs hreg, hO⟩
      exact congrArg (fld · (8 + 4 * sc) 3) hreg
    · obtain ⟨hrep, hcnt, hce, hcs, hO⟩ := failReplay_frame hm hsc hc
      simp only [List.mem_cons, List.not_mem_nil, or_false] at hmem
      rcases hmem with rfl | rfl
      · have hop : opAlert m sc s = failReplay m sc s := by
          unfold opAlert
          rw [halert (hst rfl), hr]
          rfl
        exact ⟨_, exec_live hok ha hop hO.pending hO.aon, hrep, hcnt, hce, hcs, hO⟩
      · have hop : opReplayEnd m sc true s = failReplay m sc s := by
          unfold opReplayEnd
          rw [hr]
          rfl
        exact ⟨_, exec_live hok ha hop hO.pending hO.aon, hrep, hcnt, hce, hcs, hO⟩
    · have hop : opReplayEnd m sc true s = failReplay m sc s := by
        unfold opReplayEnd
        rw [hr]
        rfl
      have hc4 : 4 ≤ rdf s (oMcStatus m) (8 + 4 * sc) 3 + 1 := Nat.succ_le_succ hc
      rw [failReplay_eq, if_pos hc4] at hop
      have hW := only_wrf s (oMcStatus m) (8 + 4 * sc) 3 (rdf s (oMcStatus m) (8 + 4 * sc) 3 + 1)
      generalize wrf s (oMcStatus m) (8 + 4 * sc) 3 (rdf s (oMcStatus m) (8 + 4 * sc) 3 + 1) = u at hW hop
      rw [enterDark_idle m sc .caFail (by rw [hW.mem]; exact h1) (by rw [hW.mem]; exact h2) (by rw [hW.mem]; exact h3)
        (fun k => by rw [chanOf_congr (congrArg MemSide.chans hW.mem)]; exact hl k)] at hop
      obtain ⟨hst, hce, -, -, hO⟩ := darkened_frame hm sc (cause := .caFail) rfl rfl u
      have hOt := (hW.mono (by simp)).trans hO
      exact ⟨_, exec_live hok ha hop hOt.pending hOt.aon, hst, hce, hOt⟩
    · have hop : opReplayEnd m sc false s = replayDone m sc (reissue m sc s) := by
        unfold opReplayEnd
        rw [hr]
        rfl
      obtain ⟨hO1, hM1⟩ := reissue_frame hn m sc
      have hone : ∀ k, (schedOf s m sc).retry = [k] → k.op = .wr → _ := fun k => reissue_one hn
      generalize reissue m sc s = u at hO1 hM1 hone hop
      obtain ⟨hrep, hcnt, hrec, hrow, hO2, hR2, hM2⟩ := replayDone_frame hsc u (m := m)
      have hOt : Only [.regs, .mem, .meter] s (replayDone m sc u) := (hO1.mono (by simp)).trans (hO2.mono (by simp))
      refine ⟨_, exec_live hok ha hop hOt.pending hOt.aon, hrep, hcnt, ?_, hM2.dram.trans hM1.dram, hM2.ldws.trans hM1.ldws, hOt,
        RegsOnly.trans (regsOnly_of_regs hO1.regs) hR2, fun k hk hw => ?_⟩
      · rw [hrec, rdf_congr hO1.regs]
      · rw [hM2.burstErr, hrow]
        exact hone k hk hw

end Sys2Proof.Machine
end

section
/-! PROOFS. Messages that reach and leave the block; the mailbox of a CXL host, and CXL messages that begin no transaction (O25,
O27: R36, R46, R287, R303 to R306). -/

namespace Sys2Proof.Machine

/-! ### Messages received and sent -/

/-- A message reaches a running block. -/
theorem InRun.hears {ok : Bool} {f : State → State} {s t : State} {k : List Side} (h : InRun s) (hok : ok = true) (hf : f s = t)
    (hO : Only k s t) (hp : .pending ∉ k := by decide) (haon : .aon ∉ k := by decide) : onUnit ok (heard f) s = .next t := by
  obtain ⟨ha, hr, -, -⟩ := h
  exact exec_heard hok ha hr hf (hO.pending hp) (hO.aon haon)

theorem InRun.noCounter {s : State} (h : InRun s) : NoCounter s := h.2.2.2

theorem InRun.notSafe {s : State} (h : InRun s) : isSafe s = false := h.2.2.1

theorem only_received {s : State} (h : NoCounter s) (a n : Nat) : Only [.meter] s (received a n s) := only_count h _ _ _

theorem only_creditUsed (a : Nat) (w : Bool) (s : State) : Only [.links] s (creditUsed a w s) := only_setLink _ _ _

/-- A message received uses a credit of its class. -/
def arrived (a : Nat) (wbk : Bool) (n : Nat) (s : State) : State := creditUsed a wbk (received a n s)

theorem only_arrived {s : State} (h : NoCounter s) (a : Nat) (wbk : Bool) (n : Nat) : Only [.links, .meter] s (arrived a wbk n s) :=
  ((only_received h a n).mono (by simp)).trans ((only_creditUsed a wbk _).mono (by simp))

theorem linkOf_arrived {s : State} (h : NoCounter s) (a n : Nat) : linkOf (arrived a false n s) a =
    { linkOf s a with rxReqs := ((linkOf s a).rxReqs + 1) % 2 ^ 16 } := by
  rw [arrived, creditUsed, linkOf_setLink_same, linkOf_congr (only_received h a n).links]
  rfl

theorem linkOf_arrived_wbk {s : State} (h : NoCounter s) (a n : Nat) : linkOf (arrived a true n s) a =
    { linkOf s a with rxWbks := ((linkOf s a).rxWbks + 1) % 2 ^ 16 } := by
  rw [arrived, creditUsed, linkOf_setLink_same, linkOf_congr (only_received h a n).links]
  rfl

theorem detached_congr {s t : State} (h : t.links = s.links) (a : Nat) : detached t a = detached s a := by
  rw [detached, detached, linkOf_congr h]

theorem detached_arrived {s : State} (h : NoCounter s) (a : Nat) (wbk : Bool) (n : Nat) :
    detached (arrived a wbk n s) a = detached s a := by
  cases wbk with
  | true => rw [detached, linkOf_arrived_wbk h, detached]
  | false => rw [detached, linkOf_arrived h, detached]

theorem portMode_congr {s t : State} (h : t.regs = s.regs) (n : Nat) : portMode t n = portMode s n := rdf_congr h _ _ _

theorem isG6_congr {s t : State} (h : t.regs = s.regs) (a : Nat) : isG6 t a = isG6 s a := by rw [isG6, isG6, portMode_congr h]

theorem isG5_congr {s t : State} (h : t.regs = s.regs) (a : Nat) : isG5 t a = isG5 s a := by rw [isG5, isG5, portMode_congr h]

theorem biOn_congr {s t : State} (h : t.regs = s.regs) (a : Nat) : biOn t a = biOn s a := by rw [biOn, biOn, rd_congr h]

theorem devLoad_congr {s t : State} (h : t.home = s.home) (hr : t.regs = s.regs) (a : Nat) : devLoad t a = devLoad s a := by
  unfold devLoad reqsHeld rwdsHeld reqEntries
  rw [h, isG5_congr hr, rd_congr hr]

theorem tx_sendFrom (input : Nat) (dl : BitVec 32) (m : TxMsg) (s : State) : (sendFrom input dl m s).tx = s.tx ++ [m] :=
  (counts_count _ _ _ (emit m s)).1.tx

theorem only_emit (m : TxMsg) (s : State) : Only [.tx] s (emit m s) := by simp [only_iff, emit]

theorem only_request (p : Packet) (s : State) : Only [.xbar] s (request p s) := by simp [only_iff, request]

theorem only_sendFrom {s : State} (h : NoCounter s) (input : Nat) (dl : BitVec 32) (m : TxMsg) :
    Only [.tx, .xbar, .meter] s (sendFrom input dl m s) := by
  have h1 := only_emit m s
  have h2 := only_count ((noCounter_congr h1.regs).2 h) 0x11 ⟨none, some (destOf m), none⟩ (16 * slotsOf m)
  exact (h1.mono (by simp)).trans ((h2.mono (by simp)).trans ((only_request _ _).mono (by simp)))

theorem tx_send (dl : BitVec 32) (m : TxMsg) (s : State) : (send dl m s).tx = s.tx ++ [m] := tx_sendFrom _ _ _ _

theorem only_send {s : State} (h : NoCounter s) (dl : BitVec 32) (m : TxMsg) : Only [.tx, .xbar, .meter] s (send dl m s) :=
  only_sendFrom h _ _ _

/-- A cause of no class at a unit reaches its register alone. -/
theorem only_raiseAt_none {c : Cause} (h : c.cls = .none) (u : Nat) (s : State) : Only [.regs] s (raiseAt c u s) := by
  rw [raiseAt_none h]
  exact only_wr _ _ _

theorem regsOnly_raiseAt_none {c : Cause} (h : c.cls = .none) (u : Nat) (s : State) :
    RegsOnly (· = causeReg c.domain u) s (raiseAt c u s) := by
  rw [raiseAt_none h]
  exact regsOnly_wr _ _ rfl

theorem caused_raiseAt (c : Cause) {u : Nat} (hu : u < 32) (s : State) : Caused (raiseAt c u s) c u := caused_raise c hu _ s

theorem noCounter_raiseAt {c : Cause} (hcls : c.cls = .none) {u : Nat} (hu : u < 32) {s : State} (h : NoCounter s) :
    NoCounter (raiseAt c u s) := by
  rw [raiseAt_none hcls]
  refine h.wr ?_
  obtain ⟨h1, h2⟩ := causeReg_range (c := c) hu
  rw [← Bool.not_eq_true, inRow_iff]
  omega

/-! ### CXL messages that begin no transaction (R46, R305) -/

theorem cxlGate_eq {q : M2SReq} {read : Bool} {f : State → State} {s : State} (hz : isZcl s q.agent = false) (hn : NoCounter s)
    (hd : detached s q.agent = false) : cxlGate q read f s =
      if isG6 s q.agent && !biOn s q.agent then biRefuse q.agent q.tag read (arrived q.agent false 1 s)
      else f (arrived q.agent false 1 s) := by
  unfold cxlGate
  have hr := (only_arrived hn q.agent false 1).regs
  rw [hz, if_neg (by decide)]
  show (if detached (arrived q.agent false 1 s) q.agent then _ else if isG6 (arrived q.agent false 1 s) q.agent &&
    !biOn (arrived q.agent false 1 s) q.agent then _ else _) = _
  rw [detached_arrived hn, hd, isG6_congr hr, biOn_congr hr]
  rfl

/-- A host without Back-Invalidate gets an answer with no data, or a Cmp. -/
theorem biRefuse_frame {a : Nat} (ha : a < 32) (tag : BitVec 12) (read : Bool) {s : State} (h : NoCounter s) :
    Only [.regs, .tx, .xbar, .meter] s (biRefuse a tag read s) ∧ Caused (biRefuse a tag read s) .biOff (a / 2) ∧
    (biRefuse a tag read s).tx = s.tx ++ [if read then .memData a tag true false (devLoad s a) 0 else .ndr a tag none (devLoad s a)] := by
  have hu : a / 2 < 32 := by omega
  have hO1 := only_raiseAt_none (c := .biOff) rfl (a / 2) s
  have hn := noCounter_raiseAt (c := .biOff) rfl hu h
  have hc := caused_raiseAt .biOff hu s
  have hl : devLoad (raiseAt .biOff (a / 2) s) a = devLoad s a := by
    unfold devLoad reqsHeld rwdsHeld reqEntries isG5 portMode
    have hR := regsOnly_raiseAt_none (c := .biOff) rfl (a / 2) s
    have hcfg : rd (raiseAt .biOff (a / 2) s) (oPtCfg (a / 2)) = rd s (oPtCfg (a / 2)) := by
      refine hR _ ?_
      have := (causeReg_range (c := .biOff) hu).2
      unfold oPtCfg portBase
      omega
    rw [hO1.home, rdf, hcfg, rdf]
  unfold biRefuse
  dsimp only
  generalize raiseAt .biOff (a / 2) s = u at hO1 hn hc hl ⊢
  cases read with
  | true =>
    have hO2 := only_send hn (hostDeadline u a) (.memData a tag true false (devLoad u a) 0)
    refine ⟨(hO1.mono (by simp)).trans (hO2.mono (by simp)), (caused_congr hO2.regs _ _).2 hc, ?_⟩
    rw [if_pos rfl, tx_send, hO1.tx, hl]
    rfl
  | false =>
    have hO2 := only_send hn (hostDeadline u a) (.ndr a tag none (devLoad u a))
    refine ⟨(hO1.mono (by simp)).trans (hO2.mono (by simp)), (caused_congr hO2.regs _ _).2 hc, ?_⟩
    rw [if_neg (by decide), plainCmp, tx_send, hO1.tx, hl]
    rfl

/-- Settles O25: every message uses its credit first, and then the port's own state decides. -/
theorem cxlMessagesWithoutTransaction : Obligations.CxlMessagesWithoutTransaction := by
  unfold Obligations.CxlMessagesWithoutTransaction
  intro q s ha hin hz hd
  have hn := hin.noCounter
  have hok : okAgent q.agent = true := decide_eq_true ha
  have hu : q.agent / 2 < 32 := by omega
  have hA := only_arrived hn q.agent false 1
  have hnA : NoCounter (arrived q.agent false 1 s) := (noCounter_congr hA.regs).2 hn
  have hload : devLoad (arrived q.agent false 1 s) q.agent = devLoad s q.agent := devLoad_congr hA.home hA.regs _
  have hspec : opMemSpecRd q s = if isG6 s q.agent && !biOn s q.agent then raiseAt .biOff (q.agent / 2) (arrived q.agent false 1 s)
      else arrived q.agent false 1 s := by
    unfold opMemSpecRd
    rw [hz, if_neg (by decide)]
    show (if detached (arrived q.agent false 1 s) q.agent then _ else if isG6 (arrived q.agent false 1 s) q.agent &&
      !biOn (arrived q.agent false 1 s) q.agent then _ else _) = _
    rw [detached_arrived hn, hd, isG6_congr hA.regs, biOn_congr hA.regs]
    rfl
  refine ⟨fun c hc => ?_, fun h => ?_, fun h6 hb => ?_⟩
  · have hop : opCxlFwd q s = raiseAt .proto (q.agent / 2) (arrived q.agent false 1 s) := if_neg (by rw [hz]; decide)
    have hO := only_raiseAt_none (c := .proto) rfl (q.agent / 2) (arrived q.agent false 1 s)
    have hOt : Only [.regs, .links, .meter] s _ := (hA.mono (by simp)).trans (hO.mono (by simp))
    simp only [List.mem_cons, List.not_mem_nil, or_false] at hc
    rcases hc with rfl | rfl
    · exact ⟨_, hin.hears hok hop hOt, caused_raiseAt _ hu _, hOt⟩
    · exact ⟨_, hin.hears hok hop hOt, caused_raiseAt _ hu _, hOt⟩
  · have hg : (isG6 s q.agent && !biOn s q.agent) = false := by
      rcases h with h | h
      · rw [h, Bool.false_and]
      · rw [h, Bool.not_true, Bool.and_false]
    refine ⟨?_, ?_⟩
    · have hop : opMemClnEvct q s = plainCmp q.agent q.tag (arrived q.agent false 1 s) :=
        (cxlGate_eq hz hn hd).trans (if_neg (by rw [hg]; decide))
      have hO := only_send hnA (hostDeadline (arrived q.agent false 1 s) q.agent)
        (.ndr q.agent q.tag none (devLoad (arrived q.agent false 1 s) q.agent))
      have hOt : Only [.tx, .xbar, .links, .meter] s (plainCmp q.agent q.tag (arrived q.agent false 1 s)) :=
        (hA.mono (by simp)).trans (hO.mono (by simp))
      refine ⟨_, hin.hears hok hop hOt, ?_, hOt⟩
      rw [plainCmp, tx_send, hA.tx, hload]
    · rw [hg, if_neg (by decide)] at hspec
      refine ⟨_, hin.hears hok hspec hA, ?_, hA⟩
      rw [linkOf_arrived hn]
  · have hg : (isG6 s q.agent && !biOn s q.agent) = true := by rw [h6, hb]; rfl
    refine ⟨?_, ?_, ?_⟩
    · rw [hg, if_pos rfl] at hspec
      have hO := only_raiseAt_none (c := .biOff) rfl (q.agent / 2) (arrived q.agent false 1 s)
      have hOt : Only [.regs, .links, .meter] s _ := (hA.mono (by simp)).trans (hO.mono (by simp))
      exact ⟨_, hin.hears hok hspec hOt, caused_raiseAt _ hu _, hOt⟩
    · have hop : opMemClnEvct q s = biRefuse q.agent q.tag false (arrived q.agent false 1 s) :=
        (cxlGate_eq hz hn hd).trans (if_pos hg)
      obtain ⟨hO, hc, htx⟩ := biRefuse_frame ha q.tag false hnA
      have hOt : Only [.regs, .tx, .xbar, .links, .meter] s (biRefuse q.agent q.tag false (arrived q.agent false 1 s)) :=
        (hA.mono (by simp)).trans (hO.mono (by simp))
      refine ⟨_, hin.hears hok hop hOt, hc, ?_, hOt⟩
      rw [htx, hA.tx, hload]
      rfl
    · have hop : opMemRd q s = biRefuse q.agent q.tag true (arrived q.agent false 1 s) :=
        (cxlGate_eq hz hn hd).trans (if_pos hg)
      obtain ⟨hO, hc, htx⟩ := biRefuse_frame ha q.tag true hnA
      have hOt : Only [.regs, .tx, .xbar, .links, .meter] s (biRefuse q.agent q.tag true (arrived q.agent false 1 s)) :=
        (hA.mono (by simp)).trans (hO.mono (by simp))
      refine ⟨_, hin.hears hok hop hOt, hc, ?_, hOt⟩
      rw [htx, hA.tx, hload]
      rfl

/-! ### The mailbox and the decoders (R303, R304) -/

theorem mailboxReply_known (s : State) (a : Nat) (opc : BitVec 16) : (mailboxReply s a opc).isSome =
    decide (opc.toNat ∈ [0x0001, 0x0002, 0x0100, 0x0101, 0x0400, 0x0401, 0x4000, 0x4100, 0x4200]) := by
  unfold mailboxReply
  split <;> simp_all

/-- Settles O27: the mailbox is one operation under nine names; a decoder is its window. -/
theorem mailboxAnswers : Obligations.MailboxAnswers := by
  unfold Obligations.MailboxAnswers
  intro a opc v s ha hin hz
  have hok : okAgent a = true := decide_eq_true ha
  refine ⟨fun c hc => ?_, fun k => onUnit_next hok rfl, fun w hw => ?_⟩
  · intro known
    have hex : exec c s = onUnit (okAgent a) (heard (mailbox a opc)) s := by
      simp only [List.mem_cons, List.not_mem_nil, or_false] at hc
      rcases hc with rfl | rfl | rfl | rfl | rfl | rfl | rfl | rfl | rfl <;> rfl
    rw [hex]
    refine ⟨fun hl => ?_, fun hl => ?_⟩
    · have hop : mailbox a opc s = emit (.mailbox a opc (mailboxReply s a opc).isSome ((mailboxReply s a opc).getD [])) s :=
        if_neg (by rw [hz, decide_eq_false (not_not.2 hl)]; decide)
      refine ⟨_, (mailboxReply s a opc).getD [], hin.hears hok hop (only_emit _ s), ?_, fun hk => ?_, only_emit _ s⟩
      · show s.tx ++ _ = _
        rw [mailboxReply_known]
      · have hnone : (mailboxReply s a opc).isSome = false := (mailboxReply_known s a opc).trans hk
        cases hm : mailboxReply s a opc with
        | none => rfl
        | some l => rw [hm] at hnone; exact absurd hnone (by simp)
    · have hop : mailbox a opc s = s := if_pos (by rw [decide_eq_true hl, Bool.or_true])
      exact hin.hears hok hop (Only.refl [] s)
  · have he : endpointOf s a = _ := if_neg (by rw [hz]; decide)
    exact ⟨_, decoderOf s a w, he, by simp, by simp [hw], rfl, rfl⟩

end Sys2Proof.Machine
end

section
/-! PROOFS. Snoop responses, CMP, DatH and forwarded data reach their transaction, and the Back-Invalidate responses of CXL hosts
(O23, O26: R42 to R50, R97 to R101, R153, R177, R187, R305). -/

namespace Sys2Proof.Machine

/-! ### A live transaction hears an agent -/

theorem mapAddr_congr {s t : State} (h : t.regs = s.regs) (pa : Nat) : mapAddr t pa = mapAddr s pa := by
  have hrd : rd t = rd s := funext fun o => rd_congr h o
  unfold mapAddr chanBaseGib chanGib chanPresent chanRanks mapMode rdf
  rw [hrd]

/-- The pool map and the remap table are registers. -/
theorem lineChan_congr {s t : State} (h : t.regs = s.regs) (line : Nat) : lineChan t line = lineChan s line := by
  rw [lineChan, mapAddr_congr h]
  unfold physLine remapPage
  rw [h, rdf_congr h]
  rfl

theorem chanNo_congr {s t : State} (h : t.regs = s.regs) (line : Nat) : chanNo t line = chanNo s line := by
  rw [chanNo, lineChan_congr h, chanNo]

theorem outOfTray_congr {s t : State} (h : t.regs = s.regs) (a : Nat) (x : Ctx) : outOfTray t a x = outOfTray s a x := by
  unfold outOfTray isMember
  rw [show rd t = rd s from funext fun o => rd_congr h o]

theorem deaf_false {s : State} {a : Nat} {x : Ctx} (ho : outOfTray s a x = false) (he : x.expired = false) (hq : x.st ≠ .quarantined) :
    deaf s a x = false := by
  rw [deaf, Ctx.late, ho, he, decide_eq_false hq]
  rfl

theorem idles_parked {s : State} {c : Nat} {x : Ctx} (hr : s.dev.ready = []) (hst : x.st = .parked) (hs : x.stall = none) :
    idles s c x = true := by simp [idles, hr, hst, hs]

/-- An event of a parked context becomes ready, after a change of the context that leaves it parked. -/
def posted (e : Event) (c : Nat) (f : Ctx → Ctx) (s : State) : State :=
  updDev (fun d => { d with ready := d.ready ++ [e] }) (modCtx c f s)

theorem postEvent_parked {e : Event} {c : Nat} {x : Ctx} {f : Ctx → Ctx} {s : State} (he : e.ctx = c) (hx : ctxOf s c = some x)
    (hr : s.dev.ready = []) (hst : (f x).st = .parked) (hs : (f x).stall = none) : postEvent e (modCtx c f s) = posted e c f s := by
  subst he
  exact postEvent_idle (ctxOf_modCtx_same hx f) (idles_parked (s := modCtx e.ctx f s) hr hst hs)

theorem posted_frame {e : Event} {c : Nat} {x : Ctx} {f : Ctx → Ctx} {s : State} (hx : ctxOf s c = some x) (hr : s.dev.ready = []) :
    Only [.dev] s (posted e c f s) ∧ (posted e c f s).dev.ready = [e] ∧ ctxOf (posted e c f s) c = some (f x) ∧
    (∀ k, k ≠ c → ctxOf (posted e c f s) k = ctxOf s k) ∧
    (posted e c f s).dev = { s.dev with ready := (posted e c f s).dev.ready, ctxs := (posted e c f s).dev.ctxs } := by
  refine ⟨(only_modCtx _ _ _).trans (only_updDev _ _), ?_, ctxOf_modCtx_same hx f, fun k hk => ctxOf_modCtx_ne hk f s, rfl⟩
  show s.dev.ready ++ [e] = [e]
  rw [hr]
  rfl

/-! ### Snoop responses (R45, R97, R101) -/

/-- What a response does to the timer of its snoop. -/
def rspTimer (s : State) (c a : Nat) (op : RspOp) (x : Ctx) : Ctx :=
  if op = .wbPending ∧ wbkHere s c a = false then x else stopSnoop a x

theorem rspArrive_live {a : Nat} {op : RspOp} {h : BitVec 13} {x : Ctx} {s : State} (hn : NoCounter s) (hd : detached s a = false)
    (hs : isSafe s = false) (hx : ctxOf s h.toNat = some x) (hdeaf : deaf s a x = false) (hb : x.byRule = true) :
    rspArrive a op h s = postRsp a h.toNat op x (received a 1 s) := by
  have hO := only_received hn a 1
  unfold rspArrive
  dsimp only
  rw [detached_congr hO.links, hd, ctxOf_congr (congrArg DevSide.ctxs hO.dev), hx]
  dsimp only
  rw [show deaf (received a 1 s) a x = deaf s a x by rw [deaf, deaf, outOfTray_congr hO.regs], hdeaf, isSafe_congr hO.regs, hs, hb]
  rfl

theorem postRsp_frame {a c : Nat} (op : RspOp) {x : Ctx} {s : State} (hx : ctxOf s c = some x) (hst : x.st = .parked)
    (hs : x.stall = none) (hr : s.dev.ready = []) : Only [.dev] s (postRsp a c op x s) ∧
    (postRsp a c op x s).dev.ready = [eventFor x c a op.num a (w64 op.num.toNat)] ∧
    ctxOf (postRsp a c op x s) c = some (rspTimer s c a op x) ∧ (∀ k, k ≠ c → ctxOf (postRsp a c op x s) k = ctxOf s k) ∧
    (postRsp a c op x s).dev = { s.dev with ready := (postRsp a c op x s).dev.ready, ctxs := (postRsp a c op x s).dev.ctxs } := by
  by_cases hw : op = .wbPending ∧ wbkHere s c a = false
  · have he : postRsp a c op x s = updDev (fun d => { d with ready := d.ready ++ [eventFor x c a op.num a (w64 op.num.toNat)] }) s := by
      unfold postRsp
      rw [if_pos (by simp [hw])]
      exact postEvent_idle hx (idles_parked hr hst hs)
    rw [he, rspTimer, if_pos hw]
    refine ⟨only_updDev _ _, ?_, hx, fun _ _ => rfl, rfl⟩
    show s.dev.ready ++ _ = _
    rw [hr]
    rfl
  · have he : postRsp a c op x s = posted (eventFor x c a op.num a (w64 op.num.toNat)) c (stopSnoop a) s := by
      unfold postRsp
      rw [if_neg (by simpa using hw)]
      exact postEvent_parked rfl hx hr hst hs
    rw [he, rspTimer, if_neg hw]
    exact posted_frame hx hr

/-- A response that brings neither data nor the promise of any pays the answer owed, and leaves nothing owed. -/
theorem payAnswer_plain {a : Nat} {op : RspOp} {snp : SnpOp} {tm late : Bool} {x : Ctx} (ho : x.owed = [.ans a snp false tm])
    (hw : op ≠ .wbPending) (hd : op.sendsData = false) (hf : op.forwards = false) : payAnswer a op late x = { x with owed := [] } := by
  unfold payAnswer owesFrom
  rw [ho]
  simp [takeFirst, isAns, hw, hd, hf]

/-- A late answer of a quarantined entry that owes nothing else frees the entry. -/
theorem rspArrive_late {a : Nat} {op : RspOp} {snp : SnpOp} {tm : Bool} {h : BitVec 13} {x : Ctx} {s : State} (hn : NoCounter s)
    (hd : detached s a = false) (hx : ctxOf s h.toNat = some x) (hst : x.st = .quarantined) (ho : x.owed = [.ans a snp false tm])
    (hreq : x.req = none) (hwb : s.home.wslots = []) (hw : op ≠ .wbPending) (hdat : op.sendsData = false) (hf : op.forwards = false) :
    ∃ m, Only [.meter] s m ∧
      rspArrive a op h s = delCtx h.toNat (modCtx h.toNat (fun y => armCmp (payAnswer a op true y)) m) := by
  have hO := only_received hn a 1
  have hO2 := only_count ((noCounter_congr hO.regs).2 hn) 0x0A ⟨none, some a, none⟩ 1
  have hO3 := hO.trans hO2
  refine ⟨countLate a (received a 1 s), hO3, ?_⟩
  have hx3 : ctxOf (countLate a (received a 1 s)) h.toNat = some x := (ctxOf_congr (congrArg DevSide.ctxs hO3.dev) _).trans hx
  have hlate : x.late = true := by rw [Ctx.late, decide_eq_true hst]; rfl
  unfold rspArrive
  dsimp only
  rw [detached_congr hO.links, hd, ctxOf_congr (congrArg DevSide.ctxs hO.dev), hx]
  dsimp only
  rw [show deaf (received a 1 s) a x = true by rw [deaf, hlate]; rfl, if_neg (by decide), if_pos rfl]
  unfold lateRsp
  dsimp only
  rw [hlate, if_pos rfl]
  have hw3 : (countLate a (received a 1 s)).home.wslots = [] := (congrArg HomeSide.wslots hO3.home).trans hwb
  generalize countLate a (received a 1 s) = m at hx3 hw3
  have hpaid := ctxOf_modCtx_same hx3 (fun y => armCmp (payAnswer a op true y))
  rw [payAnswer_plain ho hw hdat hf] at hpaid
  unfold releaseQuarantine
  rw [hpaid]
  dsimp only
  rw [if_pos ⟨hst, rfl⟩]
  show ackSlots h.toNat (delCtx h.toNat (match x.req with
    | some p => delPend p.seq _
    | none => _)) = _
  rw [hreq]
  unfold ackSlots
  dsimp only
  rw [show (delCtx h.toNat (modCtx h.toNat (fun y => armCmp (payAnswer a op true y)) m)).home.wslots = [] from hw3]
  rfl

/-! ### CMP (R44, R57) -/

/-- The CMP of a parked rule-run transaction whose REQ still stands in its buffer. -/
theorem cmpEvent_posts {a c : Nat} {x : Ctx} {q : Pend} {s : State} (hs : isSafe s = false) (hx : ctxOf s c = some x)
    (hout : outOfTray s a x = false) (hst : x.st = .parked) (hb : x.byRule = true) (hstall : x.stall = none) (hr : s.dev.ready = [])
    (hag : x.agent = some a) (hin : x.cmpIn = false) (howed : Owed.cmp ∉ x.owed) (hreq : x.req = some q) (hq : s.home.reqs = [q]) :
    cmpEvent a c s = posted (eventFor x c a 0x2A#6 a 0x2A) c (fun y => { y with cmpTimer := false }) (delPend q.seq s) := by
  have htaken : cmpTaken s x = false := by
    unfold cmpTaken pendOf
    rw [hreq, hq]
    simp
  unfold cmpEvent
  rw [hx]
  dsimp only
  rw [if_neg (by simp [hst, howed]), hs, if_neg (by decide), if_neg (by simp [hag, hin, htaken]), hout, if_neg (by decide), hb,
    if_pos rfl, hreq]
  exact postEvent_parked (x := x) rfl hx hr hst hstall

theorem delPend_only {q : Pend} {s : State} (hq : s.home.reqs = [q]) : Only [.home] s (delPend q.seq s) ∧
    (delPend q.seq s).home = { s.home with reqs := [] } := by
  refine ⟨only_updHome _ _, ?_⟩
  rw [delPend, updHome_home, hq]
  simp

theorem posted_cmp {a c : Nat} {x : Ctx} {q : Pend} {s : State} (hx : ctxOf s c = some x) (hr : s.dev.ready = []) (hq : s.home.reqs = [q]) :
    let t := posted (eventFor x c a 0x2A#6 a 0x2A) c (fun y => { y with cmpTimer := false }) (delPend q.seq s)
    t.home = { s.home with reqs := [] } ∧ t.dev.ready = [eventFor x c a 0x2A#6 a 0x2A] ∧ Only [.dev, .home] s t := by
  intro t
  obtain ⟨hO1, hh⟩ := delPend_only hq
  obtain ⟨hO2, hrd, -⟩ := posted_frame (s := delPend q.seq s) (e := eventFor x c a 0x2A#6 a 0x2A)
    (f := fun y => { y with cmpTimer := false }) hx hr
  exact ⟨hO2.home.trans hh, hrd, (hO1.mono (by simp)).trans (hO2.mono (by simp))⟩

/-! ### Data (R42, R43, R50, R187) -/

theorem datHArrive_live {d : Dat} {x : Ctx} {s : State} (hn : NoCounter s) (hd : detached s d.agent = false)
    (hs : isSafe s = false) (hx : ctxOf s d.htid.toNat = some x) (hdeaf : deaf s d.agent x = false) (hst : x.st = .parked)
    (hb : x.byRule = true) (hstall : x.stall = none) (hr : s.dev.ready = []) :
    datHArrive d s = posted (eventFor x d.htid.toNat d.agent 0x34#6 d.agent (w64 (0x34 + 64 * b2n d.fog))) d.htid.toNat
      (fun y => { y with hbuf := some { data := d.data, fog := d.fog } })
      (moveLine (portOutput d.agent) (chanNo s (x.line.getD 0)) (x.line.getD 0) d.deadline (received d.agent 5 s)) := by
  have hO := only_received hn d.agent 5
  have hchan := chanNo_congr hO.regs (x.line.getD 0)
  unfold datHArrive
  dsimp only
  rw [detached_congr hO.links, hd, ctxOf_congr (congrArg DevSide.ctxs hO.dev), hx]
  dsimp only
  rw [show deaf (received d.agent 5 s) d.agent x = deaf s d.agent x by rw [deaf, deaf, outOfTray_congr hO.regs], hdeaf,
    isSafe_congr hO.regs, hs, hb, hchan]
  exact postEvent_parked (x := x) rfl ((ctxOf_congr (congrArg DevSide.ctxs hO.dev) _).trans hx)
    ((congrArg DevSide.ready hO.dev).trans hr) hst hstall

/-- What forwarded data leaves in its transaction. -/
def forwarded (a : Nat) (x : Ctx) : Ctx := { payFwd a x with fwdPass := true, staging := none }

/-- A forwarded DAT reaches a live transaction. -/
def forwardTaken (d : Dat) (x : Ctx) (s : State) : State :=
  modCtx d.htid.toNat (forwarded d.agent) (count 0x12 ⟨x.tray, none, none⟩ 1 (received d.agent 5 s))

theorem only_forwardTaken {s : State} (hn : NoCounter s) (d : Dat) (x : Ctx) : Only [.dev, .meter] s (forwardTaken d x s) := by
  have h1 := only_received hn d.agent 5
  have h2 := only_count ((noCounter_congr h1.regs).2 hn) 0x12 ⟨x.tray, none, none⟩ 1
  exact ((h1.trans h2).mono (by simp)).trans ((only_modCtx _ _ _).mono (by simp))

theorem muted_congr {s t : State} (hl : t.links = s.links) (hr : t.regs = s.regs) (a : Nat) (tray : Option Nat) (b : Bool) :
    muted t a tray b = muted s a tray b := by
  unfold muted isMember
  rw [detached_congr hl, show rd t = rd s from funext fun o => rd_congr hr o]

theorem forward_live {op : DatOp} {d : Dat} {x : Ctx} {s : State} (hn : NoCounter s) (hd : detached s d.agent = false)
    (hs : isSafe s = false) (hx : ctxOf s d.htid.toNat = some x) (hdeaf : deaf s d.agent x = false)
    (hm : muted s d.dest.toNat x.tray x.line.isSome = false) : forward op d s =
      sendDat (portOutput d.agent) d.dest.toNat op d.htid.toNat d.txid d.fog .ok d.deadline d.data
        (if x.agent = some d.dest.toNat then x.form else none) x.isUpg (forwardTaken d x s) := by
  have hO := only_received hn d.agent 5
  have hO2 := only_forwardTaken hn d x
  unfold forward
  dsimp only
  rw [detached_congr hO.links, hd, ctxOf_congr (congrArg DevSide.ctxs hO.dev), hx]
  dsimp only
  rw [show deaf (received d.agent 5 s) d.agent x = deaf s d.agent x by rw [deaf, deaf, outOfTray_congr hO.regs], hdeaf,
    isSafe_congr hO.regs, hs]
  show (if muted (forwardTaken d x s) d.dest.toNat x.tray x.line.isSome then _ else _) = _
  rw [muted_congr hO2.links hO2.regs, hm]
  rfl

theorem sendDat_zcl (input a : Nat) (op : DatOp) (htid : Nat) (txid : BitVec 12) (fog : Bool) (st : Status) (dl : BitVec 32)
    (d : LineBits) (nd : Bool) (s : State) : sendDat input a op htid txid fog st dl d none nd s =
      sendFrom input dl (.dat a op htid txid fog st dl d) s := rfl

theorem sendDat_cxl (input a : Nat) (op : DatOp) (htid : Nat) (txid : BitVec 12) (fog : Bool) (dl : BitVec 32) (d : LineBits)
    (f : CxlForm) (nd : Bool) (s : State) : sendDat input a op htid txid fog .ok dl d (some f) nd s =
      (fun u => if nd || f.meta0 then
        send dl (.ndr a f.tag (match op with | .s => some .s | .e => some .e | .m => some .e | .i => none) (devLoad u a)) u else u)
      (if nd then s else sendFrom input dl (.memData a f.tag fog false (devLoad s a) d) s) := rfl

/-- A completion with data that is OK leaves nothing but messages. -/
theorem only_sendDat {s : State} (hn : NoCounter s) (input a : Nat) (op : DatOp) (htid : Nat) (txid : BitVec 12) (fog : Bool)
    (dl : BitVec 32) (d : LineBits) (form : Option CxlForm) (nd : Bool) :
    Only [.tx, .xbar, .meter] s (sendDat input a op htid txid fog .ok dl d form nd s) := by
  cases form with
  | none => exact only_sendFrom hn _ _ _
  | some f =>
    have h1 : Only [.tx, .xbar, .meter] s
        (if nd then s else sendFrom input dl (.memData a f.tag fog false (devLoad s a) d) s) := by
      split
      · exact Only.refl _ s
      · exact only_sendFrom hn _ _ _
    rw [sendDat_cxl]
    generalize (if nd then s else sendFrom input dl (.memData a f.tag fog false (devLoad s a) d) s) = u at h1
    dsimp only
    split
    · exact h1.trans (only_send (noCounter_of hn h1) _ _)
    · exact h1

theorem tx_sendDat_cxl {s : State} (hn : NoCounter s) (input a : Nat) {op : DatOp} (ho : op ≠ .i) (htid : Nat) (txid : BitVec 12)
    (fog : Bool) (dl : BitVec 32) (d : LineBits) (f : CxlForm) :
    (sendDat input a op htid txid fog .ok dl d (some f) false s).tx = s.tx ++ .memData a f.tag fog false (devLoad s a) d ::
      (if f.meta0 then [.ndr a f.tag (some (if op = .s then .s else .e)) (devLoad s a)] else []) := by
  rw [sendDat_cxl, if_neg (by decide)]
  have hO := only_sendFrom hn input dl (.memData a f.tag fog false (devLoad s a) d)
  have htx := tx_sendFrom input dl (.memData a f.tag fog false (devLoad s a) d) s
  generalize sendFrom input dl (.memData a f.tag fog false (devLoad s a) d) s = u at hO htx
  dsimp only [Bool.false_or]
  cases f.meta0 with
  | false => simpa using htx
  | true =>
    rw [Bool.or_true, if_pos rfl, if_pos rfl, tx_send, htx, devLoad_congr hO.home hO.regs]
    cases op <;> simp at ho ⊢

/-! ### O23 -/

/-- A snoop response of a parked rule-run transaction. -/
theorem rspArrive_posted {a : Nat} {op : RspOp} {h : BitVec 13} {x : Ctx} {s : State} (hr : InRun s) (hd : detached s a = false)
    (hx : ctxOf s h.toNat = some x) (hout : outOfTray s a x = false) (hexp : x.expired = false) (hst : x.st = .parked)
    (hb : x.byRule = true) (hstall : x.stall = none) (hready : s.dev.ready = []) :
    Only [.dev, .meter] s (rspArrive a op h s) ∧
    (rspArrive a op h s).dev.ready = [eventFor x h.toNat a op.num a (w64 op.num.toNat)] ∧
    ctxOf (rspArrive a op h s) h.toNat = some (rspTimer s h.toNat a op x) ∧
    (∀ k, k ≠ h.toNat → ctxOf (rspArrive a op h s) k = ctxOf s k) ∧
    (rspArrive a op h s).dev = { s.dev with ready := (rspArrive a op h s).dev.ready, ctxs := (rspArrive a op h s).dev.ctxs } := by
  have hO := only_received hr.noCounter a 1
  have hc := fun k => ctxOf_congr (congrArg DevSide.ctxs hO.dev) k
  rw [rspArrive_live hr.noCounter hd hr.notSafe hx (deaf_false hout hexp (by simp [hst])) hb]
  have hw : wbkHere (received a 1 s) h.toNat a = wbkHere s h.toNat a := by rw [wbkHere, hO.home, wbkHere]
  obtain ⟨g1, g2, g3, g4, g5⟩ := postRsp_frame (a := a) op ((hc _).trans hx) hst hstall ((congrArg DevSide.ready hO.dev).trans hready)
  refine ⟨(hO.mono (by simp)).trans (g1.mono (by simp)), g2, ?_, fun k hk => (g4 k hk).trans (hc k), ?_⟩
  · rw [g3, rspTimer, rspTimer, hw]
  · rw [g5, hO.dev]

/-- The snoop responses, each with the number of its event. -/
theorem exec_rsp {a : Nat} {h : BitVec 13} {p : Instr × BitVec 6}
    (hp : p ∈ [(Instr.rspI a h, 0x20#6), (.rspS a h, 0x21#6), (.rspE a h, 0x22#6), (.rspMiss a h, 0x23#6),
      (.rspFwdI a h, 0x24#6), (.rspFwdS a h, 0x25#6), (.rspFwdO a h, 0x26#6), (.rspDataI a h, 0x27#6),
      (.rspDataK a h, 0x28#6), (.rspWbPending a h, 0x29#6)]) :
    ∃ op : RspOp, p.2 = op.num ∧ ∀ s, exec p.1 s = onUnit (okAgent a) (heard (rspArrive a op h)) s := by
  simp only [List.mem_cons, List.not_mem_nil, or_false] at hp
  rcases hp with rfl | rfl | rfl | rfl | rfl | rfl | rfl | rfl | rfl | rfl
  · exact ⟨.rspI, rfl, fun _ => rfl⟩
  · exact ⟨.rspS, rfl, fun _ => rfl⟩
  · exact ⟨.rspE, rfl, fun _ => rfl⟩
  · exact ⟨.miss, rfl, fun _ => rfl⟩
  · exact ⟨.fwdI, rfl, fun _ => rfl⟩
  · exact ⟨.fwdS, rfl, fun _ => rfl⟩
  · exact ⟨.fwdO, rfl, fun _ => rfl⟩
  · exact ⟨.dataI, rfl, fun _ => rfl⟩
  · exact ⟨.dataK, rfl, fun _ => rfl⟩
  · exact ⟨.wbPending, rfl, fun _ => rfl⟩

theorem rspOp_wbPending {op : RspOp} : op.num = 0x29#6 ↔ op = .wbPending := by cases op <;> decide

/-- The responses that bring no data. -/
theorem exec_rsp_plain {a : Nat} {h : BitVec 13} {c : Instr} (hc : c ∈ [Instr.rspI a h, .rspS a h, .rspE a h, .rspMiss a h]) :
    ∃ op : RspOp, op ≠ .wbPending ∧ op.sendsData = false ∧ op.forwards = false ∧
      ∀ s, exec c s = onUnit (okAgent a) (heard (rspArrive a op h)) s := by
  simp only [List.mem_cons, List.not_mem_nil, or_false] at hc
  rcases hc with rfl | rfl | rfl | rfl
  · exact ⟨.rspI, by decide, rfl, rfl, fun _ => rfl⟩
  · exact ⟨.rspS, by decide, rfl, rfl, fun _ => rfl⟩
  · exact ⟨.rspE, by decide, rfl, rfl, fun _ => rfl⟩
  · exact ⟨.miss, by decide, rfl, rfl, fun _ => rfl⟩

/-- The CMP of a parked rule-run transaction whose REQ stands alone in the buffers. -/
theorem cmpEvent_frame {a : Nat} {h : BitVec 13} {x : Ctx} {q : Pend} {s : State} (hs : isSafe s = false)
    (hx : ctxOf s h.toNat = some x) (hout : outOfTray s a x = false) (hst : x.st = .parked)
    (hb : x.byRule = true) (hstall : x.stall = none) (hready : s.dev.ready = []) (hag : x.agent = some a) (hin : x.cmpIn = false)
    (howed : Owed.cmp ∉ x.owed) (hreq : x.req = some q) (hq : s.home.reqs = [q]) :
    (cmpEvent a h.toNat s).home = { s.home with reqs := [] } ∧
    (cmpEvent a h.toNat s).dev.ready = [eventFor x h.toNat a 0x2A#6 a 0x2A] ∧ Only [.dev, .home] s (cmpEvent a h.toNat s) := by
  rw [cmpEvent_posts hs hx hout hst hb hstall hready hag hin howed hreq hq]
  exact posted_cmp hx hready hq

/-- A snoop response reaches its transaction, or the entry that still awaits it. -/
theorem snoopResponses {a : Nat} {h : BitVec 13} {x : Ctx} {s : State} (ha : a < 32) (hr : InRun s) (hd : detached s a = false)
    (hx : ctxOf s h.toNat = some x) (hout : outOfTray s a x = false) (hexp : x.expired = false) (hst : x.st = .parked)
    (hb : x.byRule = true) (hstall : x.stall = none) (hready : s.dev.ready = []) :
    ∀ p ∈ [(Instr.rspI a h, 0x20#6), (.rspS a h, 0x21#6), (.rspE a h, 0x22#6), (.rspMiss a h, 0x23#6),
              (.rspFwdI a h, 0x24#6), (.rspFwdS a h, 0x25#6), (.rspFwdO a h, 0x26#6), (.rspDataI a h, 0x27#6),
              (.rspDataK a h, 0x28#6), (.rspWbPending a h, 0x29#6)],
        ∃ t, exec p.1 s = .next t ∧ t.dev.ready = [eventFor x h.toNat a p.2 a (p.2.setWidth 64)] ∧
          ctxOf t h.toNat = some (if p.2 = 0x29#6 ∧ wbkHere s h.toNat a = false then x else stopSnoop a x) ∧
          (∀ k, k ≠ h.toNat → ctxOf t k = ctxOf s k) ∧
          t.dev = { s.dev with ready := t.dev.ready, ctxs := t.dev.ctxs } ∧ Only [.dev, .meter] s t := by
  intro p hp
  obtain ⟨op, hnum, hex⟩ := exec_rsp hp
  obtain ⟨hO, h1, h2, h3, h4⟩ := rspArrive_posted (op := op) hr hd hx hout hexp hst hb hstall hready
  refine ⟨_, (hex s).trans (hr.hears (decide_eq_true ha) rfl hO), ?_, ?_, h3, h4, hO⟩
  · rw [h1, hnum, w64, BitVec.ofNat_toNat]
  · rw [h2, hnum, rspTimer]
    simp only [rspOp_wbPending]

/-- A late response frees an entry that owes nothing else. -/
theorem lateResponses {a : Nat} {h : BitVec 13} {x : Ctx} {s : State} {op : SnpOp} {tm : Bool} (ha : a < 32) (hr : InRun s)
    (hd : detached s a = false) (hx : ctxOf s h.toNat = some x) (hst : x.st = .quarantined) (ho : x.owed = [.ans a op false tm])
    (hreq : x.req = none) (hwb : s.home.wslots = []) : ∀ c ∈ [Instr.rspI a h, .rspS a h, .rspE a h, .rspMiss a h],
      ∃ t, exec c s = .next t ∧ ctxOf t h.toNat = none ∧ (∀ d, d ≠ h.toNat → ctxOf t d = ctxOf s d) ∧ t.tx = s.tx ∧
        Only [.dev, .home, .meter] s t := by
  intro c hc
  obtain ⟨r, hw, hdat, hf, hex⟩ := exec_rsp_plain hc
  obtain ⟨m, hm, he⟩ := rspArrive_late hr.noCounter hd hx hst ho hreq hwb hw hdat hf
  have hO : Only [.dev, .home, .meter] s (delCtx h.toNat (modCtx h.toNat (fun y => armCmp (payAnswer a r true y)) m)) :=
    (hm.mono (by simp)).trans (((only_modCtx _ _ _).mono (by simp)).trans ((only_delCtx _ _).mono (by simp)))
  refine ⟨_, (hex s).trans (hr.hears (decide_eq_true ha) he hO), ctxOf_delCtx_same _ _, fun d hd => ?_, hO.tx, hO⟩
  rw [ctxOf_delCtx_ne hd, ctxOf_modCtx_ne hd, ctxOf_congr (congrArg DevSide.ctxs hm.dev)]

/-- The CMP of a ZCL agent reaches its transaction. -/
theorem exec_cmp {a : Nat} {h : BitVec 13} {x : Ctx} {q : Pend} {s : State} (ha : a < 32) (hr : InRun s) (hd : detached s a = false)
    (hx : ctxOf s h.toNat = some x) (hout : outOfTray s a x = false) (hst : x.st = .parked) (hb : x.byRule = true)
    (hstall : x.stall = none) (hready : s.dev.ready = []) (hag : x.agent = some a) (hin : x.cmpIn = false) (howed : Owed.cmp ∉ x.owed)
    (hreq : x.req = some q) (hq : s.home.reqs = [q]) : ∃ t, exec (.cmp a h) s = .next t ∧ t.home = { s.home with reqs := [] } ∧
      t.dev.ready = [eventFor x h.toNat a 0x2A#6 a 0x2A] ∧ Only [.dev, .home, .meter] s t := by
  have hO := only_received hr.noCounter a 1
  have hop : cmpArrive a h s = cmpEvent a h.toNat (received a 1 s) := if_neg (by rw [detached_congr hO.links, hd]; decide)
  obtain ⟨h1, h2, h3⟩ := cmpEvent_frame ((isSafe_congr hO.regs).trans hr.notSafe)
    ((ctxOf_congr (congrArg DevSide.ctxs hO.dev) _).trans hx) ((outOfTray_congr hO.regs a x).trans hout) hst hb hstall
    ((congrArg DevSide.ready hO.dev).trans hready) hag hin howed hreq ((congrArg HomeSide.reqs hO.home).trans hq)
  have hA := (hO.mono (by simp)).trans (h3.mono (l := [.dev, .home, .meter]) (by simp))
  exact ⟨_, hr.hears (decide_eq_true ha) hop hA, by rw [h1, hO.home], h2, hA⟩

/-- DatH of a parked rule-run transaction. -/
theorem exec_datH {d : Dat} {x : Ctx} {s : State} (ha : d.agent < 32) (hr : InRun s) (hd : detached s d.agent = false)
    (hx : ctxOf s d.htid.toNat = some x) (hdeaf : deaf s d.agent x = false) (hst : x.st = .parked) (hb : x.byRule = true)
    (hstall : x.stall = none) (hready : s.dev.ready = []) : ∃ t, exec (.datH d) s = .next t ∧
      ctxOf t d.htid.toNat = some { x with hbuf := some { data := d.data, fog := d.fog } } ∧
      t.xbar = { s.xbar with packets := s.xbar.packets ++
        [{ input := d.agent / 2, output := 16 + chanNo s (x.line.getD 0), deadline := d.deadline, slots := 5, sent := 0,
           msg := none, line := some (x.line.getD 0) }] } ∧
      t.dev.ready = [eventFor x d.htid.toNat d.agent 0x34#6 d.agent (w64 (0x34 + 64 * b2n d.fog))] ∧
      (∀ k, k ≠ d.htid.toNat → ctxOf t k = ctxOf s k) ∧ Only [.dev, .meter, .xbar] s t := by
  have hO := only_received hr.noCounter d.agent 5
  have hop := datHArrive_live hr.noCounter hd hr.notSafe hx hdeaf hst hb hstall hready
  have hmv : Only [.xbar] (received d.agent 5 s) (moveLine (portOutput d.agent) (chanNo s (x.line.getD 0)) (x.line.getD 0) d.deadline
    (received d.agent 5 s)) := only_request _ _
  have hx0 : (moveLine (portOutput d.agent) (chanNo s (x.line.getD 0)) (x.line.getD 0) d.deadline (received d.agent 5 s)).xbar =
    { (received d.agent 5 s).xbar with packets := (received d.agent 5 s).xbar.packets ++
        [{ input := d.agent / 2, output := 16 + chanNo s (x.line.getD 0), deadline := d.deadline, slots := 5, sent := 0,
           msg := none, line := some (x.line.getD 0) }] } := rfl
  rw [hO.xbar] at hx0
  generalize moveLine (portOutput d.agent) (chanNo s (x.line.getD 0)) (x.line.getD 0) d.deadline (received d.agent 5 s) = u
    at hop hmv hx0
  have hOu := (hO.mono (l := [.dev, .meter, .xbar]) (by simp)).trans (hmv.mono (by simp))
  have hdev := hmv.dev.trans hO.dev
  have hc := fun k => ctxOf_congr (congrArg DevSide.ctxs hdev) k
  obtain ⟨g1, g2, g3, g4, -⟩ := posted_frame (e := eventFor x d.htid.toNat d.agent 0x34#6 d.agent (w64 (0x34 + 64 * b2n d.fog)))
    (f := fun y => { y with hbuf := some { data := d.data, fog := d.fog } }) ((hc _).trans hx) ((congrArg DevSide.ready hdev).trans hready)
  have hA := hOu.trans (g1.mono (by simp))
  exact ⟨_, hr.hears (decide_eq_true ha) hop hA, g3, g1.xbar.trans hx0, g2, fun k hk => (g4 k hk).trans (hc k), hA⟩

/-- The forms of a forwarded DAT. -/
theorem exec_forward {d : Dat} {p : Instr × DatOp} (hp : p ∈ [(Instr.datS d, DatOp.s), (.datE d, .e), (.datM d, .m)]) :
    DatOp.i ≠ p.2 ∧ ∀ s, exec p.1 s = onUnit (okAgent d.agent) (heard (forward p.2 d)) s := by
  simp only [List.mem_cons, List.not_mem_nil, or_false] at hp
  rcases hp with rfl | rfl | rfl
  · exact ⟨DatOp.noConfusion, fun _ => rfl⟩
  · exact ⟨DatOp.noConfusion, fun _ => rfl⟩
  · exact ⟨DatOp.noConfusion, fun _ => rfl⟩

/-- A forwarded DAT crosses to its DEST. -/
theorem forward_frame {d : Dat} {op : DatOp} {x : Ctx} {s : State} (ho : op ≠ .i) (hr : InRun s) (hd : detached s d.agent = false)
    (hx : ctxOf s d.htid.toNat = some x) (hdeaf : deaf s d.agent x = false)
    (hm : muted s d.dest.toNat x.tray x.line.isSome = false) :
    Only [.dev, .meter, .tx, .xbar] s (forward op d s) ∧
    ctxOf (forward op d s) d.htid.toNat = some (forwarded d.agent x) ∧
    (x.form = none → (forward op d s).tx = s.tx ++ [.dat d.dest.toNat op d.htid.toNat d.txid d.fog .ok d.deadline d.data]) ∧
    (∀ f, x.form = some f → x.agent = some d.dest.toNat → x.isUpg = false →
      (forward op d s).tx = s.tx ++ .memData d.dest.toNat f.tag d.fog false (devLoad s d.dest.toNat) d.data ::
        (if f.meta0 then [.ndr d.dest.toNat f.tag (some (if op = .s then .s else .e)) (devLoad s d.dest.toNat)] else [])) ∧
    ∀ k, k ≠ d.htid.toNat → ctxOf (forward op d s) k = ctxOf s k := by
  rw [forward_live hr.noCounter hd hr.notSafe hx hdeaf hm]
  have hT := only_forwardTaken hr.noCounter d x
  have hO := only_received hr.noCounter d.agent 5
  have hO2 := hO.trans (only_count (noCounter_of hr.noCounter hO) 0x12 ⟨x.tray, none, none⟩ 1)
  have hc := fun k => ctxOf_congr (congrArg DevSide.ctxs hO2.dev) k
  have hcx : ctxOf (forwardTaken d x s) d.htid.toNat = some (forwarded d.agent x) := ctxOf_modCtx_same ((hc _).trans hx) _
  have hck : ∀ k, k ≠ d.htid.toNat → ctxOf (forwardTaken d x s) k = ctxOf s k := fun k hk =>
    (ctxOf_modCtx_ne hk _ _).trans (hc k)
  generalize forwardTaken d x s = u at hT hcx hck
  have hn := noCounter_of hr.noCounter hT
  have hS := only_sendDat hn (portOutput d.agent) d.dest.toNat op d.htid.toNat d.txid d.fog d.deadline d.data
    (if x.agent = some d.dest.toNat then x.form else none) x.isUpg
  have hcs := fun k => ctxOf_congr (congrArg DevSide.ctxs hS.dev) k
  refine ⟨(hT.mono (by simp)).trans (hS.mono (by simp)), (hcs _).trans hcx, fun hf => ?_, fun f hf hag hu => ?_,
    fun k hk => (hcs k).trans (hck k hk)⟩
  · have hnone : (if x.agent = some d.dest.toNat then x.form else none) = none := by rw [hf, ite_self]
    rw [hnone, sendDat_zcl, tx_sendFrom, hT.tx]
  · rw [if_pos hag, hf, hu, tx_sendDat_cxl hn _ _ ho, hT.tx, devLoad_congr hT.home hT.regs]

/-- Settles O23: snoop responses, CMP and late responses, then DatH and forwarded data. -/
theorem responsesAndData : Obligations.ResponsesAndData := by
  unfold Obligations.ResponsesAndData
  refine ⟨fun a h x s ha hr hd hx hout hexp => ⟨fun hst hb hstall hready => ⟨?_, ?_⟩, ?_⟩,
    fun d x s ha hr hd hx hout hexp hst => ⟨?_, fun hm p hp => ?_⟩⟩
  · exact snoopResponses ha hr hd hx hout hexp hst hb hstall hready
  · exact fun q hag hin howed hreq hq => exec_cmp ha hr hd hx hout hst hb hstall hready hag hin howed hreq hq
  · exact fun op tm hst ho hreq hwb => lateResponses ha hr hd hx hst ho hreq hwb
  · exact fun hpk hb hstall hready => exec_datH ha hr hd hx (deaf_false hout hexp hst) hpk hb hstall hready
  · obtain ⟨ho, hex⟩ := exec_forward hp
    obtain ⟨hO, h1, h2, h3, h4⟩ := forward_frame ho.symm hr hd hx (deaf_false hout hexp hst) hm
    exact ⟨_, (hex s).trans (hr.hears (decide_eq_true ha) rfl hO), h1, h2, h3, h4, hO⟩

/-! ### Back-Invalidate (R48, R49, R305) -/

/-- The Back-Invalidate responses of a host, each with its snoop response. -/
theorem exec_biRsp {a : Nat} {h : BitVec 13} {p : Instr × BitVec 6}
    (hp : p ∈ [(Instr.biRspI a h, 0x20#6), (.biRspS a h, 0x21#6), (.biRspE a h, 0x22#6)]) :
    ∃ op : RspOp, op ≠ .wbPending ∧ p.2 = op.num ∧ ∀ s, exec p.1 s = onUnit (okAgent a) (heard (opBiRsp a op h)) s := by
  simp only [List.mem_cons, List.not_mem_nil, or_false] at hp
  rcases hp with rfl | rfl | rfl
  · exact ⟨.rspI, by decide, rfl, fun _ => rfl⟩
  · exact ⟨.rspS, by decide, rfl, fun _ => rfl⟩
  · exact ⟨.rspE, by decide, rfl, fun _ => rfl⟩

theorem biCredit_frame (a : Nat) (s : State) : Only [.links] s (biCredit a s) ∧
    (∀ b, detached (biCredit a s) b = detached s b) ∧
    (linkOf (biCredit a s) a).cumSnp = ((linkOf s a).cumSnp + 1) % 2 ^ 16 := by
  refine ⟨only_setLink _ _ _, fun b => ?_, by rw [biCredit, linkOf_setLink_same]⟩
  unfold detached
  by_cases hb : b = a
  · subst hb
    rw [biCredit, linkOf_setLink_same]
  · rw [biCredit, linkOf_setLink_ne hb]

theorem inRun_of_links {s t : State} (h : InRun s) (hO : Only [.links] s t) : InRun t := by
  obtain ⟨h1, h2, h3, h4⟩ := h
  exact ⟨(asleep_congr hO.regs (congrArg AonSide.porstLow hO.aon)).trans h1, (rdf_congr hO.regs _ _ _).trans h2, (isSafe_congr hO.regs).trans h3, noCounter_of h4 hO⟩

/-- Settles O26: a BIRsp is a snoop response that gives back a credit; the rest reach the port alone. -/
theorem backInvalidate : Obligations.BackInvalidate := by
  unfold Obligations.BackInvalidate
  intro a h tag s ha hr hg hd
  refine ⟨fun x hx hout hexp hst hb hstall hready => ⟨fun p hp => ?_, fun q hag hin howed hreq hq => ?_⟩, ?_, ?_, ?_, fun hup => ?_⟩
  · obtain ⟨op, hw, hnum, hex⟩ := exec_biRsp hp
    obtain ⟨hO1, hdet, hcum⟩ := biCredit_frame a s
    have hop : opBiRsp a op h s = rspArrive a op h (biCredit a s) := if_pos hg
    generalize biCredit a s = u at hO1 hdet hcum hop
    have hc := fun k => ctxOf_congr (congrArg DevSide.ctxs hO1.dev) k
    obtain ⟨hO2, h1, h2, h3, -⟩ := rspArrive_posted (op := op) (inRun_of_links hr hO1) ((hdet a).trans hd) ((hc _).trans hx)
      ((outOfTray_congr hO1.regs a x).trans hout) hexp hst hb hstall ((congrArg DevSide.ready hO1.dev).trans hready)
    have hO := (hO1.mono (l := [.dev, .links, .meter]) (by simp)).trans (hO2.mono (by simp))
    refine ⟨_, (hex s).trans (hr.hears (decide_eq_true ha) hop hO), ?_, ?_, fun k hk => (h3 k hk).trans (hc k), ?_, hO⟩
    · rw [h1, hnum, w64, BitVec.ofNat_toNat]
    · rw [h2, rspTimer, if_neg fun hh => hw hh.1]
    · rw [linkOf_congr hO2.links, hcum]
  · obtain ⟨h1, h2, h3⟩ := cmpEvent_frame hr.notSafe hx hout hst hb hstall hready hag hin howed hreq hq
    have hz : isZcl s a = false := by
      have h2 : portMode s (a / 2) = 2 := of_decide_eq_true hg
      rw [isZcl, h2]
      rfl
    have hop : opCxlCmp a h s = cmpEvent a h.toNat s := if_neg (by rw [hz]; decide)
    exact ⟨_, hr.hears (decide_eq_true ha) hop h3, h1, h2, h3⟩
  · have hO := only_received hr.noCounter a 1
    have hop : opBiConflict a tag s = send (hostDeadline s a) (.biConflictAck a tag (devLoad s a)) (received a 1 s) :=
      if_pos (by rw [hg, hd]; rfl)
    have hA := (hO.mono (l := [.tx, .xbar, .meter]) (by simp)).trans ((only_send (noCounter_of hr.noCounter hO)
      (hostDeadline s a) (.biConflictAck a tag (devLoad s a))).mono (by simp))
    exact ⟨_, hr.hears (decide_eq_true ha) hop hA, by rw [tx_send, hO.tx], hA⟩
  · have hO := only_received hr.noCounter a 1
    have hop : opBiBlock a s = raiseAt .proto (a / 2) (received a 1 s) := if_pos (by rw [hg, hd]; rfl)
    have hA := (hO.mono (l := [.regs, .meter]) (by simp)).trans ((only_raiseAt_none (c := .proto) rfl (a / 2) _).mono (by simp))
    exact ⟨_, hr.hears (decide_eq_true ha) hop hA, caused_raise .proto (by show a / 2 < _; omega) PsRec.none _, hA⟩
  · have hop : opBiEnable a s = setBi a true s := if_pos hg
    have hO : Only [.regs] s (setBi a true s) := only_wrf _ _ _ _ _
    refine ⟨_, hr.hears (decide_eq_true ha) hop hO, ?_, hO, regsOnly_wrf _ _ _ _ rfl⟩
    rw [biOn, setBi, rd_wrf_same, bitOf_setFld_one _ _ _ (by omega)]
    rfl
  · by_cases hb : biOn s a = true
    · have hop : opBiDisable a s = setBi a false s := by
        unfold opBiDisable
        rw [hg, hb, if_pos (by decide)]
        refine if_neg fun h2 => hup ?_
        rwa [linkState, setBi, rdf_wrf_field_ne _ _ _ _ _ _ _ (by omega) (by omega), ← linkState] at h2
      have hO : Only [.regs] s (setBi a false s) := only_wrf _ _ _ _ _
      refine ⟨_, hr.hears (decide_eq_true ha) hop hO, ?_, hO, regsOnly_wrf _ _ _ _ rfl⟩
      rw [biOn, setBi, rd_wrf_same, bitOf_setFld_one _ _ _ (by omega)]
      rfl
    · have hop : opBiDisable a s = s := if_neg (by simp [hb])
      exact ⟨_, hr.hears (k := [.regs]) (decide_eq_true ha) hop (Only.refl _ s), by simpa using hb, Only.refl _ s, RegsOnly.refl _ s⟩

end Sys2Proof.Machine
end

section
/-! PROOFS. Layer: a REQ that its port takes begins its transaction in a block with nothing in hand (R53, R150, R156, R409). -/

namespace Sys2Proof.Machine

/-! ### The pool map and the remap table under a write of a low register -/

theorem find?_sSet {α : Type} {p : Nat × α → Bool} {k : Nat} (h : ∀ v, p (k, v) = false) (l : Sparse α) (v : α) :
    (sSet l k v).find? p = l.find? p := by
  induction l with
  | nil => simp [sSet, h]
  | cons q l ih =>
    obtain ⟨j, w⟩ := q
    unfold sSet
    split
    · simp [h]
    · split
      · next hk =>
        subst hk
        simp [h]
      · simp only [List.find?_cons, ih]

theorem find?_sDel {α : Type} {p : Nat × α → Bool} {k : Nat} (h : ∀ v, p (k, v) = false) (l : Sparse α) :
    (sDel l k).find? p = l.find? p := by
  induction l with
  | nil => rfl
  | cons q l ih =>
    obtain ⟨j, w⟩ := q
    unfold sDel
    split
    · next hk =>
      subst hk
      simp [h, ih]
    · simp only [List.find?_cons, ih]

theorem find?_sPut {α : Type} [DecidableEq α] {p : Nat × α → Bool} {k : Nat} (h : ∀ v, p (k, v) = false) (d : α) (l : Sparse α)
    (v : α) : (sPut d l k v).find? p = l.find? p := by
  unfold sPut
  split
  · exact find?_sDel h l
  · exact find?_sSet h l v

theorem remapPage_wr {o : Nat} (ho : o < 0x200000) (v : W64) (s : State) (page sec : Nat) :
    remapPage (wr s o v) page sec = remapPage s page sec := by
  have hp : ∀ w : W64, (decide (0x20A000 ≤ o) && decide (o < 0x20E000) && decide (fld w 0 30 = page) &&
      (bitOf w 63 || (bitOf w 62 && decide (sec < rdf s oRmpSts 0 5)))) = false := fun w => by
    rw [decide_eq_false (by omega : ¬ 0x20A000 ≤ o)]
    rfl
  unfold remapPage
  rw [rdf_wr_ne _ _ _ _ (by unfold oRmpSts; omega)]
  rw [show (wr s o v).regs = sPut (regReset o) s.regs o v from rfl, find?_sPut (k := o) hp]

theorem mapAddr_wr {o : Nat} (ho : o < 0x200000) (v : W64) (s : State) (pa : Nat) : mapAddr (wr s o v) pa = mapAddr s pa := by
  have hm : mapMode (wr s o v) = mapMode s := rdf_wr_ne _ _ _ _ (by unfold oMcMap; omega)
  have hc : ∀ m, rd (wr s o v) (oMcCfg m) = rd s (oMcCfg m) := fun m => rd_wr_ne _ _ (by unfold oMcCfg chanBase; omega)
  have hg : chanGib (wr s o v) = chanGib s := funext fun m => by
    unfold chanGib chanPresent chanRanks
    rw [hc]
  have hb : chanBaseGib (wr s o v) = chanBaseGib s := funext fun m => by
    unfold chanBaseGib
    rw [hm, hg]
  unfold mapAddr
  rw [hm, hg, hb]

theorem lineChan_wr {o : Nat} (ho : o < 0x200000) (v : W64) (s : State) (line : Nat) : lineChan (wr s o v) line = lineChan s line := by
  unfold lineChan physLine
  rw [mapAddr_wr ho, remapPage_wr ho]

theorem isDark_congr {s t : State} (hl : ∀ line, lineChan t line = lineChan s line)
    (hr : ∀ m, rd t (oMcStatus m) = rd s (oMcStatus m)) (line : Nat) : isDark t line = isDark s line := by
  unfold isDark chanState rdf
  rw [hl]
  cases lineChan s line with
  | none => rfl
  | some q => exact congrArg (fun v => decide (fld v 0 3 = 4)) (hr q.1)

/-- The line-state code depends on the registers, but on none below the channels' beside the trays', and on the regions. -/
theorem codeOf_congr {s t : State} (hm : t.mem = s.mem) (h : t.regs = s.regs ∨ ∃ o v, o < 0x200000 ∧ t.regs = (wr s o v).regs)
    (line : Nat) (r : Rec) (tray : Option Nat) : codeOf t line r tray = codeOf s line r tray := by
  have hl : ∀ l, lineChan t l = lineChan s l := fun l => by
    rcases h with h | ⟨o, v, ho, h⟩
    · exact lineChan_congr h l
    · exact (lineChan_congr h l).trans (lineChan_wr ho v s l)
  have hr : ∀ k, 0x200000 ≤ k → rd t k = rd s k := fun k hk => by
    rcases h with h | ⟨o, v, ho, h⟩
    · exact rd_congr h k
    · exact (rd_congr h k).trans (rd_wr_ne _ _ (by omega))
  have hb : lineBlank t line = lineBlank s line := by
    unfold lineBlank regionBlank fillOf
    rw [hm]
  have ht : ∀ k, traySpill t k = traySpill s k := fun k => by
    rw [traySpill, traySpill, hr _ (by unfold oTrCfg trayBase; omega)]
  unfold codeOf
  rw [isDark_congr hl (fun m => hr _ (by unfold oMcStatus chanBase; omega)), hb]
  simp only [ht]

/-! ### An empty sheet (R114) -/

theorem findEntry_empty {s : State} (h : s.sheet.ways = []) (sec : Nat) : findEntry s sec = none := by
  unfold findEntry storedWay
  rw [h]
  rfl

theorem recOf_empty {s : State} (h : s.sheet.ways = []) (he : s.sheet.evSlots = []) (line : Nat) :
    recOf s line = { lst := .i, own := 0, sv := 0, tray := none, hit := false } := by
  unfold recOf evictOf
  rw [findEntry_empty h, he]
  rfl

theorem loadSheet_none {s : State} {line : Nat} (h : findEntry s (line / 4) = none) (x : Ctx) :
    loadSheet line s x = { x with sv := 0, so := 0, ss := ssOf none (line % 4) } := by rw [loadSheet, h]

theorem readSet_empty {s : State} (h : s.sheet.ways = []) (he : s.sheet.errs = []) (bank set : Nat) (l : List Nat) :
    readSet bank set l s = (false, [], s) := by
  induction l with
  | nil => rfl
  | cons w l ih =>
    have hw : storedWay s (wayKey bank set w) = none := by
      unfold storedWay
      rw [h]
      rfl
    rw [readSet, readWay_clean (by rw [he]; rfl), hw]
    dsimp only
    rw [ih]
    rfl

theorem lookup_empty {s : State} (hn : NoCounter s) (h : s.sheet.ways = []) (he : s.sheet.errs = []) (sec : Nat) :
    lookup sec s = (.miss, count 0x05 Units.block 1 s) := by
  have hs := (only_count hn 0x05 Units.block 1).sheet
  unfold lookup
  dsimp only
  rw [readSet_empty (by rw [hs, h]) (by rw [hs, he])]
  rfl

/-! ### A context that its reel's rules run does nothing by the tables (R150) -/

theorem run_nil (n : Nat) (s : State) : run n [] s = s := by cases n <;> rfl

theorem go_byRule {c : Nat} {x : Ctx} {op : ReqOp} {s : State} (hx : ctxOf s c = some x) (hb : x.byRule = true)
    (hk : x.kind = .req op) : go [c] s = s := by
  have hstep : stepTxn c s = ([], s) := by
    unfold stepTxn
    rw [hx]
    dsimp only
    rw [hb, hk]
    split
    · rfl
    · split <;> rfl
  rw [go, show (4096 : Nat) = 4095 + 1 from rfl, run, hstep]
  exact run_nil _ _

theorem joinWaiting_none {s : State} (h : s.home.wslots = []) (c line : Nat) : joinWaiting c line s = s := by
  rw [joinWaiting, h]
  rfl

/-! ### The transaction of a REQ begins (R53, R156) -/

/-- A REQ's context before it binds. -/
def reqBlank (s : State) (p : Pend) (code : Code) : Ctx :=
  { Ctx.blank (.req p.op) with
      agent := some p.req.agent, txid := p.req.txid, reqOpc := p.op.num, deadline := p.deadline, ed := p.deadline,
      tray := p.tray, early := trayEarly s (p.tray.getD 0), variant := trayVariant s (p.tray.getD 0), req := some p,
      line := some p.line, ea := w64 (64 * p.line), es := BitVec.ofNat 5 p.req.agent, ex := reqEx p, code := code.num,
      sv := 0, so := 0, ss := ssOf none (p.line % 4) }

theorem bindReq_fresh {s : State} (h : s.sheet.ways = []) (c : Nat) (p : Pend) (code : Code) : bindReq c p code s =
    bindCtx c (reqBlank s p code) (setHolder p.line (.ctx c) (modPend p.seq (fun q => { q with place := .begun c }) s)) := by
  unfold bindReq
  dsimp only
  rw [loadSheet_none (findEntry_empty (s := modPend p.seq (fun q => { q with place := .begun c }) s) h _)]
  rfl

/-- The event that dispatches a REQ's context. -/
def reqEvent (p : Pend) (c : Nat) : Event :=
  { ts := p.req.agent, ctx := c, typ := p.op.num, ea := w64 (64 * p.line), es := BitVec.ofNat 5 p.req.agent, ed := p.deadline,
    ex := reqEx p, code := none }

/-- What a REQ's transaction leaves as it begins in context 0 of a block with nothing else in hand. -/
structure ReqBegun (p : Pend) (code : Code) (s t : State) : Prop where
  only : Only [.regs, .dev, .home, .meter] s t
  regs : t.regs = s.regs ∨ ∃ v, t.regs = (wr s 0x020008 v).regs
  home : t.home = { s.home with reqs := [{ p with place := .begun 0 }], latent := [(p.line, .ctx 0)] }
  ctx : ctxOf t 0 = some (bound s (reqBlank s p code))
  ready : t.dev.ready = [reqEvent p 0]

theorem postReq_idle {c : Nat} {p : Pend} {x : Ctx} {s : State} (hx : ctxOf s c = some x) (hb : x.byRule = true)
    (hr : s.dev.ready = []) (hf : x.inFlight = none) (hc : x.chain = 0) (hs : x.stall = none) (ha : x.ea = w64 (64 * p.line))
    (hd : x.deadline = p.deadline) : postReq c p s = updDev (fun d => { d with ready := d.ready ++ [reqEvent p c] }) s := by
  unfold postReq
  rw [hx]
  dsimp only
  rw [if_pos hb]
  have he : eventFor x c p.req.agent p.op.num p.req.agent (reqEx p) = reqEvent p c := by
    rw [eventFor, ha, hd]
    rfl
  rw [he]
  exact postEvent_idle hx (idles_begun hr hf hc hs)

theorem modPend_only {p : Pend} {s : State} (h : s.home.reqs = [p]) (f : Pend → Pend) :
    (modPend p.seq f s).home = { s.home with reqs := [f p] } := by
  rw [modPend, updHome_home, h]
  simp [modFirst]

theorem regs_bindCtx (c : Nat) (x : Ctx) (s : State) :
    (bindCtx c x s).regs = s.regs ∨ ∃ v, (bindCtx c x s).regs = (wr s 0x020008 v).regs := by
  unfold bindCtx
  dsimp only
  split
  · exact .inr ⟨_, rfl⟩
  · exact .inl rfl

theorem beginWith_fresh {p : Pend} {code : Code} {s : State} (hn : NoCounter s) (hb : s.dev.byRule = true) (hready : s.dev.ready = [])
    (hreqs : s.home.reqs = [p]) (hw : s.home.wslots = []) (hl : s.home.latent = []) (hways : s.sheet.ways = []) :
    ReqBegun p code s (beginWith 0 p code s) := by
  have hO := only_count hn 0x02 ⟨p.tray, some p.req.agent, none⟩ 1
  unfold beginWith
  dsimp only
  generalize count 0x02 ⟨p.tray, some p.req.agent, none⟩ 1 s = u at hO
  rw [bindReq_fresh (by rw [hO.sheet, hways])]
  have hbl : reqBlank u p code = reqBlank s p code := by
    unfold reqBlank trayEarly trayVariant
    rw [rd_congr hO.regs, rdf_congr hO.regs]
  have hm : (modPend p.seq (fun q => { q with place := .begun 0 }) u).home = { s.home with reqs := [{ p with place := .begun 0 }] } := by
    rw [modPend_only (by rw [hO.home, hreqs]), hO.home]
  have hmO : Only [.home] u (modPend p.seq (fun q => { q with place := .begun 0 }) u) := only_updHome _ _
  generalize modPend p.seq (fun q => { q with place := .begun 0 }) u = v at hm hmO
  have hsO : Only [.home] v (setHolder p.line (.ctx 0) v) := only_updHome _ _
  have hs : (setHolder p.line (.ctx 0) v).home =
      { s.home with reqs := [{ p with place := .begun 0 }], latent := [(p.line, .ctx 0)] } := by
    rw [setHolder, updHome_home, hm, hl]
    rfl
  generalize setHolder p.line (.ctx 0) v = a at hsO hs
  have hsa : Only [.home, .meter] s a := (hO.mono (by simp)).trans ((hmO.trans hsO).mono (by simp))
  obtain ⟨hbO, -, hbd⟩ := bindCtx_frame 0 (reqBlank u p code) a
  have hbr := regs_bindCtx 0 (reqBlank u p code) a
  have hbx := ctxOf_bindCtx 0 (reqBlank u p code) a
  have hbnd : bound a (reqBlank u p code) = bound s (reqBlank s p code) := by
    unfold bound activeReel
    rw [rd_congr hsa.regs, hsa.dev, hbl]
  rw [hbnd] at hbx
  generalize bindCtx 0 (reqBlank u p code) a = b at hbO hbd hbr hbx
  have hbready : b.dev.ready = [] := by rw [hbd, hsa.dev, hready]
  rw [postReq_idle hbx hb hbready rfl rfl rfl rfl rfl]
  have hdO := only_updDev (fun d => { d with ready := d.ready ++ [reqEvent p 0] }) b
  have hdr : (updDev (fun d => { d with ready := d.ready ++ [reqEvent p 0] }) b).dev.ready = [reqEvent p 0] := by
    rw [updDev_dev, hbready]
    rfl
  have hdx : ctxOf (updDev (fun d => { d with ready := d.ready ++ [reqEvent p 0] }) b) 0 = some (bound s (reqBlank s p code)) := hbx
  generalize updDev (fun d => { d with ready := d.ready ++ [reqEvent p 0] }) b = t at hdO hdr hdx
  have hhome : t.home = a.home := hdO.home.trans hbO.home
  rw [joinWaiting_none (by rw [hhome, hs, hw]), go_byRule hdx hb rfl]
  refine ⟨(hsa.mono (by simp)).trans ((hbO.mono (by simp)).trans (hdO.mono (by simp))), ?_, hhome.trans hs, hdx, hdr⟩
  rw [hdO.regs]
  rcases hbr with h | ⟨w, h⟩
  · exact .inl (h.trans hsa.regs)
  · exact .inr ⟨w, by rw [h, wr_regs, wr_regs, hsa.regs]⟩

theorem dispatchReq_empty {s : State} (hn : NoCounter s) (h : s.sheet.ways = []) (he : s.sheet.errs = []) (c : Nat) (p : Pend) :
    ∃ u, Only [.meter] s u ∧ dispatchReq c p s = beginWith c p (codeOf u p.line (recOf u p.line) p.tray) u := by
  refine ⟨_, only_count hn 0x05 Units.block 1, ?_⟩
  unfold dispatchReq lookupFor
  dsimp only
  rw [lookup_empty hn h he]

/-- A REQ that its port takes is in its buffer, alone. -/
def pended (p : Pend) (s : State) : State := updHome (fun h => { h with reqs := h.reqs ++ [p] }) s

theorem accept_alone {p : Pend} {s : State} (h : s.home.reqs = []) : accept p s = advance p (pended p s) := by
  have hh : streamHeld (pended p s) p = false := by
    unfold streamHeld pended
    rw [updHome_home, h]
    simp
  exact if_neg (by rw [show streamHeld (updHome (fun h => { h with reqs := h.reqs ++ [p] }) s) p = false from hh]; decide)

theorem advance_fresh {p : Pend} {s : State} (hcpl : p.portCpl = none) (hop : p.op.noLine = false) (hsafe : isSafe s = false)
    (hrun : s.dev.running = true) (hw : windowTray s p.line = none) (hb : bankHeld s (bankOf (p.line / 4)) = false)
    (hctx : s.dev.ctxs = []) (hlat : s.home.latent = []) (hp : s.picks = []) : advance p s = dispatchReq 0 p s := by
  have hbath : p.op.bath = false ∧ p.op ≠ .detn := by
    revert hop
    cases p.op <;> simp [ReqOp.noLine, ReqOp.bath]
  have hhold : (holderOf s p.line).isSome = false := by
    unfold holderOf
    rw [hlat]
    rfl
  unfold advance
  dsimp only
  rw [hcpl]
  dsimp only
  rw [hsafe, if_neg (by decide), hbath.1, if_neg (by decide), if_neg hbath.2, hw]
  dsimp only
  rw [hrun, if_neg (by decide), hb, if_neg (by decide), hhold, if_neg (by decide), takeEntry_fresh hctx hlat hp]

/-- A REQ whose checks pass begins its transaction. -/
structure ReqTaken (p : Pend) (tray : Nat) (s t : State) : Prop where
  only : Only [.regs, .dev, .home, .meter] s t
  regs : RegsOnly (· = 0x020008) s t
  reqs : t.home.reqs = [{ p with place := .begun 0 }]
  dispatched : Dispatched t 0 p.op p.req.agent p.req.txid p.line tray

theorem regsOnly_of_bind {s t : State} (h : t.regs = s.regs ∨ ∃ v, t.regs = (wr s 0x020008 v).regs) : RegsOnly (· = 0x020008) s t := by
  intro o ho
  rcases h with h | ⟨v, h⟩
  · exact rd_congr h o
  · exact (rd_congr h o).trans (rd_wr_ne _ _ ho)

theorem accept_fresh {p : Pend} {tray : Nat} {s : State} (hf : Fresh s) (hcpl : p.portCpl = none) (hop : p.op.noLine = false)
    (ht : p.tray = some tray) (hw : windowTray s p.line = none) (hb : bankHeld s (bankOf (p.line / 4)) = false) :
    ReqTaken p tray s (accept p s) := by
  obtain ⟨hr, hrun, hrule, hctx, hready, hreqs, hws, hlat, -, hways, herrs, hev, hp⟩ := hf
  have hq : Only [.home] s (pended p s) := only_updHome _ _
  have hqr : (pended p s).home.reqs = [p] := by
    rw [pended, updHome_home, hreqs]
    rfl
  rw [accept_alone hreqs, advance_fresh (s := pended p s) hcpl hop hr.notSafe hrun hw hb hctx hlat hp]
  obtain ⟨u, hu, hd⟩ := dispatchReq_empty (s := pended p s) hr.noCounter hways herrs 0 p
  rw [hd]
  have hsu : Only [.home, .meter] s u := (hq.mono (by simp)).trans (hu.mono (by simp))
  have hways' : u.sheet.ways = [] := by rw [hsu.sheet, hways]
  obtain ⟨h1, h2, h3, h4, h5⟩ := beginWith_fresh (code := codeOf u p.line (recOf u p.line) p.tray) (noCounter_of hr.noCounter hsu)
    (by rw [hsu.dev, hrule]) (by rw [hsu.dev, hready]) (by rw [hu.home, hqr]) (by rw [hu.home]; exact hws)
    (by rw [hu.home]; exact hlat) hways'
  have hev' : u.sheet.evSlots = [] := by rw [hsu.sheet, hev]
  have hr0 := recOf_empty hways' hev' p.line
  generalize hc : codeOf u p.line (recOf u p.line) p.tray = code at h1 h2 h3 h4 h5 ⊢
  generalize beginWith 0 p code u = t at h1 h2 h3 h4 h5 ⊢
  have hcode : codeOf t p.line (recOf t p.line) (some tray) = code := by
    rw [← hc, ht, hr0, recOf_empty (by rw [h1.sheet, hways']) (by rw [h1.sheet, hev'])]
    exact codeOf_congr h1.mem (h2.imp_right fun ⟨v, hv⟩ => ⟨0x020008, v, by decide, hv⟩) _ _ _
  refine ⟨(hsu.mono (by simp)).trans h1, ?_, by rw [h3], ?_, _, _, h4, rfl, rfl, rfl, rfl, ht, rfl, ?_, h5, rfl, rfl, rfl, rfl⟩
  · exact (regsOnly_of_regs hsu.regs).trans (regsOnly_of_bind h2)
  · rw [holderOf, h3]
    simp [sFind]
  · rw [hcode]
    rfl

end Sys2Proof.Machine
end

section
/-! PROOFS. REQs of ZCL agents reach their port (O18, O19: R40, R53, R150, R204, R409, R411). -/

namespace Sys2Proof.Machine

/-! ### What a message's arrival leaves alone -/

theorem portResolve_congr {s t : State} (h : t.regs = s.regs) (a : Nat) (l : BitVec 46) : portResolve t a l = portResolve s a l := by
  have hrd : rd t = rd s := funext fun o => rd_congr h o
  have hw : windowOf t = windowOf s := by
    unfold windowOf rdf
    rw [hrd]
  have hs : serveTray t = serveTray s := by
    unfold serveTray trayOf trayOfRegion trayRanges isMember rdf
    rw [hrd, h]
  unfold portResolve resolve
  rw [hw, hs]

theorem bankOf_lt (sec : Nat) : bankOf sec < 32 := by
  have h : ∀ k, k % 32 < 2 ^ 5 := fun k => Nat.mod_lt _ (by decide)
  have h16 : sec / 2 ^ 30 % 16 < 2 ^ 5 := Nat.lt_trans (Nat.mod_lt _ (by decide)) (by decide)
  exact Nat.xor_lt_two_pow (h _) (Nat.xor_lt_two_pow (h _) (Nat.xor_lt_two_pow (h _) (Nat.xor_lt_two_pow (h _)
    (Nat.xor_lt_two_pow (h _) (Nat.xor_lt_two_pow (h _) h16)))))

theorem countClamp_frame (s : State) : Only [.regs] s (countClamp s) ∧
    RegsOnly (fun o => o = 0x040308 ∨ o = 0x010128) s (countClamp s) ∧ (NoCounter s → NoCounter (countClamp s)) := by
  have h1 := only_wr s 0x040308 (satInc32 (rd s 0x040308))
  have h2 : RegsOnly (fun o => o = 0x040308 ∨ o = 0x010128) s (wr s 0x040308 (satInc32 (rd s 0x040308))) := regsOnly_wr _ _ (.inl rfl)
  have h3 : NoCounter s → NoCounter (wr s 0x040308 (satInc32 (rd s 0x040308))) := fun h => h.wr (by decide)
  unfold countClamp
  dsimp only
  generalize wr s 0x040308 (satInc32 (rd s 0x040308)) = u at h1 h2 h3 ⊢
  split
  · refine ⟨h1.trans (only_raise0_none rfl u), h2.trans ((regsOnly_raise0_none rfl u).mono fun o h => .inr h), fun h => ?_⟩
    rw [raise0_none rfl]
    exact (h3 h).wr (by decide)
  · exact ⟨h1, h2, h3⟩

/-- A function that gives a deadline leaves the state, or counts a deadline replaced in it. -/
structure CountsClamp (f : Nat → Option Nat → BitVec 32 → State → BitVec 32 × State) : Prop where
  cases : ∀ a tr d s, (f a tr d s).2 = s ∨ (f a tr d s).2 = countClamp s

/-- The class's deadline is abstracted first: its comparisons with 2^31 are not for the kernel to evaluate. -/
theorem portDeadline_counts : CountsClamp portDeadline := by
  obtain ⟨cd, hcd⟩ : ∃ cd, cd = classDeadline := ⟨_, rfl⟩
  delta portDeadline
  rw [← hcd]
  refine ⟨fun a tr d s => ?_⟩
  dsimp only
  split
  · exact .inr rfl
  · exact .inl rfl

theorem portDeadline_frame (a : Nat) (tr : Option Nat) (d : BitVec 32) (s : State) : Only [.regs] s (portDeadline a tr d s).2 ∧
    RegsOnly (fun o => o = 0x040308 ∨ o = 0x010128) s (portDeadline a tr d s).2 ∧
    (NoCounter s → NoCounter (portDeadline a tr d s).2) := by
  rcases portDeadline_counts.cases a tr d s with h | h
  · rw [h]
    exact ⟨Only.refl _ s, RegsOnly.refl _ s, id⟩
  · rw [h]
    exact countClamp_frame s

theorem inRun_keep {s t : State} (h : InRun s) (ha : t.aon = s.aon) (hR : RegsOnly ReqReg s t) (hn : NoCounter t) : InRun t := by
  obtain ⟨h1, h2, h3, -⟩ := h
  have hp : ∀ lo w, rdf t oPwrStatus lo w = rdf s oPwrStatus lo w := fun lo w => by rw [rdf, hR _ (by unfold ReqReg; decide), rdf]
  refine ⟨?_, (hp _ _).trans h2, ?_, hn⟩
  · rw [asleep, deepState, hp, ha]
    exact h1
  · rw [isSafe, hR _ (by unfold ReqReg; decide)]
    exact h3

/-- A block with nothing in hand stays so as a message arrives. -/
theorem Fresh.keep {s t : State} (h : Fresh s) (hO : Only [.regs, .home, .links, .meter] s t) (hR : RegsOnly ReqReg s t)
    (hn : NoCounter t) (hh : t.home = { s.home with seqNo := t.home.seqNo }) : Fresh t := by
  obtain ⟨hr, hrun, hrule, hctx, hready, hreqs, hws, hlat, hch, hways, herrs, hev, hp⟩ := h
  refine ⟨inRun_keep hr hO.aon hR hn, ?_, ?_, ?_, ?_, ?_, ?_, ?_, ?_, ?_, ?_, ?_, hO.picks.trans hp⟩
  · rw [hO.dev, hrun]
  · rw [hO.dev, hrule]
  · rw [hO.dev, hctx]
  · rw [hO.dev, hready]
  · rw [hh, hreqs]
  · rw [hh, hws]
  · rw [hh, hlat]
  · rw [hh, hch]
  · rw [hO.sheet, hways]
  · rw [hO.sheet, herrs]
  · rw [hO.sheet, hev]

/-! ### A REQ whose checks pass (R409) -/

/-- A REQ that names a line has begun its transaction. -/
structure LineTaken (op : ReqOp) (r : Req) (bmask : BitVec 64) (data : LineBits) (fog : Bool) (line tray : Nat) (s t : State) : Prop where
  only : Only [.regs, .dev, .home, .meter] s t
  regs : RegsOnly ReqReg s t
  reqs : ∃ q, t.home.reqs = [q] ∧ q.req = r ∧ q.place = .begun 0 ∧ q.line = line ∧ q.data = data ∧ q.bmask = bmask ∧ q.fog = fog
  dispatched : Dispatched t 0 op r.agent r.txid line tray

theorem txidBusy_none {s : State} (hq : s.home.reqs = []) (hw : s.home.wslots = []) (a : Nat) (x : BitVec 12) :
    txidBusy s a x = false := by
  rw [txidBusy, hq, hw]
  rfl

/-- The next number in the order of arrival is taken. -/
def numbered (s : State) : State := updHome (fun h => { h with seqNo := h.seqNo + 1 }) s

theorem lineReq_taken {op : ReqOp} {r : Req} {bmask : BitVec 64} {data : LineBits} {v : W64} {form : Option CxlForm} {fog : Bool}
    {line tray : Nat} {s : State} (hf : Fresh s) (hd : detached s r.agent = false)
    (hm : (form.isNone && !maySend s r.agent op) = false) (hres : portResolve s r.agent r.laddr = some (line, tray))
    (hfld : fieldsOk op r = true) (hop : op.noLine = false) (hw : windowTray s line = none)
    (hb : bankHeld s (bankOf (line / 4)) = false) :
    LineTaken op r bmask data fog line tray s (lineReq op r bmask data v form fog s) := by
  have hf0 := hf
  obtain ⟨hr, -, -, -, -, hreqs, hws, -⟩ := hf0
  have hnO : Only [.home] s (numbered s) := only_updHome _ _
  obtain ⟨hO, hR, hn⟩ := portDeadline_frame r.agent (some tray) r.deadline (numbered s)
  obtain ⟨⟨dl, u⟩, hq⟩ : ∃ q, portDeadline r.agent (some tray) r.deadline (numbered s) = q := ⟨_, rfl⟩
  rw [hq] at hO hR hn
  have he : lineReq op r bmask data v form fog s =
      accept (mkPend s.home.seqNo op r bmask data v line (some tray) dl none form fog) u := by
    obtain ⟨pd, hpd⟩ : ∃ pd, pd = portDeadline := ⟨_, rfl⟩
    rw [← hpd] at hq
    unfold lineReq
    rw [← hpd]
    dsimp only
    rw [hd, if_neg (by decide), txidBusy_none hreqs hws, if_neg (by decide)]
    unfold nextSeq
    dsimp only
    have hm' : (form.isNone && !maySend (numbered s) r.agent op) = false := hm
    have hres' := (portResolve_congr hnO.regs r.agent r.laddr).trans hres
    rw [show updHome (fun h => { h with seqNo := h.seqNo + 1 }) s = numbered s from rfl, hm', if_neg (by decide), hres', hfld]
    dsimp only
    rw [hq]
    rfl
  rw [he]
  have hsu : Only [.regs, .home] s u := (hnO.mono (by simp)).trans (hO.mono (by simp))
  have hRsu : RegsOnly (fun o => o = 0x040308 ∨ o = 0x010128) s u := (regsOnly_of_regs hnO.regs).trans hR
  have hRq : RegsOnly ReqReg s u := hRsu.mono fun o h => h.elim .inl fun h => .inr (.inl h)
  have hfu : Fresh u := hf.keep (hsu.mono (by simp)) hRq (hn (noCounter_of hr.noCounter hnO)) (by rw [hO.home]; rfl)
  have hwu : windowTray u line = none := by
    unfold windowTray at hw ⊢
    rw [← hw]
    have hrd : ∀ k, rd u (trayBase k + 144) = rd s (trayBase k + 144) := fun k => hRq _ (by unfold ReqReg trayBase; omega)
    simp only [hrd]
  have hlt := bankOf_lt (line / 4)
  have hbu : bankHeld u (bankOf (line / 4)) = false := by
    rw [← hb, bankHeld, bankHeld, bankState, bankState, rdf, rdf, hRq (oBank (bankOf (line / 4))) (by unfold ReqReg oBank; omega)]
  obtain ⟨h1, h2, h3, h4⟩ := accept_fresh (p := mkPend s.home.seqNo op r bmask data v line (some tray) dl none form fog) (tray := tray)
    hfu rfl hop rfl hwu hbu
  exact ⟨(hsu.mono (by simp)).trans h1, hRq.trans (h2.mono fun o h => .inr (.inr h)), ⟨_, h3, rfl, rfl, rfl, rfl, rfl, rfl⟩, h4⟩

/-! ### REQs of ZCL agents -/

theorem maySend_congr {s t : State} (h : t.regs = s.regs) (a : Nat) (op : ReqOp) : maySend t a op = maySend s a op := by
  have hz : isZcl t a = isZcl s a := isZcl_congr h a
  have hc : isCachingZcl t a = isCachingZcl s a := by rw [isCachingZcl, isCachingZcl, hz, rd_congr h]
  cases op <;> simp only [maySend, hz, hc]

theorem windowTray_congr {s t : State} (h : t.regs = s.regs) (line : Nat) : windowTray t line = windowTray s line := by
  unfold windowTray
  rw [show rd t = rd s from funext fun o => rd_congr h o]

theorem bankHeld_congr {s t : State} (h : t.regs = s.regs) (b : Nat) : bankHeld t b = bankHeld s b := by
  rw [bankHeld, bankHeld, bankState, bankState, rdf_congr h]

theorem fresh_arrived {s : State} (h : Fresh s) (a : Nat) (wbk : Bool) (n : Nat) : Fresh (arrived a wbk n s) := by
  have hO := only_arrived h.1.noCounter a wbk n
  exact h.keep (hO.mono (by simp)) (regsOnly_of_regs hO.regs) (noCounter_of h.1.noCounter hO) (by rw [hO.home])

/-- The REQs of ZCL agents that name a line, each with what it brings. -/
theorem exec_zclReq {r : Req} {data : LineBits} {mask : BitVec 64} {v : W64} {p : Instr × ReqOp}
    (hp : p ∈ [(Instr.rds r, ReqOp.rds), (.rdx r, .rdx), (.upg r, .upg), (.rdc r, .rdc), (.wrl r data, .wrl),
      (.wrp r mask data, .wrp), (.atr r, .atr), (.atc r v, .atc), (.flush r, .flush)]) :
    p.2.noLine = false ∧ ∃ (m : BitVec 64) (d : LineBits) (w : W64), ∀ s, exec p.1 s = onUnit (okAgent r.agent)
      (heard (zclReq p.2 r m d w)) s := by
  simp only [List.mem_cons, List.not_mem_nil, or_false] at hp
  rcases hp with rfl | rfl | rfl | rfl | rfl | rfl | rfl | rfl | rfl <;> exact ⟨rfl, _, _, _, fun _ => rfl⟩

/-- Settles O18: a REQ whose checks pass takes entry 0. -/
theorem requestDispatched : Obligations.RequestDispatched := by
  unfold Obligations.RequestDispatched
  intro r data mask v line tray s hf p hp ⟨ha, hd, hm, hres, hfld, hw, hb⟩
  obtain ⟨hop, bm, d, w, hex⟩ := exec_zclReq hp
  have hn := hf.1.noCounter
  have hO := only_arrived hn r.agent false p.2.slots
  have hl := linkOf_arrived hn r.agent p.2.slots
  have hfu := fresh_arrived hf r.agent false p.2.slots
  have hdu := (detached_arrived hn r.agent false p.2.slots).trans hd
  have hz : zclReq p.2 r bm d w s = lineReq p.2 r bm d w none false (arrived r.agent false p.2.slots s) := rfl
  generalize arrived r.agent false p.2.slots s = u at hO hl hfu hdu hz
  obtain ⟨h1, h2, ⟨q, h3, h4, h5, h6, -⟩, h7⟩ := lineReq_taken (bmask := bm) (data := d) (v := w) (form := none) (fog := false)
    hfu hdu (by rw [maySend_congr hO.regs, hm]; rfl) ((portResolve_congr hO.regs _ _).trans hres) hfld hop
    ((windowTray_congr hO.regs _).trans hw) ((bankHeld_congr hO.regs _).trans hb)
  have hA := (hO.mono (l := [.regs, .dev, .home, .links, .meter]) (by simp)).trans (h1.mono (by simp))
  refine ⟨_, q, (hex s).trans (hf.1.hears (decide_eq_true ha) hz hA), h7, h3, h4, h5, h6, ?_, hA, ?_⟩
  · rw [linkOf_congr h1.links, hl]
  · exact (regsOnly_of_regs hO.regs).trans h2

/-! ### REQs and WBKs that their port turns away (R40, R409, R411) -/

section
variable {op : ReqOp} {r : Req} {bmask : BitVec 64} {data : LineBits} {v : W64} {form : Option CxlForm} {fog : Bool} {s : State}

theorem lineReq_detached (hd : detached s r.agent = true) :
    lineReq op r bmask data v form fog s = raiseAt .detached (r.agent / 2) s := if_pos hd

theorem lineReq_dup (hd : detached s r.agent = false) (hx : txidBusy s r.agent r.txid = true) :
    lineReq op r bmask data v form fog s = raiseAt .txidDup (r.agent / 2) s :=
  (if_neg (by rw [hd]; decide)).trans (if_pos hx)

theorem lineReq_class (hd : detached s r.agent = false) (hx : txidBusy s r.agent r.txid = false)
    (hm : maySend s r.agent op = false) : lineReq op r bmask data v none fog s =
      accept (mkPend s.home.seqNo op r bmask data v 0 none (errDeadline s) (some .errOpc) none fog)
        (raiseAt .proto (r.agent / 2) (numbered s)) := by
  refine (if_neg (by rw [hd]; decide)).trans ((if_neg (by rw [hx]; decide)).trans (if_pos ?_))
  rw [show maySend (updHome (fun h => { h with seqNo := h.seqNo + 1 }) s) r.agent op = maySend s r.agent op from
    maySend_congr rfl _ _, hm]
  rfl

theorem lineReq_addr (hd : detached s r.agent = false) (hx : txidBusy s r.agent r.txid = false)
    (hm : maySend s r.agent op = true) (hres : portResolve s r.agent r.laddr = none) : ∃ tr,
      lineReq op r bmask data v none fog s =
        accept (mkPend s.home.seqNo op r bmask data v 0 tr (errDeadline s) (some .errAddr) none fog) (numbered s) := by
  refine ⟨(resolve (numbered s) r.agent r.laddr).bind (trayOf (numbered s)), ?_⟩
  refine (if_neg (by rw [hd]; decide)).trans ((if_neg (by rw [hx]; decide)).trans ((if_neg ?_).trans ?_))
  · rw [show maySend (updHome (fun h => { h with seqNo := h.seqNo + 1 }) s) r.agent op = maySend s r.agent op from
      maySend_congr rfl _ _, hm]
    decide
  · rw [show portResolve (updHome (fun h => { h with seqNo := h.seqNo + 1 }) s) r.agent r.laddr = none from
      (portResolve_congr rfl _ _).trans hres]
    rfl

theorem lineReq_field (hd : detached s r.agent = false) (hx : txidBusy s r.agent r.txid = false)
    (hm : maySend s r.agent op = true) (hres : (portResolve s r.agent r.laddr).isSome = true) (hf : fieldsOk op r = false) :
    ∃ line tr dl u, (numbered s = u ∨ countClamp (numbered s) = u) ∧ lineReq op r bmask data v none fog s =
      accept (mkPend s.home.seqNo op r bmask data v line tr dl (some .errField) none fog) u := by
  obtain ⟨⟨line, tray⟩, hlt⟩ := Option.isSome_iff_exists.1 hres
  have hcnt := portDeadline_counts.cases r.agent (some tray) r.deadline (numbered s)
  obtain ⟨⟨dl, u⟩, hq⟩ : ∃ q, portDeadline r.agent (some tray) r.deadline (numbered s) = q := ⟨_, rfl⟩
  rw [hq] at hcnt
  refine ⟨line, some tray, dl, u, hcnt.imp Eq.symm Eq.symm, ?_⟩
  obtain ⟨pd, hpd⟩ : ∃ pd, pd = portDeadline := ⟨_, rfl⟩
  rw [← hpd] at hq
  unfold lineReq
  rw [← hpd]
  dsimp only
  rw [hd, if_neg (by decide), hx, if_neg (by decide)]
  unfold nextSeq
  dsimp only
  rw [show updHome (fun h => { h with seqNo := h.seqNo + 1 }) s = numbered s from rfl,
    show maySend (numbered s) r.agent op = true from hm, if_neg (by decide),
    show portResolve (numbered s) r.agent r.laddr = some (line, tray) from (portResolve_congr rfl _ _).trans hlt, hf]
  dsimp only
  rw [hq]
  rfl

end

theorem countErrAddr_frame {s : State} (hn : NoCounter s) (st : Status) (a : Nat) (tr : Option Nat) :
    Only [.regs, .meter] s (countErrAddr st a tr s) ∧ NoCounter (countErrAddr st a tr s) ∧
    (st = .errAddr → Caused (countErrAddr st a tr s) .errAddr 0) ∧ (st ≠ .errAddr → countErrAddr st a tr s = s) := by
  have hO := only_count hn 0x0E ⟨tr, some a, none⟩ 1
  unfold countErrAddr
  split
  · next h =>
    generalize count 0x0E ⟨tr, some a, none⟩ 1 s = u at hO
    refine ⟨(hO.mono (by simp)).trans ((only_raise0_none rfl u).mono (by simp)), ?_, fun _ => caused_raise0 _ _, fun h' => absurd h h'⟩
    exact noCounter_raiseAt (u := 0) rfl (by decide) (noCounter_of hn hO)
  · next h => exact ⟨Only.refl _ s, hn, fun h' => absurd h' h, fun _ => rfl⟩

/-- A completion to a ZCL agent. -/
theorem sendCpl_zcl {s : State} (hn : NoCounter s) (a : Nat) (op : CplOp) (htid : Nat) (txid : BitVec 12) (st : Status) (rd : Bool)
    (tr : Option Nat) (dl : BitVec 32) : let t := sendCpl a op htid txid st none rd tr dl s
    t.tx = s.tx ++ [.rsp a op htid txid st] ∧ Only [.regs, .meter, .tx, .xbar] s t ∧
    (st = .errAddr → Caused t .errAddr 0) ∧ (st ≠ .errAddr → t.regs = s.regs) := by
  obtain ⟨h1, h2, h3, h4⟩ := countErrAddr_frame hn st a tr
  have hs : sendCpl a op htid txid st none rd tr dl s = send dl (.rsp a op htid txid st) (countErrAddr st a tr s) := rfl
  have hO := only_send h2 dl (.rsp a op htid txid st)
  have htx := tx_send dl (.rsp a op htid txid st) (countErrAddr st a tr s)
  intro t
  rw [show t = _ from hs]
  refine ⟨by rw [htx, h1.tx], (h1.mono (by simp)).trans (hO.mono (by simp)), fun h => (caused_congr hO.regs _ _).2 (h3 h), fun h => ?_⟩
  rw [hO.regs, h4 h]

/-- A REQ that its port completes itself leaves its buffer again. -/
theorem accept_refused {p : Pend} {st : Status} {s : State} (hn : NoCounter s) (hq : s.home.reqs = []) (hcpl : p.portCpl = some st)
    (hcxl : p.cxl = none) (hbath : p.op.bath = false) :
    (accept p s).tx = s.tx ++ [.rsp p.req.agent .cmpW 0 p.req.txid st] ∧ (accept p s).home = s.home ∧
    Only [.regs, .meter, .tx, .xbar, .home] s (accept p s) ∧ (st = .errAddr → Caused (accept p s) .errAddr 0) ∧
    (st ≠ .errAddr → (accept p s).regs = s.regs) := by
  have hadv : advance p (pended p s) = delPend p.seq (portComplete p st (pended p s)) := by
    unfold advance
    rw [hcpl]
  have hop : p.op.cplOp = .cmpW := by rw [ReqOp.cplOp, hbath]; rfl
  have hpO : Only [.home] s (pended p s) := only_updHome _ _
  have hph : (pended p s).home = { s.home with reqs := [p] } := by rw [pended, updHome_home, hq]; rfl
  rw [accept_alone hq, hadv, portComplete, hcxl, hop]
  generalize pended p s = u at hpO hph
  obtain ⟨h1, h2, h3, h4⟩ := sendCpl_zcl (noCounter_of hn hpO) p.req.agent .cmpW 0 p.req.txid st
    (p.op.isRead && !decide (p.op = .upg)) p.tray p.deadline
  generalize sendCpl p.req.agent .cmpW 0 p.req.txid st none (p.op.isRead && !decide (p.op = .upg)) p.tray p.deadline u = w
    at h1 h2 h3 h4
  have hdO : Only [.home] w (delPend p.seq w) := only_updHome _ _
  refine ⟨?_, ?_, (hpO.mono (by simp)).trans ((h2.mono (by simp)).trans (hdO.mono (by simp))), fun h => (caused_congr hdO.regs _ _).2 (h3 h),
    fun h => ?_⟩
  · rw [hdO.tx, h1, hpO.tx]
  · have hw : w.home = { s.home with reqs := [p] } := h2.home.trans hph
    rw [delPend, updHome_home, hw]
    simp only [List.filter_cons, List.filter_nil, ne_eq, not_true_eq_false, decide_false, Bool.false_eq_true, if_false]
    rw [← hq]
  · rw [hdO.regs, h4 h, hpO.regs]

/-- A REQ that its port turns away. -/
theorem zclReq_refused {op : ReqOp} {r : Req} {bmask : BitVec 64} {data : LineBits} {v : W64} {s : State} (hr : InRun s)
    (ha : r.agent < 32) (hop : op.noLine = false) :
    (detached s r.agent = true → Caused (zclReq op r bmask data v s) .detached (r.agent / 2) ∧
      Only [.regs, .links, .meter] s (zclReq op r bmask data v s)) ∧
    (detached s r.agent = false → txidBusy s r.agent r.txid = true → Caused (zclReq op r bmask data v s) .txidDup (r.agent / 2) ∧
      Only [.regs, .links, .meter] s (zclReq op r bmask data v s)) ∧
    (detached s r.agent = false → s.home.reqs = [] → s.home.wslots = [] → ∀ st,
      (maySend s r.agent op = false ∧ st = .errOpc) ∨
      (maySend s r.agent op = true ∧ portResolve s r.agent r.laddr = none ∧ st = .errAddr) ∨
      (maySend s r.agent op = true ∧ (portResolve s r.agent r.laddr).isSome = true ∧ fieldsOk op r = false ∧ st = .errField) →
      (st = .errOpc → Caused (zclReq op r bmask data v s) .proto (r.agent / 2)) ∧
      (st = .errAddr → Caused (zclReq op r bmask data v s) .errAddr 0) ∧
      (zclReq op r bmask data v s).tx = s.tx ++ [.rsp r.agent .cmpW 0 r.txid st] ∧
      (zclReq op r bmask data v s).home = { s.home with seqNo := s.home.seqNo + 1 } ∧
      Only [.regs, .links, .meter, .tx, .xbar, .home] s (zclReq op r bmask data v s)) := by
  have hn := hr.noCounter
  have hO := only_arrived hn r.agent false op.slots
  have hdet := detached_arrived hn r.agent false op.slots
  have hz : zclReq op r bmask data v s = lineReq op r bmask data v none false (arrived r.agent false op.slots s) := rfl
  rw [hz]
  generalize arrived r.agent false op.slots s = u at hO hdet
  have hu : r.agent / 2 < 32 := by omega
  have hR : ∀ c, c.cls = .none → Only [.regs, .links, .meter] s (raiseAt c (r.agent / 2) u) := fun c hc =>
    (hO.mono (by simp)).trans ((only_raiseAt_none hc _ u).mono (by simp))
  have hx : txidBusy u r.agent r.txid = txidBusy s r.agent r.txid := by rw [txidBusy, hO.home, txidBusy]
  have hbath : op.bath = false := by
    revert hop
    cases op <;> simp [ReqOp.noLine, ReqOp.bath]
  refine ⟨fun hd => ?_, fun hd hb => ?_, fun hd hq hw st hst => ?_⟩
  · rw [lineReq_detached (hdet.trans hd)]
    exact ⟨caused_raiseAt _ hu _, hR _ rfl⟩
  · rw [lineReq_dup (hdet.trans hd) (hx.trans hb)]
    exact ⟨caused_raiseAt _ hu _, hR _ rfl⟩
  · have hd' := hdet.trans hd
    have hx' := hx.trans (txidBusy_none hq hw _ _)
    have hnu := noCounter_of hn hO
    have hnum : (numbered u).home = { s.home with seqNo := s.home.seqNo + 1 } := by rw [numbered, updHome_home, hO.home]
    have hnO : Only [.links, .meter, .home] s (numbered u) := (hO.mono (by simp)).trans ((only_updHome _ _).mono (by simp))
    have hnn := noCounter_of hn hnO
    -- every refusal accepts the REQ, with its status, in a state with no other REQ
    have key : ∀ (p : Pend) (w : State), Only [.regs, .links, .meter, .home] s w → NoCounter w → w.home = (numbered u).home →
        p.portCpl = some st → p.cxl = none → p.op = op → p.req = r →
        lineReq op r bmask data v none false u = accept p w → (st = .errOpc → Caused w .proto (r.agent / 2)) →
        (st = .errOpc → Caused (lineReq op r bmask data v none false u) .proto (r.agent / 2)) ∧
        (st = .errAddr → Caused (lineReq op r bmask data v none false u) .errAddr 0) ∧
        (lineReq op r bmask data v none false u).tx = s.tx ++ [.rsp r.agent .cmpW 0 r.txid st] ∧
        (lineReq op r bmask data v none false u).home = { s.home with seqNo := s.home.seqNo + 1 } ∧
        Only [.regs, .links, .meter, .tx, .xbar, .home] s (lineReq op r bmask data v none false u) := by
      intro p w hw1 hw2 hw3 hcpl hcxl hpo hpr he hcz
      subst hpo hpr
      obtain ⟨h1, h2, h3, h4, h5⟩ := accept_refused hw2 (by rw [hw3, hnum, hq]) hcpl hcxl hbath
      rw [he]
      refine ⟨fun h => (caused_congr (h5 (by rw [h]; decide)) _ _).2 (hcz h), h4, by rw [h1, hw1.tx], by rw [h2, hw3, hnum],
        (hw1.mono (by simp)).trans (h3.mono (by simp))⟩
    rcases hst with ⟨hm, rfl⟩ | ⟨hm, hres, rfl⟩ | ⟨hm, hres, hf, rfl⟩
    · refine key _ _ ((hnO.mono (by simp)).trans ((only_raiseAt_none (c := .proto) rfl (r.agent / 2) _).mono (by simp)))
        (noCounter_raiseAt rfl hu hnn) (only_raiseAt_none (c := .proto) rfl (r.agent / 2) _).home rfl rfl rfl rfl
        (lineReq_class hd' hx' ((maySend_congr hO.regs _ _).trans hm)) fun _ => caused_raiseAt _ hu _
    · obtain ⟨tr, he⟩ := lineReq_addr (bmask := bmask) (data := data) (v := v) (fog := false) hd' hx'
        ((maySend_congr hO.regs _ _).trans hm) ((portResolve_congr hO.regs _ _).trans hres)
      exact key _ _ (hnO.mono (by simp)) hnn rfl rfl rfl rfl rfl he Status.noConfusion
    · obtain ⟨line, tr, dl, w, hcnt, he⟩ := lineReq_field (bmask := bmask) (data := data) (v := v) (fog := false) hd' hx'
        ((maySend_congr hO.regs _ _).trans hm) (by rw [portResolve_congr hO.regs]; exact hres) hf
      obtain ⟨c1, -, c3⟩ := countClamp_frame (numbered u)
      rcases hcnt with rfl | rfl
      · exact key _ _ (hnO.mono (by simp)) hnn rfl rfl rfl rfl rfl he Status.noConfusion
      · exact key _ _ ((hnO.mono (by simp)).trans (c1.mono (by simp))) (c3 hnn) c1.home rfl rfl rfl rfl he Status.noConfusion

/-- The writebacks. -/
theorem exec_wbk {m : Wbk} {c : Instr} (hc : c ∈ [Instr.wbMI m, .wbMS m, .wbME m, .wbOI m, .wbOS m]) :
    ∃ op : WbOp, ∀ s, exec c s = onUnit (okAgent m.agent) (heard (wbkArrive op m)) s := by
  simp only [List.mem_cons, List.not_mem_nil, or_false] at hc
  rcases hc with rfl | rfl | rfl | rfl | rfl
  · exact ⟨.mi, fun _ => rfl⟩
  · exact ⟨.ms, fun _ => rfl⟩
  · exact ⟨.me, fun _ => rfl⟩
  · exact ⟨.oi, fun _ => rfl⟩
  · exact ⟨.os, fun _ => rfl⟩

theorem resolve_congr {s t : State} (h : t.regs = s.regs) (a : Nat) (l : BitVec 46) : resolve t a l = resolve s a l := by
  have hrd : rd t = rd s := funext fun o => rd_congr h o
  unfold resolve windowOf rdf
  rw [hrd]

/-- A WBK that its port turns away. -/
theorem wbkArrive_refused {op : WbOp} {m : Wbk} {s : State} (hr : InRun s) (ha : m.agent < 32) :
    (detached s m.agent = true → Caused (wbkArrive op m s) .detached (m.agent / 2) ∧
      Only [.regs, .links, .meter] s (wbkArrive op m s)) ∧
    (detached s m.agent = false → txidBusy s m.agent m.txid = false → isCachingZcl s m.agent = false →
      Caused (wbkArrive op m s) .proto (m.agent / 2) ∧ Only [.regs, .links, .meter] s (wbkArrive op m s)) ∧
    (detached s m.agent = false → txidBusy s m.agent m.txid = false → isCachingZcl s m.agent = true →
      resolve s m.agent m.laddr = none → Caused (wbkArrive op m s) .errAddr 0 ∧
      (wbkArrive op m s).tx = s.tx ++ [.rsp m.agent .cmpWb 0 m.txid .errAddr] ∧
      Only [.regs, .links, .meter, .tx, .xbar] s (wbkArrive op m s)) := by
  have hn := hr.noCounter
  have hO := only_arrived hn m.agent true (if m.ptl then 6 else 5)
  have hdet := detached_arrived hn m.agent true (if m.ptl then 6 else 5)
  have hu : m.agent / 2 < 32 := by omega
  have hbusy : ∀ u : State, u.home = s.home → txidBusy u m.agent m.txid = txidBusy s m.agent m.txid := fun u h => by
    rw [txidBusy, h, txidBusy]
  have hcache : ∀ u : State, u.regs = s.regs → isCachingZcl u m.agent = isCachingZcl s m.agent := fun u h => by
    rw [isCachingZcl, isCachingZcl, isZcl_congr h, rd_congr h]
  refine ⟨fun hd => ?_, fun hd hx hc => ?_, fun hd hx hc hres => ?_⟩
  · have he : wbkArrive op m s = raiseAt .detached (m.agent / 2) (arrived m.agent true (if m.ptl then 6 else 5) s) :=
      if_pos (hdet.trans hd)
    rw [he]
    exact ⟨caused_raiseAt _ hu _, (hO.mono (by simp)).trans ((only_raiseAt_none (c := .detached) rfl _ _).mono (by simp))⟩
  · have he : wbkArrive op m s = raiseAt .proto (m.agent / 2) (arrived m.agent true (if m.ptl then 6 else 5) s) :=
      (if_neg (ne_true_of_eq_false (hdet.trans hd))).trans ((if_neg (ne_true_of_eq_false ((hbusy _ hO.home).trans hx))).trans
        (if_pos (by rw [show isCachingZcl (creditUsed m.agent true (received m.agent (if m.ptl then 6 else 5) s)) m.agent = false
          from (hcache _ hO.regs).trans hc]; rfl)))
    rw [he]
    exact ⟨caused_raiseAt _ hu _, (hO.mono (by simp)).trans ((only_raiseAt_none (c := .proto) rfl _ _).mono (by simp))⟩
  · have he : wbkArrive op m s = wbkErr m none (arrived m.agent true (if m.ptl then 6 else 5) s) := by
      refine (if_neg (ne_true_of_eq_false (hdet.trans hd))).trans ((if_neg (ne_true_of_eq_false ((hbusy _ hO.home).trans hx))).trans
        ((if_neg (by rw [show isCachingZcl (creditUsed m.agent true (received m.agent (if m.ptl then 6 else 5) s)) m.agent = true
          from (hcache _ hO.regs).trans hc]; decide)).trans ?_))
      rw [show resolve (creditUsed m.agent true (received m.agent (if m.ptl then 6 else 5) s)) m.agent m.laddr = none
        from (resolve_congr hO.regs _ _).trans hres]
      rfl
    rw [he]
    obtain ⟨h1, h2, h3, -⟩ := sendCpl_zcl (noCounter_of hn hO) m.agent .cmpWb 0 m.txid .errAddr false none
      (errDeadline (arrived m.agent true (if m.ptl then 6 else 5) s))
    exact ⟨h3 rfl, by rw [← hO.tx]; exact h1, (hO.mono (by simp)).trans (h2.mono (by simp))⟩

/-- Settles O19: the checks of R409 in their order. -/
theorem messagesTurnedAway : Obligations.MessagesTurnedAway := by
  unfold Obligations.MessagesTurnedAway
  refine ⟨fun r data mask v s hr ha p hp => ?_, fun m s hr ha c hc => ?_⟩
  · obtain ⟨hop, bm, d, w, hex⟩ := exec_zclReq hp
    obtain ⟨h1, h2, h3⟩ := zclReq_refused (bmask := bm) (data := d) (v := w) hr ha hop
    have hN : ∀ {k : List Side}, Only k s (zclReq p.2 r bm d w s) → .pending ∉ k → .aon ∉ k →
        exec p.1 s = .next (zclReq p.2 r bm d w s) := fun hO hp ha' => (hex s).trans (hr.hears (decide_eq_true ha) rfl hO hp ha')
    refine ⟨fun hd => ?_, fun hd hx => ?_, fun hd hq hw hm => ?_, fun hd hq hw hm hres => ?_, fun hd hq hw hm hres hf => ?_⟩
    · obtain ⟨g1, g2⟩ := h1 hd
      exact ⟨_, hN g2 (by decide) (by decide), g1, g2⟩
    · obtain ⟨g1, g2⟩ := h2 hd hx
      exact ⟨_, hN g2 (by decide) (by decide), g1, g2⟩
    · obtain ⟨g1, -, g3, g4, g5⟩ := h3 hd hq hw .errOpc (.inl ⟨hm, rfl⟩)
      exact ⟨_, hN g5 (by decide) (by decide), g1 rfl, g3, g4, g5⟩
    · obtain ⟨-, g2, g3, g4, g5⟩ := h3 hd hq hw .errAddr (.inr (.inl ⟨hm, hres, rfl⟩))
      exact ⟨_, hN g5 (by decide) (by decide), g2 rfl, g3, g4, g5⟩
    · obtain ⟨-, -, g3, g4, g5⟩ := h3 hd hq hw .errField (.inr (.inr ⟨hm, hres, hf, rfl⟩))
      exact ⟨_, hN g5 (by decide) (by decide), g3, g4, g5⟩
  · obtain ⟨op, hex⟩ := exec_wbk hc
    obtain ⟨h1, h2, h3⟩ := wbkArrive_refused (op := op) hr ha
    have hN : ∀ {k : List Side}, Only k s (wbkArrive op m s) → .pending ∉ k → .aon ∉ k →
        exec c s = .next (wbkArrive op m s) := fun hO hp ha' => (hex s).trans (hr.hears (decide_eq_true ha) rfl hO hp ha')
    refine ⟨fun hd => ?_, fun hd hx hcl => ?_, fun hd hx hcl hres => ?_⟩
    · obtain ⟨g1, g2⟩ := h1 hd
      exact ⟨_, hN g2 (by decide) (by decide), g1, g2⟩
    · obtain ⟨g1, g2⟩ := h2 hd hx hcl
      exact ⟨_, hN g2 (by decide) (by decide), g1, g2⟩
    · obtain ⟨g1, g2, g3⟩ := h3 hd hx hcl hres
      exact ⟨_, hN g3 (by decide) (by decide), g1, g2, g3⟩

end Sys2Proof.Machine
end

section
/-! PROOFS. Requests and writes of CXL hosts begin transactions (O24: R46, R47, R51, R205, R208, R302). -/

namespace Sys2Proof.Machine

theorem cxlServe_taken {op : ReqOp} {q : M2SReq} {meta0 : Bool} {line tray : Nat} {s : State} (hf : Fresh s) (hop : op ∈ [.rds, .rdx, .rdc, .upg, .flush])
    (hd : detached s q.agent = false) (hres : portResolve s q.agent q.laddr = some (line, tray))
    (hw : windowTray s line = none) (hb : bankHeld s (bankOf (line / 4)) = false) :
    LineTaken op (cxlReq q.agent q.tag q.laddr) 0 0 false line tray s (cxlServe op q meta0 s) := by
  refine lineReq_taken hf hd rfl hres ?_ ?_ hw hb
  · simp only [List.mem_cons, List.not_mem_nil, or_false] at hop
    rcases hop with rfl | rfl | rfl | rfl | rfl <;> rfl
  · simp only [List.mem_cons, List.not_mem_nil, or_false] at hop
    rcases hop with rfl | rfl | rfl | rfl | rfl <;> rfl

/-- The request that a message of a CXL host becomes, by the port's mode. -/
def hostOp (g6 : Bool) (q : M2SReq) : Instr → Option ReqOp
  | .memRd _ => some (if g6 then g6Read q else .rdc)
  | .memRdData _ => some (if g6 then .rds else .rdc)
  | .memInv _ => if g6 then (if q.metaV = .anyV then some .upg else if q.metaV = .invalid then some .flush else none) else none
  | .memInvNT _ => if g6 then (if q.metaV = .anyV then some .upg else if q.metaV = .invalid then some .flush else none) else none
  | _ => none

theorem g6Read_row (q : M2SReq) : g6Read q = memRdRow q.meta0 q.metaV q.snp := by
  unfold g6Read memRdRow
  cases q.meta0 <;> cases q.metaV <;> cases q.snp <;> rfl

theorem g6Read_mem (q : M2SReq) : g6Read q ∈ [ReqOp.rds, .rdx, .rdc, .upg, .flush] := by
  rw [g6Read_row]
  cases q.meta0 <;> cases q.metaV <;> cases q.snp <;> decide

/-- A request of an attached host, with Back-Invalidate where its port is CXL-G6, is served as one of the block's own. -/
theorem exec_hostReq {q : M2SReq} {c : Instr} {op : ReqOp} {s : State} (hr : InRun s) (hz : isZcl s q.agent = false)
    (hd : detached s q.agent = false) (hbi : isG6 s q.agent = true → biOn s q.agent = true)
    (hc : c ∈ [Instr.memRd q, .memRdData q, .memInv q, .memInvNT q]) (hop : hostOp (isG6 s q.agent) q c = some op) :
    op ∈ [ReqOp.rds, .rdx, .rdc, .upg, .flush] ∧ ∃ f m, exec c s = onUnit (okAgent q.agent) (heard f) s ∧
      f s = cxlServe op q m (arrived q.agent false 1 s) := by
  have hn := hr.noCounter
  have hg := isG6_congr (only_arrived hn q.agent false 1).regs q.agent
  have hgate : (isG6 s q.agent && !biOn s q.agent) = false := by
    cases h6 : isG6 s q.agent with
    | false => rfl
    | true => rw [hbi h6]; rfl
  have hpass : ∀ read f, cxlGate q read f s = f (arrived q.agent false 1 s) := fun read f => by
    rw [cxlGate_eq hz hn hd, hgate]
    rfl
  have hinv : ∀ op, (if isG6 s q.agent then
      (if q.metaV = .anyV then some ReqOp.upg else if q.metaV = .invalid then some .flush else none) else none) = some op →
      op ∈ [ReqOp.rds, .rdx, .rdc, .upg, .flush] ∧ opMemInv q s = cxlServe op q true (arrived q.agent false 1 s) := by
    intro op h
    rw [opMemInv, hpass, hg]
    cases h6 : isG6 s q.agent with
    | false =>
      rw [h6] at h
      cases h
    | true =>
      rw [h6] at h
      cases hv : q.metaV <;> rw [hv] at h <;> cases h <;> exact ⟨by decide, rfl⟩
  simp only [List.mem_cons, List.not_mem_nil, or_false] at hc
  rcases hc with rfl | rfl | rfl | rfl
  · cases h6 : isG6 s q.agent with
    | true =>
      rw [h6] at hop
      obtain rfl : g6Read q = op := Option.some.inj hop
      exact ⟨g6Read_mem q, _, q.meta0, rfl, by rw [opMemRd, hpass, hg, h6, if_pos rfl]⟩
    | false =>
      rw [h6] at hop
      obtain rfl : ReqOp.rdc = op := Option.some.inj hop
      exact ⟨by decide, _, false, rfl, by rw [opMemRd, hpass, hg, h6, if_neg Bool.false_ne_true]⟩
  · cases h6 : isG6 s q.agent with
    | true =>
      rw [h6] at hop
      obtain rfl : ReqOp.rds = op := Option.some.inj hop
      exact ⟨by decide, _, true, rfl, by rw [opMemRdData, hpass, hg, h6, if_pos rfl]⟩
    | false =>
      rw [h6] at hop
      obtain rfl : ReqOp.rdc = op := Option.some.inj hop
      exact ⟨by decide, _, false, rfl, by rw [opMemRdData, hpass, hg, h6, if_neg Bool.false_ne_true]⟩
  · obtain ⟨h1, h2⟩ := hinv op hop
    exact ⟨h1, _, true, rfl, h2⟩
  · obtain ⟨h1, h2⟩ := hinv op hop
    exact ⟨h1, _, true, rfl, h2⟩

theorem hostReq_dispatched {q : M2SReq} {c : Instr} {op : ReqOp} {line tray : Nat} {s : State} (hf : Fresh s)
    (hw : windowTray s line = none) (hb : bankHeld s (bankOf (line / 4)) = false) (ha : q.agent < 32)
    (hd : detached s q.agent = false) (hres : portResolve s q.agent q.laddr = some (line, tray)) (hz : isZcl s q.agent = false)
    (hbi : isG6 s q.agent = true → biOn s q.agent = true)
    (hc : c ∈ [Instr.memRd q, .memRdData q, .memInv q, .memInvNT q]) (hop : hostOp (isG6 s q.agent) q c = some op) :
    ∃ t, exec c s = .next t ∧ Dispatched t 0 op q.agent q.tag line tray ∧ Only [.regs, .dev, .home, .links, .meter] s t := by
  obtain ⟨hmem, f, m, hex, hfs⟩ := exec_hostReq hf.1 hz hd hbi hc hop
  have hn := hf.1.noCounter
  have hO := only_arrived hn q.agent false 1
  have hfu := fresh_arrived hf q.agent false 1
  have hdu := (detached_arrived hn q.agent false 1).trans hd
  generalize arrived q.agent false 1 s = u at hfs hO hfu hdu
  obtain ⟨h1, -, -, h4⟩ := cxlServe_taken (q := q) (meta0 := m) hfu hmem hdu ((portResolve_congr hO.regs _ _).trans hres)
    ((windowTray_congr hO.regs _).trans hw) ((bankHeld_congr hO.regs _).trans hb)
  have hA := (hO.mono (l := [.regs, .dev, .home, .links, .meter]) (by simp)).trans (h1.mono (by simp))
  exact ⟨_, hex.trans (hf.1.hears (decide_eq_true ha) hfs hA), h4, hA⟩

/-! ### Writes (R47, R51, R302) -/

/-- A write of a host begins its transaction, with its data, its mask and its poison. -/
def WriteTaken (m : M2SRwD) (op : ReqOp) (line tray : Nat) (s t : State) : Prop :=
  Dispatched t 0 op m.agent m.tag line tray ∧
  (∃ r, t.home.reqs = [r] ∧ r.data = m.data ∧ r.bmask = m.be ∧ r.fog = m.poison) ∧ Only [.regs, .dev, .home, .meter] s t

/-- A line without a record in a tray whose SPILL is 0 is not SPILLED. -/
theorem codeOf_ne_spilled {s : State} {tray : Nat} (h : traySpill s tray = false) (line : Nat) :
    codeOf s line { lst := .i, own := 0, sv := 0, tray := none, hit := false } (some tray) ≠ .spilled := by
  unfold codeOf
  dsimp only
  rw [h, if_neg Bool.false_ne_true, if_neg Bool.false_ne_true]
  split
  · exact Code.noConfusion
  · split
    · exact Code.noConfusion
    · exact Code.noConfusion

/-- The write-through that an RwD becomes where its line is not latent. -/
def hostWrite (m : M2SRwD) (ptl : Bool) (seq line tray : Nat) (dl : BitVec 32) : Pend :=
  let t0 := throughPend { agent := m.agent, txid := m.tag, op := metaWb m.metaV, ptl := ptl, fog := m.poison, bmask := m.be,
                          data := m.data, line := line, tray := tray, deadline := dl, seq := seq, place := .waiting,
                          written := false, acked := false, hold := false, status := .ok,
                          cxl := some { tag := m.tag, meta0 := false, write := true } } .stream
  { t0 with req := { t0.req with laddr := m.laddr, stream := m.laddr.setWidth 8 } }

theorem g6Write_taken {m : M2SRwD} {ptl : Bool} {line tray : Nat} {s : State} (hf : Fresh s)
    (hres : portResolve s m.agent m.laddr = some (line, tray)) (hw : windowTray s line = none)
    (hb : bankHeld s (bankOf (line / 4)) = false) (hsp : traySpill s tray = false) :
    WriteTaken m (if ptl then .wrp else .wrl) line tray s (g6Write m ptl s) := by
  have hf0 := hf
  obtain ⟨hr, -, -, -, -, -, -, hlat, -, hways, -, hev, -⟩ := hf0
  obtain ⟨hO, hR, hn⟩ := portDeadline_frame m.agent (some tray) 0 s
  obtain ⟨⟨dl, u⟩, hq⟩ : ∃ q, portDeadline m.agent (some tray) 0 s = q := ⟨_, rfl⟩
  rw [hq] at hO hR hn
  have hnO : Only [.home] u (numbered u) := only_updHome _ _
  have hsu : Only [.regs, .home] s (numbered u) := (hO.mono (by simp)).trans (hnO.mono (by simp))
  have hRq : RegsOnly ReqReg s (numbered u) :=
    (hR.mono fun o h => h.elim .inl fun h => .inr (.inl h)).trans (regsOnly_of_regs hnO.regs)
  have hfu : Fresh (numbered u) := hf.keep (hsu.mono (by simp)) hRq (noCounter_of (hn hr.noCounter) hnO)
    (by rw [numbered, updHome_home, hO.home])
  have hlt := bankOf_lt (line / 4)
  have hwu : windowTray (numbered u) line = none := by
    unfold windowTray at hw ⊢
    rw [← hw]
    have hrd : ∀ k, rd (numbered u) (trayBase k + 144) = rd s (trayBase k + 144) := fun k =>
      hRq _ (by unfold ReqReg trayBase; omega)
    simp only [hrd]
  have hbu : bankHeld (numbered u) (bankOf (line / 4)) = false := by
    rw [← hb, bankHeld, bankHeld, bankState, bankState, rdf, rdf, hRq (oBank (bankOf (line / 4))) (by unfold ReqReg oBank; omega)]
  have hspu : traySpill (numbered u) tray = false := by
    rw [← hsp, traySpill, traySpill, hRq (oTrCfg tray) (by unfold ReqReg oTrCfg trayBase; omega)]
  have hrec : recOf (numbered u) line = { lst := .i, own := 0, sv := 0, tray := none, hit := false } :=
    recOf_empty (by rw [hsu.sheet, hways]) (by rw [hsu.sheet, hev]) line
  have he : g6Write m ptl s = accept (hostWrite m ptl u.home.seqNo line tray dl) (numbered u) := by
    obtain ⟨pd, hpd⟩ : ∃ pd, pd = portDeadline := ⟨_, rfl⟩
    rw [← hpd] at hq
    unfold g6Write
    rw [← hpd]
    dsimp only
    rw [hres]
    dsimp only
    rw [hq]
    unfold nextSeq
    dsimp only
    refine if_pos ?_
    rw [show updHome (fun h => { h with seqNo := h.seqNo + 1 }) u = numbered u from rfl, hrec]
    have hh : holderOf (numbered u) line = none := by
      unfold holderOf numbered
      rw [updHome_home, hO.home, hlat]
      rfl
    have ho : isOwner (numbered u) m.agent line = false := by
      rw [isOwner, hrec]
      rfl
    rw [hh, ho, decide_eq_true (codeOf_ne_spilled hspu line)]
    simp
  rw [he]
  obtain ⟨h1, -, h3, h4⟩ := accept_fresh (p := hostWrite m ptl u.home.seqNo line tray dl) (tray := tray) hfu rfl
    (by cases ptl <;> rfl) rfl hwu hbu
  exact ⟨h4, ⟨_, h3, rfl, rfl, rfl⟩, (hsu.mono (by simp)).trans h1⟩

theorem cxlWrite_taken {m : M2SRwD} {ptl : Bool} {line tray : Nat} {s : State} (hf : Fresh s) (hz : isZcl s m.agent = false)
    (hd : detached s m.agent = false) (hres : portResolve s m.agent m.laddr = some (line, tray)) (hw : windowTray s line = none)
    (hb : bankHeld s (bankOf (line / 4)) = false)
    (h6 : isG6 s m.agent = true → biOn s m.agent = true ∧ traySpill s tray = false) : ∃ u, Only [.links, .meter] s u ∧
      WriteTaken m (if ptl then .wrp else .wrl) line tray u (cxlWrite m ptl s) := by
  have hn := hf.1.noCounter
  have hO := only_arrived hn m.agent true 5
  refine ⟨_, hO, ?_⟩
  have hfu := fresh_arrived hf m.agent true 5
  have hdu := (detached_arrived hn m.agent true 5).trans hd
  have hresu := (portResolve_congr hO.regs _ _).trans hres
  have hwu := (windowTray_congr hO.regs _).trans hw
  have hbu := (bankHeld_congr hO.regs _).trans hb
  have hg := isG6_congr hO.regs m.agent
  have hbi := biOn_congr hO.regs m.agent
  have hsp : traySpill (arrived m.agent true 5 s) tray = traySpill s tray := by rw [traySpill, traySpill, rd_congr hO.regs]
  have he : cxlWrite m ptl s = (fun u => if detached u m.agent then raiseAt .detached (m.agent / 2) u
      else if isG6 u m.agent then
        if !biOn u m.agent then biRefuse m.agent m.tag false u
        else if txidBusy u m.agent m.tag then raiseAt .txidDup (m.agent / 2) u
        else g6Write m ptl u
      else lineReq (if ptl then .wrp else .wrl) (cxlReq m.agent m.tag m.laddr) m.be m.data 0
        (some { tag := m.tag, meta0 := false, write := true }) m.poison u) (arrived m.agent true 5 s) :=
    if_neg (by rw [hz]; decide)
  rw [he]
  generalize arrived m.agent true 5 s = u at hfu hdu hresu hwu hbu hg hbi hsp
  dsimp only
  rw [hdu, if_neg Bool.false_ne_true]
  cases h : isG6 s m.agent with
  | true =>
    obtain ⟨h1, h2⟩ := h6 h
    obtain ⟨-, -, -, -, -, hreqs, hws, -⟩ := id hfu
    rw [hg, h, if_pos rfl, hbi, h1, if_neg (c := (!true) = true) (by decide), txidBusy_none hreqs hws, if_neg Bool.false_ne_true]
    exact g6Write_taken hfu hresu hwu hbu (hsp.trans h2)
  | false =>
    rw [hg, h, if_neg Bool.false_ne_true]
    obtain ⟨h1, -, ⟨q, h3, -, -, -, h4, h5, h6⟩, h7⟩ := lineReq_taken (op := if ptl then .wrp else .wrl)
      (r := cxlReq m.agent m.tag m.laddr) (bmask := m.be) (data := m.data) (v := 0)
      (form := some { tag := m.tag, meta0 := false, write := true }) (fog := m.poison) hfu hdu rfl hresu (by cases ptl <;> rfl)
      (by cases ptl <;> rfl) hwu hbu
    exact ⟨h7, ⟨q, h3, h4, h5, h6⟩, h1⟩

/-- Settles O24: reads and invalidations by Table LINE-12 and R51, then writes. -/
theorem cxlRequestsDispatched : Obligations.CxlRequestsDispatched := by
  unfold Obligations.CxlRequestsDispatched
  intro q w line tray s hf hwin hb
  have hz6 : ∀ a, isG6 s a = true → isZcl s a = false := fun a h => by
    rw [isZcl, show portMode s (a / 2) = 2 from of_decide_eq_true h]
    rfl
  have hz5 : ∀ a, isG5 s a = true → isZcl s a = false ∧ isG6 s a = false := fun a h => by
    rw [isZcl, isG6, show portMode s (a / 2) = 3 from of_decide_eq_true h]
    exact ⟨rfl, rfl⟩
  refine ⟨fun ha hd hres => ⟨fun h6 hbi p hp op hop => ?_, fun h5 c hc => ?_⟩, fun ha hd hres hg p hp => ?_⟩
  · refine hostReq_dispatched hf hwin hb ha hd hres (hz6 _ h6) (fun _ => hbi) ?_ ?_
    · simp only [List.mem_cons, List.not_mem_nil, or_false] at hp
      rcases hp with rfl | rfl | rfl | rfl <;> simp
    · rw [h6]
      simp only [List.mem_cons, List.not_mem_nil, or_false] at hp
      rcases hp with rfl | rfl | rfl | rfl
      · rw [← hop, ← g6Read_row]
        rfl
      · exact hop
      · exact hop
      · exact hop
  · obtain ⟨hz, h6⟩ := hz5 _ h5
    refine hostReq_dispatched hf hwin hb ha hd hres hz (fun h => absurd (h.symm.trans h6) (by decide)) ?_ ?_
    · simp only [List.mem_cons, List.not_mem_nil, or_false] at hc
      rcases hc with rfl | rfl <;> simp
    · rw [h6]
      simp only [List.mem_cons, List.not_mem_nil, or_false] at hc
      rcases hc with rfl | rfl <;> rfl
  · have hz : isZcl s w.agent = false := hg.elim (fun h => (hz5 _ h).1) fun h => hz6 _ h.1
    have h6 : isG6 s w.agent = true → biOn s w.agent = true ∧ traySpill s tray = false := fun h =>
      hg.elim (fun h5 => absurd (h.symm.trans (hz5 _ h5).2) (by decide)) fun h => h.2
    obtain ⟨ptl, hop, hex⟩ : ∃ ptl : Bool, p.2 = (if ptl then .wrp else .wrl) ∧
        exec p.1 s = onUnit (okAgent w.agent) (heard (cxlWrite w ptl)) s := by
      simp only [List.mem_cons, List.not_mem_nil, or_false] at hp
      rcases hp with rfl | rfl
      · exact ⟨false, rfl, rfl⟩
      · exact ⟨true, rfl, rfl⟩
    obtain ⟨u, hO, h1, ⟨r, h2, h3, h4, h5⟩, h7⟩ := cxlWrite_taken (ptl := ptl) hf hz hd hres hwin hb h6
    have hA := (hO.mono (l := [.regs, .dev, .home, .links, .meter]) (by simp)).trans (h7.mono (by simp))
    exact ⟨_, r, hex.trans (hf.1.hears (decide_eq_true ha) rfl hA), by rw [hop]; exact h1, h2, h3, h4, h5, hA⟩

end Sys2Proof.Machine
end

section
/-! PROOFS. Stop baths and voluntary detaches in a block with nothing in hand (O20: R91, R92, R95, R145, R212, R406). -/

namespace Sys2Proof.Machine

/-! ### A REQ that names no line begins (R212, R406) -/

/-- The context of a REQ that names no line, before it binds. -/
def noLineBlank (s : State) (p : Pend) (ph : Phase) : Ctx :=
  { Ctx.blank (.req p.op) with
      agent := some p.req.agent, txid := p.req.txid, reqOpc := p.op.num, deadline := p.deadline, ed := p.deadline,
      tray := p.tray, variant := trayVariant s (p.tray.getD 0), req := some p, es := BitVec.ofNat 5 p.req.agent, ex := reqEx p,
      phase := ph }

/-- The context of such a REQ bound, in context 0. -/
def noLineBound (p : Pend) (ph : Phase) (s : State) : State :=
  let u := count 0x02 ⟨p.tray, some p.req.agent, none⟩ 1 s
  bindCtx 0 (noLineBlank u p ph) (modPend p.seq (fun q => { q with place := .begun 0 }) u)

theorem noLineBound_frame {p : Pend} {ph : Phase} {s : State} (hn : NoCounter s) (hreqs : s.home.reqs = [p]) :
    let t := noLineBound p ph s
    Only [.regs, .dev, .home, .meter] s t ∧ RegsOnly (· = 0x020008) s t ∧
    t.home = { s.home with reqs := [{ p with place := .begun 0 }] } ∧
    ctxOf t 0 = some (bound s (noLineBlank s p ph)) ∧
    t.dev = { s.dev with ctxs := sSet s.dev.ctxs 0 (bound s (noLineBlank s p ph)) } := by
  have hO := only_count hn 0x02 ⟨p.tray, some p.req.agent, none⟩ 1
  intro t
  have ht : t = bindCtx 0 (noLineBlank (count 0x02 ⟨p.tray, some p.req.agent, none⟩ 1 s) p ph)
    (modPend p.seq (fun q => { q with place := .begun 0 }) (count 0x02 ⟨p.tray, some p.req.agent, none⟩ 1 s)) := rfl
  rw [ht]
  generalize count 0x02 ⟨p.tray, some p.req.agent, none⟩ 1 s = u at hO
  have hbl : noLineBlank u p ph = noLineBlank s p ph := by
    unfold noLineBlank trayVariant
    rw [rdf_congr hO.regs]
  have hm : (modPend p.seq (fun q => { q with place := .begun 0 }) u).home = { s.home with reqs := [{ p with place := .begun 0 }] } := by
    rw [modPend_only (by rw [hO.home, hreqs]), hO.home]
  have hmO : Only [.home] u (modPend p.seq (fun q => { q with place := .begun 0 }) u) := only_updHome _ _
  generalize modPend p.seq (fun q => { q with place := .begun 0 }) u = v at hm hmO
  have hsv : Only [.home, .meter] s v := (hO.mono (by simp)).trans (hmO.mono (by simp))
  obtain ⟨hbO, hbR, hbd⟩ := bindCtx_frame 0 (noLineBlank u p ph) v
  have hbx := ctxOf_bindCtx 0 (noLineBlank u p ph) v
  have hbnd : bound v (noLineBlank u p ph) = bound s (noLineBlank s p ph) := by
    unfold bound activeReel
    rw [rd_congr hsv.regs, hsv.dev, hbl]
  rw [hbnd] at hbx hbd
  exact ⟨(hsv.mono (by simp)).trans (hbO.mono (by simp)), (regsOnly_of_regs hsv.regs).trans hbR, hbO.home.trans hm, hbx,
    by rw [hbd, hsv.dev]⟩

theorem beginNoLine_detn {p : Pend} {s : State} (h : p.op = .detn) (ph : Phase) :
    beginNoLine 0 p ph s = modCtx 0 (fun y => { y with byRule := false }) (noLineBound p ph s) := if_pos h

theorem beginNoLine_bath {p : Pend} {s : State} {y : Ctx} (h : p.op ≠ .detn) (ph : Phase)
    (hy : ctxOf (noLineBound p ph s) 0 = some y) (hb : y.byRule = true) :
    beginNoLine 0 p ph s = postEvent (eventFor y 0 p.req.agent p.op.num p.req.agent (reqEx p))
      (modCtx 0 (fun z => { z with phase := .begin }) (noLineBound p ph s)) := by
  have he : beginNoLine 0 p ph s = (match ctxOf (noLineBound p ph s) 0 with
    | some y =>
      if y.byRule then postEvent (eventFor y 0 p.req.agent p.op.num p.req.agent (reqEx p))
        (modCtx 0 (fun z => { z with phase := .begin }) (noLineBound p ph s))
      else noLineBound p ph s
    | none => noLineBound p ph s) := if_neg h
  rw [he, hy]
  exact if_pos hb

/-- A stop bath begins in a block with nothing in hand. -/
structure BathTaken (op : ReqOp) (r : Req) (s t : State) : Prop where
  only : Only [.regs, .dev, .home, .meter] s t
  regs : RegsOnly (· = 0x020008) s t
  ctx : ∃ x, ctxOf t 0 = some x ∧ x.kind = .req op ∧ x.agent = some r.agent ∧ x.txid = r.txid ∧ x.line = none
  latent : t.home.latent = []
  ready : ∃ e, t.dev.ready = [e] ∧ e.ctx = 0 ∧ e.typ = op.num

theorem beginNoLine_taken {p : Pend} {s : State} (hn : NoCounter s) (hb : s.dev.byRule = true) (hready : s.dev.ready = [])
    (hreqs : s.home.reqs = [p]) (hl : s.home.latent = []) (hop : p.op ≠ .detn) (ph : Phase) :
    BathTaken p.op p.req s (beginNoLine 0 p ph s) := by
  obtain ⟨h1, h2, h3, h4, h5⟩ := noLineBound_frame (ph := ph) hn hreqs
  rw [beginNoLine_bath hop ph h4 hb]
  generalize noLineBound p ph s = u at h1 h2 h3 h4 h5
  have hx := ctxOf_modCtx_same h4 (fun z => { z with phase := .begin })
  have hO := only_modCtx 0 (fun z => { z with phase := .begin }) u
  have hr : (modCtx 0 (fun z : Ctx => { z with phase := .begin }) u).dev.ready = [] := by
    rw [show (modCtx 0 (fun z : Ctx => { z with phase := .begin }) u).dev.ready = u.dev.ready from rfl, h5]
    exact hready
  generalize modCtx 0 (fun z : Ctx => { z with phase := .begin }) u = v at hx hO hr
  rw [postEvent_idle (e := eventFor _ 0 _ _ _ _) hx (idles_begun hr rfl rfl rfl)]
  refine ⟨h1.trans ((hO.mono (by simp)).trans ((only_updDev _ _).mono (by simp))), h2.trans (regsOnly_of_regs hO.regs),
    ⟨_, hx, rfl, rfl, rfl, rfl⟩, ?_, ⟨eventFor (bound s (noLineBlank s p ph)) 0 p.req.agent p.op.num p.req.agent (reqEx p), ?_, rfl, rfl⟩⟩
  · rw [updDev_home, hO.home, h3]
    exact hl
  · rw [updDev_dev, hr]
    rfl

theorem advanceBath_fresh {p : Pend} {s : State} (hreqs : s.home.reqs = [p]) (hpl : p.place = .stream) (hrun : s.dev.running = true)
    (hctx : s.dev.ctxs = []) (hlat : s.home.latent = []) (hp : s.picks = []) : advanceBath p s = beginNoLine 0 p .bath s := by
  have hw : bathsWaiting s p.req.agent = 0 := by
    unfold bathsWaiting
    rw [hreqs]
    simp [hpl]
  unfold advanceBath
  dsimp only
  rw [hw, if_neg (by decide), hrun, if_neg (by decide), takeEntry_fresh hctx hlat hp]

theorem accept_bath {p : Pend} {s : State} (hf : Fresh s) (hcpl : p.portCpl = none) (hop : p.op.bath = true)
    (hpl : p.place = .stream) : BathTaken p.op p.req s (accept p s) := by
  obtain ⟨hr, hrun, hrule, hctx, hready, hreqs, hws, hlat, -, hways, herrs, hev, hp⟩ := hf
  have hq : Only [.home] s (pended p s) := only_updHome _ _
  have hqr : (pended p s).home.reqs = [p] := by
    rw [pended, updHome_home, hreqs]
    rfl
  have hnd : p.op ≠ .detn := by
    intro h
    rw [h] at hop
    cases hop
  have hadv : advance p (pended p s) = advanceBath p (pended p s) := by
    unfold advance
    dsimp only
    rw [hcpl]
    dsimp only
    rw [show isSafe (pended p s) = false from hr.notSafe, if_neg (by decide), hop, if_pos rfl]
  rw [accept_alone hreqs, hadv, advanceBath_fresh (s := pended p s) hqr hpl hrun hctx hlat hp]
  obtain ⟨h1, h2, h3, h4, h5⟩ := beginNoLine_taken (s := pended p s) hr.noCounter hrule hready hqr hlat hnd .bath
  exact ⟨(hq.mono (by simp)).trans h1, h2, h3, h4, h5⟩

/-- A DetN waits in its buffer for its dispatch conditions (R406). -/
theorem accept_detn {p : Pend} {s : State} (hsafe : isSafe s = false) (hreqs : s.home.reqs = []) (hcpl : p.portCpl = none)
    (hop : p.op = .detn) : accept p s = updHome (fun h => { h with reqs := [{ p with place := .detn }] }) s := by
  have hadv : advance p (pended p s) = modPend p.seq (fun r => { r with place := .detn }) (pended p s) := by
    unfold advance
    dsimp only
    rw [hcpl]
    dsimp only
    rw [show isSafe (pended p s) = false from hsafe, if_neg (by decide), hop]
    rfl
  rw [accept_alone hreqs, hadv, modPend, pended, updHome, updHome, hreqs]
  simp [modFirst, updHome]

theorem lowestTray_congr {s t : State} (h : t.regs = s.regs) (a : Nat) : lowestTray t a = lowestTray s a := by
  unfold lowestTray isMember
  rw [show rd t = rd s from funext fun o => rd_congr h o]

/-- A REQ without a line whose checks pass is accepted in a block with nothing in hand. -/
theorem noLineReq_accepts {op : ReqOp} {r : Req} {tray : Nat} {s : State} (hf : Fresh s) (hd : detached s r.agent = false)
    (ht : lowestTray s r.agent = some tray) (hm : maySend s r.agent op = true) :
    ∃ seq dl u, noLineReq op r s = accept (mkPend seq op r 0 0 0 0 (some tray) dl none none false) u ∧ Fresh u ∧
      Only [.regs, .home, .links, .meter] s u ∧ RegsOnly ReqReg s u := by
  have hn := hf.1.noCounter
  have hA := only_arrived hn r.agent false 1
  have hfa := fresh_arrived hf r.agent false 1
  have hda := (detached_arrived hn r.agent false 1).trans hd
  obtain ⟨a, ha⟩ : ∃ a, creditUsed r.agent false (received r.agent 1 s) = a := ⟨_, rfl⟩
  rw [show arrived r.agent false 1 s = a from ha] at hA hfa hda
  have hnO : Only [.home] a (numbered a) := only_updHome _ _
  obtain ⟨hO, hR, hnn⟩ := portDeadline_frame r.agent (some tray) r.deadline (numbered a)
  obtain ⟨⟨dl, u⟩, hq⟩ : ∃ q, portDeadline r.agent (some tray) r.deadline (numbered a) = q := ⟨_, rfl⟩
  rw [hq] at hO hR hnn
  have hau : Only [.regs, .home] a u := (hnO.mono (by simp)).trans (hO.mono (by simp))
  have hRa : RegsOnly ReqReg a u :=
    ((regsOnly_of_regs hnO.regs).trans hR).mono fun o h => h.elim .inl fun h => .inr (.inl h)
  have hta := (lowestTray_congr hA.regs r.agent).trans ht
  have hRt : ∀ k, 0x200000 ≤ k → rd u k = rd s k := fun k hk =>
    (hRa k (by unfold ReqReg; omega)).trans (rd_congr hA.regs k)
  have htu : lowestTray u r.agent = some tray := by
    rw [← ht]
    unfold lowestTray isMember
    have hmb : ∀ k, rd u (oMemb k) = rd s (oMemb k) := fun k => hRt _ (by unfold oMemb trayBase; omega)
    simp only [hmb]
  refine ⟨a.home.seqNo, dl, u, ?_, hfa.keep (hau.mono (by simp)) hRa (hnn (noCounter_of hfa.1.noCounter hnO))
    (by rw [hO.home]; rfl), (hA.mono (by simp)).trans (hau.mono (by simp)), (regsOnly_of_regs hA.regs).trans hRa⟩
  obtain ⟨pd, hpd⟩ : ∃ pd, pd = portDeadline := ⟨_, rfl⟩
  rw [← hpd] at hq
  unfold noLineReq
  rw [← hpd]
  have hfa0 := hfa
  obtain ⟨-, -, -, -, -, hreqs, hws, -⟩ := hfa0
  dsimp only
  rw [ha, hda, if_neg (by decide), txidBusy_none hreqs hws, if_neg (by decide)]
  unfold nextSeq
  dsimp only
  rw [show updHome (fun h => { h with seqNo := h.seqNo + 1 }) a = numbered a from rfl,
    show maySend (numbered a) r.agent op = true from (maySend_congr hA.regs _ _).trans hm, if_neg (by decide),
    show lowestTray (numbered a) r.agent = some tray from hta, hq]
  dsimp only
  rw [htu]
  rfl

/-! ### DETN_DISPATCH in a block with nothing else in hand (R91, R92, R95, R406) -/

theorem takeEntry_second {x : Ctx} {s : State} (hc : s.dev.ctxs = [(0, x)]) (hl : s.home.latent = []) (hp : s.picks = []) :
    takeEntry s = some (1, s) := by
  have h0 : entryFree s 0 = false := by simp [entryFree, ctxOf, hc, sFind]
  have h1 : entryFree s 1 = true := by simp [entryFree, ctxOf, entryHeld, hc, hl, sFind]
  rw [takeEntry, choose_default _ hp, show Config.latentEntries = 8190 + 1 + 1 from rfl]
  dsimp only
  rw [scanFree, if_neg (by rw [show (0 % Config.latentEntries) = 0 from rfl, h0]; decide), scanFree,
    if_pos (show entryFree s ((0 + 1) % Config.latentEntries) = true from h1)]
  rfl

/-- The context of a detach's rules, before it binds. -/
def detachBlank (s : State) (ex : W64) : Ctx :=
  { Ctx.blank .detach with
      tray := none, variant := trayVariant s 0, deadline := BitVec.ofNat 32 (nowNs s), ed := BitVec.ofNat 32 (nowNs s),
      ea := w64 (64 * 0), ex := ex }

/-- The DETACH event (Table DEV-6). -/
def detachEvent (s : State) (ex : W64) : Event :=
  { ts := 42, ctx := 1, typ := 0x3F#6, ea := w64 (64 * 0), es := 0, ed := BitVec.ofNat 32 (nowNs s), ex := ex, code := none }

/-- A context of detach bound as the block's second. -/
structure WorkPosted (ex : W64) (x : Ctx) (s t : State) : Prop where
  only : Only [.regs, .dev] s t
  ctxs : ∃ y, t.dev.ctxs = [(0, x), (1, y)] ∧ y.kind = .detach ∧ y.owed = [] ∧ y.agent = none ∧ y.st = .run
  ready : t.dev.ready = [detachEvent s ex]

theorem postWork_second {ex : W64} {x : Ctx} {s : State} (hc : s.dev.ctxs = [(0, x)]) (hl : s.home.latent = []) (hp : s.picks = [])
    (hr : s.dev.ready = []) : ∃ t, postWork .detach none 0x3F#6 0 ex s = some t ∧ WorkPosted ex x s t := by
  obtain ⟨hO, -, hd⟩ := bindCtx_frame 1 (detachBlank s ex) s
  have hx := ctxOf_bindCtx 1 (detachBlank s ex) s
  have he : postWork .detach none 0x3F#6 0 ex s = some (postEvent (detachEvent s ex)
      (modCtx 1 (fun y => { y with byRule := true }) (bindCtx 1 (detachBlank s ex) s))) := by
    unfold postWork
    rw [takeEntry_second hc hl hp]
    rfl
  rw [he]
  refine ⟨_, rfl, ?_⟩
  generalize bindCtx 1 (detachBlank s ex) s = u at hO hd hx
  rw [modCtx_eq hx]
  have hy := ctxOf_setCtx_same 1 { bound s (detachBlank s ex) with byRule := true } u
  have hsO := only_setCtx 1 { bound s (detachBlank s ex) with byRule := true } u
  have hcs : (setCtx 1 { bound s (detachBlank s ex) with byRule := true } u).dev.ctxs =
      [(0, x), (1, { bound s (detachBlank s ex) with byRule := true })] := by
    rw [setCtx, updDev_dev, hd, hc]
    rfl
  have hrd : (setCtx 1 { bound s (detachBlank s ex) with byRule := true } u).dev.ready = [] := by
    rw [setCtx, updDev_dev, hd]
    exact hr
  generalize setCtx 1 { bound s (detachBlank s ex) with byRule := true } u = v at hy hsO hcs hrd
  rw [postEvent_idle (e := detachEvent s ex) hy (idles_begun hrd rfl rfl rfl)]
  refine ⟨hO.trans ((hsO.mono (by simp)).trans ((only_updDev _ _).mono (by simp))), ⟨_, hcs, rfl, rfl, rfl, rfl⟩, ?_⟩
  rw [updDev_dev, hrd]
  rfl

/-- A detach reaches no transaction where the block's contexts are those of the DetN and of the detach's own rules. -/
theorem detachTxns_two {a : Nat} {vol : Bool} {x y : Ctx} {s : State} (hc : s.dev.ctxs = [(0, x), (1, y)]) (hxo : x.owed = [])
    (hxs : x.st = .run) (hxk : x.kind = .req .detn) (hyo : y.owed = []) (hys : y.st = .run) (hya : y.agent = none) :
    detachTxns a none vol s = s := by
  have hsyn : ∀ c z, ctxOf s c = some z → z.owed = [] → z.st = .run → synthetic a c vol s = ([], s) := by
    intro c z hz ho hs
    unfold synthetic
    rw [hz]
    simp [ho, hs]
  have h0 := hsyn 0 x (by rw [ctxOf, hc]; rfl) hxo hxs
  have h1 := hsyn 1 y (by rw [ctxOf, hc]; rfl) hyo hys
  have hcx : cmpAsIf a none (0, x) s = ([], s) := by
    unfold cmpAsIf
    simp [hxk, CtxKind.isReq]
  have hcy : cmpAsIf a none (1, y) s = ([], s) := by
    unfold cmpAsIf
    simp [hya]
  unfold detachTxns
  simp only [hc, List.foldl_cons, List.foldl_nil, inScope, if_true, h0, h1, hcx, hcy, List.append_nil]
  exact go_nil s

theorem dropEmptyHandovers_none {s : State} (h : s.home.latent = []) : dropEmptyHandovers s = s := by
  rw [dropEmptyHandovers, h]
  rfl

theorem dropPends_begun {a : Nat} {q : Pend} {c : Nat} {s : State} (hq : s.home.reqs = [q]) (hp : q.place = .begun c)
    (hch : s.home.chains = []) : (dropPends a s).home = s.home := by
  rw [dropPends, updHome_home, hq, hch]
  simp only [List.filter_cons, List.filter_nil, hp, Bool.or_true, if_true, List.map_nil]
  rw [← hq, ← hch]

/-- The links of an agent that detaches by itself. -/
def leftLink (a : Nat) (s : State) : State := setLink a (fun l => { l with attached := false, vol := true }) s

/-- A DetN in context 0 of a block with nothing else in hand detaches its agent. -/
structure Detached (a : Nat) (s t : State) : Prop where
  only : Only [.regs, .dev, .home, .links, .sheet] s t
  links : t.links = (leftLink a s).links
  resv : t.home.resv = s.home.resv.filter (fun q => !decide (q.agent = a))
  sweeps : t.sheet.sweeps = s.sheet.sweeps ++
    [{ kind := .detach a true (some 0), next := 0, fogged := false, posted := true, raised := false }]
  ctx : ∃ y, ctxOf t 1 = some y ∧ y.kind = .detach
  ready : ∃ e, t.dev.ready = [e] ∧ e.ctx = 1 ∧ e.ts = 42 ∧ e.typ = 0x3F#6 ∧ e.ex = w64 (0x3F + 2 ^ 6 + 2 ^ 7 * a)

theorem detachAgent_alone {a : Nat} {q : Pend} {x : Ctx} {s : State} (hrun : s.dev.running = true) (hrule : s.dev.byRule = true)
    (hc : s.dev.ctxs = [(0, x)]) (hxo : x.owed = []) (hxs : x.st = .run) (hxk : x.kind = .req .detn) (hr : s.dev.ready = [])
    (hl : s.home.latent = []) (hch : s.home.chains = []) (hq : s.home.reqs = [q]) (hqp : q.place = .begun 0) (hp : s.picks = []) :
    Detached a s (detachAgent a true (some 0) s) := by
  have he : detachAgent a true (some 0) s = dropEmptyHandovers (detachTxns a none true
      (startSweep (.detach a true (some 0)) (clearResvIf (fun q => decide (q.agent = a)) (dropPends a (leftLink a s))))) := rfl
  have hlO : Only [.links] s (leftLink a s) := only_setLink _ _ _
  rw [he]
  generalize hw : leftLink a s = w at hlO ⊢
  have hdO : Only [.home] w (dropPends a w) := only_updHome _ _
  have hdh : (dropPends a w).home = s.home :=
    (dropPends_begun (by rw [hlO.home, hq]) hqp (by rw [hlO.home, hch])).trans hlO.home
  generalize dropPends a w = v at hdO hdh ⊢
  have hcO : Only [.home] v (clearResvIf (fun q => decide (q.agent = a)) v) := by simp [only_iff, clearResvIf]
  have hcr : (clearResvIf (fun q => decide (q.agent = a)) v).home.resv = s.home.resv.filter (fun q => !decide (q.agent = a)) := by
    rw [clearResvIf, hdh]
  have hcl : (clearResvIf (fun q => decide (q.agent = a)) v).home.latent = [] := by
    rw [clearResvIf, hdh]
    exact hl
  generalize clearResvIf (fun q => decide (q.agent = a)) v = u at hcO hcr hcl ⊢
  have hsu : Only [.links, .home] s u := (hlO.mono (by simp)).trans ((hdO.mono (by simp)).trans (hcO.mono (by simp)))
  obtain ⟨t, hwt, hWo, ⟨y, hy, hyk, hyo, hya, hys⟩, hrdy⟩ := postWork_second (ex := w64 (0x3F + 2 ^ 6 * b2n true + 2 ^ 7 * a))
    (by rw [hsu.dev, hc]) hcl (by rw [hsu.picks, hp]) (by rw [hsu.dev, hr])
  have hsweep : startSweep (.detach a true (some 0)) u = updSheet (fun z => { z with
      sweeps := z.sweeps ++ [{ kind := .detach a true (some 0), next := 0, fogged := false, posted := true, raised := false }] }) t := by
    have hpost : postDetach { kind := .detach a true (some 0), next := 0, fogged := false, posted := false, raised := false } u =
        (true, t) := by
      unfold postDetach
      dsimp only [SweepKind.detachEx]
      rw [if_neg (by rw [hsu.dev, hrule]; decide), if_neg (by rw [hsu.dev, hrun]; decide), hwt]
    unfold startSweep
    dsimp only
    rw [hpost]
  have hut : Only [.sheet] t (startSweep (.detach a true (some 0)) u) := by
    rw [hsweep]
    exact only_updSheet _ _
  have hsw : (startSweep (.detach a true (some 0)) u).sheet.sweeps = s.sheet.sweeps ++
      [{ kind := .detach a true (some 0), next := 0, fogged := false, posted := true, raised := false }] := by
    rw [hsweep, updSheet_sheet, hWo.sheet, hsu.sheet]
  generalize startSweep (.detach a true (some 0)) u = z at hut hsw ⊢
  have hz : z.home = u.home := hut.home.trans hWo.home
  rw [detachTxns_two (by rw [hut.dev, hy]) hxo hxs hxk hyo hys hya, dropEmptyHandovers_none (by rw [hz, hcl])]
  refine ⟨(hsu.mono (by simp)).trans ((hWo.mono (by simp)).trans (hut.mono (by simp))), ?_, by rw [hz, hcr], hsw, ⟨y, ?_, hyk⟩,
    _, by rw [hut.dev, hrdy], rfl, rfl, rfl, rfl⟩
  · rw [hut.links, hWo.links, hcO.links, hdO.links, hw]
  · rw [ctxOf, hut.dev, hy]
    rfl

theorem opDetnDispatch_alone {a : Nat} {p : Pend} {s : State} (hreqs : s.home.reqs = [p]) (ha : p.req.agent = a) (hop : p.op = .detn)
    (hpl : p.place = .detn) (hf : Fresh { s with home := { s.home with reqs := [] } }) : ∃ t, opDetnDispatch a s = t ∧
      Only [.regs, .dev, .home, .links, .meter, .sheet] s t ∧ t.links = (leftLink a s).links ∧
      t.home.resv = s.home.resv.filter (fun q => !decide (q.agent = a)) ∧
      t.sheet.sweeps = s.sheet.sweeps ++
        [{ kind := .detach a true (some 0), next := 0, fogged := false, posted := true, raised := false }] ∧
      (∃ y, ctxOf t 1 = some y ∧ y.kind = .detach) ∧
      ∃ e, t.dev.ready = [e] ∧ e.ctx = 1 ∧ e.ts = 42 ∧ e.typ = 0x3F#6 ∧ e.ex = w64 (0x3F + 2 ^ 6 + 2 ^ 7 * a) := by
  obtain ⟨hr, hrun, hrule, hctx, hready, -, hws, hlat, hch, -, -, -, hp⟩ := hf
  have hrdy : detnReady s a p = true := by
    unfold detnReady
    rw [hreqs, show s.home.wslots = [] from hws]
    simp
  have he : opDetnDispatch a s = detachAgent a true (some 0) (beginNoLine 0 p .detach s) := by
    unfold opDetnDispatch
    rw [hreqs]
    simp only [List.find?_cons, ha, hpl, decide_true, Bool.and_self]
    rw [show isSafe s = false from hr.notSafe, show s.dev.running = true from hrun, hrdy,
      if_neg (by decide), takeEntry_fresh (s := s) hctx hlat hp]
  rw [he, beginNoLine_detn hop]
  obtain ⟨h1, -, h3, h4, h5⟩ := noLineBound_frame (s := s) (ph := .detach) hr.noCounter hreqs
  generalize noLineBound p .detach s = u at h1 h3 h4 h5
  rw [modCtx_eq h4]
  have hO := only_setCtx 0 { bound s (noLineBlank s p .detach) with byRule := false } u
  have hd : (setCtx 0 { bound s (noLineBlank s p .detach) with byRule := false } u).dev =
      { s.dev with ctxs := [(0, { bound s (noLineBlank s p .detach) with byRule := false })] } := by
    rw [setCtx, updDev_dev, h5, show s.dev.ctxs = [] from hctx]
    rfl
  generalize setCtx 0 { bound s (noLineBlank s p .detach) with byRule := false } u = v at hO hd
  have hsv : Only [.regs, .dev, .home, .meter] s v := h1.trans (hO.mono (by simp))
  have hvh : v.home = { s.home with reqs := [{ p with place := .begun 0 }] } := hO.home.trans h3
  obtain ⟨g1, g2, g3, g4, g5, g6⟩ := detachAgent_alone (a := a) (q := { p with place := .begun 0 })
    (x := { bound s (noLineBlank s p .detach) with byRule := false }) (s := v) (by rw [hd]; exact hrun) (by rw [hd]; exact hrule)
    (by rw [hd]) rfl rfl (congrArg CtxKind.req hop) (by rw [hd]; exact hready) (by rw [hvh]; exact hlat) (by rw [hvh]; exact hch)
    (by rw [hvh]) rfl (hsv.picks.trans hp)
  refine ⟨_, rfl, (hsv.mono (by simp)).trans (g1.mono (by simp)), ?_, by rw [g3, hvh], by rw [g4, hsv.sheet], g5, g6⟩
  rw [g2, leftLink, leftLink, setLink_links, setLink_links, hsv.links]

/-- Settles O20: stop baths, the DetN that waits, and its dispatch. -/
theorem bathsAndDetach : Obligations.BathsAndDetach := by
  unfold Obligations.BathsAndDetach
  refine ⟨fun r tray s hf ha hd ht => ⟨fun p hp hz => ?_, fun hc => ?_⟩, fun a p s ha hreqs hpa hop hpl hf => ?_⟩
  · obtain ⟨hb, hm, hex⟩ : p.2.bath = true ∧ maySend s r.agent p.2 = true ∧
        exec p.1 s = onUnit (okAgent r.agent) (heard (noLineReq p.2 r)) s := by
      simp only [List.mem_cons, List.not_mem_nil, or_false] at hp
      rcases hp with rfl | rfl
      · exact ⟨rfl, hz, rfl⟩
      · exact ⟨rfl, hz, rfl⟩
    obtain ⟨seq, dl, u, he, hfu, hO, hR⟩ := noLineReq_accepts hf hd ht hm
    obtain ⟨h1, h2, ⟨x, hx, hk, hag, htx, hxl⟩, hlat, e, hrdy, hec, het⟩ :=
      accept_bath (p := mkPend seq p.2 r 0 0 0 0 (some tray) dl none none false) hfu rfl hb rfl
    have hA := hO.mono (l := [.regs, .dev, .home, .links, .meter]) (by simp) |>.trans (h1.mono (by simp))
    exact ⟨_, x, e, hex.trans (hf.1.hears (decide_eq_true ha) he hA), hx, hk, hag, htx, hxl, hlat, hrdy, hec, het, hA,
      hR.trans (h2.mono fun o h => .inr (.inr h))⟩
  · obtain ⟨seq, dl, u, he, hfu, hO, hR⟩ := noLineReq_accepts (op := .detn) hf hd ht hc
    obtain ⟨hru, -, -, -, -, hq, -⟩ := hfu
    have hacc := accept_detn (p := mkPend seq .detn r 0 0 0 0 (some tray) dl none none false) hru.notSafe hq rfl rfl
    have hA : Only [.regs, .home, .links, .meter] s (noLineReq .detn r s) := by
      rw [he, hacc]
      exact hO.trans ((only_updHome _ _).mono (by simp))
    refine ⟨_, { mkPend seq .detn r 0 0 0 0 (some tray) dl none none false with place := .detn },
      hf.1.hears (decide_eq_true ha) rfl hA, ?_, rfl, rfl, rfl, hA.dev, hA, ?_⟩
    · rw [he, hacc, updHome_home]
    · rw [he, hacc]
      exact hR
  · obtain ⟨t, he, hO, hlk, hrs, hsw, ⟨y, hy, hyk⟩, e, hrdy, hec, hets, hety, heex⟩ :=
      opDetnDispatch_alone hreqs hpa hop hpl hf
    have hla : linkOf t a = { linkOf s a with attached := false, vol := true } :=
      (linkOf_congr hlk a).trans (linkOf_setLink_same a _ s)
    refine ⟨t, exec_live (decide_eq_true ha) hf.1.1 he hO.pending hO.aon, ?_, by rw [hla], by rw [hla], fun q hq => ?_, hsw,
      ⟨y, e, hy, hyk, hrdy, hec, hets, hety, heex⟩, fun b hb => ?_, hO.mem, hO.tx⟩
    · rw [detached, hla]
      rfl
    · rw [hrs, List.mem_filter] at hq
      simpa using hq.2
    · exact (linkOf_congr hlk b).trans (linkOf_setLink_ne hb _ s)

end Sys2Proof.Machine
end

section
/-! PROOFS. A writeback takes its agent's first slot and begins its transaction there (O22: R35, R54, R74, R409). -/

namespace Sys2Proof.Machine

/-- A context whose step leaves nothing to go on with. -/
theorem go_done {c : Nat} {s t : State} (h : stepTxn c s = ([], t)) : go [c] s = t := by
  rw [go, show (4096 : Nat) = 4095 + 1 from rfl, run, h]
  exact run_nil _ _

theorem freeSlot_none {s : State} (h : s.home.wslots = []) (a : Nat) : freeSlot s a = some (16 * a) := by
  have hf : ∀ w, (slotOf s w).isNone = true := fun w => by
    rw [slotOf, h]
    rfl
  have hr : List.range Config.wbSlotsPerAgent = 0 :: List.range' 1 15 := by decide
  unfold freeSlot
  rw [hr, List.map_cons, List.find?_cons_of_pos (p := fun w => (slotOf s w).isNone) (hf _)]
  exact congrArg some (Nat.mul_comm a 16)

theorem noCounter_bindCtx {s : State} (h : NoCounter s) (c : Nat) (x : Ctx) : NoCounter (bindCtx c x s) := by
  rcases regs_bindCtx c x s with hr | ⟨v, hr⟩
  · exact (noCounter_congr hr).2 h
  · exact (noCounter_congr hr).2 (h.wr (by decide))

/-- The context of a writeback, before it binds. -/
def wbBlank (s : State) (w : Nat) (p : WSlot) : Ctx :=
  { Ctx.blank (.wb w) with
      agent := some p.agent, txid := p.txid, deadline := p.deadline, ed := p.deadline, es := BitVec.ofNat 5 p.agent,
      line := some p.line, tray := some p.tray, variant := trayVariant s p.tray, ea := w64 (64 * p.line),
      early := trayEarly s p.tray, wbd := some w, writer := some (p.agent, p.txid) }

/-- A writeback's context bound, its line latent for it. -/
def wbBound (w : Nat) (p : WSlot) (s : State) : State :=
  setHolder p.line (.ctx (8192 + w)) (bindCtx (8192 + w) (wbBlank s w p) (modSlot w (fun q => { q with place := .txn }) s))

theorem bindWb_eq (w : Nat) (p : WSlot) (s : State) : bindWb w p s = (8192 + w, wbBound w p s) := rfl

theorem wbBound_frame {w : Nat} {p : WSlot} {s : State} (hw : s.home.wslots = [(w, p)]) (hl : s.home.latent = []) :
    let t := wbBound w p s
    Only [.regs, .dev, .home] s t ∧ RegsOnly (· = 0x020008) s t ∧
    t.home = { s.home with wslots := [(w, { p with place := .txn })], latent := [(p.line, .ctx (8192 + w))] } ∧
    ctxOf t (8192 + w) = some (bound s (wbBlank s w p)) ∧
    t.dev = { s.dev with ctxs := sSet s.dev.ctxs (8192 + w) (bound s (wbBlank s w p)) } ∧ (NoCounter s → NoCounter t) := by
  have hm : (modSlot w (fun q => { q with place := .txn }) s).home = { s.home with wslots := [(w, { p with place := .txn })] } := by
    rw [modSlot, updHome_home, hw]
    simp [sMod, sFind, sSet]
  have hmO : Only [.home] s (modSlot w (fun q => { q with place := .txn }) s) := only_updHome _ _
  intro t
  have ht : t = setHolder p.line (.ctx (8192 + w)) (bindCtx (8192 + w) (wbBlank s w p) (modSlot w (fun q => { q with place := .txn }) s)) :=
    rfl
  rw [ht]
  generalize modSlot w (fun q => { q with place := .txn }) s = u at hm hmO
  obtain ⟨hbO, hbR, hbd⟩ := bindCtx_frame (8192 + w) (wbBlank s w p) u
  have hbx := ctxOf_bindCtx (8192 + w) (wbBlank s w p) u
  have hbnd : bound u (wbBlank s w p) = bound s (wbBlank s w p) := by
    unfold bound activeReel
    rw [rd_congr hmO.regs, hmO.dev]
  rw [hbnd] at hbx hbd
  have hbn : NoCounter u → NoCounter (bindCtx (8192 + w) (wbBlank s w p) u) := fun h => noCounter_bindCtx h _ _
  generalize bindCtx (8192 + w) (wbBlank s w p) u = v at hbO hbR hbd hbx hbn
  have hO : Only [.home] v (setHolder p.line (.ctx (8192 + w)) v) := only_updHome _ _
  refine ⟨(hmO.mono (by simp)).trans ((hbO.mono (by simp)).trans (hO.mono (by simp))),
    ((regsOnly_of_regs hmO.regs).trans hbR).trans (regsOnly_of_regs hO.regs), ?_, hbx, ?_,
    fun h => noCounter_of (hbn (noCounter_of h hmO)) hO⟩
  · rw [setHolder, updHome_home, hbO.home, hm, hl]
    rfl
  · rw [hO.dev, hbd, hmO.dev]

/-- A line without a record is not its writer's (R73). -/
theorem wbCase_empty {s : State} (h : s.sheet.ways = []) (he : s.sheet.evSlots = []) {p : WSlot} (hc : p.cxl = none) :
    wbCase s p = .stale := by
  unfold wbCase
  rw [recOf_empty h he, hc]
  rfl

/-- The writeback's transaction has its code and EX, and its event is ready. -/
theorem prepWb_fresh {c w : Nat} {x : Ctx} {p : WSlot} {s : State} (hn : NoCounter s) (hb : bankHeld s (bankOf (p.line / 4)) = false)
    (hf : x.inFlight = none) (hch : x.chain = 0) (hst : x.stall = none)
    (hr : s.dev.ready = []) (hways : s.sheet.ways = []) (herrs : s.sheet.errs = []) (hev : s.sheet.evSlots = []) (hc : p.cxl = none) :
    let t := prepWb c w x p s
    Only [.dev, .meter] s t ∧ (∃ y, ctxOf t c = some y ∧ y.kind = x.kind ∧ y.wbd = some w) ∧
    ∃ e, t.dev.ready = [e] ∧ e.ctx = c ∧ e.typ = p.op.num := by
  have h1 := only_count hn 0x02 ⟨some p.tray, some p.agent, none⟩ 1
  intro t
  have ht : t = prepWb c w x p s := rfl
  unfold prepWb at ht
  rw [hb, if_neg (by decide)] at ht
  dsimp only at ht
  generalize count 0x02 ⟨some p.tray, some p.agent, none⟩ 1 s = u at h1 ht
  have h2 := only_count (noCounter_of hn h1) 0x05 Units.block 1
  rw [lookup_empty (noCounter_of hn h1) (by rw [h1.sheet, hways]) (by rw [h1.sheet, herrs])] at ht
  dsimp only at ht
  generalize count 0x05 Units.block 1 u = v at h2 ht
  have hsv : Only [.meter] s v := h1.trans h2
  have hvw : v.sheet.ways = [] := by rw [hsv.sheet, hways]
  rw [wbCase_empty hvw (by rw [hsv.sheet, hev]) hc, if_neg (by simp), loadSheet_none (findEntry_empty hvw _)] at ht
  generalize hy : { { x with code := (codeOf v p.line (recOf v p.line) (some p.tray)).num, ex := wbkEx p, phase := Phase.snoops, wbd := some w } with
    sv := 0, so := 0, ss := ssOf none (p.line % 4) } = y at ht
  have hyx := ctxOf_setCtx_same c y v
  have h3 := only_setCtx c y v
  have hrdy : (setCtx c y v).dev.ready = [] := by
    rw [setCtx, updDev_dev, hsv.dev, ← hr]
  generalize setCtx c y v = z at hyx h3 hrdy ht
  rw [postEvent_idle (e := wbkEvent y c p) hyx (idles_begun hrdy (by rw [← hy]; exact hf) (by rw [← hy]; exact hch) (by rw [← hy]; exact hst))] at ht
  rw [ht]
  refine ⟨(hsv.mono (by simp)).trans ((h3.mono (by simp)).trans ((only_updDev _ _).mono (by simp))), ⟨y, hyx, by rw [← hy], by rw [← hy]⟩,
    wbkEvent y c p, ?_, rfl, rfl⟩
  rw [updDev_dev, hrdy]
  rfl

/-- A writeback has begun in its slot. -/
structure WbBegun (w : Nat) (p : WSlot) (s t : State) : Prop where
  only : Only [.regs, .dev, .home, .meter] s t
  regs : RegsOnly (· = 0x020008) s t
  slot : slotOf t w = some { p with place := .txn }
  holder : holderOf t p.line = some (.ctx (8192 + w))
  ctx : ∃ x, ctxOf t (8192 + w) = some x ∧ x.kind = .wb w ∧ x.wbd = some w
  ready : ∃ e, t.dev.ready = [e] ∧ e.ctx = 8192 + w ∧ e.typ = p.op.num

theorem wbkAtLine_fresh {w : Nat} {p : WSlot} {s : State} (hr : InRun s) (hrun : s.dev.running = true) (hrule : s.dev.byRule = true)
    (hready : s.dev.ready = []) (hw : s.home.wslots = [(w, p)]) (hl : s.home.latent = []) (hways : s.sheet.ways = [])
    (herrs : s.sheet.errs = []) (hev : s.sheet.evSlots = []) (hb : bankHeld s (bankOf (p.line / 4)) = false) (hc : p.cxl = none) :
    WbBegun w p s (wbkAtLine w s) := by
  have hslot : slotOf s w = some p := by
    rw [slotOf, hw]
    simp [sFind]
  have hnone : holderOf s p.line = none := by
    rw [holderOf, hl]
    rfl
  have he : wbkAtLine w s = go [8192 + w] (wbBound w p s) := by
    unfold wbkAtLine
    rw [hslot]
    dsimp only
    rw [hr.notSafe, if_neg (by decide), hnone]
    dsimp only
    rw [bindWb_eq]
  obtain ⟨h1, h2, h3, h4, h5, h6⟩ := wbBound_frame hw hl
  rw [he]
  generalize wbBound w p s = u at h1 h2 h3 h4 h5 h6
  have hsafe : isSafe u = false := by
    rw [isSafe, h2 _ (by decide)]
    exact hr.notSafe
  have hsu : slotOf u w = some { p with place := .txn } := by
    rw [slotOf, h3]
    simp [sFind]
  have hlt := bankOf_lt (p.line / 4)
  have hbu : bankHeld u (bankOf (p.line / 4)) = false := by
    rw [← hb, bankHeld, bankHeld, bankState, bankState, rdf, rdf, h2 (oBank (bankOf (p.line / 4))) (by unfold oBank; omega)]
  have hstep : stepTxn (8192 + w) u = ([], prepWb (8192 + w) w (bound s (wbBlank s w p)) { p with place := .txn } u) := by
    unfold stepTxn
    rw [hsafe, show u.dev.running = true from (congrArg DevSide.running h5).trans hrun, if_neg (by decide), h4]
    dsimp only
    rw [if_neg (show (bound s (wbBlank s w p)).st ≠ .quarantined from CtxState.noConfusion),
      show (bound s (wbBlank s w p)).byRule = true from hrule, if_pos rfl, show (bound s (wbBlank s w p)).kind = .wb w from rfl]
    dsimp only
    rw [hsu]
    dsimp only
    rw [if_pos (.inl rfl)]
  rw [go_done hstep]
  obtain ⟨g1, ⟨y, g2, g3, g4⟩, e, g5, g6, g7⟩ := prepWb_fresh (c := 8192 + w) (w := w) (x := bound s (wbBlank s w p))
    (p := { p with place := .txn }) (s := u) (h6 hr.noCounter) hbu rfl rfl rfl ((congrArg DevSide.ready h5).trans hready)
    (by rw [h1.sheet, hways]) (by rw [h1.sheet, herrs]) (by rw [h1.sheet, hev]) hc
  refine ⟨(h1.mono (by simp)).trans (g1.mono (by simp)), h2.trans (regsOnly_of_regs g1.regs), ?_, ?_, ⟨y, g2, g3, g4⟩, e, g5, g6, g7⟩
  · rw [slotOf, g1.home]
    exact hsu
  · rw [holderOf, g1.home, h3]
    simp [sFind]

theorem wbkTake_fresh {p : WSlot} {s : State} (hf : Fresh s) (hb : bankHeld s (bankOf (p.line / 4)) = false) (hc : p.cxl = none) :
    WbBegun (16 * p.agent) p s (wbkTake p.agent p s) := by
  obtain ⟨hr, hrun, hrule, hctx, hready, -, hws, hlat, -, hways, herrs, hev, -⟩ := hf
  have hO : Only [.home] s (updHome (fun h => { h with wslots := sSet h.wslots (16 * p.agent) p }) s) := only_updHome _ _
  have hw : (updHome (fun h => { h with wslots := sSet h.wslots (16 * p.agent) p }) s).home.wslots = [(16 * p.agent, p)] := by
    rw [updHome_home, hws]
    rfl
  have hl : (updHome (fun h => { h with wslots := sSet h.wslots (16 * p.agent) p }) s).home.latent = [] := by
    rw [updHome_home]
    exact hlat
  have he : wbkTake p.agent p s = wbkAtLine (16 * p.agent)
      (payLateWbk p.agent p.line (updHome (fun h => { h with wslots := sSet h.wslots (16 * p.agent) p }) s)) := by
    rw [wbkTake, freeSlot_none hws]
  rw [he]
  generalize updHome (fun h => { h with wslots := sSet h.wslots (16 * p.agent) p }) s = u at hO hw hl
  have hpay : payLateWbk p.agent p.line u = u := by
    rw [payLateWbk, hO.dev, hctx]
    rfl
  rw [hpay]
  have hru : InRun u := inRun_keep hr hO.aon (regsOnly_of_regs hO.regs) (noCounter_of hr.noCounter hO)
  obtain ⟨h1, h2, h3, h4, h5, h6⟩ := wbkAtLine_fresh hru (by rw [hO.dev, hrun]) (by rw [hO.dev, hrule]) (by rw [hO.dev, hready]) hw hl
    (by rw [hO.sheet, hways]) (by rw [hO.sheet, herrs]) (by rw [hO.sheet, hev]) ((bankHeld_congr hO.regs _).trans hb) hc
  exact ⟨(hO.mono (by simp)).trans h1, (regsOnly_of_regs hO.regs).trans h2, h3, h4, h5, h6⟩

/-- A WBK that a caching agent's port takes. -/
def wbkSlot (op : WbOp) (m : Wbk) (line tray : Nat) (dl : BitVec 32) (seq : Nat) : WSlot :=
  { agent := m.agent, txid := m.txid, op := op, ptl := m.ptl, fog := m.fog, bmask := m.bmask, data := m.data, line := line,
    tray := tray, deadline := dl, seq := seq, place := .waiting, written := false, acked := false, hold := false, status := .ok,
    cxl := none }

theorem wbkArrive_takes {op : WbOp} {m : Wbk} {line tray : Nat} {s : State} (hf : Fresh s) (hd : detached s m.agent = false)
    (hc : isCachingZcl s m.agent = true) (hres : portResolve s m.agent m.laddr = some (line, tray)) (hw : windowTray s line = none) :
    ∃ dl seq u, wbkArrive op m s = wbkTake m.agent (wbkSlot op m line tray dl seq) u ∧ Fresh u ∧
      Only [.regs, .home, .links, .meter] s u ∧ RegsOnly ReqReg s u ∧
      linkOf u m.agent = { linkOf s m.agent with rxWbks := ((linkOf s m.agent).rxWbks + 1) % 2 ^ 16 } := by
  have hn := hf.1.noCounter
  have hA := only_arrived hn m.agent true (if m.ptl then 6 else 5)
  have hfa := fresh_arrived hf m.agent true (if m.ptl then 6 else 5)
  have hda := (detached_arrived hn m.agent true (if m.ptl then 6 else 5)).trans hd
  have hla := linkOf_arrived_wbk hn m.agent (if m.ptl then 6 else 5)
  obtain ⟨a, ha⟩ : ∃ a, creditUsed m.agent true (received m.agent (if m.ptl then 6 else 5) s) = a := ⟨_, rfl⟩
  rw [show arrived m.agent true (if m.ptl then 6 else 5) s = a from ha] at hA hfa hda hla
  obtain ⟨hO, hR, hnn⟩ := portDeadline_frame m.agent (some tray) m.deadline a
  obtain ⟨⟨dl, u⟩, hq⟩ : ∃ q, portDeadline m.agent (some tray) m.deadline a = q := ⟨_, rfl⟩
  rw [hq] at hO hR hnn
  have hnO : Only [.home] u (numbered u) := only_updHome _ _
  have hau : Only [.regs, .home] a (numbered u) := (hO.mono (by simp)).trans (hnO.mono (by simp))
  have hRa : RegsOnly ReqReg a (numbered u) :=
    (hR.trans (regsOnly_of_regs hnO.regs)).mono fun o h => h.elim .inl fun h => .inr (.inl h)
  refine ⟨dl, u.home.seqNo, numbered u, ?_, hfa.keep (hau.mono (by simp)) hRa (noCounter_of (hnn hfa.1.noCounter) hnO)
    (by rw [numbered, updHome_home, hO.home]), (hA.mono (by simp)).trans (hau.mono (by simp)), (regsOnly_of_regs hA.regs).trans hRa,
    (linkOf_congr hau.links _).trans hla⟩
  have hresa := (portResolve_congr hA.regs m.agent m.laddr).trans hres
  obtain ⟨hrs, htr, hmem⟩ : resolve a m.agent m.laddr = some line ∧ trayOf a line = some tray ∧ isMember a tray m.agent = true := by
    unfold portResolve serveTray at hresa
    cases h1 : resolve a m.agent m.laddr with
    | none =>
      rw [h1] at hresa
      cases hresa
    | some l =>
      rw [h1] at hresa
      dsimp only at hresa
      cases h2 : trayOf a l with
      | none =>
        rw [h2] at hresa
        cases hresa
      | some t =>
        rw [h2] at hresa
        dsimp only at hresa
        cases h3 : isMember a t m.agent with
        | false =>
          rw [h3] at hresa
          cases hresa
        | true =>
          rw [h3, if_pos rfl] at hresa
          cases hresa
          exact ⟨rfl, h2, h3⟩
  have hcache : isCachingZcl a m.agent = true := by rw [isCachingZcl, isZcl_congr hA.regs, rd_congr hA.regs]; exact hc
  have hfa0 := hfa
  obtain ⟨-, -, -, -, -, hreqs, hws, -⟩ := hfa0
  obtain ⟨pd, hpd⟩ : ∃ pd, pd = portDeadline := ⟨_, rfl⟩
  rw [← hpd] at hq
  unfold wbkArrive
  rw [← hpd]
  dsimp only
  rw [ha, hda, if_neg (by decide), txidBusy_none hreqs hws, if_neg (by decide), hcache, if_neg (by decide), hrs]
  dsimp only
  rw [htr]
  dsimp only
  rw [hmem, if_neg (by decide), (windowTray_congr hA.regs line).trans hw, if_neg (by decide), hq]
  rfl

/-- Settles O22: the checks of R409 pass, the first slot is free, the line is not latent. -/
theorem writebackBegins : Obligations.WritebackBegins := by
  unfold Obligations.WritebackBegins
  intro m line tray s hf ha hd hc hres hw hb p hp w c
  have hex : exec p.1 s = onUnit (okAgent m.agent) (heard (wbkArrive p.2 m)) s := by
    simp only [List.mem_cons, List.not_mem_nil, or_false] at hp
    rcases hp with rfl | rfl | rfl | rfl | rfl <;> rfl
  obtain ⟨dl, seq, u, he, hfu, hO, hR, hl⟩ := wbkArrive_takes (op := p.2) hf hd hc hres hw
  have hlt := bankOf_lt (line / 4)
  have hbu : bankHeld u (bankOf (line / 4)) = false := by
    rw [← hb, bankHeld, bankHeld, bankState, bankState, rdf, rdf, hR (oBank (bankOf (line / 4))) (by unfold ReqReg oBank; omega)]
  obtain ⟨h1, h2, h3, h4, ⟨x, h5, h6, h7⟩, e, h8, h9, h10⟩ := wbkTake_fresh (p := wbkSlot p.2 m line tray dl seq) hfu hbu rfl
  have hA := hO.mono (l := [.regs, .dev, .home, .links, .meter]) (by simp) |>.trans (h1.mono (by simp))
  refine ⟨_, _, x, e, hex.trans (hf.1.hears (decide_eq_true ha) he hA), h3, rfl, rfl, rfl, rfl, rfl, rfl, rfl, rfl, rfl, rfl, h4, h5,
    h6, h7, h8, h9, h10, ?_, hA, hR.trans (h2.mono fun o h => .inr (.inr h))⟩
  have hlk := (linkOf_congr h1.links m.agent).trans hl
  exact congrArg Link.rxWbks hlk

end Sys2Proof.Machine
end

section
/-! PROOFS. Counting windows, wraps, captures and the Light Meter's records (O54: R317 to R320). -/

namespace Sys2Proof.Machine

/-! ### A counting window ends (R317) -/

/-- A WIN counter takes its accumulator. -/
def windowed (acc : Sparse W64) (t : State) (p : Nat × W64) : State :=
  if fld p.2 24 2 = 1 then wr t (oCtrVal p.1) (sGet 0 acc p.1) else t

theorem opCounterWindow_eq (s : State) : opCounterWindow s =
    updMeter (fun m => { m with ctrAcc := [] }) ((ctrConfigured s).foldl (windowed s.meter.ctrAcc) s) := rfl

theorem only_windowed (acc : Sparse W64) (l : List (Nat × W64)) (s : State) : Only [.regs] s (l.foldl (windowed acc) s) := by
  refine Only.foldl (fun t p => ?_) l s
  unfold windowed
  split
  · exact only_wr _ _ _
  · exact Only.refl _ _

theorem rd_windowed_ne {acc : Sparse W64} {o : Nat} {p : Nat × W64} (h : fld p.2 24 2 = 1 → o ≠ oCtrVal p.1) (s : State) :
    rd (windowed acc s p) o = rd s o := by
  unfold windowed
  split
  · next hw => exact rd_wr_ne _ _ (h hw)
  · rfl

theorem rd_foldl_windowed_ne {acc : Sparse W64} {l : List (Nat × W64)} {o : Nat}
    (h : ∀ p ∈ l, fld p.2 24 2 = 1 → o ≠ oCtrVal p.1) (s : State) : rd (l.foldl (windowed acc) s) o = rd s o := by
  induction l generalizing s with
  | nil => rfl
  | cons p l ih =>
    exact (ih (fun q hq => h q (List.mem_cons_of_mem _ hq)) _).trans (rd_windowed_ne (h p (List.mem_cons_self ..)) s)

theorem rd_foldl_windowed_mem {acc : Sparse W64} {l : List (Nat × W64)} {k : Nat} (h : ∃ p ∈ l, fld p.2 24 2 = 1 ∧ p.1 = k)
    (s : State) : rd (l.foldl (windowed acc) s) (oCtrVal k) = sGet 0 acc k := by
  induction l generalizing s with
  | nil =>
    obtain ⟨p, hp, -⟩ := h
    cases hp
  | cons q l ih =>
    by_cases hm : ∃ p ∈ l, fld p.2 24 2 = 1 ∧ p.1 = k
    · exact ih hm _
    · obtain ⟨p, hp, hw, rfl⟩ := h
      rcases List.mem_cons.1 hp with rfl | hpl
      · refine (rd_foldl_windowed_ne (fun r hr hrw h => hm ⟨r, hr, hrw, ?_⟩) _).trans ?_
        · unfold oCtrVal at h
          omega
        · rw [windowed, if_pos hw, rd_wr_same]
      · exact absurd ⟨p, hpl, hw, rfl⟩ hm

theorem regReset_ctrCfg {k : Nat} (hk : k < 256) : regReset (oCtrCfg k) = 0 := by
  have h1 : inRow (oCtrCfg k - 0x340000) 0x0000 8 256 = false := by
    rw [Bool.eq_false_iff, ne_eq, inRow_iff]
    unfold oCtrCfg
    omega
  have h2 : inRow (oCtrCfg k - 0x340000) 0x1000 4 256 = true := by
    rw [inRow_iff]
    unfold oCtrCfg
    omega
  have hd : regDesc (oCtrCfg k) = regCounters (oCtrCfg k - 0x340000) := by
    unfold regDesc oCtrCfg
    repeat rw [if_neg (by omega)]
    rw [if_pos (by omega)]
  rw [regReset, hd, regCounters, h1, h2]
  rfl

theorem mem_of_sFind {α : Type} {m : Sparse α} {k : Nat} {v : α} (h : sFind m k = some v) : (k, v) ∈ m := by
  induction m with
  | nil => cases h
  | cons p m ih =>
    obtain ⟨j, w⟩ := p
    unfold sFind at h
    split at h
    · next hk =>
      cases h
      subst hk
      exact List.mem_cons_self ..
    · exact List.mem_cons_of_mem _ (ih h)

theorem sFind_of_mem {α : Type} {m : Sparse α} (h : sOrdered m = true) {k : Nat} {v : α} (hm : (k, v) ∈ m) : sFind m k = some v := by
  induction m with
  | nil => cases hm
  | cons p m ih =>
    obtain ⟨j, w⟩ := p
    obtain ⟨hlt, ho⟩ := sOrdered_cons.1 h
    unfold sFind
    rcases List.mem_cons.1 hm with heq | hm
    · cases heq
      exact if_pos rfl
    · rw [if_neg (Nat.ne_of_gt (hlt _ hm))]
      exact ih ho hm

/-- A WIN counter is configured. -/
theorem ctrConfigured_of_win {s : State} {k : Nat} (hk : k < 256) (h : rdf s (oCtrCfg k) 24 2 = 1) :
    (k, rd s (oCtrCfg k)) ∈ ctrConfigured s := by
  cases hf : sFind s.regs (oCtrCfg k) with
  | none =>
    have hr : rd s (oCtrCfg k) = 0 := by
      rw [rd, sGet, hf, regReset_ctrCfg hk]
      rfl
    rw [rdf, hr] at h
    exact absurd h (by decide)
  | some v =>
    have hr : rd s (oCtrCfg k) = v := by
      rw [rd, sGet, hf]
      rfl
    rw [hr, ctrConfigured, List.mem_map]
    refine ⟨(oCtrCfg k, v), List.mem_filter.2 ⟨mem_of_sFind hf, ?_⟩, ?_⟩
    · rw [inRow_iff]
      unfold oCtrCfg
      omega
    · unfold oCtrCfg
      simp only [Prod.mk.injEq, and_true]
      omega

/-- In canonical registers each configured counter is listed with its configuration. -/
theorem ctrConfigured_wf {s : State} (hw : Regs.wf s.regs = true) {p : Nat × W64} (hp : p ∈ ctrConfigured s) :
    p.1 < 256 ∧ rd s (oCtrCfg p.1) = p.2 := by
  obtain ⟨⟨o, v⟩, hq, rfl⟩ := List.mem_map.1 hp
  obtain ⟨hm, hr⟩ := List.mem_filter.1 hq
  rw [inRow_iff] at hr
  have ho : oCtrCfg ((o - 0x341000) / 4) = o := by
    unfold oCtrCfg
    omega
  refine ⟨by dsimp only at hr ⊢; omega, ?_⟩
  dsimp only
  rw [ho, rd, sGet, sFind_of_mem (Bool.and_eq_true_iff.1 hw).1 hm]
  rfl

/-! ### A SAMPLE counter wraps and is captured (R317, R318) -/

theorem ctrWrap_frame (k : Nat) (s : State) : let t := ctrWrap k s
    Only [.regs, .meter] s t ∧ bitOf (rd t (0x342040 + 4 * (k / 32))) (k % 32) = true ∧ Caused t .ovf 0 ∧
    (bitOf (rd s 0x342010) 31 = false → s.meter.sampleReq = none → t.meter.sampleReq = some k ∧ t.meter.runs = []) ∧
    RegsOnly (fun o => o = 0x342040 + 4 * (k / 32) ∨ o = 0x010138) s t := by
  have hO := only_wr s (0x342040 + 4 * (k / 32)) (rd s (0x342040 + 4 * (k / 32)) ||| w64 (2 ^ (k % 32)))
  have hR : RegsOnly (fun o => o = 0x342040 + 4 * (k / 32) ∨ o = 0x010138) s
    (wr s (0x342040 + 4 * (k / 32)) (rd s (0x342040 + 4 * (k / 32)) ||| w64 (2 ^ (k % 32)))) := regsOnly_wr _ _ (.inl rfl)
  have hb : bitOf (rd (wr s (0x342040 + 4 * (k / 32)) (rd s (0x342040 + 4 * (k / 32)) ||| w64 (2 ^ (k % 32))))
      (0x342040 + 4 * (k / 32))) (k % 32) = true := by
    rw [rd_wr_same, bitOf_or, bitOf_w64_two_pow (by omega), Bool.or_true]
  have hs : rd (wr s (0x342040 + 4 * (k / 32)) (rd s (0x342040 + 4 * (k / 32)) ||| w64 (2 ^ (k % 32)))) 0x342010 = rd s 0x342010 :=
    rd_wr_ne _ _ (by omega)
  unfold ctrWrap
  dsimp only
  generalize wr s (0x342040 + 4 * (k / 32)) (rd s (0x342040 + 4 * (k / 32)) ||| w64 (2 ^ (k % 32))) = u at hO hR hb hs
  have h2 := only_raise0_none (c := .ovf) rfl u
  have hr2 := regsOnly_raise0_none (c := .ovf) rfl u
  have hc := caused_raise0 .ovf u
  have hb2 : bitOf (rd (raise0 .ovf u) (0x342040 + 4 * (k / 32))) (k % 32) = true := by
    rw [hr2 _ (show ¬ 0x342040 + 4 * (k / 32) = 0x010138 by omega)]
    exact hb
  have hs2 : rd (raise0 .ovf u) 0x342010 = rd s 0x342010 := (hr2 _ (by decide)).trans hs
  generalize raise0 .ovf u = v at h2 hr2 hc hb2 hs2
  have hsv : Only [.regs] s v := hO.trans h2
  have hRv : RegsOnly (fun o => o = 0x342040 + 4 * (k / 32) ∨ o = 0x010138) s v := hR.trans (hr2.mono fun o h => .inr h)
  split
  · next h =>
    refine ⟨hsv.mono (by simp), hb2, hc, fun h1 h2 => ?_, hRv⟩
    rw [hs2, h1, hsv.meter, h2] at h
    cases h
  · refine ⟨(hsv.mono (by simp)).trans (by simp [only_iff]), hb2, hc, fun _ _ => ⟨rfl, rfl⟩, hRv⟩

/-- The words of a capture, with the cause and the request taken. -/
def captured (n : Nat) (r : RuleRun) (s : State) : State :=
  wr (wr (wr (wr s 0x342010 (w64 (2 ^ 31 + 2 ^ 16 * (n % 256) + r.ts % 64)))
    0x342014 (w64 (2 ^ 31 * b2n r.reelB + 2 ^ 16 * (r.ctx % 2 ^ 14) + r.rule.toNat))) 0x342018 r.ft) 0x342020 r.ea

theorem opSample_captures {n : Nat} {r : RuleRun} {s : State} (hq : s.meter.sampleReq = some n)
    (hf : s.meter.runs.find? (fun q => decide (q.ts = r.ts ∧ q.ctx = r.ctx ∧ q.rule = r.rule)) = some r)
    (hb : bitOf (rd s 0x342010) 31 = false) : opSample r.ts r.ctx r.rule s =
      raise0 .sample (updMeter (fun m => { m with sampleReq := none, runs := [] }) (captured n r s)) := by
  unfold opSample
  rw [hq, hf]
  exact if_neg (by rw [hb]; decide)

theorem rd_captured (n : Nat) (r : RuleRun) (s : State) : let t := captured n r s
    rd t 0x342010 = w64 (2 ^ 31 + 2 ^ 16 * (n % 256) + r.ts % 64) ∧
    rd t 0x342014 = w64 (2 ^ 31 * b2n r.reelB + 2 ^ 16 * (r.ctx % 2 ^ 14) + r.rule.toNat) ∧
    rd t 0x342018 = r.ft ∧ rd t 0x342020 = r.ea := by
  intro t
  have ht : t = captured n r s := rfl
  unfold captured at ht
  rw [ht]
  refine ⟨?_, ?_, ?_, rd_wr_same _ _ _⟩
  · rw [rd_wr_ne _ _ (by decide), rd_wr_ne _ _ (by decide), rd_wr_ne _ _ (by decide), rd_wr_same]
  · rw [rd_wr_ne _ _ (by decide), rd_wr_ne _ _ (by decide), rd_wr_same]
  · rw [rd_wr_ne _ _ (by decide), rd_wr_same]

theorem fld_w64 {v : Nat} (h : v < 2 ^ 64) (lo w : Nat) : fld (w64 v) lo w = v / 2 ^ lo % 2 ^ w := by
  rw [fld_eq, w64, BitVec.toNat_ofNat, Nat.mod_eq_of_lt h]

theorem bitOf_w64 {v : Nat} (h : v < 2 ^ 64) (i : Nat) : bitOf (w64 v) i = decide (v / 2 ^ i % 2 = 1) := by
  rw [bitOf, w64, ← BitVec.testBit_toNat, BitVec.toNat_ofNat, Nat.mod_eq_of_lt h, Nat.testBit_eq_decide_div_mod_eq]

theorem smp0_fields {n ts : Nat} (hn : n < 256) (ht : ts < 64) : let v := w64 (2 ^ 31 + 2 ^ 16 * (n % 256) + ts % 64)
    bitOf v 31 = true ∧ fld v 16 8 = n ∧ fld v 0 6 = ts := by
  intro v
  have hlt : 2 ^ 31 + 2 ^ 16 * (n % 256) + ts % 64 < 2 ^ 64 := by omega
  refine ⟨?_, ?_, ?_⟩
  · rw [bitOf_w64 hlt, decide_eq_true_eq]
    omega
  · rw [fld_w64 hlt]
    omega
  · rw [fld_w64 hlt]
    omega

theorem smp1_fields {c : Nat} (b : Bool) (rule : BitVec 15) (hc : c < 8704) :
    let v := w64 (2 ^ 31 * b2n b + 2 ^ 16 * (c % 2 ^ 14) + rule.toNat)
    fld v 16 14 = c ∧ fld v 0 15 = rule.toNat ∧ bitOf v 31 = b := by
  intro v
  have hr := rule.isLt
  have hb : b2n b < 2 := by cases b <;> decide
  have hlt : 2 ^ 31 * b2n b + 2 ^ 16 * (c % 2 ^ 14) + rule.toNat < 2 ^ 64 := by omega
  refine ⟨?_, ?_, ?_⟩
  · rw [fld_w64 hlt]
    omega
  · rw [fld_w64 hlt]
    omega
  · rw [bitOf_w64 hlt, show (2 ^ 31 * b2n b + 2 ^ 16 * (c % 2 ^ 14) + rule.toNat) / 2 ^ 31 % 2 = b2n b by omega]
    cases b <;> rfl

/-! ### A Light Meter record (R319) -/

theorem length_lmNum (v k : Nat) : (lmNum v k).length = k := length_bytesOf _ k

theorem length_lmCount (s : State) (ev scope unit k : Nat) : (lmCount s ev scope unit k).length = k := length_bytesOf _ k

theorem length_lmZero (k : Nat) : (lmZero k).length = k := List.length_replicate

theorem length_flatMap_range {α : Type} {f : Nat → List α} {k : Nat} (h : ∀ i, (f i).length = k) (n : Nat) :
    ((List.range n).flatMap f).length = n * k := by simp [List.length_flatMap, h]

theorem length_lmHead (s : State) : (lmHead s).length = 128 := by
  have h1 := length_flatMap_range (f := fun i => lmNum (rdf s (0x220 + 4 * (i / 2)) (16 * (i % 2)) 16) 2) (fun _ => length_lmNum _ 2) 16
  have h2 := length_flatMap_range (f := fun i => lmCount s 0x105 5 i 2) (fun _ => length_lmCount _ _ _ _ 2) 8
  have h3 := length_flatMap_range (f := fun m => lmNum (rdf s (chanBase m + 0x44) 8 3) 1) (fun _ => length_lmNum _ 1) 8
  unfold lmHead
  simp only [List.length_append, length_lmNum, length_lmZero, h1, h2, h3]

theorem length_lmPort (s : State) (n : Nat) : (lmPort s n).length = 16 := by
  simp only [lmPort, List.length_append, length_lmNum, length_lmCount, length_lmZero]

theorem length_lmLane (s : State) (l : Nat) : (lmLane s l).length = 2 := length_lmNum _ 2

theorem length_lmChan (s : State) (m : Nat) : (lmChan s m).length = 16 := by
  simp only [lmChan, List.length_append, length_lmNum, length_lmCount, length_lmZero]

theorem length_lmEngine (s : State) : (lmEngine s).length = 256 := by
  simp only [lmEngine, List.length_append, length_lmNum, length_lmCount, length_lmZero]

theorem length_lmTray (s : State) (t : Nat) : (lmTray s t).length = 16 := by
  simp only [lmTray, List.length_append, length_lmNum, length_lmCount]

theorem length_lmBytes (s : State) : (lmBytes s).length = 2048 := by
  simp only [lmBytes, List.length_append, length_lmHead, length_flatMap_range (length_lmPort s), length_flatMap_range (length_lmLane s),
    length_flatMap_range (length_lmChan s), length_lmEngine, length_flatMap_range (length_lmTray s)]

theorem ringAdvance_none {s : State} (h : s.meter.lm.writing = []) : ringAdvance s = s := by
  unfold ringAdvance
  rw [h]
  show updMeter (fun x => { x with lm := { x.lm with writing := [] } }) s = s
  rw [← h]
  rfl

/-- The telemetry fragments of every link begin anew. -/
theorem lmFrag_restarted (l : List (Nat × Link)) (a : Nat) (s : State)
    (h : (∃ p ∈ l, p.1 = a) ∨ (linkOf s a).lmFrag = 0) :
    (linkOf (l.foldl (fun s p => setLink p.1 (fun l => { l with lmFrag := 0 }) s) s) a).lmFrag = 0 := by
  induction l generalizing s with
  | nil => exact h.resolve_left (by simp)
  | cons p l ih =>
    refine ih _ ?_
    by_cases hp : p.1 = a
    · exact .inr (by rw [← hp, linkOf_setLink_same])
    · rcases h with ⟨q, hq, hqa⟩ | h
      · rcases List.mem_cons.1 hq with rfl | hq
        · exact absurd hqa hp
        · exact .inl ⟨q, hq, hqa⟩
      · exact .inr (by rw [linkOf_setLink_ne (Ne.symm hp), h])

theorem lmFrag_unlisted {s : State} {a : Nat} (h : ¬ ∃ p ∈ s.links, p.1 = a) : (linkOf s a).lmFrag = 0 := by
  rw [linkOf, sGet, sFind_unlisted (by simpa using h)]
  rfl

/-- The Light Meter with one record more. -/
def recorded (bs : List Byte) (m : MeterSide) : MeterSide :=
  { m with stats := [], lm := { m.lm with recnum := m.lm.recnum + 1, hasRec := true, record := memWrite [] 0 bs } }

/-- A record taken with no ring to write it to. -/
theorem opLmRecord_frame {s : State} (hon : bitOf (rd s 0x342100) 0 = true) (hcnt : rdf s 0x342104 0 16 = 0)
    (hw : s.meter.lm.writing = []) : let t := opLmRecord s
    t.meter.lm.recnum = s.meter.lm.recnum + 1 ∧ t.meter.lm.hasRec = true ∧ memRead t.meter.lm.record 0 2048 = lmBytes s ∧
    t.meter.stats = [] ∧ (∀ a, (linkOf t a).lmFrag = 0) ∧ Only [.meter, .links] s t := by
  have he : opLmRecord s = s.links.foldl (fun s p => setLink p.1 (fun l => { l with lmFrag := 0 }) s)
      (updMeter (recorded (lmBytes s)) s) := by
    unfold opLmRecord
    rw [hon, if_neg (by decide)]
    dsimp only
    rw [ringAdvance_none hw, ringWrite, if_pos (.inl hcnt)]
    rfl
  intro t
  rw [show t = _ from he]
  have hu := only_updMeter (recorded (lmBytes s)) s
  have hm : (updMeter (recorded (lmBytes s)) s).meter = recorded (lmBytes s) s.meter := updMeter_meter _ _
  generalize updMeter (recorded (lmBytes s)) s = u at hu hm
  have hl : Only [.links] u (s.links.foldl (fun s p => setLink p.1 (fun l => { l with lmFrag := 0 }) s) u) :=
    Only.foldl (fun t p => only_setLink _ _ _) _ _
  have hrec := memRead_memWrite_same [] 0 (lmBytes s)
  rw [length_lmBytes] at hrec
  refine ⟨?_, ?_, ?_, ?_, fun a => lmFrag_restarted _ _ _ ?_, (hu.mono (by simp)).trans (hl.mono (by simp))⟩
  · rw [hl.meter, hm, recorded]
  · rw [hl.meter, hm, recorded]
  · rw [hl.meter, hm]
    dsimp only [recorded]
    exact hrec
  · rw [hl.meter, hm, recorded]
  · by_cases ha : ∃ p ∈ s.links, p.1 = a
    · exact .inl ha
    · exact .inr (by rw [linkOf_congr hu.links]; exact lmFrag_unlisted ha)

/-- Settles O54: windows, wraps, captures and records. -/
theorem countersAndRecords : Obligations.CountersAndRecords := by
  unfold Obligations.CountersAndRecords
  intro s ha
  refine ⟨?_, fun k hk hm hv => ?_, fun n r hn hq hts hctx hf hb => ?_, fun hon hcnt hw => ?_⟩
  · have hO := only_windowed s.meter.ctrAcc (ctrConfigured s) s
    have hU := only_updMeter (fun m => { m with ctrAcc := [] }) ((ctrConfigured s).foldl (windowed s.meter.ctrAcc) s)
    have hA : Only [.regs, .meter] s (opCounterWindow s) := (hO.mono (by simp)).trans (hU.mono (by simp))
    refine ⟨opCounterWindow s, exec_live (ok := true) rfl ha rfl hA.pending hA.aon, ?_, fun k hk hw => ?_, hA, fun hwf o ho => ?_⟩
    · rw [opCounterWindow_eq, updMeter_meter, hO.meter]
    · exact (rd_congr hU.regs _).trans (rd_foldl_windowed_mem ⟨_, ctrConfigured_of_win hk hw, hw, rfl⟩ s)
    · refine (rd_congr hU.regs _).trans (rd_foldl_windowed_ne (fun p hp hw h => ho ?_) s)
      obtain ⟨h1, h2⟩ := ctrConfigured_wf hwf hp
      exact ⟨p.1, h1, by rw [rdf, h2]; exact hw, h⟩
  · have hO := only_wr s (oCtrVal k) 0
    have he : opOvf k s = ctrWrap k (wr s (oCtrVal k) 0) := if_pos ⟨hm, hv⟩
    have h0 := rd_wr_same s (oCtrVal k) 0
    have h1 : rd (wr s (oCtrVal k) 0) 0x342010 = rd s 0x342010 := rd_wr_ne _ _ (by unfold oCtrVal; omega)
    have hR : RegsOnly (fun o => o = oCtrVal k ∨ o = 0x342040 + 4 * (k / 32) ∨ o = 0x010138) s (wr s (oCtrVal k) 0) :=
      regsOnly_wr _ _ (.inl rfl)
    generalize wr s (oCtrVal k) 0 = u at hO he h0 h1 hR
    obtain ⟨g1, g2, g3, g4, g5⟩ := ctrWrap_frame k u
    have hA := (hO.mono (by simp)).trans g1
    refine ⟨ctrWrap k u, exec_live (decide_eq_true hk) ha he hA.pending hA.aon, ?_, g2, g3, fun hb hq => ?_, hA,
      hR.trans (g5.mono fun o h => .inr h)⟩
    · rw [g5 _ (by unfold oCtrVal; omega), h0]
    · exact g4 (by rw [h1]; exact hb) (by rw [hO.meter]; exact hq)
  · have hO : Only [.regs] s (captured n r s) :=
      (((only_wr _ _ _).trans (only_wr _ _ _)).trans (only_wr _ _ _)).trans (only_wr _ _ _)
    obtain ⟨r1, r2, r3, r4⟩ := rd_captured n r s
    have he := opSample_captures hq hf hb
    generalize captured n r s = u at hO r1 r2 r3 r4 he
    have hU := only_updMeter (fun m => { m with sampleReq := none, runs := [] }) u
    have hm : (updMeter (fun m => { m with sampleReq := none, runs := [] }) u).meter.sampleReq = none := rfl
    generalize updMeter (fun m => { m with sampleReq := none, runs := [] }) u = v at hU hm he
    have hW := only_raise0_none (c := .sample) rfl v
    have hRW := regsOnly_raise0_none (c := .sample) rfl v
    have hA : Only [.regs, .meter] s (raise0 .sample v) := (hO.mono (by simp)).trans ((hU.mono (by simp)).trans (hW.mono (by simp)))
    obtain ⟨p1, p2, p3⟩ := smp0_fields hn hts
    obtain ⟨q1, q2, q3⟩ := smp1_fields r.reelB r.rule hctx
    have hrd : ∀ o, o ≠ causeReg Cause.sample.domain 0 → rd (raise0 .sample v) o = rd u o := fun o ho =>
      (hRW o ho).trans (rd_congr hU.regs o)
    refine ⟨raise0 .sample v, exec_live (by simp [hts, okCtx, hctx]) ha he hA.pending hA.aon, ?_, ?_, ?_, ?_, ?_, ?_, ?_, ?_,
      by rw [hW.meter, hm], caused_raise0 _ _, hA⟩
    · rw [hrd _ (by decide), r1]
      exact p1
    · rw [rdf, hrd _ (by decide), r1]
      exact p2
    · rw [rdf, hrd _ (by decide), r1]
      exact p3
    · rw [rdf, hrd _ (by decide), r2]
      exact q1
    · rw [rdf, hrd _ (by decide), r2]
      exact q2
    · rw [hrd _ (by decide), r2]
      exact q3
    · rw [hrd _ (by decide), r3]
    · rw [hrd _ (by decide), r4]
  · obtain ⟨h1, h2, h3, h4, h5, h6⟩ := opLmRecord_frame hon hcnt hw
    exact ⟨opLmRecord s, exec_live (ok := true) rfl ha rfl h6.pending h6.aon, h1, h2, h3, h4, h5, h6⟩

end Sys2Proof.Machine
end

section
/-! PROOFS. The end of the Safelight sequencer, and writebacks after it (O55: R13, R73, R338 to R340, R344, R345). -/

namespace Sys2Proof.Machine

/-! ### The sequencer ends (R338, R339, R344) -/

/-- What ends the sequencer: DONE, its cause, and its record, `n` contexts finished. -/
def sealed (n : Nat) (u : State) : State :=
  let s := wrf u oFltStatus 1 1 1
  psWrite .safeDone .none (safeRec n s) (raise0 .safeDone { s with safe := { s.safe with bound := [] } })

theorem opSafeDone_eq {s : State} (hs : isSafe s = true) (hd : bitOf (rd s oFltStatus) 1 = false) (hr : safeReady s = true) :
    opSafeDone s = sealed s.safe.bound.length (finishAll s.safe.bound s) := by
  unfold opSafeDone
  rw [hs, hd, hr]
  rfl

theorem only_psWrite (c : Cause) (k : Class) (r : PsRec) (s : State) : Only [.regs] s (psWrite c k r s) := by
  simp [only_iff, psWrite]

theorem rd_psWrite_seq (c : Cause) (k : Class) (r : PsRec) (s : State) :
    rd (psWrite c k r s) oPsSeq = w64 ((rd s oPsSeq + 1).toNat % 2 ^ 32) := rd_wr_same _ _ _

theorem rd_psWrite_flt (c : Cause) (k : Class) (r : PsRec) (s : State) : rd (psWrite c k r s) oFltStatus = rd s oFltStatus := by
  have hps : ∀ q w, oFltStatus ≠ oPs q w := fun q w => by
    unfold oFltStatus oPs
    omega
  unfold psWrite
  dsimp only
  rw [rd_wr_ne _ _ (by decide)]
  simp only [rd_wr_ne _ _ (hps _ _)]

theorem sealed_frame (n : Nat) (u : State) : let t := sealed n u
    Only [.regs, .safe] u t ∧ bitOf (rd t oFltStatus) 1 = true ∧ Caused t .safeDone 0 ∧ t.safe.bound = [] ∧
    rd t oPsSeq = w64 ((rd u oPsSeq + 1).toNat % 2 ^ 32) := by
  have h1 := only_wrf u oFltStatus 1 1 1
  have hb : bitOf (rd (wrf u oFltStatus 1 1 1) oFltStatus) 1 = true := by
    rw [rd_wrf_same, bitOf_setFld_one _ _ _ (by decide)]
    rfl
  have hq : rd (wrf u oFltStatus 1 1 1) oPsSeq = rd u oPsSeq := rd_wrf_ne _ _ _ _ (by decide)
  intro t
  have ht : t = psWrite .safeDone .none (safeRec n (wrf u oFltStatus 1 1 1)) (raise0 .safeDone
    { wrf u oFltStatus 1 1 1 with safe := { (wrf u oFltStatus 1 1 1).safe with bound := [] } }) := rfl
  generalize wrf u oFltStatus 1 1 1 = v at h1 hb hq ht
  have h2 : Only [.safe] v { v with safe := { v.safe with bound := [] } } := by simp [only_iff]
  have hbd : ({ v with safe := { v.safe with bound := [] } } : State).safe.bound = [] := rfl
  generalize ({ v with safe := { v.safe with bound := [] } } : State) = w at h2 hbd ht
  have h3 := only_raise0_none (c := .safeDone) rfl w
  have hr3 := regsOnly_raise0_none (c := .safeDone) rfl w
  have hc3 := caused_raise0 .safeDone w
  generalize raise0 .safeDone w = x at h3 hr3 hc3 ht
  have h4 := only_psWrite .safeDone .none (safeRec n v) x
  have hr4 := regsOnly_psWrite .safeDone .none (safeRec n v) x
  have hq4 := rd_psWrite_seq .safeDone .none (safeRec n v) x
  have hf4 := rd_psWrite_flt .safeDone .none (safeRec n v) x
  rw [← ht] at h4 hr4 hq4 hf4
  have hrd : ∀ o, o ≠ causeReg Cause.safeDone.domain 0 → rd x o = rd v o := fun o ho => (hr3 o ho).trans (rd_congr h2.regs o)
  refine ⟨(h1.mono (by simp)).trans ((h2.mono (by simp)).trans ((h3.mono (by simp)).trans (h4.mono (by simp)))), ?_,
    hc3.keep hr4 (by unfold ClassReg; decide), ?_, ?_⟩
  · rw [hf4, hrd _ (by decide)]
    exact hb
  · rw [h4.safe, h3.safe, hbd]
  · rw [hq4, hrd _ (by decide), hq]

theorem only_reelDrain (b : Bool) (s : State) : Only [.regs, .dev] s (reelDrain b s) := by
  unfold reelDrain
  split
  · exact ((only_updDev _ s).mono (by simp)).trans (((only_wrf (clearMisses b s) _ _ _ _).mono (by simp)).trans
      ((only_raise0_none (c := .reelDrained) rfl _).mono (by simp)))
  · exact Only.refl _ _

/-- What the sequencer leaves once the contexts and the waiting REQs are done with. -/
def swept (s : State) : State :=
  updMem (fun m => { m with rewrites := [] }) (updMeter (fun m => { m with lm := { m.lm with writing := [] } })
    (updSheet (fun x => { x with sweeps := [] }) s))

theorem finishAll_eq (l : List (Nat × Nat)) (s : State) : finishAll l s =
    reelDrain true (reelDrain false (swept (answerWaiting (l.foldl (fun s p => finishRow p.1 p.2 s) s)))) := rfl

theorem only_swept (s : State) : Only [.sheet, .meter, .mem] s (swept s) := by simp [only_iff, swept]

/-- No chain, no sweep and no record under way is left, whatever was in hand. -/
theorem finishAll_clears (l : List (Nat × Nat)) (s : State) : let t := finishAll l s
    t.home.chains = [] ∧ t.sheet.sweeps = [] ∧ t.meter.lm.writing = [] := by
  have hch : ∀ u, (answerWaiting u).home.chains = [] := fun u => rfl
  intro t
  have ht : t = _ := finishAll_eq l s
  have h1 := hch (l.foldl (fun s p => finishRow p.1 p.2 s) s)
  generalize answerWaiting (l.foldl (fun s p => finishRow p.1 p.2 s) s) = u at h1 ht
  have h2 := only_swept u
  have h3 : (swept u).sheet.sweeps = [] := rfl
  have h4 : (swept u).meter.lm.writing = [] := rfl
  generalize swept u = v at h2 h3 h4 ht
  have h5 : Only [.regs, .dev] v t := by
    rw [ht]
    exact (only_reelDrain _ _).trans (only_reelDrain _ _)
  exact ⟨by rw [h5.home, h2.home, h1], by rw [h5.sheet, h3], by rw [h5.meter, h4]⟩

theorem chainsEnd_quiet {s : State} (h1 : s.home.latent = []) (h2 : s.home.chains = []) : chainsEnd s = s := by
  have hh : (chainsEnd s).home = s.home := by
    unfold chainsEnd
    rw [updHome_home, h1]
    simp only [List.filter_nil]
    rw [← h1, ← h2]
  show ({ s with home := (chainsEnd s).home } : State) = s
  rw [hh]

/-- With nothing in hand the sequencer clears what is its own alone. -/
theorem only_finishAll_quiet {s : State} (h : Quiet s) (l : List (Nat × Nat)) :
    Only [.regs, .dev, .sheet, .meter, .mem] s (finishAll l s) := by
  have h0 := h
  obtain ⟨-, -, -, hl, hc, -⟩ := h0
  rw [finishAll_quiet h, show tidy s = swept (chainsEnd s) from rfl, chainsEnd_quiet hl hc]
  exact ((only_swept _).mono (by simp)).trans (((only_reelDrain false _).trans (only_reelDrain true _)).mono (by simp))

theorem safeComplete_frame {p : Pend} {s : State} (hn : NoCounter s) (hc : p.cxl = none) : let t := safeComplete p s
    t.home = s.home ∧ t.tx = s.tx ++ [if p.op.isRead then .dat p.req.agent .i 0 p.req.txid true .fogged p.deadline 0
      else .rsp p.req.agent p.op.cplOp 0 p.req.txid .fogged] := by
  intro t
  have ht : t = safeComplete p s := rfl
  unfold safeComplete at ht
  dsimp only at ht
  have hO : Only [.safe] s { s with safe := { s.safe with answered := s.safe.answered + 1 } } := by simp [only_iff]
  generalize ({ s with safe := { s.safe with answered := s.safe.answered + 1 } } : State) = u at hO ht
  have hnu := noCounter_of hn hO
  rw [hc] at ht
  cases h : p.op.isRead with
  | true =>
    rw [h, if_pos rfl, sendDat_zcl] at ht
    have hs := only_sendFrom hnu (chanLane (chanNo u p.line)) p.deadline (.dat p.req.agent .i 0 p.req.txid true .fogged p.deadline 0)
    have hx := tx_sendFrom (chanLane (chanNo u p.line)) p.deadline (.dat p.req.agent .i 0 p.req.txid true .fogged p.deadline 0) u
    rw [← ht] at hs hx
    exact ⟨hs.home.trans hO.home, by rw [hx, hO.tx, if_pos rfl]⟩
  | false =>
    rw [h, if_neg Bool.false_ne_true, portComplete, hc] at ht
    obtain ⟨h1, h2, -⟩ := sendCpl_zcl hnu p.req.agent p.op.cplOp 0 p.req.txid .fogged (p.op.isRead && !decide (p.op = .upg)) p.tray p.deadline
    rw [← ht] at h1 h2
    exact ⟨h2.home.trans hO.home, by rw [h1, hO.tx, if_neg Bool.false_ne_true]⟩

/-- Has a REQ not begun? -/
def unbegun (p : Pend) : Bool :=
  match p.place with
  | .begun _ => false
  | .window => false
  | _ => true

/-- A REQ that has not begun is answered and leaves its buffer. -/
def answerOne (s : State) (p : Pend) : State :=
  delPend p.seq (match p.portCpl with
    | some st => portComplete p st s
    | none => safeComplete p s)

theorem answerWaiting_eq (s : State) : answerWaiting s = chainsEnd ((s.home.reqs.filter unbegun).foldl answerOne s) := rfl

/-- A REQ that has not begun is completed FOGGED and leaves its buffer (R338). -/
theorem finishAll_waiting {p : Pend} {s : State} (hq : Quiet { s with home := { s.home with reqs := [] } }) (hn : NoCounter s)
    (hr : s.home.reqs = [p]) (hb : ∀ c, p.place ≠ .begun c) (hw : p.place ≠ .window) (hpc : p.portCpl = none) (hc : p.cxl = none)
    (l : List (Nat × Nat)) : let t := finishAll l s
    t.home.reqs = [] ∧ t.tx = s.tx ++ [if p.op.isRead then .dat p.req.agent .i 0 p.req.txid true .fogged p.deadline 0
      else .rsp p.req.agent p.op.cplOp 0 p.req.txid .fogged] := by
  obtain ⟨hctx, -⟩ := hq
  have hrows : l.foldl (fun s p => finishRow p.1 p.2 s) s = s :=
    List.foldl_fixed' (fun p => finishRow_free (by rw [ctxOf, show s.dev.ctxs = [] from hctx]; rfl)) l
  have hheld : unbegun p = true := by
    unfold unbegun
    cases hpl : p.place with
    | begun c => exact absurd hpl (hb c)
    | window => exact absurd hpl hw
    | _ => rfl
  have hans : answerWaiting s = chainsEnd (delPend p.seq (safeComplete p s)) := by
    rw [answerWaiting_eq, hr, List.filter_cons_of_pos hheld, List.filter_nil, List.foldl_cons, List.foldl_nil, answerOne, hpc]
  obtain ⟨h1, h2⟩ := safeComplete_frame hn hc
  intro t
  have ht : t = _ := finishAll_eq l s
  rw [hrows, hans] at ht
  generalize safeComplete p s = u at h1 h2 ht
  have h3 : (chainsEnd (delPend p.seq u)).home.reqs = [] := by
    show (u.home.reqs.filter (fun q => q.seq ≠ p.seq)) = []
    rw [h1, hr]
    simp
  have h4 : (chainsEnd (delPend p.seq u)).tx = u.tx := rfl
  generalize chainsEnd (delPend p.seq u) = v at h3 h4 ht
  have h5 : Only [.sheet, .meter, .mem, .regs, .dev] v t := by
    rw [ht]
    exact ((only_swept _).mono (by simp)).trans (((only_reelDrain false _).trans (only_reelDrain true _)).mono (by simp))
  exact ⟨by rw [h5.home, h3], by rw [h5.tx, h4, h2]⟩

/-! ### Writebacks after SAFE_DONE (R340) -/

theorem Only.of_regs_eq {k : List Side} {s t : State} (h : Only (.regs :: k) s t) (hr : t.regs = s.regs) : Only k s t := by
  intro x hx
  cases x with
  | regs => exact hr
  | _ => exact h _ (by simp [hx])

theorem modSlot_one {w : Nat} {p : WSlot} {s : State} (h : s.home.wslots = [(w, p)]) (f : WSlot → WSlot) :
    (modSlot w f s).home = { s.home with wslots := [(w, f p)] } := by
  rw [modSlot, updHome_home, h]
  simp [sMod, sFind, sSet]

/-- A slot acknowledged is free. -/
theorem safeAck_one {w : Nat} {p : WSlot} {s : State} (hn : NoCounter s) (h : s.home.wslots = [(w, p)]) (hc : p.cxl = none)
    (hm : muted s p.agent (some p.tray) true = false) (hst : p.status ≠ .errAddr) : let t := safeAck w s
    t.home = { s.home with wslots := [] } ∧ t.tx = s.tx ++ [.rsp p.agent .cmpWb 0 p.txid p.status] ∧
    Only [.home, .tx, .meter, .xbar] s t := by
  have hslot : slotOf s w = some p := by
    rw [slotOf, h]
    simp [sFind]
  have h1 := only_updHome (fun x => { x with wslots := sMod x.wslots w (fun q => { q with acked := true }) }) s
  have h2 := modSlot_one h (fun q => { q with acked := true })
  have hsend : sendCmpWb w s = sendCpl p.agent .cmpWb 0 p.txid p.status none false (some p.tray) p.deadline
      (modSlot w (fun q => { q with acked := true }) s) := by
    unfold sendCmpWb
    rw [hslot]
    dsimp only
    rw [show muted (modSlot w (fun q => { q with acked := true }) s) p.agent (some p.tray) true = false from hm,
      if_neg Bool.false_ne_true, hc]
  intro t
  have ht : t = delSlot w (sendCmpWb w s) := rfl
  rw [hsend] at ht
  change Only [.home] s (modSlot w (fun q => { q with acked := true }) s) at h1
  generalize modSlot w (fun q => { q with acked := true }) s = u at h1 h2 ht
  obtain ⟨g1, g2, -, g4⟩ := sendCpl_zcl (noCounter_of hn h1) p.agent .cmpWb 0 p.txid p.status false (some p.tray) p.deadline
  have g5 := Only.of_regs_eq g2 (g4 hst)
  generalize sendCpl p.agent .cmpWb 0 p.txid p.status none false (some p.tray) p.deadline u = v at g1 g5 ht
  have h3 : Only [.home] v t := by
    rw [ht]
    exact only_updHome _ _
  refine ⟨?_, by rw [h3.tx, g1, h1.tx], (h1.mono (by simp)).trans ((g5.mono (by simp)).trans (h3.mono (by simp)))⟩
  rw [ht, delSlot, updHome_home, g5.home, h2]
  simp [sDel]

/-! Two forms of a lookup in a set whose ways are sound. -/

theorem readSet_sound {s : State} (h : s.sheet.errs = []) (bank set : Nat) (l : List Nat) : readSet bank set l s =
    (false, l.filterMap (fun w => (storedWay s (wayKey bank set w)).map (fun e => (w, e))), s) := by
  induction l with
  | nil => rfl
  | cons w l ih =>
    rw [readSet, readWay_clean (by rw [h]; rfl)]
    dsimp only
    rw [ih]
    cases hw : storedWay s (wayKey bank set w) with
    | none => simp [WayRead.entry, hw]
    | some e => simp [WayRead.entry, hw]

theorem setWays_congr {s t : State} (h : t.sheet = s.sheet) (bank set : Nat) : setWays t bank set = setWays s bank set := by
  unfold setWays storedWay
  rw [h]

theorem lookup_miss {s : State} {sec : Nat} (hn : NoCounter s) (h : s.sheet.errs = []) (he : NoEntry s sec) :
    lookup sec s = (.miss, count 0x05 Units.block 1 s) := by
  have hs := (only_count hn 0x05 Units.block 1).sheet
  unfold lookup
  dsimp only
  generalize count 0x05 Units.block 1 s = u at hs
  rw [readSet_sound (by rw [hs, h])]
  dsimp only
  rw [show (List.range 8).filterMap (fun w => (storedWay u (wayKey (bankOf sec) (setOf sec) w)).map (fun e => (w, e))) =
    setWays s (bankOf sec) (setOf sec) from setWays_congr hs _ _, he]

/-- A writeback applied to nothing: its write counts as done, with a status. -/
def settled (st : Status) (p : WSlot) : WSlot := { p with place := .absorbed noCtx, status := st, written := true }

theorem opSafelightWbk_written {w : Nat} {p : WSlot} {s : State} (hs : isSafe s = true) (hd : bitOf (rd s oFltStatus) 1 = true)
    (h : s.home.wslots = [(w, p)]) (hp : p.place = .absorbed noCtx) (hw : p.written = true) : opSafelightWbk s = safeAck w s := by
  unfold opSafelightWbk
  rw [hs, hd, h]
  simp [hp, hw, firstSlot]

/-- A writeback that is done with at once is acknowledged. -/
theorem opSafelightWbk_settles {w : Nat} {p : WSlot} {st : Status} {s v : State} (hs : isSafe s = true)
    (hd : bitOf (rd s oFltStatus) 1 = true) (h : s.home.wslots = [(w, p)]) (hp : p.place = .waiting)
    (hr : ownReads s p.line false = true) (ha : safeApply w p s = slotDone w st v)
    (hv : Only [.meter] (modSlot w (fun q => { q with place := .absorbed noCtx }) s) v) :
    ∃ u, opSafelightWbk s = safeAck w u ∧ u.home = { s.home with wslots := [(w, settled st p)] } ∧ Only [.home, .meter] s u := by
  have h1 := modSlot_one h (fun q => { q with place := .absorbed noCtx })
  have h0 : Only [.home] s (modSlot w (fun q => { q with place := .absorbed noCtx }) s) := only_updHome _ _
  have hvw : v.home.wslots = [(w, { p with place := .absorbed noCtx })] := by rw [hv.home, h1]
  have h2 := modSlot_one hvw (fun q => { q with status := st, written := true })
  have hO : Only [.home] v (slotDone w st v) := only_updHome _ _
  have hh : (slotDone w st v).home = { s.home with wslots := [(w, settled st p)] } := by
    rw [slotDone, h2, hv.home, h1]
    rfl
  refine ⟨slotDone w st v, ?_, hh, (h0.mono (by simp)).trans ((hv.mono (by simp)).trans (hO.mono (by simp)))⟩
  have hslot : slotOf (slotDone w st v) w = some (settled st p) := by
    rw [slotOf, hh]
    simp [sFind]
  unfold opSafelightWbk
  rw [hs, hd, h]
  simp [hp, hr, firstSlot, ha, hslot, settled]

theorem isDark_modSlot (w : Nat) (f : WSlot → WSlot) (s : State) (line : Nat) : isDark (modSlot w f s) line = isDark s line :=
  isDark_congr (fun _ => lineChan_congr rfl _) (fun _ => rfl) line

theorem safeApply_dark {w : Nat} {p : WSlot} {s : State} (hd : isDark s p.line = true) : safeApply w p s =
    slotDone w (wbStatus p .fogged) (modSlot w (fun q => { q with place := .absorbed noCtx }) s) := by
  unfold safeApply
  dsimp only
  rw [isDark_modSlot, hd, if_pos rfl]

theorem safeApply_stale {w : Nat} {p : WSlot} {s : State} (hn : NoCounter s) (hc : p.cxl = none) (hd : isDark s p.line = false)
    (hb : bankSuspect s (bankOf (p.line / 4)) = false) (he : s.sheet.errs = []) (hno : NoEntry s (p.line / 4))
    (ht : traySpill s p.tray = false) : ∃ v, Only [.meter] (modSlot w (fun q => { q with place := .absorbed noCtx }) s) v ∧
      safeApply w p s = slotDone w (wbStatus p .ok) v := by
  have h0 : Only [.home] s (modSlot w (fun q => { q with place := .absorbed noCtx }) s) := only_updHome _ _
  have hn0 := noCounter_of hn h0
  have h1 := only_count hn0 0x05 Units.block 1
  have hl := lookup_miss (sec := p.line / 4) hn0 (by rw [h0.sheet, he]) (by unfold NoEntry; rw [setWays_congr h0.sheet]; exact hno)
  have hdk := isDark_modSlot w (fun q => { q with place := .absorbed noCtx }) s p.line
  unfold safeApply
  dsimp only
  generalize modSlot w (fun q => { q with place := .absorbed noCtx }) s = u at h0 hn0 h1 hl hdk
  have hsp : traySpill (count 0x05 Units.block 1 u) p.tray = false := by
    rw [traySpill, rd_congr h1.regs, rd_congr h0.regs]
    exact ht
  rw [hdk, hd, if_neg Bool.false_ne_true, bankSuspect, rd_congr h0.regs, show bitOf (rd s oSuspect) (bankOf (p.line / 4)) = false from hb,
    if_neg Bool.false_ne_true, hl]
  dsimp only
  rw [safeMiss, hsp, if_pos (by decide), safeStale, hc]
  exact ⟨_, h1.trans (only_count (noCounter_of hn0 h1) 0x09 ⟨some p.tray, some p.agent, none⟩ 1), rfl⟩

theorem wbStatus_ne_errAddr {p : WSlot} {st : Status} (h : st ≠ .errAddr) : wbStatus p st ≠ .errAddr := by
  unfold wbStatus
  split
  · exact Status.noConfusion
  · exact h

/-- Settles O55: the software fault, the sequencer's end, and the three writebacks. -/
theorem safelightSequencer : Obligations.SafelightSequencer := by
  unfold Obligations.SafelightSequencer
  refine ⟨fun s => ⟨fun hc => ?_, fun ha hs hd hr => ?_⟩, ?_⟩
  · have he : exec .swi s = .next (capCmd opSwi s) := rfl
    have hr : opSwi (answered false 0 s) = wr (answered false 0 s) 0x010100 (rd s 0x010100 ||| 0x4000#64) :=
      raise0_none (c := .swi) rfl _
    rw [he, capCmd_eq hc hr rfl rfl]
  · have he : exec .safeDone s = .next (untimed opSafeDone s) := congrArg Host.Outcome.next (live_awake opSafeDone ha)
    have hop := opSafeDone_eq hs hd hr
    obtain ⟨hch, hsw, hlm⟩ := finishAll_clears s.safe.bound s
    obtain ⟨g1, g2, g3, g4, g5⟩ := sealed_frame s.safe.bound.length (finishAll s.safe.bound s)
    have hU : (untimed opSafeDone s).regs = (opSafeDone s).regs ∧ (untimed opSafeDone s).tx = (opSafeDone s).tx ∧
        (untimed opSafeDone s).home = (opSafeDone s).home ∧ (untimed opSafeDone s).sheet = (opSafeDone s).sheet ∧
        (untimed opSafeDone s).safe = (opSafeDone s).safe ∧ (untimed opSafeDone s).meter = (opSafeDone s).meter :=
      ⟨rfl, rfl, rfl, rfl, rfl, rfl⟩
    obtain ⟨u1, u2, u3, u4, u5, u6⟩ := hU
    rw [hop] at u1 u2 u3 u4 u5 u6
    refine ⟨untimed opSafeDone s, he, ?_, ?_, ?_, ?_, ?_, ?_, fun hq => ⟨?_, ?_, ?_⟩, fun p hq hn hp hb hwn hpc hcx => ?_⟩
    · rw [rd_congr u1, g2]
    · exact (caused_congr u1 _ _).2 g3
    · rw [u5, g4]
    · rw [u3, g1.home, hch]
    · rw [u4, g1.sheet, hsw]
    · rw [u6, g1.meter, hlm]
    · rw [u2, g1.tx, (only_finishAll_quiet hq _).tx]
    · rw [rd_congr u1, g5, (rests_finishAll hq _).regs oPsSeq (by unfold ReelStateReg; decide)]
    · refine Only.untimed ?_
      rw [hop]
      exact ((only_finishAll_quiet hq _).mono (by simp)).trans (g1.mono (by simp))
    · obtain ⟨f1, f2⟩ := finishAll_waiting hq hn hp hb hwn hpc hcx s.safe.bound
      exact ⟨by rw [u3, g1.home, f1], by rw [u2, g1.tx, f2]⟩
  · intro w p s ha hs hd hn hw hc hm done
    have hex : ∀ {t}, opSafelightWbk s = t → Only [.home, .tx, .meter, .xbar] s t → exec .safelightWbk s = .next t := fun he hO =>
      exec_live (ok := true) rfl ha he hO.pending hO.aon
    have hack : ∀ {q : WSlot} {u : State}, opSafelightWbk s = safeAck w u → u.home = { s.home with wslots := [(w, q)] } →
        Only [.home, .meter] s u → q.agent = p.agent → q.tray = p.tray → q.cxl = none → q.txid = p.txid → q.status ≠ .errAddr →
        done q.status := by
      intro q u he hh hO hqa hqt hqc hqx hqs
      obtain ⟨a1, a2, a3⟩ := safeAck_one (noCounter_of hn hO) (by rw [hh]) hqc
        (by rw [hqa, hqt, muted_congr hO.links hO.regs]; exact hm) hqs
      have hA := (hO.mono (l := [.home, .tx, .meter, .xbar]) (by simp)).trans (a3.mono (by simp))
      exact ⟨_, hex he hA, by rw [a1, hh], by rw [a2, hO.tx, hqa, hqx], hA⟩
    refine ⟨fun hp hwr hst => ?_, fun hp hdk => ?_, fun hp hdk hor hb herr hno hsp => ?_⟩
    · exact hack (opSafelightWbk_written hs hd hw hp hwr) (by rw [← hw]) (Only.refl _ _) rfl rfl hc rfl hst
    · have hor : ownReads s p.line false = true := by
        unfold ownReads readAtOnce
        rw [hdk]
        rfl
      obtain ⟨u, h1, h2, h3⟩ := opSafelightWbk_settles hs hd hw hp hor (safeApply_dark hdk) (Only.refl _ _)
      exact hack h1 h2 h3 rfl rfl hc rfl (wbStatus_ne_errAddr Status.noConfusion)
    · obtain ⟨v, hv, ha'⟩ := safeApply_stale (w := w) hn hc hdk hb herr hno hsp
      obtain ⟨u, h1, h2, h3⟩ := opSafelightWbk_settles hs hd hw hp hor ha' hv
      exact hack h1 h2 h3 rfl rfl hc rfl (wbStatus_ne_errAddr Status.noConfusion)

end Sys2Proof.Machine
end

section
/-! PROOFS. Erasures, device thresholds, blank regions and their fill (O49: R260, R261, R263, R265, R267). -/

namespace Sys2Proof.Machine

/-! ### Erasures (R260) -/

/-- A rank's erasure register. -/
def oErase (m sc rank : Nat) : Nat := chanBase m + 0x8020 + 0x20 * sc + 4 * rank

theorem regDesc_chan {m x : Nat} (hm : m < 8) (hx : x < 0x10000) :
    regDesc (chanBase m + x) = regChan (decide (chanBase m + x < 0x210000)) x := by
  have h1 : (chanBase m + x) % 0x10000 = x := by
    unfold chanBase
    omega
  unfold regDesc
  rw [h1]
  unfold chanBase
  repeat rw [if_neg (by omega)]
  rw [if_pos (by omega)]

theorem regDesc_erase {m sc rank : Nat} (hm : m < 8) (hsc : sc < 2) (hr : rank < 8) :
    regDesc (oErase m sc rank) = some ⟨false, 0, 0x8000000F, 0, 0, 0, 0⟩ := by
  have hall : ∀ b : Bool, ∀ k, k < 16 → regChan b (0x8020 + 4 * k) = some ⟨false, 0, 0x8000000F, 0, 0, 0, 0⟩ := by decide
  have hx : oErase m sc rank = chanBase m + (0x8020 + 4 * (8 * sc + rank)) := by
    unfold oErase
    omega
  rw [hx, regDesc_chan hm (by omega), hall _ _ (by omega)]

/-- Fields whose bits agree. -/
theorem fld_zero_of_bits {n k : Nat} {v : BitVec n} {u : BitVec k} {w : Nat} (h : ∀ i < w, bitOf v i = bitOf u i) :
    fld v 0 w = fld u 0 w := by
  rw [fld_zero, fld_zero]
  apply Nat.eq_of_testBit_eq
  intro i
  rw [Nat.testBit_mod_two_pow, Nat.testBit_mod_two_pow]
  by_cases hi : i < w
  · have := h i hi
    rw [bitOf, bitOf, ← BitVec.testBit_toNat, ← BitVec.testBit_toNat] at this
    rw [this]
  · simp [hi]

/-- What a write of an erasure register leaves in it. -/
theorem eraseWritten_bits (old : W64) (v : W32) : let d : RegDesc := ⟨false, 0, 0x8000000F, 0, 0, 0, 0⟩
    bitOf (writtenLow d old (v.setWidth 64)) 31 = bitOf v 31 ∧ fld (writtenLow d old (v.setWidth 64)) 0 4 = v.toNat % 16 := by
  have hb : ∀ i, i < 4 ∨ i = 31 → bitOf (writtenLow ⟨false, 0, 0x8000000F, 0, 0, 0, 0⟩ old (v.setWidth 64)) i = bitOf v i := by
    intro i hi
    have h4 : i < 64 := by omega
    have h5 : i < 32 := by omega
    have hmask : ∀ k < 32, k < 4 ∨ k = 31 → (w64 0x8000000F).getLsbD k = true ∧ (0xFFFFFFFF#64).getLsbD k = true := by decide
    obtain ⟨h1, h2⟩ := hmask i h5 hi
    rw [BitVec.getLsbD_eq_getElem h4] at h1 h2
    have h3 : (w64 0)[i] = false := by simp [w64]
    simp [bitOf, writtenLow, h1, h2, h3, h4, h5]
  intro d
  exact ⟨hb 31 (.inr rfl), (fld_zero_of_bits fun i hi => hb i (.inl hi)).trans (fld_zero v 4)⟩

theorem opErasure_good {m sc rank : Nat} {v : W32} {s : State} (hm : m < 8) (hsc : sc < 2) (hr : rank < 8)
    (h : ¬ (bitOf v 31 = true ∧ (bitOf (rd s (oMcCfg m)) 4 = true ∨ 9 < v.toNat % 16))) :
    opErasure m sc rank v s =
      wr s (oErase m sc rank) (writtenLow ⟨false, 0, 0x8000000F, 0, 0, 0, 0⟩ (rd s (oErase m sc rank)) (v.setWidth 64)) := by
  have hc : (bitOf v 31 && (bitOf (rd s (oMcCfg m)) 4 || decide (9 < fld v 0 4))) = false := by
    rw [fld_zero, Bool.eq_false_iff]
    simpa using h
  refine (if_neg (by rw [hc]; decide)).trans ?_
  exact regWrite_low (regDesc_erase hm hsc hr) (setWidth_and_low v)

theorem opErasure_bad {m sc rank : Nat} {v : W32} {s : State}
    (h : bitOf v 31 = true ∧ (bitOf (rd s (oMcCfg m)) 4 = true ∨ 9 < v.toNat % 16)) :
    opErasure m sc rank v s = wr s (0x010300 + 8 * m) (rd s (0x010300 + 8 * m) ||| 0x20000#64) := by
  have hc : (bitOf v 31 && (bitOf (rd s (oMcCfg m)) 4 || decide (9 < fld v 0 4))) = true := by
    rw [fld_zero]
    simpa using h
  refine (if_pos hc).trans ?_
  rw [cdRefuse, raiseAt_none (c := .cdCmd) rfl]
  rfl

/-! ### Blank regions (R263, R267) -/

theorem trayOfRegion_wr {o : Nat} (ho : NotTray o) (v : W64) (s : State) (r : Nat) :
    trayOfRegion (wr s o v) r = trayOfRegion s r := by
  unfold trayOfRegion
  rw [trayRanges_wr ho]

theorem blankRefused_wr {o : Nat} (ho : NotTray o) (h1 : o ≠ 0x020020) (h2 : o ≠ 0x020028) (h3 : o ≠ 0x209010) (v : W64) (s : State)
    (r : Nat) : blankRefused (wr s o v) r = blankRefused s r := by
  have hb : ∀ b, backingRegion (wr s o v) b = backingRegion s b := fun b => by
    unfold backingRegion
    rw [rd_wr_ne _ _ (by cases b <;> simp [Ne.symm h1, Ne.symm h2])]
  have hs : spareRange (wr s o v) = spareRange s := by
    unfold spareRange
    rw [rd_wr_ne _ _ (Ne.symm h3)]
  unfold blankRefused
  simp only [trayOfRegion_wr ho, hb, hs]

theorem blankRegion_eq (g : BitVec 22) (s : State) : ∃ v, blankRegion g s = wr s 0x209000 v := ⟨_, rfl⟩

theorem blankIf_frame (p : Nat → Bool) (s : State) : Only [.mem] s (blankIf p s) ∧ (blankIf p s).mem.dram = s.mem.dram ∧
    (∀ l, p (regionOf l) = true → lineBlank (blankIf p s) l = true) ∧
    (∀ l, p (regionOf l) = false → lineBlank (blankIf p s) l = lineBlank s l) := by
  refine ⟨only_updMem _ _, rfl, fun l hl => ?_, fun l hl => ?_⟩
  · have h1 : regionBlank (blankIf p s) (regionOf l) = true := by
      unfold regionBlank blankIf
      rw [updMem_mem]
      simp [hl]
    have h2 : fillOf (blankIf p s) (regionOf l) = none := by
      unfold fillOf blankIf
      rw [updMem_mem, List.find?_eq_none]
      intro q hq
      have hq2 := (List.mem_filter.1 hq).2
      simp only [decide_eq_true_eq]
      intro h
      rw [h, hl] at hq2
      cases hq2
    rw [lineBlank, h1, h2]
    rfl
  · have h1 : regionBlank (blankIf p s) (regionOf l) = regionBlank s (regionOf l) := by
      unfold regionBlank blankIf
      rw [updMem_mem]
      simp [hl]
    have h2 : fillOf (blankIf p s) (regionOf l) = fillOf s (regionOf l) := by
      unfold fillOf blankIf
      rw [updMem_mem, List.find?_filter]
      refine congrArg (List.find? · _) (funext fun q => ?_)
      by_cases h : q.2.region = regionOf l
      · simp [h, hl]
      · simp [h]
    rw [lineBlank, lineBlank, h1, h2]

/-- A blank command's region stored. -/
structure RegionStored (s t : State) : Prop where
  only : Only [.regs] s t
  regs : RegsOnly (· = 0x209000) s t
  refused : ∀ r, blankRefused t r = blankRefused s r

theorem blankRegion_stored (g : BitVec 22) (s : State) : RegionStored s (blankRegion g s) := by
  obtain ⟨v, hv⟩ := blankRegion_eq g s
  rw [hv]
  exact ⟨only_wr _ _ _, regsOnly_wr _ _ rfl, blankRefused_wr (.inl (by decide)) (by decide) (by decide) (by decide) v s⟩

theorem opBlank_accepted {g : BitVec 22} {s : State} (h : blankRefused s g.toNat = false) : let t := opBlank g s
    rdf t 0x209004 0 2 = 1 ∧ (∀ l, l / 2 ^ 14 = g.toNat → lineBlank t l = true) ∧
    (∀ l, l / 2 ^ 14 ≠ g.toNat → lineBlank t l = lineBlank s l) ∧ t.mem.dram = s.mem.dram ∧
    Only [.regs, .mem] s t ∧ RegsOnly (fun o => o = 0x209000 ∨ o = 0x209004) s t := by
  obtain ⟨hO, hR, href⟩ := blankRegion_stored g s
  have he : opBlank g s = blankResult 1 (blankIf (fun r => decide (r = g.toNat)) (blankRegion g s)) :=
    if_neg (by rw [href, h]; decide)
  intro t
  have ht : t = _ := he
  generalize blankRegion g s = u at hO hR ht
  obtain ⟨b1, b2, b3, b4⟩ := blankIf_frame (fun r => decide (r = g.toNat)) u
  generalize blankIf (fun r => decide (r = g.toNat)) u = w at b1 b2 b3 b4 ht
  have hW : Only [.regs] w t := by
    rw [ht]
    exact only_wrf _ _ _ _ _
  have hWR : RegsOnly (· = 0x209004) w t := by
    rw [ht]
    exact regsOnly_wrf _ _ _ _ rfl
  have hlb : ∀ l, lineBlank t l = lineBlank w l := fun l => by
    unfold lineBlank regionBlank fillOf
    rw [hW.mem]
  have hlu : ∀ l, lineBlank u l = lineBlank s l := fun l => by
    unfold lineBlank regionBlank fillOf
    rw [hO.mem]
  refine ⟨?_, fun l hl => ?_, fun l hl => ?_, by rw [hW.mem, b2, hO.mem], ?_, ?_⟩
  · rw [ht, blankResult]
    exact rdf_wrf_same _ _ _ _ _ (by decide)
  · rw [hlb, b3 l (decide_eq_true hl)]
  · rw [hlb, b4 l (decide_eq_false hl), hlu]
  · exact (hO.mono (by simp)).trans ((b1.mono (by simp)).trans (hW.mono (by simp)))
  · exact (hR.mono fun o h => .inl h).trans ((regsOnly_of_regs b1.regs).trans (hWR.mono fun o h => .inr h))

theorem opBlank_refused {g : BitVec 22} {s : State} (h : blankRefused s g.toNat = true) : let t := opBlank g s
    rdf t 0x209004 0 2 = 2 ∧ Caused t .cdCmd 0 ∧ Only [.regs] s t := by
  obtain ⟨hO, -, href⟩ := blankRegion_stored g s
  have he : opBlank g s = cdRefuse 0 (blankResult 2 (blankRegion g s)) := if_pos (by rw [href, h])
  intro t
  have ht : t = _ := he
  generalize blankRegion g s = u at hO ht
  have h1 : Only [.regs] u (blankResult 2 u) := only_wrf _ _ _ _ _
  have h2 : rdf (blankResult 2 u) 0x209004 0 2 = 2 := rdf_wrf_same _ _ _ _ _ (by decide)
  generalize blankResult 2 u = v at h1 h2 ht
  rw [cdRefuse] at ht
  rw [ht]
  refine ⟨?_, caused_raiseAt .cdCmd (by decide) v, hO.trans (h1.trans (only_raiseAt_none (c := .cdCmd) rfl 0 v))⟩
  rw [rdf, regsOnly_raiseAt_none (c := .cdCmd) rfl 0 v _ (by decide)]
  exact h2

/-- What QUERY answers (R263). -/
def regionState (s : State) (r : Nat) : Nat :=
  if regionBlank s r = false then 0 else if (fillOf s r).isSome then 2 else 1

theorem opQuery_frame (g : BitVec 22) (s : State) : let t := opQuery g s
    rdf t 0x209004 0 2 = 1 ∧ rdf t 0x209004 4 2 = regionState s g.toNat ∧ Only [.regs] s t := by
  obtain ⟨hO, -, -⟩ := blankRegion_stored g s
  intro t
  have ht : t = blankResult 1 (wrf (blankRegion g s) 0x209004 4 2 (if !regionBlank (blankRegion g s) g.toNat then 0
    else if (fillOf (blankRegion g s) g.toNat).isSome then 2 else 1)) := rfl
  have hst : (if !regionBlank (blankRegion g s) g.toNat then 0
      else if (fillOf (blankRegion g s) g.toNat).isSome then 2 else 1) = regionState s g.toNat := by
    unfold regionBlank fillOf regionState
    rw [hO.mem]
    unfold regionBlank fillOf
    simp
  rw [hst] at ht
  have hlt : regionState s g.toNat < 2 ^ 2 := by
    unfold regionState
    split
    · decide
    · split <;> decide
  generalize blankRegion g s = u at hO ht
  rw [ht, blankResult]
  refine ⟨rdf_wrf_same _ _ _ _ _ (by decide), ?_, hO.trans ((only_wrf _ _ _ _ _).trans (only_wrf _ _ _ _ _))⟩
  rw [rdf_wrf_field_ne _ _ _ _ _ _ _ (.inr (by decide)) (by decide), rdf_wrf_same _ _ _ _ _ (by decide), Nat.mod_eq_of_lt hlt]

/-! ### FILL_LINE (R265) -/

theorem fillNext_first {s : State} {f : Fill} (hw : f.walk < 16384) (hf : f.region * 16384 + f.walk ∉ f.filled)
    (hh : holderOf s (f.region * 16384 + f.walk) = none) : fillNext s f f.walk = some (f.region * 16384 + f.walk) := by
  unfold fillNext
  rw [show 16384 - f.walk = (16383 - f.walk) + 1 by omega, List.range_succ_eq_map, List.map_cons, List.find?_cons_of_pos]
  · exact congrArg some (Nat.add_zero _)
  · simp only [Nat.add_zero, hh, Option.isNone_none, Bool.and_true]
    simpa using hf

theorem regionOf_add {r k : Nat} (h : k < 16384) : regionOf (r * 16384 + k) = r := by
  unfold regionOf
  omega

/-- A line of a developing region that is not filled yet is marked filled. -/
theorem develop_marks {k line : Nat} {f : Fill} {s : State} (hf : s.mem.fills = [(k, f)]) (hr : regionOf line = f.region)
    (hb : regionBlank s f.region = true) (hl : line ∉ f.filled) (hn : f.filled.length < 16383) :
    develop line s = updMem (fun x => { x with fills := [(k, { f with filled := line :: f.filled })] }) s := by
  have hfo : fillOf s f.region = some (k, f) := by
    unfold fillOf
    rw [hf]
    simp
  unfold develop
  rw [hr, hb, if_neg (by decide), hfo]
  dsimp only
  rw [if_neg (by simpa using hl)]
  have hu : updMem (fun x => { x with fills := sSet x.fills k { f with filled := line :: f.filled } }) s =
      updMem (fun x => { x with fills := [(k, { f with filled := line :: f.filled })] }) s := by
    unfold updMem
    dsimp only
    rw [hf]
    simp [sSet]
  rw [hu, fillFinish, updMem_mem]
  simp only [sFind, if_true]
  refine if_pos ?_
  rw [List.length_cons]
  omega

theorem opFill_fills {slot : Nat} {f : Fill} {s : State} (hs : isSafe s = false) (hf : s.mem.fills = [(slot, f)])
    (hb : regionBlank s f.region = true) (hw : f.walk < 16384) (hn : f.filled.length < 16383)
    (hl : f.region * 16384 + f.walk ∉ f.filled) (hh : holderOf s (f.region * 16384 + f.walk) = none)
    (he : entriesFor s 1 = true) (hd : isDark s (f.region * 16384 + f.walk) = false) (hp : pwbFree s = true) :
    let t := opFill slot s
    ∃ p, t.mem.pwb = s.mem.pwb ++ [p] ∧ p.line = f.region * 16384 + f.walk ∧ p.data = 0 ∧ p.fog = false ∧ p.ldw = 0 ∧
      t.mem.fills = [(slot, { f with filled := (f.region * 16384 + f.walk) :: f.filled, walk := (f.walk + 1) % 16384 })] ∧
      t.mem.dram = s.mem.dram ∧ Only [.mem] s t := by
  have hr := regionOf_add (r := f.region) hw
  have hready : pwbReady s (f.region * 16384 + f.walk) = true := by
    unfold pwbReady fillReady fillOf
    rw [hp, hr, hf]
    simp
  have hfind : sFind s.mem.fills slot = some f := by
    rw [hf]
    simp [sFind]
  have hmod : (f.region * 16384 + f.walk) % 16384 = f.walk := by omega
  generalize hline : f.region * 16384 + f.walk = line at hr hl hh hd hready hmod
  have hnext : fillNext s f f.walk = some line := by
    rw [← hline] at hl hh ⊢
    exact fillNext_first hw hl hh
  have hu : updMem (fun x => { x with fills := sSet x.fills slot { f with walk := (line % 16384 + 1) % 16384 } }) s =
      updMem (fun x => { x with fills := [(slot, { f with walk := (f.walk + 1) % 16384 })] }) s := by
    unfold updMem
    dsimp only
    rw [hf, hmod]
    simp [sSet]
  have hop : opFill slot s = pwbEnter (ownLine line 0 false ldwEmpty
      (updMem (fun x => { x with fills := [(slot, { f with walk := (f.walk + 1) % 16384 })] }) s))
      (updMem (fun x => { x with fills := [(slot, { f with walk := (f.walk + 1) % 16384 })] }) s) := by
    unfold opFill
    rw [hfind]
    dsimp only
    rw [hnext]
    dsimp only
    rw [hs, he, hd, hready, if_neg (by decide), hu, show isDark (updMem (fun x => { x with
      fills := [(slot, { f with walk := (f.walk + 1) % 16384 })] }) s) line = false from
      (isDark_congr (fun _ => lineChan_congr rfl _) (fun _ => rfl) line).trans hd, if_neg Bool.false_ne_true]
  intro t
  have ht : t = _ := hop
  have h1 := only_updMem (fun x => { x with fills := [(slot, { f with walk := (f.walk + 1) % 16384 })] }) s
  have h2 : (updMem (fun x => { x with fills := [(slot, { f with walk := (f.walk + 1) % 16384 })] }) s).mem =
    { s.mem with fills := [(slot, { f with walk := (f.walk + 1) % 16384 })] } := updMem_mem _ _
  generalize updMem (fun x => { x with fills := [(slot, { f with walk := (f.walk + 1) % 16384 })] }) s = u at h1 h2 ht
  rw [pwbEnter_kept rfl, show (ownLine line 0 false ldwEmpty u).line = line from rfl, develop_marks (k := slot) (f := { f with walk := (f.walk + 1) % 16384 }) (by rw [h2]) hr
    (by unfold regionBlank; rw [h2]; exact hb) hl hn] at ht
  have h3 := only_updMem (fun x => { x with fills := [(slot, { f with walk := (f.walk + 1) % 16384, filled := line :: f.filled })] }) u
  have h4 : (updMem (fun x => { x with fills := [(slot, { f with walk := (f.walk + 1) % 16384, filled := line :: f.filled })] }) u).mem =
    { s.mem with fills := [(slot, { f with walk := (f.walk + 1) % 16384, filled := line :: f.filled })] } := by rw [updMem_mem, h2]
  change t = pwbPut _ (updMem (fun x => { x with fills := [(slot, { f with walk := (f.walk + 1) % 16384, filled := line :: f.filled })] }) u) at ht
  generalize updMem (fun x => { x with fills := [(slot, { f with walk := (f.walk + 1) % 16384, filled := line :: f.filled })] }) u = v
    at h3 h4 ht
  obtain ⟨g1, g2, g3, -⟩ := pwbPut_frame (ownLine line 0 false ldwEmpty u) v
  rw [← ht] at g1 g2 g3
  exact ⟨_, g3.trans (by rw [h4]), rfl, rfl, rfl, rfl, by rw [g2.fills, h4], by rw [g2.dram, h4], h1.trans (h3.trans g1)⟩

/-- DEV_THRESH of a counter at its threshold. -/
theorem opDevThresh_raises {m sc rank dev : Nat} {s : State} (hm : m < 8) (h0 : rdf s (chanBase m + 0x8018) 0 16 ≠ 0)
    (hle : rdf s (chanBase m + 0x8018) 0 16 ≤ devCnt s m sc rank dev) (he : (chanOf s m).thresh = []) : let t := opDevThresh m sc rank dev s
    Caused t .devThresh m ∧ (chanOf t m).thresh = [devKey sc rank dev] ∧ Only [.regs, .mem] s t ∧
    RegsOnly (· = 0x010300 + 8 * m) s t := by
  have hop : opDevThresh m sc rank dev s =
      raiseAt .devThresh m (setChan m (fun c => { c with thresh := devKey sc rank dev :: c.thresh }) s) := by
    refine if_neg ?_
    rw [he]
    rintro (h | h | h)
    · exact h0 h
    · exact absurd hle (Nat.not_le.2 h)
    · cases h
  have h1 := only_setChan m (fun c => { c with thresh := devKey sc rank dev :: c.thresh }) s
  have h2 : (chanOf (setChan m (fun c => { c with thresh := devKey sc rank dev :: c.thresh }) s) m).thresh = [devKey sc rank dev] := by
    rw [chanOf_setChan_same, he]
  intro t
  have ht : t = _ := hop
  generalize setChan m (fun c => { c with thresh := devKey sc rank dev :: c.thresh }) s = u at h1 h2 ht
  have h3 := only_raiseAt_none (c := .devThresh) rfl m u
  have h4 := regsOnly_raiseAt_none (c := .devThresh) rfl m u
  rw [ht]
  refine ⟨caused_raiseAt .devThresh (by omega) u, ?_, (h1.mono (by simp)).trans (h3.mono (by simp)), (regsOnly_of_regs h1.regs).trans h4⟩
  rw [chanOf_congr (congrArg MemSide.chans h3.mem), h2]

/-- Settles O49: erasures and thresholds, blank commands, and the fill. -/
theorem lineCodeCommands : Obligations.LineCodeCommands := by
  unfold Obligations.LineCodeCommands
  refine ⟨?_, fun g s hc => ⟨fun h => ?_, fun h => ?_, ?_⟩, ?_⟩
  · intro m sc rank dev v s hm hsc hr hdev ha o bad cnt t0
    have hok : okRank m sc rank = true := by simp [okRank, okSc, okChan, hm, hsc, hr]
    have hcap := capAnswers_of_asleep ha
    refine ⟨fun hb => ?_, fun hb => ?_, fun h0 hle he => ?_, fun h => ?_⟩
    · have hop := opErasure_good (s := answered false 0 s) hm hsc hr hb
      have hrd := rd_wr_same (answered false 0 s) o
        (writtenLow ⟨false, 0, 0x8000000F, 0, 0, 0, 0⟩ (rd (answered false 0 s) o) (v.setWidth 64))
      obtain ⟨b1, b2⟩ := eraseWritten_bits (rd (answered false 0 s) o) v
      refine ⟨_, onUnit_next hok (capCmd_eq hcap hop rfl rfl), ?_, ?_, rfl, ?_, ?_⟩
      · exact (congrArg (bitOf · 31) hrd).trans b1
      · exact (congrArg (fld · 0 4) hrd).trans b2
      · exact ((only_answered _ _ _).mono (by simp)).trans ((only_wr _ _ _).mono (by simp))
      · exact (regsOnly_of_regs (s := s) (t := answered false 0 s) rfl).trans (regsOnly_wr _ _ rfl)
    · exact onUnit_next hok (capCmd_eq hcap (opErasure_bad (s := answered false 0 s) hb) rfl rfl)
    · obtain ⟨h1, h2, h3, h4⟩ := opDevThresh_raises hm h0 hle he
      exact ⟨_, exec_live (by simp [hok, hdev]) ha rfl h3.pending h3.aon, h1, h2, h3, h4⟩
    · have hop : opDevThresh m sc rank dev s = s := by
        refine if_pos (h.imp_right fun h => h.imp_right fun h => ?_)
        simpa using h
      exact exec_live (by simp [hok, hdev]) ha hop rfl rfl
  · obtain ⟨h1, h2, h3, h4, h5, h6⟩ := opBlank_accepted (s := answered false 0 s) h
    have hA := (only_answered false 0 s).mono (l := [.cap, .regs, .mem]) (by simp) |>.trans (h5.mono (by simp))
    exact ⟨_, congrArg Host.Outcome.next (capCmd_eq hc rfl h5.pending h5.aon), h1, h2, h3, h4, h5.cap, hA, h6⟩
  · obtain ⟨h1, h2, h3⟩ := opBlank_refused (s := answered false 0 s) h
    have hA := (only_answered false 0 s).mono (l := [.cap, .regs]) (by simp) |>.trans (h3.mono (by simp))
    exact ⟨_, congrArg Host.Outcome.next (capCmd_eq hc rfl h3.pending h3.aon), h1, h2, h3.mem, h3.cap, hA⟩
  · obtain ⟨h1, h2, h3⟩ := opQuery_frame g (answered false 0 s)
    have hA := (only_answered false 0 s).mono (l := [.cap, .regs]) (by simp) |>.trans (h3.mono (by simp))
    exact ⟨_, congrArg Host.Outcome.next (capCmd_eq hc rfl h3.pending h3.aon), h1, h3.cap, hA, h2⟩
  · intro slot f s hslot hr hf hb hw hn l hl hh he hd hp
    obtain ⟨p, h1, h2, h3, h4, h5, h6, h7, h8⟩ := opFill_fills hr.notSafe hf hb hw hn hl hh he hd hp
    exact ⟨_, p, exec_live (decide_eq_true hslot) hr.1 rfl h8.pending h8.aon, h1, h2, h3, h4, h5, h6, h7, h8⟩

end Sys2Proof.Machine
end

section
/-! PROOFS. STEER of the rule in flight, the dispatch of an event, and the result of a sheet operation (R149 to R157, R172, R173,
R192). -/

namespace Sys2Proof.Machine

/-! ### Entering a rule -/

/-- The context as rule `a` enters the pipeline: its GUARD is evaluated on what the context holds (R172). -/
def entered (s : State) (x : Ctx) (a : Nat) : Ctx :=
  { x with
    chain := x.chain + 1, lastRule := BitVec.ofNat 15 a, stall := none,
    inFlight := some ⟨BitVec.ofNat 15 a, BitVec.ofNat 128 (ruleWord s x.reelB a),
      guardHolds s x (ruleWord s x.reelB a / 2 ^ 104), 0, x.sv, x.so, x.ss, x.code⟩ }

theorem guardHolds_meter (s : State) (m : MeterSide) (x : Ctx) (g : Nat) :
    guardHolds { s with meter := m } x g = guardHolds s x g := rfl

/-- With no counter configured a rule execution changes the Light Meter alone. -/
theorem ruleRuns_meter {s : State} (h : NoCounter s) (c a : Nat) (x : Ctx) : ∃ m, ruleRuns c a x s = { s with meter := m } := by
  obtain ⟨m, hm⟩ := count_none h 0x01 Units.block 1
  unfold ruleRuns
  rw [hm]
  dsimp only
  split
  · exact ⟨_, rfl⟩
  · exact ⟨_, rfl⟩

/-- A rule below the rule count, not the ninth of its chain and in a good fetch line, enters the pipeline (R157, R172). -/
theorem enterRule_enters {s : State} {c a : Nat} {x : Ctx} (hx : ctxOf s c = some x) (ha : a < reelRules s x.reelB)
    (hc : x.chain < 8) (hgood : lineGood s x.reelB (a / 4) = true) (hn : NoCounter s) :
    ∃ m, enterRule c a s = setCtx c (entered s x a) { s with meter := m } := by
  obtain ⟨m, hm⟩ := ruleRuns_meter hn c a x
  refine ⟨m, ?_⟩
  rw [enterRule, hx]
  dsimp only
  rw [if_neg (Nat.not_le.2 ha), if_neg (Nat.not_le.2 hc), if_pos hgood, hm]
  rfl

/-! ### The STEER of a rule -/

/-- A STEER that traps nothing takes its true action where the GUARD holds, and its false target where it does not (R172, R192). -/
theorem atSteer_acts {s : State} {c mode : Nat} {tt tt' ft : BitVec 15} {x : Ctx} {r : InFlight} (f : Ctx → State → State)
    (h : AtSteer s c x r mode tt ft) (htt : mode = 1 ∨ mode = 2 ∨ tt' = tt)
    (hf : steerFault s x r.guard mode tt'.toNat ft.toNat = none) :
    atSteer c mode tt' ft f s = if r.guard then f x s else goTarget c ft s := by
  obtain ⟨hr, hown, hph⟩ := h
  have hown' : ownSteer r mode tt' ft = true := by
    rcases htt with rfl | rfl | rfl
    · simpa [ownSteer] using hown
    · simpa [ownSteer] using hown
    · exact hown
  simp [atSteer, hr.ctx, hr.inFlight, hr.moves, hr.stage, hown', hph, hf, goTarget]

/-- The true action of a STEER is `goTarget` of `u`, or its false one is. -/
def Steers (r : InFlight) (mode : Nat) (tt ft u : BitVec 15) : Prop :=
  r.guard = true ∧ mode = 0 ∧ u = tt ∨ r.guard = false ∧ u = ft

/-- The four commands of a STEER. -/
def steerCmd (c mode : Nat) (tt ft : BitVec 15) : State → State :=
  match mode with
  | 0 => opChain c tt ft
  | 1 => opAwait c ft
  | 2 => opRetire c ft
  | _ => opTrap c tt ft

theorem steerCmd_goes {s : State} {c mode : Nat} {tt ft u : BitVec 15} {x : Ctx} {r : InFlight} (hm : mode < 4)
    (h : AtSteer s c x r mode tt ft) (hs : Steers r mode tt ft u) (hu : u = 0 ∨ u.toNat < reelRules s x.reelB) :
    steerCmd c mode tt ft s = goTarget c u s := by
  have hrange : (if u.toNat ≠ 0 && decide (reelRules s x.reelB ≤ u.toNat) then some 0x7F04 else none) = none := by
    rcases hu with rfl | hu
    · rfl
    · simp [Nat.not_le.2 hu]
  rcases hs with ⟨hg, rfl, rfl⟩ | ⟨hg, rfl⟩
  · refine (atSteer_acts _ h (.inr (.inr rfl)) ?_).trans (if_pos hg)
    rw [hg]
    exact hrange
  · have hfault : ∀ t, steerFault s x r.guard mode t u.toNat = none := fun t => by
      rw [hg]
      exact hrange
    have hfalse : ∀ a b : State, (if r.guard then a else b) = b := fun a b => by rw [hg]; rfl
    match mode, hm with
    | 0, _ => exact (atSteer_acts _ h (.inr (.inr rfl)) (hfault _)).trans (hfalse _ _)
    | 1, _ => exact (atSteer_acts _ h (.inl rfl) (hfault _)).trans (hfalse _ _)
    | 2, _ => exact (atSteer_acts _ h (.inr (.inl rfl)) (hfault _)).trans (hfalse _ _)
    | 3, _ => exact (atSteer_acts (fun _ s => s) h (.inr (.inr rfl)) (hfault _)).trans (hfalse _ _)

/-- AWAIT with a true GUARD parks. -/
theorem opAwait_parks {s : State} {c : Nat} {tt ft : BitVec 15} {x : Ctx} {r : InFlight} (h : AtSteer s c x r 1 tt ft)
    (hg : r.guard = true) : opAwait c ft s = park c s := by
  refine (atSteer_acts (tt' := 0) _ h (.inl rfl) ?_).trans (if_pos hg)
  rw [hg]
  rfl

/-! ### Parking -/

/-- The context as it parks: its oldest pending event is taken out (R153, R192). -/
def parkedCtx (s : State) (x : Ctx) : Ctx :=
  { x with st := .parked, inFlight := none, chain := 0, parkedAt := s.aon.ft, events := x.events.drop 1 }

theorem park_frame {s : State} {c : Nat} {x : Ctx} (hx : ctxOf s c = some x) :
    ctxOf (park c s) c = some (parkedCtx s x) ∧ (∀ k, k ≠ c → ctxOf (park c s) k = ctxOf s k) ∧
      (park c s).dev.ready = s.dev.ready ++ x.events.take 1 ∧ Only [.dev] s (park c s) := by
  unfold park
  rw [hx]
  dsimp only
  rcases he : x.events with _ | ⟨e, es⟩
  · refine ⟨(ctxOf_setCtx_same _ _ _).trans (by simp [parkedCtx, he]), fun k hk => ctxOf_setCtx_ne hk _ _, ?_, only_setCtx _ _ _⟩
    exact (List.append_nil _).symm
  · refine ⟨(ctxOf_setCtx_same _ _ _).trans (by simp [parkedCtx, he]), fun k hk => ctxOf_setCtx_ne hk _ _, rfl, ?_⟩
    exact (only_setCtx c _ s).trans (only_updDev _ _)

/-- A STEER's command runs the STEER. -/
theorem exec_steer {s t : State} {c mode : Nat} {tt ft : BitVec 15} {x : Ctx} {r : InFlight} {i : Instr}
    (hi : (i, mode) ∈ [(Instr.chain c tt ft, 0), (.await c ft, 1), (.retire c ft, 2), (.trap c tt ft, 3)])
    (h : AtSteer s c x r mode tt ft) (ht : steerCmd c mode tt ft s = t) (hp : t.pending = s.pending) (ha : t.aon = s.aon) :
    exec i s = .next t := by
  have hu : okCtx c = true := decide_eq_true h.1.unit
  simp only [List.mem_cons, Prod.mk.injEq, List.not_mem_nil, or_false] at hi
  rcases hi with ⟨rfl, rfl⟩ | ⟨rfl, rfl⟩ | ⟨rfl, rfl⟩ | ⟨rfl, rfl⟩ <;> exact exec_live hu h.1.awake ht hp ha

/-- Settles O38: a STEER enters its target or parks, each shown once for the four commands. -/
theorem chainAndAwait : Obligations.ChainAndAwait := by
  intro c tt ft x r s p hp h
  obtain ⟨i, mode⟩ := p
  have hmode : mode < 4 := by
    simp only [List.mem_cons, Prod.mk.injEq, List.not_mem_nil, or_false] at hp
    omega
  refine ⟨fun u hs hu hlt hc hgood hn => ?_, fun hs => ?_⟩
  · obtain ⟨m, hm⟩ := enterRule_enters h.1.ctx hlt hc hgood hn
    have he : steerCmd c mode tt ft s = setCtx c (entered s x u.toNat) { s with meter := m } := by
      rw [steerCmd_goes hmode h hs (.inr hlt), goTarget, if_neg hu, hm]
    refine ⟨_, exec_steer hp h he rfl rfl, ?_, fun k hk => ctxOf_setCtx_ne hk _ _, ?_⟩
    · have hstall : x.stall = none := by
        obtain ⟨_, _, _, _, _, _, _, hst, _⟩ := h.1
        exact hst
      rw [ctxOf_setCtx_same, entered, BitVec.ofNat_toNat, BitVec.setWidth_eq, ← hstall]
    · simp [only_iff, setCtx, updDev]
  · obtain ⟨hctx, hother, hready, honly⟩ := park_frame h.1.ctx
    have he : steerCmd c mode tt ft s = park c s := by
      rcases hs with ⟨hg, ⟨rfl, rfl⟩ | rfl⟩ | ⟨hg, rfl⟩
      · exact steerCmd_goes hmode h (.inl ⟨hg, rfl, rfl⟩) (.inl rfl)
      · exact opAwait_parks h hg
      · exact steerCmd_goes hmode h (.inr ⟨hg, rfl⟩) (.inl rfl)
    exact ⟨_, exec_steer hp h he honly.pending honly.aon, hctx, hother, hready, honly⟩

/-! ### The dispatch of an event -/

/-- What the dispatch of a rule reads of its context: the variant, the reel slot, CODE, the working registers and the request. -/
def SameRules (x y : Ctx) : Prop :=
  y.variant = x.variant ∧ y.reelB = x.reelB ∧ y.code = x.code ∧ y.w = x.w ∧ y.req = x.req

theorem SameRules.refl (x : Ctx) : SameRules x x := ⟨rfl, rfl, rfl, rfl, rfl⟩

theorem SameRules.trans {x y z : Ctx} (h : SameRules x y) (h' : SameRules y z) : SameRules x z := by
  obtain ⟨h1, h2, h3, h4, h5⟩ := h
  obtain ⟨h1', h2', h3', h4', h5'⟩ := h'
  exact ⟨h1'.trans h1, h2'.trans h2, h3'.trans h3, h4'.trans h4, h5'.trans h5⟩

theorem payItem_sameRules (o : Owed) (x : Ctx) : SameRules x (payItem o x) := by
  unfold payItem
  split
  · exact SameRules.refl x
  · exact SameRules.refl x

theorem payDatH_sameRules (a : Nat) (x : Ctx) : SameRules x (payDatH a x) := by
  unfold payDatH
  split
  · exact payItem_sameRules _ x
  · exact SameRules.refl x

theorem payAnswer_sameRules (a : Nat) (op : RspOp) (late : Bool) (x : Ctx) : SameRules x (payAnswer a op late x) := by
  unfold payAnswer
  split
  · split_ifs <;> exact SameRules.refl x
  · exact SameRules.refl x

theorem takeRsp_sameRules (a : Nat) (op : RspOp) (x : Ctx) : SameRules x (takeRsp a op x) := by
  unfold takeRsp
  split
  · exact SameRules.refl x
  · exact payAnswer_sameRules a op false x

/-- Paying what an event answers leaves alone what the dispatch of its rule reads (R177). -/
theorem payEvent_sameRules (e : Event) (x : Ctx) : SameRules x (payEvent e x) := by
  unfold payEvent
  split
  · exact SameRules.refl x
  · exact payDatH_sameRules _ x
  · exact payItem_sameRules _ x
  · exact payItem_sameRules _ x
  · exact payItem_sameRules _ x
  · split
    · exact takeRsp_sameRules _ _ x
    · exact SameRules.refl x

/-- The context of an event that is loaded for dispatch (R156). -/
def loaded (e : Event) (x : Ctx) : Ctx :=
  { x with ts := e.ts, ea := e.ea, es := e.es, ed := e.ed, ex := e.ex, chain := 0, st := .run, code := e.code.getD x.code }

/-- The index of an event's dispatch entry (R151). -/
def dispatchIdx (e : Event) (x : Ctx) : Nat := x.variant.toNat * 1024 + e.typ.toNat * 16 + (e.code.getD x.code).toNat

/-- The context once what its event answers is paid (R177). -/
def paid (s : State) (e : Event) (x : Ctx) : Ctx :=
  if wbkHere s e.ctx e.es.toNat then stopSnoop e.es.toNat (payEvent e x) else payEvent e x

theorem paid_sameRules (s : State) (e : Event) (x : Ctx) : SameRules x (paid s e x) := by
  unfold paid
  split
  · exact payEvent_sameRules e x
  · exact payEvent_sameRules e x

theorem dispatchEvent_eq {e : Event} {x : Ctx} {s : State} (hx : ctxOf s e.ctx = some x) (hf : reqFirst e.ctx e x s = none) :
    dispatchEvent e s =
      let y := loaded e (paid s e x)
      let t := atcTake e.ctx y (setCtx e.ctx y s)
      fetchDispatch e.ctx (y.variant.toNat * 1024 + e.typ.toNat * 16 + y.code.toNat)
        (if 0x18 ≤ e.typ.toNat ∧ e.typ.toNat ≤ 0x1C then takeWbk e.ctx e t else t) := by
  rw [dispatchEvent, hx]
  dsimp only
  rw [hf]
  rfl

theorem atcTake_other {c : Nat} {x : Ctx} (h : ∀ p, x.req = some p → p.op ≠ .atc) (s : State) : atcTake c x s = s := by
  unfold atcTake
  cases hp : x.req with
  | none => rfl
  | some p => simp [h p hp]

/-- The dispatch of an event that is no REQ's and no WBK's loads it into its context and fetches its entry (R151, R156). -/
theorem dispatchEvent_loads {e : Event} {x : Ctx} {s : State} (hx : ctxOf s e.ctx = some x) (hlo : 0x0C ≤ e.typ.toNat)
    (hwb : e.typ.toNat < 0x18 ∨ 0x1C < e.typ.toNat) (hatc : ∀ p, x.req = some p → p.op ≠ .atc) :
    dispatchEvent e s = fetchDispatch e.ctx (dispatchIdx e x) (setCtx e.ctx (loaded e (paid s e x)) s) := by
  have hfirst : reqFirst e.ctx e x s = none := by
    unfold reqFirst
    split
    · exact if_pos hlo
    · rfl
  obtain ⟨hv, _, hc, _, hreq⟩ := paid_sameRules s e x
  have hidx : (loaded e (paid s e x)).variant.toNat * 1024 + e.typ.toNat * 16 + (loaded e (paid s e x)).code.toNat =
      dispatchIdx e x := by simp only [dispatchIdx, loaded, hv, hc]
  have hatc' : ∀ p, (loaded e (paid s e x)).req = some p → p.op ≠ .atc := fun p hp => hatc p (hreq.symm.trans hp)
  rw [dispatchEvent_eq hx hfirst]
  dsimp only
  rw [hidx, atcTake_other hatc', if_neg (by omega)]

/-- A valid dispatch entry in a good fetch line enters its rule (R151, R152). -/
theorem fetchDispatch_enters {s : State} {c idx : Nat} {x : Ctx} {b : Bool} (hx : ctxOf s c = some x) (hb : x.reelB = b)
    (hgood : lineGood s b (8192 + idx / 32) = true) (hv : reelNat s b (0x80000 + 2 * idx) 2 / 2 ^ 15 = 1) :
    fetchDispatch c idx s =
      enterRule c (reelNat s b (0x80000 + 2 * idx) 2 % 2 ^ 15) (setCtx c { x with stall := none } s) := by
  subst hb
  rw [fetchDispatch, hx]
  dsimp only
  rw [if_pos hgood, if_pos hv]

/-- Settles O40: the one ready event is loaded and its rule entered; a result is delivered into its context. -/
theorem eventsAndResults : Obligations.EventsAndResults := by
  refine ⟨fun ts e x s hts hin hrun hready hcont he hx hby hst hlo hwb hatc => ?_,
    fun c d v sv so ss code x s hc ha hx hres => ?_⟩
  · intro idx k hvalid hrange hgood hgood'
    let u : State := updDev (fun d => { d with ready := d.ready.erase e }) s
    have hux : ctxOf u e.ctx = some x := hx
    have huready : u.dev.ready = [] := by
      show s.dev.ready.erase e = []
      rw [hready]
      simp
    obtain ⟨_, hreel, _, hw, _⟩ := paid_sameRules u e x
    let y : Ctx := { loaded e (paid u e x) with stall := none }
    have hyreel : y.reelB = x.reelB := hreel
    let u' : State := setCtx e.ctx y (setCtx e.ctx (loaded e (paid u e x)) u)
    have hn : NoCounter u' := hin.noCounter
    obtain ⟨m, hm⟩ := enterRule_enters (s := u') (a := k % 2 ^ 15) (ctxOf_setCtx_same e.ctx y _)
      (by rw [hyreel]; exact hrange) (show (0 : Nat) < 8 by decide) (by rw [hyreel]; exact hgood') hn
    have hop : opEventDispatch ts none s = setCtx e.ctx (entered u' y (k % 2 ^ 15)) { u' with meter := m } := by
      have hfirst : firstEvent s (readyOn s ts) = some e := by
        have hone : readyOn s ts = [e] := by simp [readyOn, hready, he]
        rw [hone]
        rfl
      have hs : opEventDispatch ts none s = dispatchEvent e u := by
        simp only [opEventDispatch, hin.notSafe, hrun, hcont, Bool.not_true, Bool.or_self, Bool.false_eq_true, if_false,
          if_neg (show ts ≠ 43 by omega), hfirst, flipByte]
        rfl
      rw [hs, dispatchEvent_loads hux hlo hwb hatc, ← hm]
      exact fetchDispatch_enters (ctxOf_setCtx_same _ _ _) hreel hgood hvalid
    have hexec : exec (.eventDispatch ts none) s = .next (setCtx e.ctx (entered u' y (k % 2 ^ 15)) { u' with meter := m }) :=
      exec_live (decide_eq_true (by omega)) hin.1 hop rfl rfl
    refine ⟨_, _, _, hexec, huready, ctxOf_setCtx_same _ _ _, rfl, he, rfl, rfl, rfl, rfl, rfl, hw, rfl, ?_, rfl, ?_, ?_⟩
    · exact BitVec.toNat_ofNat _ _ |>.trans (by omega)
    · intro j hj
      rw [ctxOf_setCtx_ne hj]
      exact (ctxOf_setCtx_ne hj _ _).trans (ctxOf_setCtx_ne hj _ _)
    · simp [only_iff, setCtx, updDev, u', u]
  · refine ⟨modCtx c deliver s, exec_live (decide_eq_true hc) ha rfl rfl rfl, ?_, fun k hk => ctxOf_modCtx_ne hk _ _,
      only_modCtx _ _ _⟩
    rw [ctxOf_modCtx_same hx, deliver, hres]
    have hcode : (putOpd d v x).code = x.code := by
      unfold putOpd
      split <;> rfl
    simp only [hcode]

end Sys2Proof.Machine
end

section
/-! PROOFS. RETIRE and TRAP of a rule (R101, R157, R167, R193). -/

namespace Sys2Proof.Machine

/-! ### RETIRE of one context -/

theorem discardEarly_none {x : Ctx} (h : x.mem = none) (c : Nat) (s : State) : discardEarly c x s = s := by
  unfold discardEarly
  rw [h]

/-- The writebacks of a context end with it; there are none. -/
theorem endSlots_none {s : State} (h : s.home.wslots = []) (c : Nat) (b : Bool) :
    (if b then dropAbsorbed c s else ackSlots c s) = s := by
  cases b with
  | false =>
    show ackSlots c s = s
    unfold ackSlots
    rw [h]
    rfl
  | true =>
    show ({ s with home := { s.home with wslots := s.home.wslots.filter _ } } : State) = s
    rw [h, List.filter_nil, ← h]

/-- The events of a context go with it, and so does its wait for a fetch line. -/
def dropEvents (c : Nat) (s : State) : State :=
  updDev (fun d => { d with ready := d.ready.filter (fun e => decide (e.ctx ≠ c)),
                            stalled := d.stalled.filter (fun p => decide (p.1 ≠ c)) }) s

/-- A context that owes nothing is free; else it stays, quarantined (R101). -/
def endCtx (c : Nat) (x : Ctx) (s : State) : State :=
  if x.owed.isEmpty then delCtx c s
  else setCtx c { x with st := .quarantined, inFlight := none, stall := none, opRes := none, job := none, events := [],
                         parkedAt := s.aon.ft } s

/-- A context that ends waits for no line any more. -/
def leaveChains (c : Nat) (s : State) : State :=
  updHome (fun h => { h with chains := (h.chains.map (fun q =>
    (q.1, q.2.filter (fun w => decide (w.who ≠ .ctx c))))).filter (fun q => !q.2.isEmpty) }) s

/-- The REQ of a context leaves its buffer, unless a CMP is still owed. -/
def endReq (x : Ctx) (s : State) : State :=
  match x.req with
  | some p => if x.owed.contains .cmp then s else delPend p.seq s
  | none => s

theorem endCtx_frame (c : Nat) (x : Ctx) (s : State) : Only [.dev] s (endCtx c x s) ∧
    (∀ k, k ≠ c → ctxOf (endCtx c x s) k = ctxOf s k) ∧ (x.owed = [] → ctxOf (endCtx c x s) c = none) ∧
    (x.owed ≠ [] → ∃ y, ctxOf (endCtx c x s) c = some y ∧ y.st = .quarantined ∧ y.owed = x.owed) := by
  unfold endCtx
  cases ho : x.owed with
  | nil =>
    refine ⟨only_delCtx c s, fun k hk => ctxOf_delCtx_ne hk s, fun _ => ctxOf_delCtx_same c s, fun h => absurd rfl h⟩
  | cons o l =>
    refine ⟨only_setCtx c _ s, fun k hk => ctxOf_setCtx_ne hk _ s, fun h => absurd h (by simp), fun _ => ?_⟩
    exact ⟨_, ctxOf_setCtx_same c _ s, rfl, rfl⟩

theorem reelDrain_not {s : State} {b : Bool} (h : reelState s b ≠ 5) : reelDrain b s = s := by
  unfold reelDrain
  rw [if_neg (fun hc => h hc.1)]

theorem drainSector_not {s : State} {sec : Nat} (h : ∀ b, b < 32 → bankState s b = 0) : drainSector sec s = ([], s) := by
  unfold drainSector
  dsimp only
  rw [if_neg]
  rw [h _ (bankOf_lt sec)]
  omega

/-- A line that no writeback and no chain waits for is not latent any more. -/
theorem releaseLine_free {s : State} {line : Nat} (hw : s.home.wslots = []) (hc : s.home.chains = []) (e : Option Nat) :
    releaseLine line e s = ([], delHolder line s) := by
  have h1 : waitingSlots s line = [] := by rw [waitingSlots, hw]; rfl
  have h2 : chainOf s line = [] := by rw [chainOf, hc]; rfl
  unfold releaseLine
  rw [h1, h2, hw]
  rfl

/-- What is left of a REQ's transaction as it RETIREs, before its line is released. -/
def reqRetired (c : Nat) (x : Ctx) (s : State) : State := leaveChains c (endCtx c x (dropEvents c (endReq x s)))

theorem reqRetired_frame (c : Nat) (x : Ctx) (s : State) : let t := reqRetired c x s
    Only [.dev, .home] s t ∧ t.home.latent = s.home.latent ∧ t.home.wslots = s.home.wslots ∧
    (s.home.chains = [] → t.home.chains = []) ∧ t.home.reqs = (endReq x s).home.reqs ∧
    (∀ k, k ≠ c → ctxOf t k = ctxOf s k) ∧ (x.owed = [] → ctxOf t c = none) ∧
    (x.owed ≠ [] → ∃ y, ctxOf t c = some y ∧ y.st = .quarantined ∧ y.owed = x.owed) := by
  intro t
  have ht : t = leaveChains c (endCtx c x (dropEvents c (endReq x s))) := rfl
  have h1 : Only [.home] s (endReq x s) ∧ (endReq x s).home = { s.home with reqs := (endReq x s).home.reqs } := by
    unfold endReq
    split
    · split
      · exact ⟨Only.refl _ _, rfl⟩
      · exact ⟨only_updHome _ _, rfl⟩
    · exact ⟨Only.refl _ _, rfl⟩
  generalize endReq x s = u at h1 ht ⊢
  obtain ⟨h1, h1'⟩ := h1
  have h2 : Only [.dev] u (dropEvents c u) := only_updDev _ _
  have h2' : ∀ k, ctxOf (dropEvents c u) k = ctxOf u k := fun k => rfl
  generalize dropEvents c u = v at h2 h2' ht
  obtain ⟨h3, hne, hfree, hkept⟩ := endCtx_frame c x v
  generalize endCtx c x v = w at h3 hne hfree hkept ht
  have h4 : Only [.home] w t := by rw [ht]; exact only_updHome _ _
  have hc : ∀ k, ctxOf t k = ctxOf w k := fun k => ctxOf_congr (congrArg DevSide.ctxs h4.dev) k
  have hc0 : ∀ k, ctxOf v k = ctxOf s k := fun k => (h2' k).trans (ctxOf_congr (congrArg DevSide.ctxs h1.dev) k)
  have hhome : w.home = u.home := h3.home.trans h2.home
  have hl : t.home.latent = w.home.latent := by rw [ht]; rfl
  have hws : t.home.wslots = w.home.wslots := by rw [ht]; rfl
  have hrq : t.home.reqs = w.home.reqs := by rw [ht]; rfl
  have hch : w.home.chains = [] → t.home.chains = [] := fun h => by
    rw [ht]
    show (w.home.chains.map _).filter _ = []
    rw [h]
    rfl
  refine ⟨(h1.mono (by simp)).trans ((h2.mono (by simp)).trans ((h3.mono (by simp)).trans (h4.mono (by simp)))), ?_, ?_, ?_, ?_, ?_,
    fun h => (hc c).trans (hfree h), fun h => ?_⟩
  · rw [hl, hhome, h1']
  · rw [hws, hhome, h1']
  · exact fun h => hch (by rw [hhome, h1']; exact h)
  · rw [hrq, hhome]
  · exact fun k hk => (hc k).trans ((hne k hk).trans (hc0 k))
  · obtain ⟨y, hy, h⟩ := hkept h
    exact ⟨y, (hc c).trans hy, h⟩

/-- The slots of the writebacks that a context absorbed end with it. -/
def endSlots (c : Nat) (x : Ctx) (s : State) : State := if x.byRule then dropAbsorbed c s else ackSlots c s

/-- What the end of a context is besides, by its kind. -/
def endKind (x : Ctx) (s : State) : State :=
  match x.kind with
  | .wb w => delSlot w s
  | .mgmt _ => mreqEnd (if x.status = .ok then 1 else 2) s
  | _ => s

/-- Where the tables run a context, its lines' records are resolved (R93). -/
def resolveHeld (c : Nat) (x : Ctx) (s : State) : State :=
  if x.byRule then s
  else x.held.foldl (fun s l => if holderOf s l = some (.ctx c) then resolveGone c l s else s) s

/-- The lines that a context holds as it RETIREs are released, and its reel slot may have drained. -/
def releaseHeld (c : Nat) (x : Ctx) (s : State) : List Nat × State :=
  let entry := if c < Config.latentEntries ∧ x.owed.isEmpty then some c else none
  let mine := x.held.filter (fun l => decide (holderOf s l = some (.ctx c)))
  let r := mine.foldl (fun (acc : List Nat × State) l =>
    match (if x.line = some l then (entry, acc.2) else freeLent l acc.2) with
    | (e, s) =>
      match releaseLine l e s with
      | (t, s) => (acc.1 ++ t, s)) ([], s)
  let r := (mine.map (· / 4)).dedup.foldl (fun (acc : List Nat × State) sec =>
    match drainSector sec acc.2 with
    | (t, s) => (acc.1 ++ t, s)) r
  (r.1, reelDrain x.reelB r.2)

theorem retireCore_eq {s : State} {c : Nat} {x : Ctx} (hx : ctxOf s c = some x) : retireCore c s =
    releaseHeld c x (leaveChains c (endSlots c x (endCtx c x (dropEvents c (endKind x (endReq x
      (resolveHeld c x (discardEarly c x s)))))))) := by
  rw [retireCore, hx]
  rfl

theorem releaseHeld_one {s : State} {c line : Nat} {x : Ctx} (hl : x.line = some line) (hls : x.lines = [])
    (hh : holderOf s line = some (.ctx c)) (hw : s.home.wslots = []) (hc : s.home.chains = [])
    (hbank : ∀ b, b < 32 → bankState s b = 0) (hreel : reelState s x.reelB ≠ 5) :
    releaseHeld c x s = ([], delHolder line s) := by
  have hheld : x.held = [line] := by rw [Ctx.held, hl, hls]
  have hmine : x.held.filter (fun l => decide (holderOf s l = some (.ctx c))) = [line] := by simp [hheld, hh]
  have hdrain : drainSector (line / 4) (delHolder line s) = ([], delHolder line s) := drainSector_not hbank
  have hreel' : reelDrain x.reelB (delHolder line s) = delHolder line s := reelDrain_not hreel
  unfold releaseHeld
  dsimp only
  rw [hmine]
  simp only [List.foldl_cons, List.foldl_nil, hl, if_true, releaseLine_free hw hc, List.map_cons, List.map_nil,
    (List.nodup_singleton (line / 4)).dedup, hdrain, hreel', List.append_nil]

theorem releaseHeld_nil {s : State} {c : Nat} {x : Ctx} (hl : x.held = []) (hreel : reelState s x.reelB ≠ 5) :
    releaseHeld c x s = ([], s) := by
  unfold releaseHeld
  dsimp only
  rw [hl]
  exact congrArg (([] : List Nat), ·) (reelDrain_not hreel)

theorem settled_congr {s t : State} {x : Ctx} (h : t.regs = s.regs) (hs : Settled s x) : Settled t x := by
  obtain ⟨hr, hb⟩ := hs
  refine ⟨fun h' => hr ?_, fun b hb' => ?_⟩
  · rw [← h', reelState, reelState, rdf_congr h]
  · rw [← hb b hb', bankState, bankState, rdf_congr h]

/-- RETIRE of a REQ's transaction that holds one line and whose records are resolved. -/
theorem retireCore_req {s : State} {c line : Nat} {x : Ctx} {op : ReqOp} (hx : ctxOf s c = some x)
    (hk : x.kind = .req op) (hl : x.line = some line) (hls : x.lines = []) (hm : x.mem = none)
    (hs : Settled (resolveHeld c x s) x) (hh : holderOf (resolveHeld c x s) line = some (.ctx c))
    (hw : (resolveHeld c x s).home.wslots = []) (hc : (resolveHeld c x s).home.chains = []) :
    retireCore c s = ([], delHolder line (reqRetired c x (resolveHeld c x s))) := by
  rw [retireCore_eq hx, discardEarly_none hm]
  generalize resolveHeld c x s = u at *
  obtain ⟨hO, hlat, hws, hch, -⟩ := reqRetired_frame c x u
  have hkind : ∀ v, endKind x v = v := fun v => by rw [endKind, hk]
  have hws' : (endCtx c x (dropEvents c (endReq x u))).home.wslots = [] := hws.trans hw
  have hslots : endSlots c x (endCtx c x (dropEvents c (endReq x u))) = endCtx c x (dropEvents c (endReq x u)) :=
    endSlots_none hws' c x.byRule
  rw [hkind, hslots]
  show releaseHeld c x (reqRetired c x u) = _
  obtain ⟨hr, hb⟩ := settled_congr hO.regs hs
  exact releaseHeld_one hl hls (by rw [← hh, holderOf, holderOf, hlat]) (hws.trans hw) (hch hc) hb hr

theorem resolveHeld_byRule {x : Ctx} (h : x.byRule = true) (c : Nat) (s : State) : resolveHeld c x s = s := by
  rw [resolveHeld, if_pos h]

theorem only_delHolder (line : Nat) (s : State) : Only [.home] s (delHolder line s) := only_updHome _ _

/-- RETIRE of a REQ's transaction that runs rules. -/
theorem retireRule_req {s : State} {c line : Nat} {x : Ctx} {op : ReqOp} (hb : x.byRule = true) (hk : x.kind = .req op)
    (hl : x.line = some line) (hls : x.lines = []) (hm : x.mem = none) (he : x.events = []) (hs : Settled s x)
    (hh : holderOf s line = some (.ctx c)) (hw : s.home.wslots = []) (hc : s.home.chains = []) :
    retireRule c x s = delHolder line (reqRetired c { x with events := [] } (setCtx c { x with events := [] } s)) := by
  have hr : retireRule c x s = (match retireCore c (setCtx c { x with events := [] } s) with
      | (t, s) => go t s) := by
    unfold retireRule
    rw [hk, he]
    rfl
  have hres := resolveHeld_byRule (x := { x with events := [] }) hb c (setCtx c { x with events := [] } s)
  rw [hr, retireCore_req (x := { x with events := [] }) (ctxOf_setCtx_same _ _ _) hk hl hls hm (by rw [hres]; exact hs)
    (by rw [hres]; exact hh) (by rw [hres]; exact hw) (by rw [hres]; exact hc), hres]
  rfl

theorem retire_ends : ∀ (c line : Nat) (op : ReqOp) (p : Pend) (ft : BitVec 15) (x : Ctx) (r : InFlight) (s : State),
    AtSteer s c x r 2 0 ft →
    Settled s x → r.guard = true → x.kind = .req op → x.req = some p → x.line = some line → x.lines = [] →
    x.mem = none → x.events = [] → holderOf s line = some (.ctx c) → s.home.wslots = [] → s.home.chains = [] →
    s.home.reqs = [p] →
    ∃ t, exec (.retire c ft) s = .next t ∧ holderOf t line = none ∧ (∀ k, k ≠ c → ctxOf t k = ctxOf s k) ∧
      (∀ k, k ≠ line → holderOf t k = holderOf s k) ∧ Only [.dev, .home] s t ∧
      (x.owed = [] → ctxOf t c = none ∧ t.home.reqs = []) ∧
      (x.owed ≠ [] → (∃ y, ctxOf t c = some y ∧ y.st = .quarantined ∧ y.owed = x.owed) ∧
        (Owed.cmp ∈ x.owed → t.home.reqs = [p])) := by
  intro c line op p ft x r s h hs hg hk hp hl hls hm he hh hw hc hreqs
  have hb : x.byRule = true := by
    obtain ⟨_, _, _, _, _, _, hb, _⟩ := h.1
    exact hb
  have hop : opRetire c ft s = delHolder line (reqRetired c { x with events := [] } (setCtx c { x with events := [] } s)) := by
    rw [← retireRule_req hb hk hl hls hm he hs hh hw hc]
    refine (atSteer_acts (tt' := 0) _ h (.inr (.inl rfl)) ?_).trans (if_pos hg)
    rw [hg]
    rfl
  obtain ⟨hO, hlat, -, -, hrq, hne, hfree, hkept⟩ := reqRetired_frame c { x with events := [] } (setCtx c { x with events := [] } s)
  have hreq : (endReq { x with events := [] } (setCtx c { x with events := [] } s)).home.reqs =
      if x.owed.contains .cmp then [p] else [] := by
    unfold endReq
    dsimp only
    rw [hp]
    dsimp only
    split
    · exact hreqs
    · show s.home.reqs.filter (fun q => q.seq ≠ p.seq) = []
      rw [hreqs]
      simp
  have h0 := only_setCtx c { x with events := [] } s
  have hne0 : ∀ k, k ≠ c → ctxOf (setCtx c { x with events := [] } s) k = ctxOf s k := fun k hk => ctxOf_setCtx_ne hk _ _
  have hh0 : (setCtx c { x with events := [] } s).home = s.home := rfl
  generalize reqRetired c { x with events := [] } (setCtx c { x with events := [] } s) = u at hop hO hlat hrq hne hfree hkept
  have hall := (h0.mono (l := [.dev, .home]) (by simp)).trans ((hO.mono (by simp)).trans ((only_delHolder line u).mono (by simp)))
  refine ⟨delHolder line u, exec_live (decide_eq_true h.1.unit) h.1.awake hop hall.pending hall.aon, holderOf_delHolder_same _ _,
    fun k hk => (hne k hk).trans (hne0 k hk), fun k hk => ?_, hall, fun ho => ⟨hfree ho, ?_⟩, fun ho => ⟨hkept ho, fun hcmp => ?_⟩⟩
  · rw [holderOf_delHolder_ne hk, holderOf, hlat]
    rfl
  · exact hrq.trans (hreq.trans (by simp [ho]))
  · exact hrq.trans (hreq.trans (if_pos (by simpa using hcmp)))

/-! ### TRAP -/

/-- The registers that a trap's log may change. -/
def TrapReg (o : Nat) : Prop := o = 0x020108 ∨ o = 0x020100 ∨ o = 0x020104

/-- ENG_TRAP takes a trap where it holds none (R169). -/
def trapTaken (c code rule : Nat) (x : Ctx) (s : State) : State :=
  if bitOf (rd s 0x020100) 31 then s
  else wr (wr s 0x020100 (w64 (code + 2 ^ 16 * x.ts + 2 ^ 30 * b2n x.reelB + 2 ^ 31))) 0x020104 (w64 (rule + 2 ^ 16 * c))

theorem trapTaken_frame (c code rule : Nat) (x : Ctx) (s : State) : let t := trapTaken c code rule x s
    Only [.regs] s t ∧ RegsOnly TrapReg s t ∧ rd t 0x020108 = rd s 0x020108 ∧
    (bitOf (rd s 0x020100) 31 = false →
      rd t 0x020100 = w64 (code + 2 ^ 16 * x.ts + 2 ^ 30 * b2n x.reelB + 2 ^ 31) ∧ rd t 0x020104 = w64 (rule + 2 ^ 16 * c)) ∧
    (bitOf (rd s 0x020100) 31 = true → rd t 0x020100 = rd s 0x020100 ∧ rd t 0x020104 = rd s 0x020104) := by
  dsimp only
  unfold trapTaken
  split
  next h => exact ⟨Only.refl _ _, RegsOnly.refl _ _, rfl, fun h' => absurd (h.symm.trans h') (by decide), fun _ => ⟨rfl, rfl⟩⟩
  next h =>
    refine ⟨(only_wr _ _ _).trans (only_wr _ _ _), (regsOnly_wr _ _ (.inr (.inl rfl))).trans (regsOnly_wr _ _ (.inr (.inr rfl))),
      ?_, fun _ => ⟨?_, rd_wr_same _ _ _⟩, fun h' => absurd h' h⟩
    · rw [rd_wr_ne _ _ (by decide), rd_wr_ne _ _ (by decide)]
    · rw [rd_wr_ne _ _ (by decide), rd_wr_same]

/-- A trap is logged: counted, and taken by ENG_TRAP where it holds none (R167, R169). -/
theorem trapLog_frame {s : State} (hn : NoCounter s) (c code rule : Nat) (x : Ctx) : let t := trapLog c code rule x s
    Only [.regs, .dev, .meter] s t ∧ RegsOnly TrapReg s t ∧ t.dev.ctxs = s.dev.ctxs ∧ t.dev.ready = s.dev.ready ∧
    rd t 0x020108 = satInc32 (rd s 0x020108) ∧
    (bitOf (rd s 0x020100) 31 = false →
      rd t 0x020100 = w64 (code + 2 ^ 16 * x.ts + 2 ^ 30 * b2n x.reelB + 2 ^ 31) ∧ rd t 0x020104 = w64 (rule + 2 ^ 16 * c)) ∧
    (bitOf (rd s 0x020100) 31 = true → rd t 0x020100 = rd s 0x020100 ∧ rd t 0x020104 = rd s 0x020104) := by
  intro t
  have h1 := only_count hn 0x0C Units.block 1
  have ht : t = updDev (fun d => { d with
      trapCount := if d.trapWin = s.aon.ft.toNat / 4000000 then d.trapCount + 1 else 1, trapWin := s.aon.ft.toNat / 4000000 })
      (trapTaken c code rule x (wr (count 0x0C Units.block 1 s) 0x020108 (satInc32 (rd (count 0x0C Units.block 1 s) 0x020108)))) := by
    rw [← (show (trapTaken c code rule x (wr (count 0x0C Units.block 1 s) 0x020108
      (satInc32 (rd (count 0x0C Units.block 1 s) 0x020108)))).aon.ft = s.aon.ft by
        rw [(trapTaken_frame c code rule x _).1.aon, (only_wr _ _ _).aon, h1.aon])]
    rfl
  generalize count 0x0C Units.block 1 s = u at h1 ht
  have hru : ∀ o, rd u o = rd s o := fun o => rd_congr h1.regs o
  have h2 : Only [.regs] u (wr u 0x020108 (satInc32 (rd u 0x020108))) := only_wr _ _ _
  have hr2 : RegsOnly TrapReg u (wr u 0x020108 (satInc32 (rd u 0x020108))) := regsOnly_wr _ _ (.inl rfl)
  have hc2 : rd (wr u 0x020108 (satInc32 (rd u 0x020108))) 0x020108 = satInc32 (rd u 0x020108) := rd_wr_same _ _ _
  have hlo : rd (wr u 0x020108 (satInc32 (rd u 0x020108))) 0x020100 = rd u 0x020100 := rd_wr_ne _ _ (by decide)
  have hhi : rd (wr u 0x020108 (satInc32 (rd u 0x020108))) 0x020104 = rd u 0x020104 := rd_wr_ne _ _ (by decide)
  generalize wr u 0x020108 (satInc32 (rd u 0x020108)) = v at h2 hr2 hc2 hlo hhi ht
  obtain ⟨h3, hr3, hc3, hnone, hheld⟩ := trapTaken_frame c code rule x v
  generalize trapTaken c code rule x v = w at h3 hr3 hc3 hnone hheld ht
  have h4 : Only [.dev] w t := by rw [ht]; exact only_updDev _ _
  have hr4 : ∀ o, rd t o = rd w o := fun o => rd_congr h4.regs o
  have hdev : w.dev = s.dev := h3.dev.trans (h2.dev.trans h1.dev)
  rw [hlo, hru] at hnone hheld
  refine ⟨(h1.mono (by simp)).trans ((h2.mono (by simp)).trans ((h3.mono (by simp)).trans (h4.mono (by simp)))), fun o ho => ?_, ?_,
    ?_, ?_, fun hb => ?_, fun hb => ?_⟩
  · rw [hr4, hr3 o ho, hr2 o ho, hru]
  · rw [ht]
    show w.dev.ctxs = s.dev.ctxs
    rw [hdev]
  · rw [ht]
    show w.dev.ready = s.dev.ready
    rw [hdev]
  · rw [hr4, hc3, hc2, hru]
  · rw [hr4, hr4]
    exact hnone hb
  · rw [hr4, hr4, (hheld hb).1, (hheld hb).2, hhi, hru]
    exact ⟨rfl, rfl⟩

/-- A management request that holds no line and owes nothing ends. -/
theorem retireCore_mgmt {s : State} {c : Nat} {x : Ctx} {b : Bool} (hx : ctxOf s c = some x) (hk : x.kind = .mgmt b)
    (hh : x.held = []) (hm : x.mem = none) (hreq : x.req = none) (ho : x.owed = []) (hw : s.home.wslots = [])
    (hreel : reelState s x.reelB ≠ 5) : let n := if x.status = .ok then 1 else 2
    ∃ t, retireCore c s = ([], t) ∧ ctxOf t c = none ∧ (∀ k, k ≠ c → ctxOf t k = ctxOf s k) ∧ t.regs = (mreqEnd n s).regs ∧
      Only [.regs, .dev, .home] s t := by
  intro n
  have hres : resolveHeld c x s = s := by
    unfold resolveHeld
    rw [hh]
    split <;> rfl
  have hreq' : endReq x s = s := by rw [endReq, hreq]
  have hkind : endKind x s = mreqEnd n s := by rw [endKind, hk]
  have h1 : Only [.regs] s (mreqEnd n s) := (only_wr _ _ _).trans (only_raise0_none rfl _)
  have hrs : reelState (mreqEnd n s) x.reelB = reelState s x.reelB := by
    refine reelState_congr ?_ _
    exact (regsOnly_raise0_none (c := .mreqDone) rfl _ _ (by decide)).trans (rd_wr_ne _ _ (by decide))
  have hend : ∀ u, endCtx c x u = delCtx c u := fun u => by rw [endCtx, ho]; rfl
  have heq := retireCore_eq hx
  rw [discardEarly_none hm, hres, hreq', hkind, hend] at heq
  have hctx : (mreqEnd n s).dev = s.dev := h1.dev
  have hwm : (mreqEnd n s).home = s.home := h1.home
  generalize mreqEnd n s = u at *
  have hslots : endSlots c x (delCtx c (dropEvents c u)) = delCtx c (dropEvents c u) :=
    endSlots_none (s := delCtx c (dropEvents c u)) ((congrArg HomeSide.wslots hwm).trans hw) c x.byRule
  have hrel : releaseHeld c x (leaveChains c (delCtx c (dropEvents c u))) = ([], leaveChains c (delCtx c (dropEvents c u))) :=
    releaseHeld_nil hh (by rw [← hrs] at hreel; exact hreel)
  rw [hslots, hrel] at heq
  refine ⟨_, heq, ctxOf_delCtx_same c (dropEvents c u), fun k hk => ?_, rfl, ?_⟩
  · exact (ctxOf_delCtx_ne hk (dropEvents c u)).trans (ctxOf_congr (congrArg DevSide.ctxs hctx) k)
  · have h2 : Only [.dev] u (dropEvents c u) := only_updDev _ _
    have h3 : Only [.home] (delCtx c (dropEvents c u)) (leaveChains c (delCtx c (dropEvents c u))) := only_updHome _ _
    exact (h1.mono (by simp)).trans ((h2.mono (by simp)).trans (((only_delCtx c _).mono (by simp)).trans (h3.mono (by simp))))

/-- A rule-run context is handed over to the tables, where no event of it is pending. -/
theorem toTables_frame {s : State} {c : Nat} {x : Ctx} (hx : ctxOf s c = some x) (hb : x.byRule = true) (he : x.events = [])
    (hr : ∀ e ∈ s.dev.ready, e.ctx ≠ c) : ∃ y, ctxOf (toTables c s) c = some y ∧ y.kind = x.kind ∧ y.line = x.line ∧
      y.lines = x.lines ∧ y.mem = x.mem ∧ y.req = x.req ∧ y.owed = x.owed ∧ y.reelB = x.reelB ∧ y.byRule = false ∧
      (∀ k, k ≠ c → ctxOf (toTables c s) k = ctxOf s k) ∧ Only [.dev] s (toTables c s) := by
  have hev : s.dev.ready.filter (fun e => decide (e.ctx = c)) = [] := by
    rw [List.filter_eq_nil_iff]
    intro e hm
    simp [hr e hm]
  unfold toTables
  rw [hx]
  dsimp only
  rw [if_pos hb, hev, he]
  refine ⟨_, ctxOf_setCtx_same _ _ _, rfl, rfl, rfl, rfl, rfl, rfl, rfl, rfl, fun k hk => ctxOf_setCtx_ne hk _ _, ?_⟩
  exact (only_updDev _ s).trans (only_setCtx _ _ _)

/-- The end of a management request that an expiry or a trap has fogged. -/
theorem expireTxn_mgmt {s : State} {c : Nat} {x : Ctx} {b : Bool} (hx : ctxOf s c = some x) (hb : x.byRule = true)
    (hk : x.kind = .mgmt b) (he : x.events = []) (hr : ∀ e ∈ s.dev.ready, e.ctx ≠ c) : ∃ y u, expireTxn c s = retireCore c u ∧
      ctxOf u c = some y ∧ y.kind = .mgmt b ∧ y.line = x.line ∧ y.lines = x.lines ∧ y.mem = x.mem ∧ y.req = x.req ∧
      y.owed = x.owed ∧ y.reelB = x.reelB ∧ y.status = .fogged ∧ (∀ k, k ≠ c → ctxOf u k = ctxOf s k) ∧ Only [.dev] s u := by
  obtain ⟨y, hy, hyk, hyl, hyls, hym, hyr, hyo, hyb, -, hne, hO⟩ := toTables_frame hx hb he hr
  have hy' := ctxOf_modCtx_same hy (fun x => { x with expired := true })
  refine ⟨_, modCtx c (fun y => { y with status := .fogged }) (modCtx c (fun x => { x with expired := true }) (toTables c s)), ?_,
    ctxOf_modCtx_same hy' _, hyk.trans hk, hyl, hyls, hym, hyr, hyo, hyb, rfl, fun k hk' => ?_, ?_⟩
  · unfold expireTxn
    dsimp only
    rw [hy']
    dsimp only
    rw [hyk, hk]
  · rw [ctxOf_modCtx_ne hk', ctxOf_modCtx_ne hk', hne k hk']
  · exact (hO.trans (only_modCtx _ _ _)).trans (only_modCtx _ _ _)

/-- The registers of the log of a trap in a management request, and of its end. -/
def TrapEndReg (o : Nat) : Prop := TrapReg o ∨ ClassReg o ∨ o = 0x02020C ∨ o = 0x010120

/-- A trap in a management request that holds no line: it is logged, and the request ends with TRAP (R167). -/
theorem trap_mgmt {s : State} {c code rule : Nat} {x : Ctx} {b : Bool} (hn : NoCounter s) (hx : ctxOf s c = some x)
    (hb : x.byRule = true) (hk : x.kind = .mgmt b) (hl : x.line = none) (hls : x.lines = []) (ho : x.owed = [])
    (hm : x.mem = none) (hreq : x.req = none) (he : x.events = []) (hr : ∀ e ∈ s.dev.ready, e.ctx ≠ c)
    (hw : s.home.wslots = []) (hreel : reelState s x.reelB ≠ 5) : let t := trap c code rule s
    ctxOf t c = none ∧ (∀ k, k ≠ c → ctxOf t k = ctxOf s k) ∧ rd t 0x020108 = satInc32 (rd s 0x020108) ∧
    Caused t .mreqDone 0 ∧ rd t 0x02020C = 2 ∧
    (bitOf (rd s 0x020100) 31 = false →
      rd t 0x020100 = w64 (code + 2 ^ 16 * x.ts + 2 ^ 30 * b2n x.reelB + 2 ^ 31) ∧ rd t 0x020104 = w64 (rule + 2 ^ 16 * c)) ∧
    (bitOf (rd s 0x020100) 31 = true → rd t 0x020100 = rd s 0x020100 ∧ rd t 0x020104 = rd s 0x020104) ∧
    Only [.regs, .dev, .home, .meter] s t := by
  have hheld : x.held = [] := by rw [Ctx.held, hl, hls]
  have hscope : trapScope x = [] := by rw [trapScope, hk, hheld]
  intro t
  have ht : t = (match expireTxn c (psWrite .trap .de (trapRec c code rule x) (trapLog c code rule x s)) with
      | (u, s) => go u s) := by
    show trap c code rule s = _
    rw [trap, hx]
    dsimp only
    rw [hk]
    dsimp only
    unfold trapLines
    rw [hscope]
    rfl
  obtain ⟨h1, hr1, hc1, hq1, hcnt, hnone, hheld'⟩ := trapLog_frame hn c code rule x
  generalize trapLog c code rule x s = u at h1 hr1 hc1 hq1 hcnt hnone hheld' ht
  have h2 := only_psWrite .trap .de (trapRec c code rule x) u
  have hr2 := regsOnly_psWrite .trap .de (trapRec c code rule x) u
  generalize psWrite .trap .de (trapRec c code rule x) u = v at h2 hr2 ht
  have hdev : v.dev.ctxs = s.dev.ctxs := (congrArg DevSide.ctxs h2.dev).trans hc1
  have hrd : ∀ o, ¬ TrapReg o → ¬ ClassReg o → rd v o = rd s o := fun o ho1 ho2 => (hr2 o ho2).trans (hr1 o ho1)
  have hrv : ∀ o, ¬ ClassReg o → rd v o = rd u o := fun o ho => hr2 o ho
  have hxv : ctxOf v c = some x := (ctxOf_congr hdev c).trans hx
  have hready : ∀ e ∈ v.dev.ready, e.ctx ≠ c := by
    rw [(congrArg DevSide.ready h2.dev).trans hq1]
    exact hr
  obtain ⟨y, w, hexp, hy, hyk, hyl, hyls, hym, hyr, hyo, hyb, hyst, hne, h3⟩ := expireTxn_mgmt hxv hb hk he hready
  have hO : Only [.regs, .dev, .meter] s w := h1.trans ((h2.mono (by simp)).trans (h3.mono (by simp)))
  have hreelw : reelState w y.reelB ≠ 5 := by
    rw [hyb, reelState_congr ((rd_congr h3.regs _).trans (hrd 0x020010 (by unfold TrapReg; decide) (by unfold ClassReg; decide)))]
    exact hreel
  obtain ⟨z, hret, hzc, hzne, hzr, h4⟩ := retireCore_mgmt hy hyk (by rw [Ctx.held, hyl, hl, hyls, hls]) (hym.trans hm) (hyr.trans hreq)
    (hyo.trans ho) ((congrArg HomeSide.wslots hO.home).trans hw) hreelw
  rw [hexp, hret] at ht
  have htz : t = z := ht
  rw [hyst] at hzr
  have hregs : z.regs = (raise0 .mreqDone (wr w 0x02020C (w64 2))).regs := hzr
  have hcause : Caused z .mreqDone 0 := (caused_congr hregs _ _).2 (caused_raise0 .mreqDone _)
  have hrz : ∀ o, o ≠ 0x02020C → o ≠ 0x010120 → rd z o = rd v o := fun o ho1 ho2 => by
    rw [rd_congr hregs, regsOnly_raise0_none (c := .mreqDone) rfl _ _ ho2, rd_wr_ne _ _ ho1, rd_congr h3.regs]
  have hsts : rd z 0x02020C = 2 := by
    rw [rd_congr hregs, regsOnly_raise0_none (c := .mreqDone) rfl _ _ (by decide), rd_wr_same]
    rfl
  rw [htz]
  refine ⟨hzc, fun k hk' => ?_, ?_, hcause, hsts, fun hb' => ?_, fun hb' => ?_, (hO.mono (by simp)).trans (h4.mono (by simp))⟩
  · rw [hzne k hk', hne k hk', ctxOf_congr hdev]
  · rw [hrz _ (by decide) (by decide), hrv _ (by unfold ClassReg; decide), hcnt]
  · rw [hrz _ (by decide) (by decide), hrz _ (by decide) (by decide), hrv _ (by unfold ClassReg; decide),
      hrv _ (by unfold ClassReg; decide)]
    exact hnone hb'
  · rw [hrz _ (by decide) (by decide), hrz _ (by decide) (by decide), hrv _ (by unfold ClassReg; decide),
      hrv _ (by unfold ClassReg; decide)]
    exact hheld' hb'

/-- A STEER that traps does so at its rule. -/
theorem atSteer_traps {s : State} {c mode k : Nat} {tt ft : BitVec 15} {x : Ctx} {r : InFlight} (f : Ctx → State → State)
    (h : AtSteer s c x r mode tt ft) (hf : steerFault s x r.guard mode tt.toNat ft.toNat = some k) :
    atSteer c mode tt ft f s = trap c k r.addr.toNat s := by
  obtain ⟨hr, hown, hph⟩ := h
  simp [atSteer, hr.ctx, hr.inFlight, hr.moves, hr.stage, hown, hph, hf]

/-- Settles O39: RETIRE by the parts of a context's end, TRAP by the log of a trap and the end of its request. -/
theorem retireAndTrapEnd : Obligations.RetireAndTrapEnd := by
  refine ⟨retire_ends, ?_⟩
  intro c code ft x r s h hs hn hg hk hl hls ho hm hreq he hready hw hcode
  have hb : x.byRule = true := by
    obtain ⟨_, _, _, _, _, _, hb, _⟩ := h.1
    exact hb
  have hop : opTrap c code ft s = trap c code.toNat r.addr.toNat s := by
    refine atSteer_traps _ h ?_
    rw [hg]
    simp [steerFault, Nat.not_le.2 hcode]
  have hframe := trap_mgmt (code := code.toNat) (rule := r.addr.toNat) hn h.1.ctx hb hk hl hls ho hm hreq he hready hw hs.1
  generalize trap c code.toNat r.addr.toNat s = t at hop hframe
  obtain ⟨h1, h2, h3, h4, h5, h6, h7, h8⟩ := hframe
  exact ⟨t, exec_live (decide_eq_true h.1.unit) h.1.awake hop h8.pending h8.aon, h1, h2, h3, h4, h5, h6, h7, h8⟩

end Sys2Proof.Machine
end

section
/-! PROOFS. A line gained by LTB or LTW ends its latency (O33: R184). -/

namespace Sys2Proof.Machine

/-- The rule in flight of the counterexample: LTE of the line that W0 names, which is line 0, with its result to W1; it sends nothing
and AWAITs. -/
def lteRule : InFlight :=
  { addr := 0, word := BitVec.ofNat 128 (operField ⟨false, 1#4, 0#4, 0#18⟩ 0x2C * 2 ^ 72 + 2 ^ 30), guard := true, stage := 0,
    sv := 0, so := 0, ss := 0, code := 0 }

/-- A context at that rule, which has gained line 0. -/
def lteCtx : Ctx := { Ctx.blank .detach with byRule := true, lines := [0], inFlight := some lteRule }

/-- A block whose list of contexts names context 0 twice: as the one at the rule, and as an entry lent for line 0. -/
def lteTwice : State :=
  { State.reset with
    aon := { State.reset.aon with porstLow := false },
    dev := { State.reset.dev with
      running := true, ctxs := [(0, lteCtx), (0, { Ctx.blank .back with line := some 0 })] } }

/-- LTE there takes the lent entry back, and context 0 with it. -/
theorem lte_twice_frees : (match exec (.lte 0 ⟨false, 1#4, 0#4, 0#18⟩) lteTwice with
    | .next t => (ctxOf t 0).isNone
    | _ => false) = true := by decide +kernel

theorem lteTwice_atOper : AtOper lteTwice 0 lteCtx lteRule ⟨false, 1#4, 0#4, 0#18⟩ 0x2C :=
  ⟨⟨by decide, by decide +kernel, by decide +kernel, rfl, rfl, rfl, rfl, rfl, rfl, rfl, rfl, rfl⟩, rfl, by decide +kernel⟩

/-- Refutes O33, in its LTE clause: nothing there says that the list of contexts names each context once. Where an entry lent for the
line stands a second time under the number of the context itself, LTE takes that entry back, and the context is FREE. -/
theorem not_linesGainedAndAwaited : ¬ Obligations.LinesGainedAndAwaited := by
  rintro ⟨-, hlte, -⟩
  obtain ⟨h, -⟩ := hlte 0 ⟨false, 1#4, 0#4, 0#18⟩ lteCtx lteRule lteTwice ⟨by decide +kernel, by decide +kernel⟩ rfl rfl lteTwice_atOper
  have hline : (opd lteCtx.seen 0#4).toNat / 64 % 2 ^ 36 = 0 := by decide +kernel
  obtain ⟨t, he, -, hc, -⟩ := h (by rw [hline]; exact List.mem_singleton.2 rfl) (by decide) rfl rfl
  have hfree := lte_twice_frees
  rw [he] at hfree
  exact absurd hc (by rw [Option.isNone_iff_eq_none.1 hfree]; simp)

end Sys2Proof.Machine
end

section
/-! PROOFS. The records of the contact sheet: what a store into one way changes, the entry of a sector, and the update of one
line's record (R110, R115 to R119). -/

namespace Sys2Proof.Machine

/-! ### Sectors and keys -/

/-- The folded part of a sector's bank, a function of its set and tag. -/
def bankFold (n : Nat) : Nat :=
  Nat.xor (n % 32) (Nat.xor (n / 2 ^ 5 % 32) (Nat.xor (n / 2 ^ 10 % 32) (Nat.xor (n / 2 ^ 15 % 32)
    (Nat.xor (n / 2 ^ 20 % 32) (n / 2 ^ 25 % 16)))))

theorem bankOf_eq (sec : Nat) : bankOf sec = (sec % 32) ^^^ bankFold (sec / 32) := by
  simp only [bankOf, bankFold, Nat.div_div_eq_div_mul]
  rfl

/-- Bank, set and tag name one sector of the pool. -/
theorem sector_ext {i j : Nat} (hi : i < 2 ^ 34) (hj : j < 2 ^ 34) (hb : bankOf i = bankOf j) (hs : setOf i = setOf j)
    (ht : tagOf i = tagOf j) : i = j := by
  unfold setOf at hs
  unfold tagOf at ht
  have hhi : i / 32 = j / 32 := by omega
  rw [bankOf_eq, bankOf_eq, hhi] at hb
  have hlo : i % 32 = j % 32 := Nat.xor_left_inj.1 hb
  omega

theorem setOf_lt (sec : Nat) : setOf sec < 16384 := Nat.mod_lt _ (by decide)

theorem wayKey_inj {b b' st st' w w' : Nat} (hs : st < 16384) (hs' : st' < 16384) (hw : w < 8) (hw' : w' < 8)
    (h : wayKey b st w = wayKey b' st' w') : b = b' ∧ st = st' ∧ w = w' := by
  unfold wayKey at h
  omega

/-! ### The entry of a sector -/

/-- Way `w` of a sector's set, where it holds the sector. -/
def wayAt (s : State) (sec w : Nat) : Option (Nat × Entry) :=
  ((storedWay s (wayKey (bankOf sec) (setOf sec) w)).map (fun e => (w, e))).filter (fun p => decide (p.2.tag = tagOf sec))

/-- The ways that hold a sector. -/
def waysOf (s : State) (sec : Nat) : List (Nat × Entry) :=
  (setWays s (bankOf sec) (setOf sec)).filter (fun p => decide (p.2.tag = tagOf sec))

theorem waysOf_eq (s : State) (sec : Nat) : waysOf s sec = (List.range 8).filterMap (wayAt s sec) := by
  unfold waysOf setWays
  rw [List.filter_filterMap]
  rfl

theorem findEntry_eq (s : State) (sec : Nat) : findEntry s sec = (waysOf s sec).head? := by
  rw [waysOf_eq, List.head?_filterMap]
  unfold findEntry
  congr 1
  funext w
  unfold wayAt
  cases storedWay s (wayKey (bankOf sec) (setOf sec) w) with
  | none => rfl
  | some e => by_cases h : e.tag = tagOf sec <;> simp [h, Option.filter]

theorem findEntry_one {s : State} {sec w : Nat} {e : Entry} (h : OneEntry s sec w e) : findEntry s sec = some (w, e) := by
  rw [findEntry_eq, show waysOf s sec = [(w, e)] from h]
  rfl

theorem findEntry_no {s : State} {sec : Nat} (h : NoEntry s sec) : findEntry s sec = none := by
  rw [findEntry_eq, show waysOf s sec = [] from h]
  rfl

theorem wayAt_some {s : State} {sec w : Nat} {p : Nat × Entry} (h : wayAt s sec w = some p) :
    p.1 = w ∧ storedWay s (wayKey (bankOf sec) (setOf sec) w) = some p.2 ∧ p.2.tag = tagOf sec := by
  obtain ⟨h1, h2⟩ := Option.filter_eq_some_iff.1 h
  obtain ⟨e, he, rfl⟩ := Option.map_eq_some_iff.1 h1
  exact ⟨rfl, he, by simpa using h2⟩

theorem wayAt_of {s : State} {sec w : Nat} {e : Entry} (h : storedWay s (wayKey (bankOf sec) (setOf sec) w) = some e)
    (ht : e.tag = tagOf sec) : wayAt s sec w = some (w, e) := by
  unfold wayAt
  rw [h]
  simp [Option.filter, ht]

/-- The one way that holds a sector, and that no other does. -/
theorem oneEntry_ways {s : State} {sec w : Nat} {e : Entry} (h : OneEntry s sec w e) : w < 8 ∧ e.tag = tagOf sec ∧
    storedWay s (wayKey (bankOf sec) (setOf sec) w) = some e ∧ ∀ v, v < 8 → v ≠ w → wayAt s sec v = none := by
  have hl : (List.range 8).filterMap (wayAt s sec) = [(w, e)] := (waysOf_eq s sec).symm.trans h
  have hmem : ∀ v p, v < 8 → wayAt s sec v = some p → p = (w, e) := fun v p hv hp => by
    have : p ∈ (List.range 8).filterMap (wayAt s sec) := List.mem_filterMap.2 ⟨v, List.mem_range.2 hv, hp⟩
    rw [hl] at this
    exact List.mem_singleton.1 this
  obtain ⟨v, hv, hp⟩ := List.mem_filterMap.1 (hl ▸ List.mem_singleton.2 rfl : (w, e) ∈ (List.range 8).filterMap (wayAt s sec))
  obtain ⟨rfl, hst, htag⟩ := wayAt_some hp
  refine ⟨List.mem_range.1 hv, htag, hst, fun u hu hne => ?_⟩
  cases hw : wayAt s sec u with
  | none => rfl
  | some p =>
    have := hmem u p hu hw
    exact absurd ((wayAt_some hw).1.symm.trans (congrArg Prod.fst this)) hne

theorem waysOf_congr {s t : State} {sec : Nat} (h : ∀ w, w < 8 → wayAt t sec w = wayAt s sec w) : waysOf t sec = waysOf s sec := by
  rw [waysOf_eq, waysOf_eq]
  exact List.filterMap_congr fun w hw => h w (List.mem_range.1 hw)

theorem waysOf_single {s : State} {sec w : Nat} (hw : w < 8) (h : ∀ v, v < 8 → v ≠ w → wayAt s sec v = none) :
    waysOf s sec = (wayAt s sec w).toList := by
  have hne : ∀ v ∈ List.range 8, v ≠ w → wayAt s sec v = none := fun v hv hne => h v (List.mem_range.1 hv) hne
  rw [waysOf_eq]
  cases hp : wayAt s sec w with
  | some p => exact filterMap_single List.nodup_range (List.mem_range.2 hw) hp hne
  | none =>
    refine List.filterMap_eq_nil_iff.2 fun v hv => ?_
    by_cases hvw : v = w
    · rw [hvw, hp]
    · exact hne v hv hvw

/-! ### A store into one way of a sector's set -/

/-- Way `w` of a sector's set is what has changed of the stored ways. -/
def WayOnly (sec w : Nat) (s t : State) : Prop :=
  ∀ k, k ≠ wayKey (bankOf sec) (setOf sec) w → storedWay t k = storedWay s k

theorem WayOnly.other {sec w v : Nat} {s t : State} (h : WayOnly sec w s t) (hw : w < 8) (hv : v < 8) (hne : v ≠ w) :
    wayAt t sec v = wayAt s sec v := by
  unfold wayAt
  rw [h _ fun hk => hne (wayKey_inj (setOf_lt _) (setOf_lt _) hv hw hk).2.2]

/-- A store of another entry of the sector, where the sector had one: it has that one. -/
theorem WayOnly.one {sec w : Nat} {s t : State} {e e' : Entry} (h : WayOnly sec w s t) (h1 : OneEntry s sec w e)
    (hst : storedWay t (wayKey (bankOf sec) (setOf sec) w) = some e') (ht : e'.tag = tagOf sec) : OneEntry t sec w e' := by
  obtain ⟨hw, -, -, hne⟩ := oneEntry_ways h1
  have : waysOf t sec = (wayAt t sec w).toList :=
    waysOf_single hw fun v hv hvw => (h.other hw hv hvw).trans (hne v hv hvw)
  rw [wayAt_of hst ht] at this
  exact this

/-- The sector's one entry leaves: it has none. -/
theorem WayOnly.no {sec w : Nat} {s t : State} {e : Entry} (h : WayOnly sec w s t) (h1 : OneEntry s sec w e)
    (hst : storedWay t (wayKey (bankOf sec) (setOf sec) w) = none) : NoEntry t sec := by
  obtain ⟨hw, -, -, hne⟩ := oneEntry_ways h1
  have hnone : wayAt t sec w = none := by
    unfold wayAt
    rw [hst]
    rfl
  have : waysOf t sec = (wayAt t sec w).toList :=
    waysOf_single hw fun v hv hvw => (h.other hw hv hvw).trans (hne v hv hvw)
  rw [hnone] at this
  exact this

/-- Another sector's ways stay, where the way held and holds nothing of it. -/
theorem WayOnly.elsewhere {sec w j : Nat} {s t : State} (h : WayOnly sec w s t) (hw : w < 8) (hs : sec < 2 ^ 34) (hj : j < 2 ^ 34)
    (hne : j ≠ sec) (hold : ∀ e, storedWay s (wayKey (bankOf sec) (setOf sec) w) = some e → e.tag = tagOf sec)
    (hnew : ∀ e, storedWay t (wayKey (bankOf sec) (setOf sec) w) = some e → e.tag = tagOf sec) : waysOf t j = waysOf s j := by
  refine waysOf_congr fun v hv => ?_
  by_cases hk : wayKey (bankOf j) (setOf j) v = wayKey (bankOf sec) (setOf sec) w
  · obtain ⟨hb, hst, -⟩ := wayKey_inj (setOf_lt _) (setOf_lt _) hv hw hk
    have htag : tagOf sec ≠ tagOf j := fun ht => hne (sector_ext hj hs hb hst ht.symm)
    have hnone : ∀ u, (∀ e, storedWay u (wayKey (bankOf sec) (setOf sec) w) = some e → e.tag = tagOf sec) → wayAt u j v = none :=
      fun u hu => by
        cases hw' : wayAt u j v with
        | none => rfl
        | some p =>
          obtain ⟨-, hp, hpt⟩ := wayAt_some hw'
          rw [hk] at hp
          exact absurd ((hu _ hp).symm.trans hpt) htag
    rw [hnone t hnew, hnone s hold]
  · unfold wayAt
    rw [h _ hk]

/-! ### Records -/

theorem recOf_found {s : State} {line w : Nat} {e : Entry} (h : findEntry s (line / 4) = some (w, e)) :
    recOf s line = recOfEntry e (line % 4) true := by rw [recOf, h]

theorem recOf_none {s : State} {line : Nat} (h : findEntry s (line / 4) = none) (hv : s.sheet.evSlots = []) :
    recOf s line = { lst := .i, own := 0, sv := 0, tray := none, hit := false } := by
  rw [recOf, h, evictOf, hv]
  rfl

theorem recOf_congr {s t : State} {line : Nat} (h : findEntry t (line / 4) = findEntry s (line / 4))
    (hv : t.sheet.evSlots = s.sheet.evSlots) : recOf t line = recOf s line := by
  rw [recOf, recOf, h, evictOf, evictOf, hv]

theorem Quad.get_set_same {α : Type} (q : Quad α) (k : Nat) (v : α) : (q.set k v).get k = v := by
  have : k % 4 < 4 := Nat.mod_lt _ (by decide)
  unfold Quad.get Quad.set
  interval_cases k % 4 <;> rfl

theorem Quad.get_set_ne {α : Type} (q : Quad α) {k j : Nat} (v : α) (h : j % 4 ≠ k % 4) : (q.set k v).get j = q.get j := by
  have h1 : k % 4 < 4 := Nat.mod_lt _ (by decide)
  have h2 : j % 4 < 4 := Nat.mod_lt _ (by decide)
  unfold Quad.get Quad.set
  interval_cases k % 4 <;> interval_cases j % 4 <;> simp at h ⊢

theorem Quad.mem_list {α : Type} (q : Quad α) (k : Nat) : q.get k ∈ q.list := by
  have h : k % 4 < 4 := Nat.mod_lt _ (by decide)
  unfold Quad.get Quad.list
  interval_cases k % 4 <;> simp

theorem recomputeSv_lst (e : Entry) : (recomputeSv e).lst = e.lst ∧ (recomputeSv e).own = e.own ∧ (recomputeSv e).tag = e.tag ∧
    (recomputeSv e).tray = e.tray ∧ (recomputeSv e).spill = e.spill := by
  unfold recomputeSv
  split <;> exact ⟨rfl, rfl, rfl, rfl, rfl⟩

theorem applyUpdate_lst (e : Entry) (k : Nat) (l : Lst) (own : Nat) (extra : BitVec 32) :
    (applyUpdate e k l own extra).lst = e.lst.set k l ∧ (applyUpdate e k l own extra).own = e.own.set k (if l.owned then own else 0) ∧
    (applyUpdate e k l own extra).tag = e.tag ∧ (applyUpdate e k l own extra).tray = e.tray ∧
    (applyUpdate e k l own extra).spill = e.spill := recomputeSv_lst _

/-! ### Storing a sector's entry (R115, R118) -/

/-- What a store into the sheet may change beside the ways: wrong symbols of the way stored, and the quotas that are exceeded. -/
structure Stored (s t : State) : Prop where
  sheet : ∃ w e q, t.sheet = { s.sheet with ways := w, errs := e, overQuota := q }
  regs : RegsOnly (· = causeReg Cause.quota.domain 0) s t
  noCounter : NoCounter s → NoCounter t
  only : Only [.regs, .sheet, .meter] s t

theorem Stored.trans {s t u : State} (h : Stored s t) (h' : Stored t u) : Stored s u := by
  obtain ⟨w, e, q, hs⟩ := h.sheet
  obtain ⟨w', e', q', hs'⟩ := h'.sheet
  exact ⟨⟨w', e', q', by rw [hs', hs]⟩, h.regs.trans h'.regs, fun hn => h'.noCounter (h.noCounter hn), h.only.trans h'.only⟩

theorem Stored.evSlots {s t : State} (h : Stored s t) : t.sheet.evSlots = s.sheet.evSlots := by
  obtain ⟨w, e, q, hs⟩ := h.sheet
  rw [hs]

theorem Stored.refl (s : State) : Stored s s := ⟨⟨_, _, _, rfl⟩, RegsOnly.refl _ _, id, Only.refl _ _⟩

/-- The quota check leaves the ways alone. -/
theorem stored_quotaCheck (tray : Nat) (s : State) : Stored s (quotaCheck tray s) ∧ (quotaCheck tray s).sheet.ways = s.sheet.ways := by
  unfold quotaCheck
  split
  · split
    · exact ⟨Stored.refl s, rfl⟩
    · generalize hu : ({ s with sheet := { s.sheet with overQuota := tray :: s.sheet.overQuota } } : State) = u
      have h1 : Only [.sheet] s u := by rw [← hu]; simp [only_iff]
      have h2 := only_raise0_none (c := .quota) rfl u
      have hr := regsOnly_raise0_none (c := .quota) rfl u
      have hn : NoCounter u → NoCounter (raise0 .quota u) := fun h => by
        rw [raise0_none rfl]
        exact h.wr (by decide)
      refine ⟨⟨⟨s.sheet.ways, s.sheet.errs, tray :: s.sheet.overQuota, ?_⟩, fun o ho => (hr o ho).trans (rd_congr h1.regs o),
        fun h => hn (noCounter_of h h1), (h1.mono (by simp)).trans (h2.mono (by simp))⟩, ?_⟩
      · rw [h2.sheet, ← hu]
      · rw [h2.sheet, ← hu]
  · refine ⟨⟨⟨_, _, _, rfl⟩, RegsOnly.refl _ _, fun h => (noCounter_congr rfl).2 h, ?_⟩, rfl⟩
    simp [only_iff]

theorem stored_putWay (key : Nat) (e : Option Entry) (s : State) : Stored s (putWay key e s) :=
  ⟨⟨_, _, _, rfl⟩, regsOnly_of_regs rfl, fun h => (noCounter_congr rfl).2 h, by simp [only_iff, putWay]⟩

theorem stored_count {s : State} (hn : NoCounter s) (ev : Nat) (u : Units) (n : Nat) : Stored s (count ev u n s) := by
  have h := only_count hn ev u n
  exact ⟨⟨_, _, _, h.sheet⟩, regsOnly_of_regs h.regs, fun hn => noCounter_of hn h, h.mono (by simp)⟩

theorem storedWay_putWay_same (key : Nat) (e : Option Entry) (s : State) : storedWay (putWay key e s) key = e := by
  cases e with
  | none => exact sFind_sDel_same _ _
  | some e => exact sFind_sSet_same _ _ _

theorem storedWay_putWay_ne {key k : Nat} (h : k ≠ key) (e : Option Entry) (s : State) :
    storedWay (putWay key e s) k = storedWay s k := by
  cases e with
  | none => exact sFind_sDel_ne _ h
  | some e => exact sFind_sSet_ne _ _ h

theorem storedWay_congr {s t : State} (h : t.sheet.ways = s.sheet.ways) (k : Nat) : storedWay t k = storedWay s k := by
  rw [storedWay, storedWay, h]

/-- An entry stored back stays, or leaves where it became idle. -/
theorem storeEntry_frame (sec w : Nat) (e : Entry) (s : State) : let t := storeEntry sec w e s
    Stored s t ∧ WayOnly sec w s t ∧
    storedWay t (wayKey (bankOf sec) (setOf sec) w) = if isIdle e && !e.spill then none else some e := by
  dsimp only
  unfold storeEntry
  dsimp only
  cases hi : isIdle e && !e.spill with
  | true =>
    rw [if_pos rfl, if_pos rfl]
    have h1 := stored_putWay (wayKey (bankOf sec) (setOf sec) w) none s
    have hs := storedWay_putWay_same (wayKey (bankOf sec) (setOf sec) w) none s
    have hne : WayOnly sec w s (putWay (wayKey (bankOf sec) (setOf sec) w) none s) := fun k hk => storedWay_putWay_ne hk none s
    generalize putWay (wayKey (bankOf sec) (setOf sec) w) none s = u at h1 hs hne
    obtain ⟨hq, hways⟩ := stored_quotaCheck e.tray u
    have hw : ∀ k, storedWay (quotaCheck e.tray u) k = storedWay u k := storedWay_congr hways
    exact ⟨h1.trans hq, fun k hk => (hw k).trans (hne k hk), (hw _).trans hs⟩
  | false =>
    rw [if_neg Bool.false_ne_true, if_neg Bool.false_ne_true]
    exact ⟨stored_putWay _ _ s, fun k hk => storedWay_putWay_ne hk _ s, storedWay_putWay_same _ _ s⟩

/-! ### The update of one line's record -/

theorem countFog_stored {s : State} (hn : NoCounter s) (old new : Lst) (tray : Option Nat) :
    Stored s (countFog old new tray s) ∧ (countFog old new tray s).sheet = s.sheet := by
  unfold countFog
  split
  · exact ⟨stored_count hn _ _ _, (only_count hn _ _ _).sheet⟩
  · exact ⟨Stored.refl s, rfl⟩

/-- `t` differs from `s` in the stored entries of one sector alone, which has the entry `o`, if any, in way `w`. -/
structure SectorIs (sec w : Nat) (o : Option Entry) (s t : State) : Prop where
  stored : Stored s t
  only : WayOnly sec w s t
  found : findEntry t sec = o.map (fun e => (w, e))
  one : ∀ e, o = some e → OneEntry t sec w e
  other : sec < 2 ^ 34 → ∀ j, j < 2 ^ 34 → j ≠ sec → findEntry t j = findEntry s j

theorem findEntry_congr {s t : State} (h : t.sheet.ways = s.sheet.ways) (sec : Nat) : findEntry t sec = findEntry s sec := by
  unfold findEntry
  simp only [storedWay_congr h]

theorem oneEntry_congr {s t : State} (h : t.sheet.ways = s.sheet.ways) {sec w : Nat} {e : Entry} (h1 : OneEntry s sec w e) :
    OneEntry t sec w e := by
  have : setWays t (bankOf sec) (setOf sec) = setWays s (bankOf sec) (setOf sec) := by
    unfold setWays
    simp only [storedWay_congr h]
  rw [OneEntry, this]
  exact h1

theorem SectorIs.sheet {sec w : Nat} {o : Option Entry} {s t v : State} (h : SectorIs sec w o s t) (hs : Stored t v)
    (hv : v.sheet = t.sheet) : SectorIs sec w o s v := by
  have hw : v.sheet.ways = t.sheet.ways := congrArg SheetSide.ways hv
  exact ⟨h.stored.trans hs, fun k hk => (storedWay_congr hw k).trans (h.only k hk), (findEntry_congr hw _).trans h.found,
    fun e he => oneEntry_congr hw (h.one e he), fun hsec j hj hne => (findEntry_congr hw _).trans (h.other hsec j hj hne)⟩

/-- The one entry of a sector is replaced by another of the same sector, or leaves where that is idle (R115). -/
theorem storeEntry_sector {s : State} {sec w : Nat} {e e' : Entry} (h : OneEntry s sec w e) (ht : e'.tag = e.tag) :
    SectorIs sec w (if isIdle e' && !e'.spill then none else some e') s (storeEntry sec w e' s) := by
  obtain ⟨hw8, htag, hst, -⟩ := oneEntry_ways h
  have htag' : e'.tag = tagOf sec := ht.trans htag
  obtain ⟨h1, hne, hs⟩ := storeEntry_frame sec w e' s
  generalize storeEntry sec w e' s = t at h1 hne hs
  have hone : ∀ f, (if isIdle e' && !e'.spill then none else some e') = some f → OneEntry t sec w f := by
    intro f hf
    have hef : e' = f := by
      split at hf
      · cases hf
      · exact Option.some.inj hf
    refine hne.one h (hs.trans hf) (hef ▸ htag')
  refine ⟨h1, hne, ?_, hone, fun hsec j hj hjs => ?_⟩
  · cases ho : (if isIdle e' && !e'.spill then none else some e') with
    | none => exact findEntry_no (hne.no h (hs.trans ho))
    | some f => exact findEntry_one (hone f ho)
  · rw [findEntry_eq, findEntry_eq, hne.elsewhere hw8 hsec hj hjs]
    · intro f hf
      rw [hst] at hf
      exact Option.some.inj hf ▸ htag
    · intro f hf
      rw [hs] at hf
      split at hf
      · cases hf
      · exact Option.some.inj hf ▸ htag'

/-- A line's record is updated in the one entry of its sector. -/
theorem setRec_frame {s : State} {line w : Nat} {e : Entry} (hn : NoCounter s) (h : OneEntry s (line / 4) w e) (l : Lst) (own : Nat)
    (extra : BitVec 32) : let e' := applyUpdate e (line % 4) l own extra
    SectorIs (line / 4) w (if isIdle e' && !e'.spill then none else some e') s (setRec line l own extra s) := by
  intro e'
  have heq : setRec line l own extra s =
      countFog (e.lst.get (line % 4)) l (some e.tray) (storeEntry (line / 4) w e' s) := by
    unfold setRec
    dsimp only
    rw [findEntry_one h]
  have h1 : SectorIs (line / 4) w (if isIdle e' && !e'.spill then none else some e') s (storeEntry (line / 4) w e' s) :=
    storeEntry_sector h (applyUpdate_lst e (line % 4) l own extra).2.2.1
  rw [heq]
  generalize storeEntry (line / 4) w e' s = u at h1
  obtain ⟨h2, hsheet⟩ := countFog_stored (h1.stored.noCounter hn) (e.lst.get (line % 4)) l (some e.tray)
  exact h1.sheet h2 hsheet

end Sys2Proof.Machine
end

section
/-! PROOFS. SUP and SALL, and the retry of a SUP that waited (R115, R121, R173, R182, R183). -/

namespace Sys2Proof.Machine

/-! ### The record that an update leaves -/

theorem isIdle_get {e : Entry} (h : isIdle e = true) (k : Nat) : e.lst.get k = .i := by
  unfold isIdle at h
  simp only [Bool.and_eq_true, List.all_eq_true, decide_eq_true_eq] at h
  exact h.1 _ (Quad.mem_list _ _)

/-- After the update of a line's record the line has the new state and owner, and every other line its own state. -/
theorem setRec_records {s : State} {line w : Nat} {e : Entry} (hn : NoCounter s) (h : OneEntry s (line / 4) w e) (l : Lst) (own : Nat)
    (extra : BitVec 32) (hv : l = .i → s.sheet.evSlots = []) : let t := setRec line l own extra s
    (recOf t line).lst = l ∧ (recOf t line).own = (if l.owned then own else 0) ∧
    (line < 2 ^ 36 → ∀ j, j < 2 ^ 36 → j ≠ line → (recOf t j).lst = (recOf s j).lst) := by
  intro t
  have hf := setRec_frame hn h l own extra
  dsimp only at hf
  obtain ⟨hlst, hown, -⟩ := applyUpdate_lst e (line % 4) l own extra
  have hs := findEntry_one h
  have hget := Quad.get_set_same e.lst (line % 4) l
  cases hi : isIdle (applyUpdate e (line % 4) l own extra) && !(applyUpdate e (line % 4) l own extra).spill with
  | true =>
    rw [hi, if_pos rfl] at hf
    have hidle := isIdle_get (Bool.and_eq_true _ _ ▸ hi).1
    have hl : l = .i := by rw [← hget, ← hlst, hidle]
    have hev : t.sheet.evSlots = [] := hf.stored.evSlots.trans (hv hl)
    have hnone : ∀ j, j / 4 = line / 4 → recOf t j = { lst := .i, own := 0, sv := 0, tray := none, hit := false } := fun j hj =>
      recOf_none (by rw [hj]; exact hf.found) hev
    refine ⟨by rw [hnone line rfl, hl], by rw [hnone line rfl, hl]; rfl, fun hline j hj hne => ?_⟩
    by_cases hsec : j / 4 = line / 4
    · rw [hnone j hsec, recOf_found (w := w) (e := e) (by rw [hsec]; exact hs)]
      show Lst.i = e.lst.get (j % 4)
      rw [← hidle (j % 4), hlst, Quad.get_set_ne _ _ (by omega)]
    · exact congrArg Rec.lst (recOf_congr (hf.other (by omega) _ (by omega) hsec) hf.stored.evSlots)
  | false =>
    rw [hi, if_neg Bool.false_ne_true] at hf
    have hfound : ∀ j, j / 4 = line / 4 → recOf t j = recOfEntry (applyUpdate e (line % 4) l own extra) (j % 4) true := fun j hj =>
      recOf_found (by rw [hj]; exact hf.found)
    refine ⟨?_, ?_, fun hline j hj hne => ?_⟩
    · rw [hfound line rfl]
      show (applyUpdate e (line % 4) l own extra).lst.get (line % 4) = l
      rw [hlst, hget]
    · rw [hfound line rfl]
      show (applyUpdate e (line % 4) l own extra).own.get (line % 4) = _
      rw [hown, Quad.get_set_same]
    · by_cases hsec : j / 4 = line / 4
      · rw [hfound j hsec, recOf_found (w := w) (e := e) (by rw [hsec]; exact hs)]
        show (applyUpdate e (line % 4) l own extra).lst.get (j % 4) = e.lst.get (j % 4)
        rw [hlst, Quad.get_set_ne _ _ (by omega)]
      · exact congrArg Rec.lst (recOf_congr (hf.other (by omega) _ (by omega) hsec) hf.stored.evSlots)

theorem recOf_sheet {s t : State} (h : t.sheet = s.sheet) (line : Nat) : recOf t line = recOf s line :=
  recOf_congr (findEntry_congr (by rw [h]) _) (by rw [h])

/-! ### SUP -/

/-- A grant of E or M clears the reservations of the line's granule (R78). -/
def granted (l : Lst) (line : Nat) (s : State) : State := if l = .e ∨ l = .m then clearResv line s else s

theorem only_clearResv (line : Nat) (s : State) : Only [.home] s (clearResv line s) := by simp [only_iff, clearResv]

theorem only_granted (l : Lst) (line : Nat) (s : State) : Only [.home] s (granted l line s) := by
  unfold granted
  split
  · exact only_clearResv line s
  · exact Only.refl _ _

/-- What SUP makes of the state where the sector has an entry. -/
def supped (c line : Nat) (l : Lst) (own : Nat) (extra : BitVec 32) (s : State) : State :=
  reload c (modCtx c (fun y => { y with job := none }) (setRec line l own extra (granted l line s)))

theorem supRun_entry {s : State} {c w : Nat} {x : Ctx} {e : Entry} (h : OneEntry s (x.eaLine / 4) w e) (l : Lst) (own : Nat)
    (extra : BitVec 32) : supRun c x l own extra s = supped c x.eaLine l own extra s := by
  have hheld : (heldEntry (granted l x.eaLine s) (x.eaLine / 4)).isSome = true := by
    rw [heldEntry, findEntry_congr (congrArg SheetSide.ways (only_granted l x.eaLine s).sheet), findEntry_one h]
    rfl
  have hap : supApply x.eaLine (x.tray.getD 0) l own extra s = some ([], setRec x.eaLine l own extra (granted l x.eaLine s)) := by
    unfold supApply
    exact if_pos hheld
  rw [supRun, hap]
  rfl

theorem ctxOf_reload {u : State} {c : Nat} {y : Ctx} (h : ctxOf u c = some y) : ∃ cd, ctxOf (reload c u) c = some { y with
    sv := (sheetCopy u y.eaLine).1, so := (sheetCopy u y.eaLine).2.1, ss := (sheetCopy u y.eaLine).2.2, code := cd } :=
  ⟨_, ctxOf_modCtx_same h _⟩

theorem supped_frame {s : State} {c line w : Nat} {x : Ctx} {e : Entry} (hx : ctxOf s c = some x) (hn : NoCounter s)
    (h : OneEntry s (line / 4) w e) (l : Lst) (own : Nat) (extra : BitVec 32) (hv : s.sheet.evSlots = []) :
    let t := supped c line l own extra s
    (∃ y, ctxOf t c = some y ∧ y.inFlight = x.inFlight ∧ y.stall = x.stall) ∧ (recOf t line).lst = l ∧
    (recOf t line).own = (if l.owned then own else 0) ∧
    (line < 2 ^ 36 → ∀ j, j < 2 ^ 36 → j ≠ line → (recOf t j).lst = (recOf s j).lst) ∧
    Only [.regs, .sheet, .dev, .home, .meter] s t := by
  intro t
  have ht : t = supped c line l own extra s := rfl
  unfold supped at ht
  have h1 := only_granted l line s
  generalize granted l line s = u at h1 ht
  have hr1 : ∀ j, recOf u j = recOf s j := recOf_sheet h1.sheet
  have h1' : OneEntry u (line / 4) w e := oneEntry_congr (congrArg SheetSide.ways h1.sheet) h
  have hf := setRec_frame (noCounter_of hn h1) h1' l own extra
  obtain ⟨hl, ho, hj⟩ := setRec_records (noCounter_of hn h1) h1' l own extra fun _ => (congrArg SheetSide.evSlots h1.sheet).trans hv
  have h2 := hf.stored.only
  generalize setRec line l own extra u = v at h2 hl ho hj ht
  have hxv : ctxOf v c = some x :=
    (ctxOf_congr (congrArg DevSide.ctxs (h2.dev.trans h1.dev)) c).trans hx
  have h3 : Only [.dev] v t := by
    rw [ht]
    exact (only_modCtx _ _ _).trans (only_modCtx _ _ _)
  obtain ⟨cd, hy⟩ := ctxOf_reload (ctxOf_modCtx_same hxv (fun y => { y with job := none }))
  rw [← ht] at hy
  have hrt : ∀ j, recOf t j = recOf v j := recOf_sheet h3.sheet
  refine ⟨⟨_, hy, rfl, rfl⟩, by rw [hrt]; exact hl, by rw [hrt]; exact ho, fun hline j hj' hne => ?_,
    (h1.mono (by simp)).trans ((h2.mono (by simp)).trans (h3.mono (by simp)))⟩
  rw [hrt, hj hline j hj' hne, hr1]

/-! ### SALL -/

theorem lstCode_of {n : Nat} {l : Lst} (h : lstOfCode n = some l) : lstCode l = n := by
  unfold lstOfCode at h
  split at h <;> cases h <;> rfl

theorem lstOfCode_le {n : Nat} (h : n ≤ 5) : ∃ l, lstOfCode n = some l := by
  interval_cases n <;> exact ⟨_, rfl⟩

/-- Four codes that are states give an entry with those states. -/
theorem sallEntry_of {bits : BitVec 32} (h : ∀ k, k < 4 → fld bits (3 * k) 3 ≤ 5) (sec tray : Nat) (sv : BitVec 32) (spill : Bool) :
    ∃ e, sallEntry sec tray bits sv spill = some e ∧ (∀ k, k < 4 → lstCode (e.lst.get k) = fld bits (3 * k) 3) ∧
      e.tag = tagOf sec ∧ e.tray = tray := by
  obtain ⟨l0, h0⟩ := lstOfCode_le (h 0 (by decide))
  obtain ⟨l1, h1⟩ := lstOfCode_le (h 1 (by decide))
  obtain ⟨l2, h2⟩ := lstOfCode_le (h 2 (by decide))
  obtain ⟨l3, h3⟩ := lstOfCode_le (h 3 (by decide))
  simp only [Nat.mul_zero, Nat.mul_one, Nat.reduceMul] at h0 h1 h2 h3
  unfold sallEntry
  rw [h0, h1, h2, h3]
  refine ⟨_, rfl, fun k hk => ?_, (recomputeSv_lst _).2.2.1, (recomputeSv_lst _).2.2.2.1⟩
  rw [(recomputeSv_lst _).1]
  interval_cases k
  · exact lstCode_of h0
  · exact lstCode_of h1
  · exact lstCode_of h2
  · exact lstCode_of h3

/-- AGE of the other ways of a set that holds one entry alone: there are none. -/
theorem ageOthers_one {s : State} {bank set way : Nat} {e : Entry} (hset : set < 16384) (hway : way < 8)
    (h : s.sheet.ways = [(wayKey bank set way, e)]) : ageOthers bank set way s = s := by
  have hstep : ∀ l : List Nat, (∀ w ∈ l, w < 8) → l.foldl (fun (m : Sparse Entry) w => if w = way then m
      else sMod m (wayKey bank set w) (fun e => { e with age := min 7 (e.age + 1) })) s.sheet.ways = s.sheet.ways := by
    intro l
    induction l with
    | nil => exact fun _ => rfl
    | cons w l ih =>
      intro hl
      have hw := hl w (by simp)
      have hne : w ≠ way → wayKey bank set w ≠ wayKey bank set way := fun hne hk => hne (wayKey_inj hset hset hw hway hk).2.2
      rw [List.foldl_cons]
      by_cases hww : w = way
      · rw [if_pos hww]
        exact ih fun v hv => hl v (by simp [hv])
      · rw [if_neg hww]
        have : sMod s.sheet.ways (wayKey bank set w) (fun e => { e with age := min 7 (e.age + 1) }) = s.sheet.ways := by
          unfold sMod
          rw [h]
          simp [sFind, hne hww]
        rw [this]
        exact ih fun v hv => hl v (by simp [hv])
  unfold ageOthers
  dsimp only
  rw [hstep (List.range 8) fun w hw => List.mem_range.1 hw]

/-- An entry allocated in an empty sheet takes way 0 of its set. -/
theorem allocate_empty {s : State} (hn : NoCounter s) (h : s.sheet.ways = []) (sec : Nat) (e : Entry) : ∃ t,
    allocate sec e s = some ([], t) ∧ Stored s t ∧ t.sheet.ways = [(wayKey (bankOf sec) (setOf sec) 0, e)] := by
  have hfree : ∀ w, (storedWay s (wayKey (bankOf sec) (setOf sec) w)).isNone = true := fun w => by
    rw [storedWay, h]
    rfl
  have hfind : (List.range 8).find? (fun w => (storedWay s (wayKey (bankOf sec) (setOf sec) w)).isNone) = some 0 := by
    simp only [hfree]
    rfl
  refine ⟨placeEntry sec 0 e s, ?_, ?_⟩
  · unfold allocate
    dsimp only
    rw [hfind]
  · have h1 := stored_putWay (wayKey (bankOf sec) (setOf sec) 0) (some e) s
    have hw1 : (putWay (wayKey (bankOf sec) (setOf sec) 0) (some e) s).sheet.ways = [(wayKey (bankOf sec) (setOf sec) 0, e)] := by
      show sSet s.sheet.ways _ e = _
      rw [h]
      rfl
    unfold placeEntry
    dsimp only
    rw [ageOthers_one (setOf_lt sec) (by decide) hw1]
    generalize putWay (wayKey (bankOf sec) (setOf sec) 0) (some e) s = u at h1 hw1
    have h2 := stored_count (h1.noCounter hn) 0x06 ⟨some e.tray, none, none⟩ 1
    have hw2 := (only_count (h1.noCounter hn) 0x06 ⟨some e.tray, none, none⟩ 1).sheet
    generalize count 0x06 ⟨some e.tray, none, none⟩ 1 u = v at h2 hw2
    obtain ⟨h3, hw3⟩ := stored_quotaCheck e.tray v
    exact ⟨h1.trans (h2.trans h3), by rw [hw3, hw2, hw1]⟩

/-- The one entry of a sheet is its sector's, and no other sector has one. -/
theorem findEntry_only {s : State} {sec : Nat} {e : Entry} (h : s.sheet.ways = [(wayKey (bankOf sec) (setOf sec) 0, e)])
    (ht : e.tag = tagOf sec) : findEntry s sec = some (0, e) ∧
      (sec < 2 ^ 34 → ∀ j, j < 2 ^ 34 → j ≠ sec → findEntry s j = none) := by
  let u : State := { s with sheet := { s.sheet with ways := [] } }
  have hu : ∀ k, storedWay u k = none := fun k => rfl
  have hs : storedWay s (wayKey (bankOf sec) (setOf sec) 0) = some e := by
    rw [storedWay, h]
    simp [sFind]
  have hne : WayOnly sec 0 u s := fun k hk => by
    rw [hu, storedWay, h]
    simp [sFind, hk]
  have hu0 : ∀ j v, wayAt u j v = none := fun j v => by
    unfold wayAt
    rw [hu]
    rfl
  refine ⟨?_, fun hsec j hj hjs => ?_⟩
  · have : waysOf s sec = (wayAt s sec 0).toList :=
      waysOf_single (by decide) fun v hv hv0 => (hne.other (by decide) hv hv0).trans (hu0 _ _)
    rw [findEntry_eq, this, wayAt_of hs ht]
    rfl
  · rw [findEntry_eq, hne.elsewhere (by decide) hsec hj hjs (fun f hf => by rw [hu] at hf; cases hf)
      fun f hf => by rw [hs] at hf; exact Option.some.inj hf ▸ ht, waysOf_eq]
    simp [hu0]

theorem seen_eq {x : Ctx} {r : InFlight} (h : x.inFlight = some r) :
    x.seen = { x with sv := r.sv, so := r.so, ss := r.ss, code := r.code } := by rw [Ctx.seen, h]

theorem seen_fields {x : Ctx} : x.seen.ea = x.ea ∧ x.seen.tray = x.tray ∧ x.seen.inFlight = x.inFlight := by
  unfold Ctx.seen
  split <;> exact ⟨rfl, rfl, rfl⟩

theorem seen_eaLine (x : Ctx) : x.seen.eaLine = x.eaLine := by rw [Ctx.eaLine, Ctx.eaLine, seen_fields.1]

theorem sup_records : ∀ (c : Nat) (o : Oper) (x : Ctx) (r : InFlight) (s : State), Harmless r → NoCounter s → s.sheet.evSlots = [] →
    ∀ w e l a, AtOper s c x r o 0x22 → OneEntry s (x.eaLine / 4) w e → lstOfCode ((rawB x.seen o).toNat % 8) = some l →
      (agentSel x.seen o.d = .nobody ∧ l.owned = false ∨ ∃ tx, agentSel x.seen o.d = .agent a tx) →
      ∃ t, exec (.sup c o) s = .next t ∧ (recOf t x.eaLine).lst = l ∧ (recOf t x.eaLine).own = (if l.owned then a else 0) ∧
        (∀ k, k < 2 ^ 36 → k ≠ x.eaLine → (recOf t k).lst = (recOf s k).lst) ∧
        Only [.regs, .sheet, .dev, .home, .meter] s t := by
  intro c o x r s hh hn hv w e l a h hone hl hsel
  have hrun : ∀ own extra, supRun c x.seen l own extra s = supped c x.eaLine l own extra s := fun own extra => by
    rw [supRun_entry (by rw [seen_eaLine]; exact hone), seen_eaLine]
  have hline : x.eaLine < 2 ^ 36 := Nat.mod_lt _ (by decide)
  have hfld : lstOfCode (fld (rawB x.seen o) 0 3) = some l := by rw [fld_zero]; exact hl
  obtain ⟨own, extra, hown, hf⟩ : ∃ own extra, (if l.owned then own else 0) = (if l.owned then a else 0) ∧
      (match lstOfCode (fld (rawB x.seen o) 0 3), agentSel x.seen o.d with
        | none, _ => ill c r s
        | _, .illegal => ill c r s
        | some l, .nobody => if l.owned then ill c r s else supRun c x.seen l 0 (lo32 (opd x.seen o.a)) s
        | some l, .agent a _ => supRun c x.seen l (if l.owned then a else 0)
            (if l.owned || bitOf (rawB x.seen o) 3 then lo32 (opd x.seen o.a) ||| abit a else lo32 (opd x.seen o.a)) s) =
        supped c x.eaLine l own extra s := by
    rw [hfld]
    rcases hsel with ⟨hs, hlo⟩ | ⟨tx, hs⟩
    · refine ⟨0, lo32 (opd x.seen o.a), by rw [hlo]; rfl, ?_⟩
      rw [hs]
      dsimp only
      rw [hlo, if_neg Bool.false_ne_true, hrun]
    · refine ⟨if l.owned then a else 0,
        if l.owned || bitOf (rawB x.seen o) 3 then lo32 (opd x.seen o.a) ||| abit a else lo32 (opd x.seen o.a), ?_, ?_⟩
      · cases l.owned <;> rfl
      · rw [hs]
        dsimp only
        rw [hrun]
  obtain ⟨⟨y, hy, hyr, hyst⟩, h1, h2, h3, hO⟩ := supped_frame h.ctx hn hone l own extra hv
  have he : exec (.sup c o) s = .next (setStage c 1 (supped c x.eaLine l own extra s)) :=
    exec_harmless h.rule h.guard hh (decide_eq_true h.field) hf hy (hyr.trans h.inFlight) (hyst.trans h.noStall) hO.pending hO.aon
  have hrt : ∀ j, recOf (setStage c 1 (supped c x.eaLine l own extra s)) j = recOf (supped c x.eaLine l own extra s) j :=
    recOf_sheet (only_setStage _ _ _).sheet
  refine ⟨_, he, by rw [hrt]; exact h1, by rw [hrt, h2, hown], fun k hk hne => by rw [hrt]; exact h3 hline k hk hne,
    hO.trans ((only_setStage _ _ _).mono (by simp))⟩

/-- SALL with a legal encoding, in an empty sheet. -/
theorem sallRun_empty {s : State} {c : Nat} {x : Ctx} {bits sv : BitVec 32} {spill : Bool} {e : Entry} (hn : NoCounter s)
    (hw : s.sheet.ways = []) (hv : s.sheet.evSlots = []) (he : sallEntry (x.eaLine / 4) (x.tray.getD 0) bits sv spill = some e)
    (hidle : (isIdle e && !spill) = false) : ∃ u, sallRun c x bits sv spill s = sallDone c x u ∧ Stored s u ∧
      u.sheet.ways = [(wayKey (bankOf (x.eaLine / 4)) (setOf (x.eaLine / 4)) 0, e)] := by
  obtain ⟨u, hal, hst, hways⟩ := allocate_empty hn hw (x.eaLine / 4) e
  refine ⟨u, ?_, hst, hways⟩
  have hheld : heldEntry s (x.eaLine / 4) = none := by
    rw [heldEntry, findEntry_empty hw, evictOf, hv]
    rfl
  unfold sallRun
  dsimp only
  rw [hheld, he]
  dsimp only
  rw [hidle, hal]
  rfl

/-- The code of a line in the operand of SALL. -/
theorem sall_code (v : W64) {k : Nat} (hk : k < 4) : fld (lo32 v) (3 * k) 3 = v.toNat % 2 ^ 32 / 8 ^ k % 8 := by
  rw [fld_eq, lo32, BitVec.toNat_setWidth]
  interval_cases k <;> rfl

theorem sall_records : ∀ (c : Nat) (o : Oper) (x : Ctx) (r : InFlight) (s : State), Harmless r → NoCounter s → s.sheet.evSlots = [] →
    let line := x.ea.toNat / 64 % 2 ^ 36
    let sec := line / 4
    let bits := (opd x.seen o.d).toNat % 2 ^ 32
    AtOper s c x r o 0x24 → o.imm = true → s.sheet.ways = [] → (∀ k, k < 4 → bits / 8 ^ k % 8 ≤ 5) →
      ((∃ k, k < 4 ∧ bits / 8 ^ k % 8 ≠ 0) ∨ bitOf o.b 0 = true) →
      ∃ t, exec (.sall c o) s = .next t ∧
        (∀ k, k < 4 → lstCode (recOf t (4 * sec + k)).lst = bits / 8 ^ k % 8 ∧
          (recOf t (4 * sec + k)).tray = some (x.tray.getD 0) ∧ (recOf t (4 * sec + k)).hit = true) ∧
        (∀ k, k < 2 ^ 36 → k / 4 ≠ sec → (recOf t k).lst = .i) ∧ Only [.regs, .sheet, .dev, .meter] s t := by
  intro c o x r s hh hn hv line sec bits h himm hw hle hsome
  have hcode : ∀ k, k < 4 → fld (lo32 (opd x.seen o.d)) (3 * k) 3 = bits / 8 ^ k % 8 := fun k hk => sall_code _ hk
  obtain ⟨e, he, hlst, htag, htray⟩ := sallEntry_of (fun k hk => (hcode k hk).trans_le (hle k hk)) (x.seen.eaLine / 4)
    (x.seen.tray.getD 0) (lo32 (opd x.seen o.a)) (bitOf o.b 0)
  obtain ⟨e0, he0, -⟩ := sallEntry_of (fun k hk => (hcode k hk).trans_le (hle k hk)) 0 0 0 false
  have hidle : (isIdle e && !bitOf o.b 0) = false := by
    rcases hsome with ⟨k, hk, hne⟩ | hsp
    · have : isIdle e = false := by
        refine Bool.eq_false_iff.2 fun hi => hne ?_
        rw [← hcode k hk, ← hlst k hk, isIdle_get hi k]
        rfl
      rw [this]
      rfl
    · rw [hsp, Bool.not_true, Bool.and_false]
  obtain ⟨u, hrun, hst, hways⟩ := sallRun_empty (c := c) hn hw hv he hidle
  have hxu : ctxOf u c = some x := (ctxOf_congr (congrArg DevSide.ctxs hst.only.dev) c).trans h.ctx
  have hO2 : Only [.dev] u (sallDone c x.seen u) := only_modCtx _ _ _
  have hy : ∃ y, ctxOf (sallDone c x.seen u) c = some y ∧ y.inFlight = x.inFlight ∧ y.stall = x.stall :=
    ⟨_, ctxOf_modCtx_same hxu _, rfl, rfl⟩
  obtain ⟨y, hy, hyr, hyst⟩ := hy
  generalize sallDone c x.seen u = v at hrun hO2 hy
  have hO := (hst.only.mono (l := [.regs, .sheet, .dev, .meter]) (by simp)).trans (hO2.mono (by simp))
  have hex : exec (.sall c o) s = .next (setStage c 1 v) := by
    refine exec_harmless h.rule h.guard hh (decide_eq_true h.field) ?_ hy (hyr.trans h.inFlight) (hyst.trans h.noStall) hO.pending
      hO.aon
    dsimp only
    rw [himm, he0]
    exact hrun
  have hsec : x.seen.eaLine / 4 = sec := by rw [seen_eaLine]; rfl
  rw [hsec] at hways htag
  have htr : e.tray = x.tray.getD 0 := by rw [htray, seen_fields.2.1]
  have hsecl : sec < 2 ^ 34 := by
    have : line < 2 ^ 36 := Nat.mod_lt _ (by decide)
    omega
  obtain ⟨hf1, hf2⟩ := findEntry_only hways htag
  have hfe : ∀ j, findEntry (setStage c 1 v) j = findEntry u j :=
    findEntry_congr (congrArg SheetSide.ways ((only_setStage c 1 v).sheet.trans hO2.sheet))
  have hev : (setStage c 1 v).sheet.evSlots = [] := by
    rw [(only_setStage c 1 v).sheet, hO2.sheet, hst.evSlots, hv]
  refine ⟨_, hex, fun k hk => ?_, fun k hk hne => ?_, hO.trans ((only_setStage _ _ _).mono (by simp))⟩
  · have h4 : (4 * sec + k) / 4 = sec := by omega
    have hm : (4 * sec + k) % 4 = k := by omega
    rw [recOf_found (w := 0) (e := e) (by rw [hfe, h4]; exact hf1), hm]
    exact ⟨(hlst k hk).trans (hcode k hk), congrArg some htr, rfl⟩
  · rw [recOf_none (by rw [hfe]; exact hf2 hsecl _ (by omega) hne) hev]

/-- Settles O32: SUP through the update of one line's record, SALL through the allocation in an empty sheet. -/
theorem sheetUpdates : Obligations.SheetUpdates := by
  intro c o x r s hh hn hv
  exact ⟨sup_records c o x r s hh hn hv, sall_records c o x r s hh hn hv⟩

/-! ### A SUP that waited goes on (R121) -/

/-- The entry that a SUP installs for a sector that had none: SV is the operand's where the state is S or O (R117, R183). -/
theorem applyUpdate_shared {l : Lst} (hl : l ∈ [Lst.s, .o]) (sec tray k own : Nat) (extra : BitVec 32) :
    let e := applyUpdate (newEntry sec tray) k l own extra
    e.lst.get k = l ∧ e.sv = extra ∧ e.tray = tray ∧ e.tag = tagOf sec ∧ isIdle e = false := by
  intro e
  obtain ⟨h1, -, h3, h4, -⟩ := applyUpdate_lst (newEntry sec tray) k l own extra
  have hget : e.lst.get k = l := (congrArg (Quad.get · k) h1).trans (Quad.get_set_same _ _ _)
  have hmem : l ∈ ((newEntry sec tray).lst.set k l).list := by
    have := Quad.mem_list ((newEntry sec tray).lst.set k l) k
    rwa [Quad.get_set_same] at this
  have hsh : ((newEntry sec tray).lst.set k l).list.any (fun l => l = .s || l = .o || l = .fogged) = true := by
    refine List.any_eq_true.2 ⟨l, hmem, ?_⟩
    simp only [List.mem_cons, List.not_mem_nil, or_false] at hl
    rcases hl with rfl | rfl <;> rfl
  refine ⟨hget, ?_, h4, h3, Bool.eq_false_iff.2 fun hi => ?_⟩
  · show (recomputeSv _).sv = extra
    unfold recomputeSv
    rw [if_pos hsh]
    exact BitVec.zero_or
  · have := (isIdle_get hi k).symm.trans hget
    subst this
    simp at hl

/-- SUP for a sector that has no entry, in an empty sheet. -/
theorem supRun_empty {s : State} {c : Nat} {x : Ctx} {l : Lst} (hn : NoCounter s) (hw : s.sheet.ways = [])
    (hv : s.sheet.evSlots = []) (hl : l ∈ [Lst.s, .o]) (own : Nat) (extra : BitVec 32) : ∃ u,
    supRun c x l own extra s = reload c (modCtx c (fun y => { y with job := none }) u) ∧ Stored s u ∧
    u.sheet.ways = [(wayKey (bankOf (x.eaLine / 4)) (setOf (x.eaLine / 4)) 0,
      applyUpdate (newEntry (x.eaLine / 4) (x.tray.getD 0)) (x.eaLine % 4) l own extra)] := by
  obtain ⟨-, -, -, -, hidle⟩ := applyUpdate_shared hl (x.eaLine / 4) (x.tray.getD 0) (x.eaLine % 4) own extra
  obtain ⟨u, hal, hst, hways⟩ := allocate_empty hn hw (x.eaLine / 4)
    (applyUpdate (newEntry (x.eaLine / 4) (x.tray.getD 0)) (x.eaLine % 4) l own extra)
  refine ⟨u, ?_, hst, hways⟩
  have hheld : heldEntry s (x.eaLine / 4) = none := by
    rw [heldEntry, findEntry_empty hw, evictOf, hv]
    rfl
  have hem : ¬ (l = .e ∨ l = .m) := by
    simp only [List.mem_cons, List.not_mem_nil, or_false] at hl
    rcases hl with rfl | rfl <;> simp
  have hfog : l ≠ .fogged := by
    simp only [List.mem_cons, List.not_mem_nil, or_false] at hl
    rcases hl with rfl | rfl <;> simp
  have hap : supApply x.eaLine (x.tray.getD 0) l own extra s = some ([], u) := by
    unfold supApply
    dsimp only
    rw [if_neg hem, hheld, if_neg (by simp), if_neg (by rw [hidle]; simp), hal]
    simp [countFog, hfog]
  rw [supRun, hap]
  rfl

/-- Settles O17: with the sheet empty the retry is the SUP itself, which takes way 0 of the set. -/
theorem allocationRetried : Obligations.AllocationRetried := by
  intro c x l own extra s hc hin hrun hx hb howed hk hjob hl hfw hw hv
  obtain ⟨hlst, hsv, htray, htag, -⟩ := applyUpdate_shared hl (x.eaLine / 4) (x.tray.getD 0) (x.eaLine % 4) own extra
  obtain ⟨u, hsup, hst, hways⟩ := supRun_empty (c := c) (x := x) hin.noCounter hw hv hl own extra
  have hxu : ctxOf u c = some x := (ctxOf_congr (congrArg DevSide.ctxs hst.only.dev) c).trans hx
  obtain ⟨cd, hy⟩ := ctxOf_reload (ctxOf_modCtx_same hxu (fun y => { y with job := none }))
  have hO2 : Only [.dev] u (reload c (modCtx c (fun y => { y with job := none }) u)) :=
    (only_modCtx _ _ _).trans (only_modCtx _ _ _)
  generalize reload c (modCtx c (fun y => { y with job := none }) u) = t at hsup hy hO2
  have hgo : go [c] s = s := by
    refine go_done ?_
    unfold stepTxn
    rw [hin.notSafe, hrun, hx]
    dsimp only
    rw [hb]
    cases hkind : x.kind with
    | wb w => exact absurd hkind (hk w)
    | _ => simp
  have hjr : jobRetry c s = t := by
    unfold jobRetry
    rw [hx]
    dsimp only
    rw [hjob]
    dsimp only
    rw [hin.notSafe, if_neg Bool.false_ne_true, hsup]
  have hldw : ldwRetry c t = t := by
    unfold ldwRetry
    rw [hy]
    simp [howed]
  have hop : opAllocRetry c s = t := by
    have h1 : fogRetry s = ([], s) := by rw [fogRetry, hfw]; rfl
    have h2 : drainRetry s = ([], s) := by rw [drainRetry, hw]; rfl
    unfold opAllocRetry
    rw [h1]
    dsimp only
    rw [h2]
    show ldwRetry c (jobRetry c (go [c] s)) = t
    rw [hgo, hjr, hldw]
  have hO := (hst.only.mono (l := [.regs, .sheet, .dev, .meter]) (by simp)).trans (hO2.mono (by simp))
  obtain ⟨hf, -⟩ := findEntry_only hways htag
  have hrec : recOf t x.eaLine = _ := recOf_found (w := 0)
    ((findEntry_congr (congrArg SheetSide.ways hO2.sheet) _).trans hf)
  refine ⟨t, _, exec_live (decide_eq_true hc) hin.1 hop hO.pending hO.aon, hy, rfl, ?_, ?_, ?_, hO⟩
  · rw [hrec]
    exact hlst
  · rw [hrec]
    exact hsv
  · rw [hrec]
    exact congrArg some htray

end Sys2Proof.Machine
end

section
/-! PROOFS. The SEND of a rule, and its completions (R185, R186, R188, R213). -/

namespace Sys2Proof.Machine

/-! ### The SEND of a rule -/

section
variable {s : State} {c sop : Nat} {x : Ctx} {r : InFlight} {args : BitVec 34} (h : SendReady s c x r sop args)
include h

theorem SendReady.rule : AtRule s c x r 1 := h.1
theorem SendReady.ctx : ctxOf s c = some x := h.rule.ctx
theorem SendReady.inFlight : x.inFlight = some r := h.rule.inFlight

theorem SendReady.noFault : sendFault s x.seen sop args = none := by
  obtain ⟨-, -, -, -, hf, -⟩ := h
  exact hf

/-- A SEND that neither waits nor traps takes effect, and the rule comes to its STEER (R172). -/
theorem atSend_acts (f : Ctx → State → State) : atSend c sop args f s = setStage c 2 (f x.seen s) := by
  obtain ⟨hr, hg, hsend, hw, hf, ho⟩ := h
  simp [atSend, hr.ctx, hr.inFlight, hr.moves, hg, hr.stage, hsend, hw, hf, ho]

/-- The command of a SEND: `u` is what the SEND makes of the state. -/
theorem exec_sends {u : State} (hu : ruleSend c sop args x.seen s = u) (hp : u.pending = s.pending) (ha : u.aon = s.aon) :
    onUnit (okCtx c) (live (opSend c sop args)) s = .next (setStage c 2 u) :=
  exec_live (decide_eq_true h.rule.unit) h.rule.awake ((atSend_acts h _).trans (by rw [hu])) hp ha

end

/-- The selector that four bits of the arguments give. -/
theorem argSel (args : BitVec 34) (lo : Nat) : BitVec.ofNat 4 (fld args lo 4) = BitVec.ofNat 4 (args.toNat / 2 ^ lo) := by
  rw [fld_eq]
  exact BitVec.eq_of_toNat_eq (by simp)

/-- The opcode of a message, the highest six bits of the arguments. -/
theorem argOpcode (args : BitVec 34) : fld args 28 6 = args.toNat / 2 ^ 28 := by
  rw [fld_eq]
  exact Nat.mod_eq_of_lt (by omega)

theorem seen_route (x : Ctx) : x.seen.agent = x.agent ∧ x.seen.req = x.req ∧ x.seen.line = x.line ∧ x.seen.deadline = x.deadline ∧
    x.seen.kind = x.kind := by
  unfold Ctx.seen
  split <;> exact ⟨rfl, rfl, rfl, rfl, rfl⟩

theorem selPair_agent {x : Ctx} {args : BitVec 34} {lo a : Nat} {tx : BitVec 12}
    (h : agentSel x (BitVec.ofNat 4 (args.toNat / 2 ^ lo)) = .agent a tx) : selPair x (fld args lo 4) = (a, tx) := by
  rw [selPair, argSel, h]

/-! ### Completions -/

theorem Ctx.form_zcl {x : Ctx} {p : Pend} (h : x.req = some p) (hp : p.cxl = none) : x.form = none := by rw [Ctx.form, h, ← hp]

/-- A CmpW, or another completion that carries no data and no ownership, to the requester of a ZCL REQ. -/
theorem ruleCpl_cmpW {c a : Nat} {x : Ctx} {tx : BitVec 12} {st : Status} {p : Pend} {s : State} (hn : NoCounter s)
    (hreq : x.req = some p) (hzcl : p.cxl = none) (hm : muted s a x.tray x.line.isSome = false) (hst : st ≠ .errAddr)
    (hq : s.home.reqs = [p]) : let t := ruleCpl c x .cmpW a tx st s
    t.tx = s.tx ++ [.rsp a .cmpW c tx st] ∧ t.home = { s.home with reqs := [{ p with processed := true }] } ∧
    Only [.home, .tx, .xbar, .meter] s t := by
  obtain ⟨h1, h2, -, h4⟩ := sendCpl_zcl hn a .cmpW c tx st (p.op.isRead && !x.isUpg) x.tray x.deadline
  have he : ruleCpl c x .cmpW a tx st s = modPend p.seq (fun q => { q with processed := true })
      (sendCpl a .cmpW c tx st none (p.op.isRead && !x.isUpg) x.tray x.deadline s) := by
    unfold ruleCpl
    rw [hreq, hm, Ctx.form_zcl hreq hzcl, ite_self]
    rfl
  intro t
  rw [show t = _ from he]
  generalize sendCpl a .cmpW c tx st none (p.op.isRead && !x.isUpg) x.tray x.deadline s = u at h1 h2 h4
  have hu : Only [.meter, .tx, .xbar] s u := (Only.of_regs_eq h2 (h4 hst)).mono (by simp)
  refine ⟨h1, ?_, (hu.mono (by simp)).trans ((only_updHome _ _).mono (by simp))⟩
  rw [modPend_only (by rw [hu.home]; exact hq), hu.home]

theorem useSource_zero (c : Nat) (x : Ctx) (s : State) : useSource c 3 x s = ({ data := 0, fog := false }, s) := rfl

/-- A completion with the data of ZERO, to the requester of a ZCL REQ that is no AtR. -/
theorem ruleDat_zero {c a : Nat} {x y : Ctx} {op : DatOp} {tx : BitVec 12} {st : Status} {args : BitVec 34} {p : Pend} {s : State}
    (hn : NoCounter s) (hsrc : fld args 12 2 = 3) (hreq : x.req = some p) (hzcl : p.cxl = none)
    (hm : muted s a x.tray x.line.isSome = false) (hk : x.kind ≠ .req .atr) (hy : ctxOf s c = some y) (hyq : y.req = some p)
    (hq : s.home.reqs = [p]) (hw : s.home.wslots = []) : let t := ruleDat c x op a tx st args s
    t.tx = s.tx ++ [.dat a op c tx (bitOf args 11) st x.deadline 0] ∧
    ctxOf t c = some { y with cplSent := true, cmpTimer := !owesAnswer y } ∧ (∀ k, k ≠ c → ctxOf t k = ctxOf s k) ∧
    t.home = { s.home with reqs := [{ p with processed := true }] } ∧ Only [.dev, .home, .tx, .xbar, .meter] s t := by
  have he : ∃ u, ruleDat c x op a tx st args s = trimSlots c (markSent c u) ∧
      u.tx = s.tx ++ [.dat a op c tx (bitOf args 11) st x.deadline 0] ∧ Only [.tx, .xbar, .meter] s u := by
    refine ⟨sendFrom (chanLane (chanNo s (x.line.getD 0))) x.deadline (.dat a op c tx (false || bitOf args 11) st x.deadline 0) s,
      ?_, tx_sendFrom _ _ _ _, only_sendFrom hn _ _ _⟩
    unfold ruleDat
    rw [hsrc, useSource_zero]
    dsimp only
    rw [hm, Ctx.form_zcl hreq hzcl, ite_self, if_neg (fun h => hk h.1)]
    rfl
  obtain ⟨u, hu, htx, hO⟩ := he
  have hyu : ctxOf u c = some y := (ctxOf_congr (congrArg DevSide.ctxs hO.dev) c).trans hy
  have hmark : markSent c u = modPend p.seq (fun q => { q with processed := true })
      (setCtx c { y with cplSent := true, cmpTimer := !owesAnswer y } u) := by
    unfold markSent
    rw [hyu]
    dsimp only
    rw [hyq]
  intro t
  rw [show t = _ from hu, hmark]
  have hO2 := only_setCtx c { y with cplSent := true, cmpTimer := !owesAnswer y } u
  have hx2 := ctxOf_setCtx_same c { y with cplSent := true, cmpTimer := !owesAnswer y } u
  have hx3 := fun k (hk : k ≠ c) => ctxOf_setCtx_ne hk { y with cplSent := true, cmpTimer := !owesAnswer y } u
  generalize setCtx c { y with cplSent := true, cmpTimer := !owesAnswer y } u = v at hO2 hx2 hx3
  have hvh : v.home = s.home := hO2.home.trans hO.home
  have hmod : (modPend p.seq (fun q => { q with processed := true }) v).home =
      { s.home with reqs := [{ p with processed := true }] } := by
    rw [modPend_only (by rw [hvh]; exact hq), hvh]
  have hO3 : Only [.home] v (modPend p.seq (fun q => { q with processed := true }) v) := only_updHome _ _
  generalize modPend p.seq (fun q => { q with processed := true }) v = w at hO3 hmod
  have hO4 : Only [.home] w (trimSlots c w) := only_updHome _ _
  have hctx : ∀ k, ctxOf (trimSlots c w) k = ctxOf v k := fun k => (ctxOf_congr (congrArg DevSide.ctxs (hO3.trans hO4).dev) k)
  refine ⟨by rw [(hO3.trans hO4).tx, hO2.tx, htx], by rw [hctx, hx2], fun k hk => ?_, ?_, ?_⟩
  · rw [hctx, hx3 k hk, ctxOf_congr (congrArg DevSide.ctxs hO.dev)]
  · rw [trimSlots, updHome_home, hmod]
    dsimp only
    rw [hw]
    rfl
  · exact (hO.mono (by simp)).trans ((hO2.mono (by simp)).trans ((hO3.trans hO4).mono (by simp)))

theorem owesAnswer_seen (x : Ctx) (r : InFlight) : owesAnswer (sent x r) = owesAnswer x := rfl

/-- The message of an opcode that names a completion or data. -/
theorem ruleSend_message {c a : Nat} {x : Ctx} {args : BitVec 34} {tx : BitVec 12} {st : Status} {s : State}
    (hs : agentSel x (BitVec.ofNat 4 (args.toNat / 2 ^ 24)) = .agent a tx)
    (hst : statusOfNum (args.toNat / 2 ^ 16 % 16) = some st) (hn : snpOfNum (args.toNat / 2 ^ 28) = none) :
    ruleSend c 1 args x s = match cplOfNum (args.toNat / 2 ^ 28), datOfNum (args.toNat / 2 ^ 28) with
      | some op, _ => ruleCpl c x op a tx st s
      | none, some op => ruleDat c x op a tx st args s
      | none, none => s := by
  show ruleMessage c args x s = _
  unfold ruleMessage
  dsimp only
  rw [selPair_agent hs, argOpcode, show fld args 16 4 = args.toNat / 2 ^ 16 % 16 from fld_eq _ _ _, hst, hn]
  dsimp only [Option.getD]
  cases cplOfNum (args.toNat / 2 ^ 28) with
  | some op => rfl
  | none => cases datOfNum (args.toNat / 2 ^ 28) <;> rfl

/-- Settles O35: each completion is one message, after which the REQ is marked as processed. -/
theorem completionsSent : Obligations.CompletionsSent := by
  intro c a tx st args p x r s h hn hs hst hne hag hreq hzcl hq hw hm
  obtain ⟨hagent, hreq', hline, hdl, hkind⟩ := seen_route x
  have hm' : muted s a x.seen.tray x.seen.line.isSome = false := by rw [seen_fields.2.1, hline]; exact hm
  refine ⟨fun hop => ?_, fun q hmem hop hsrc hk => ?_⟩
  · obtain ⟨h1, h2, h3⟩ := ruleCpl_cmpW (c := c) (tx := tx) hn (hreq'.trans hreq) hzcl hm' hne hq
    have hsend := ruleSend_message (c := c) (s := s) hs hst (by rw [hop]; rfl)
    rw [hop] at hsend
    have hu : ruleSend c 1 args x.seen s = ruleCpl c x.seen .cmpW a tx st s := hsend
    generalize ruleCpl c x.seen .cmpW a tx st s = u at hu h1 h2 h3
    have hxu : ∀ k, ctxOf u k = ctxOf s k := ctxOf_congr (congrArg DevSide.ctxs h3.dev)
    refine ⟨_, exec_sends h hu h3.pending h3.aon, h1, ?_, fun k hk => ?_, h2,
      (h3.mono (by simp)).trans ((only_setStage _ _ _).mono (by simp))⟩
    · rw [ctxOf_setStage ((hxu c).trans h.ctx) h.inFlight, sent]
    · rw [ctxOf_setStage_ne hk, hxu]
  · have hsrc' : fld args 12 2 = 3 := by rw [fld_eq]; exact hsrc
    obtain ⟨h1, h2, h3, h4, h5⟩ := ruleDat_zero (c := c) (op := q.2) (tx := tx) (st := st) hn hsrc' (hreq'.trans hreq) hzcl hm'
      (by rw [hkind]; exact hk) h.ctx hreq hq hw
    have hu : ruleSend c 1 args x.seen s = ruleDat c x.seen q.2 a tx st args s := by
      simp only [List.mem_cons, List.not_mem_nil, or_false] at hmem
      rcases hmem with rfl | rfl | rfl | rfl <;>
        (have := ruleSend_message (c := c) (s := s) hs hst (by rw [hop]; rfl); rw [hop] at this; exact this)
    generalize ruleDat c x.seen q.2 a tx st args s = u at hu h1 h2 h3 h4 h5
    refine ⟨_, exec_sends h hu h5.pending h5.aon, h1.trans (by rw [hdl]), ?_, fun k hk => ?_, h4,
      h5.trans ((only_setStage _ _ _).mono (by simp))⟩
    · rw [ctxOf_setStage h2 h.inFlight, sent]
    · rw [ctxOf_setStage_ne hk, h3 k hk]

end Sys2Proof.Machine
end

section
/-! PROOFS. The snoops that a rule sends (R33, R48, R92, R177, R185 to R187). -/

namespace Sys2Proof.Machine

theorem rd_funext {s t : State} (h : t.regs = s.regs) : rd t = rd s := funext fun o => rd_congr h o

theorem holdingWindow_congr {s t : State} (h : t.regs = s.regs) (a line : Nat) : holdingWindow t a line = holdingWindow s a line := by
  unfold holdingWindow windowOf rdf
  rw [rd_funext h]

theorem toAgentAddr_congr {s t : State} (h : t.regs = s.regs) (a line : Nat) : toAgentAddr t a line = toAgentAddr s a line := by
  unfold toAgentAddr
  rw [holdingWindow_congr h]
  unfold windowOf rdf
  rw [rd_funext h]

theorem serves_congr {s t : State} (hl : t.links = s.links) (h : t.regs = s.regs) (a : Nat) (tray : Option Nat) (line : Nat) :
    serves t a tray line = serves s a tray line := by
  unfold serves isMember
  rw [detached_congr hl, holdingWindow_congr h, rd_funext h]

/-! ### One snoop -/

/-- What a snoop that goes out changes in its context: the answer owed, the claim of the DatH buffer, the staging space (R177, R187). -/
def snooping (a : Nat) (op : SnpOp) (rq : Nat) (y : Ctx) : Ctx :=
  let y := { y with owed := y.owed ++ [.ans a op false true] }
  let y := if op = .h ∨ op = .c then { y with hclaim := some a, hbuf := none } else y
  if op = .fs ∨ op = .fx then { y with staging := some (portOutput rq) } else y

/-- The message of a snoop: a Back-Invalidate snoop to a CXL-G6 host (R48). -/
def snoopMsg (s : State) (c a : Nat) (op : SnpOp) (rq : Nat × BitVec 12) (fgr : Nat) (x : Ctx) : TxMsg :=
  if isG6 s a then .biSnp a (biOf op) c (toAgentAddr s a x.eaLine)
  else .snp a op c rq.1 rq.2 fgr (toAgentAddr s a x.eaLine) x.deadline

theorem snoopMsg_congr {s t : State} (h : t.regs = s.regs) (c a : Nat) (op : SnpOp) (rq : Nat × BitVec 12) (fgr : Nat) (x : Ctx) :
    snoopMsg t c a op rq fgr x = snoopMsg s c a op rq fgr x := by
  rw [snoopMsg, snoopMsg, isG6_congr h, toAgentAddr_congr h]

/-- The state before the message leaves. -/
def snoopBooked (c a : Nat) (op : SnpOp) (rq : Nat) (s : State) : State :=
  let s := oweMore c (.ans a op false true) (holdSlots c a s)
  let s := if op = .h ∨ op = .c then modCtx c (fun y => { y with hclaim := some a, hbuf := none }) s else s
  if op = .fs ∨ op = .fx then modCtx c (fun y => { y with staging := some (portOutput rq) }) s else s

theorem ctxOf_ite_modCtx {c : Nat} {x : Ctx} {s : State} (h : ctxOf s c = some x) (p : Prop) [Decidable p] (f : Ctx → Ctx) :
    ctxOf (if p then modCtx c f s else s) c = some (if p then f x else x) := by
  split
  · exact ctxOf_modCtx_same h f
  · exact h

/-- A condition for which a change of one context is made leaves the rest. -/
theorem ite_modCtx_frame (c : Nat) (s : State) (p : Prop) [Decidable p] (f : Ctx → Ctx) :
    Only [.dev] s (if p then modCtx c f s else s) ∧ ∀ k, k ≠ c → ctxOf (if p then modCtx c f s else s) k = ctxOf s k := by
  split
  · exact ⟨only_modCtx _ _ _, fun k hk => ctxOf_modCtx_ne hk _ _⟩
  · exact ⟨Only.refl _ s, fun _ _ => rfl⟩

theorem snoopBooked_frame {c a : Nat} {op : SnpOp} {rq : Nat} {x : Ctx} {s : State} (hx : ctxOf s c = some x) :
    let t := snoopBooked c a op rq s
    ctxOf t c = some (snooping a op rq x) ∧ (∀ k, k ≠ c → ctxOf t k = ctxOf s k) ∧ t.home = (holdSlots c a s).home ∧
    Only [.dev, .home] s t := by
  have h0 : Only [.home] s (holdSlots c a s) := only_updHome _ _
  have hx0 : ∀ k, ctxOf (holdSlots c a s) k = ctxOf s k := ctxOf_congr (congrArg DevSide.ctxs h0.dev)
  have h1 : Only [.dev] (holdSlots c a s) (oweMore c (.ans a op false true) (holdSlots c a s)) := only_modCtx _ _ _
  have hx1 : ctxOf (oweMore c (.ans a op false true) (holdSlots c a s)) c =
      some { x with owed := x.owed ++ [.ans a op false true] } := ctxOf_modCtx_same ((hx0 c).trans hx) _
  have hk1 : ∀ k, k ≠ c → ctxOf (oweMore c (.ans a op false true) (holdSlots c a s)) k = ctxOf s k := fun k hk =>
    (ctxOf_modCtx_ne hk _ _).trans (hx0 k)
  intro t
  have ht : t = snoopBooked c a op rq s := rfl
  unfold snoopBooked at ht
  dsimp only at ht
  have hh : (oweMore c (.ans a op false true) (holdSlots c a s)).home = (holdSlots c a s).home := h1.home
  generalize (holdSlots c a s).home = hm at hh ⊢
  generalize oweMore c (.ans a op false true) (holdSlots c a s) = u at ht h1 hx1 hk1 hh
  have hO1 : Only [.dev, .home] s u := (h0.mono (by simp)).trans (h1.mono (by simp))
  obtain ⟨g1, g2⟩ := ite_modCtx_frame c u (op = .h ∨ op = .c) (fun y => { y with hclaim := some a, hbuf := none })
  have g3 := ctxOf_ite_modCtx hx1 (op = .h ∨ op = .c) (fun y => { y with hclaim := some a, hbuf := none })
  generalize (if op = .h ∨ op = .c then modCtx c (fun y => { y with hclaim := some a, hbuf := none }) u else u) = v at ht g1 g2 g3
  obtain ⟨e1, e2⟩ := ite_modCtx_frame c v (op = .fs ∨ op = .fx) (fun y => { y with staging := some (portOutput rq) })
  have e3 := ctxOf_ite_modCtx g3 (op = .fs ∨ op = .fx) (fun y => { y with staging := some (portOutput rq) })
  rw [← ht] at e1 e2 e3
  exact ⟨e3, fun k hk => by rw [e2 k hk, g2 k hk, hk1 k hk], by rw [e1.home, g1.home, hh], hO1.trans ((g1.trans e1).mono (by simp))⟩

/-- A snoop to an agent that serves the line. -/
theorem ruleSnoop_serves {c a fgr : Nat} {op : SnpOp} {rq : Nat × BitVec 12} {x : Ctx} {s : State} (hn : NoCounter s)
    (hx : ctxOf s c = some x) (hs : serves s a x.tray x.eaLine = true) : let t := ruleSnoop c a op rq fgr s
    t.tx = s.tx ++ [snoopMsg s c a op rq fgr x] ∧ ctxOf t c = some (snooping a op rq.1 x) ∧
    (∀ k, k ≠ c → ctxOf t k = ctxOf s k) ∧ t.home = (holdSlots c a s).home ∧ Only [.dev, .home, .tx, .xbar, .meter] s t := by
  obtain ⟨h1, h2, h3, h4⟩ := snoopBooked_frame (a := a) (op := op) (rq := rq.1) hx
  have he : ruleSnoop c a op rq fgr s = send x.deadline (snoopMsg (snoopBooked c a op rq.1 s) c a op rq fgr x)
      (snoopBooked c a op rq.1 s) := by
    unfold ruleSnoop
    rw [hx]
    dsimp only
    rw [hs, if_neg (by simp)]
    unfold snoopMsg
    rw [apply_ite (fun m => send x.deadline m (snoopBooked c a op rq.1 s))]
    rfl
  intro t
  rw [show t = _ from he, snoopMsg_congr h4.regs]
  generalize snoopBooked c a op rq.1 s = u at h1 h2 h3 h4
  generalize (holdSlots c a s).home = hm at h3 ⊢
  have hO := only_send (noCounter_of hn h4) x.deadline (snoopMsg s c a op rq fgr x)
  have htx := tx_send x.deadline (snoopMsg s c a op rq fgr x) u
  generalize send x.deadline (snoopMsg s c a op rq fgr x) u = v at hO htx
  have hxv : ∀ k, ctxOf v k = ctxOf u k := ctxOf_congr (congrArg DevSide.ctxs hO.dev)
  exact ⟨by rw [htx, h4.tx], (hxv c).trans h1, fun k hk => (hxv k).trans (h2 k hk), by rw [hO.home, h3],
    (h4.mono (by simp)).trans (hO.mono (by simp))⟩

/-- A snoop to an agent that does not serve the line, in a context whose rule is in flight: RspI is among its events at once (R92). -/
theorem ruleSnoop_answered {c a fgr : Nat} {op : SnpOp} {rq : Nat × BitVec 12} {x : Ctx} {r : InFlight} {s : State}
    (hx : ctxOf s c = some x) (hr : x.inFlight = some r) (hst : x.st = .run) (hs : serves s a x.tray x.eaLine = false) :
    let t := ruleSnoop c a op rq fgr s
    ctxOf t c = some { x with
      owed := x.owed ++ [.ans a op false false], events := x.events ++ [eventFor x c a 0x20#6 a 0x20] } ∧
    (∀ k, k ≠ c → ctxOf t k = ctxOf s k) ∧ Only [.dev] s t := by
  have hx1 : ctxOf (oweMore c (.ans a op false false) s) c = some { x with owed := x.owed ++ [.ans a op false false] } :=
    ctxOf_modCtx_same hx _
  have h1 : Only [.dev] s (oweMore c (.ans a op false false) s) := only_modCtx _ _ _
  have hk1 : ∀ k, k ≠ c → ctxOf (oweMore c (.ans a op false false) s) k = ctxOf s k := fun k hk => ctxOf_modCtx_ne hk _ _
  have he : ruleSnoop c a op rq fgr s = setCtx c { x with
      owed := x.owed ++ [.ans a op false false], events := x.events ++ [eventFor x c a 0x20#6 a 0x20] }
      (oweMore c (.ans a op false false) s) := by
    unfold ruleSnoop
    rw [hx]
    dsimp only
    rw [hs, Bool.not_false, if_pos rfl]
    unfold postEvent
    rw [show (eventFor x c a 0x20#6 a 0x20).ctx = c from rfl, hx1]
    dsimp only
    have hidle : idles (oweMore c (.ans a op false false) s) c { x with owed := x.owed ++ [.ans a op false false] } = false := by
      simp [idles, hst, hr]
    rw [hidle]
    rfl
  intro t
  rw [show t = _ from he]
  exact ⟨ctxOf_setCtx_same _ _ _, fun k hk => (ctxOf_setCtx_ne hk _ _).trans (hk1 k hk), h1.trans (only_setCtx _ _ _)⟩

/-! ### SNPV -/

theorem snooping_i (a rq : Nat) (y : Ctx) : snooping a .i rq y = { y with owed := y.owed ++ [.ans a .i false true] } := by
  simp [snooping]

/-- SnpI to every agent of a list, each of which serves the line. -/
theorem snpv_frame {c : Nat} (l : List Nat) : ∀ {x : Ctx} {s : State}, NoCounter s → ctxOf s c = some x →
    (∀ a ∈ l, serves s a x.tray x.eaLine = true ∧ isG6 s a = false) →
    let t := l.foldl (fun s a => ruleSnoop c a .i (0, 0) 0 s) s
    t.tx = s.tx ++ l.map (fun a => .snp a .i c 0 0 0 (toAgentAddr s a x.eaLine) x.deadline) ∧
    ctxOf t c = some { x with owed := x.owed ++ l.map (fun a => .ans a .i false true) } ∧
    (∀ k, k ≠ c → ctxOf t k = ctxOf s k) ∧ t.home = { s.home with wslots := t.home.wslots } ∧
    Only [.dev, .home, .tx, .xbar, .meter] s t := by
  induction l with
  | nil =>
    intro x s _ hx _
    exact ⟨(List.append_nil _).symm, by simpa using hx, fun _ _ => rfl, rfl, Only.refl _ s⟩
  | cons a l ih =>
    intro x s hn hx hl
    obtain ⟨hs, hg⟩ := hl a List.mem_cons_self
    obtain ⟨h1, h2, h3, h4, h5⟩ := ruleSnoop_serves (fgr := 0) (op := .i) (rq := (0, 0)) hn hx hs
    have hmsg : snoopMsg s c a .i (0, 0) 0 x = .snp a .i c 0 0 0 (toAgentAddr s a x.eaLine) x.deadline := by
      rw [snoopMsg, hg]
      rfl
    have hh : (holdSlots c a s).home = { s.home with wslots := (holdSlots c a s).home.wslots } := rfl
    rw [snooping_i] at h2
    rw [hmsg] at h1
    rw [List.foldl_cons]
    generalize ruleSnoop c a .i (0, 0) 0 s = u at h1 h2 h3 h4 h5
    have hu : ∀ b ∈ l, serves u b x.tray x.eaLine = true ∧ isG6 u b = false := fun b hb => by
      rw [serves_congr h5.links h5.regs, isG6_congr h5.regs]
      exact hl b (List.mem_cons_of_mem _ hb)
    obtain ⟨g1, g2, g3, g4, g5⟩ := ih (noCounter_of hn h5) h2 hu
    refine ⟨?_, ?_, fun k hk => (g3 k hk).trans (h3 k hk), ?_, h5.trans g5⟩
    · rw [g1, h1, List.append_assoc, List.map_cons]
      simp only [toAgentAddr_congr h5.regs]
      rfl
    · rw [g2]
      simp
    · rw [g4, h4, hh]

/-! ### O34 -/

theorem AtRule.st {c n : Nat} {x : Ctx} {r : InFlight} {s : State} (h : AtRule s c x r n) : x.st = .run := by
  obtain ⟨_, _, _, _, _, hst, _⟩ := h
  exact hst

/-- The SEND of a snoop's opcode. -/
theorem ruleSend_snoop {c a : Nat} {x : Ctx} {args : BitVec 34} {tx : BitVec 12} {op : SnpOp} {s : State}
    (hs : agentSel x (BitVec.ofNat 4 (args.toNat / 2 ^ 24)) = .agent a tx) (hn : snpOfNum (args.toNat / 2 ^ 28) = some op) :
    ruleSend c 1 args x s = ruleSnoop c a op (if op = .fs ∨ op = .fx then selPair x (fld args 20 4) else (0, 0))
      (if op = .fs ∨ op = .fx then fld args 14 2 else 0) s := by
  show ruleMessage c args x s = _
  unfold ruleMessage
  dsimp only
  rw [selPair_agent hs, argOpcode, hn]

/-- The context after a snoop's SEND. -/
theorem sent_snooping {c a rq : Nat} {op : SnpOp} {x : Ctx} {r : InFlight} {u : State} (hx : ctxOf u c = some (snooping a op rq x))
    (hr : x.inFlight = some r) : ctxOf (setStage c 2 u) c = some (snooping a op rq (sent x r)) := by
  rw [ctxOf_setStage hx (r := r)]
  · cases op <;> rfl
  · cases op <;> exact hr

/-- The command of a snoop to an agent that serves the line. -/
theorem exec_snoops {c a : Nat} {args : BitVec 34} {tx : BitVec 12} {op : SnpOp} {x : Ctx} {r : InFlight} {s : State}
    (h : SendReady s c x r 1 args) (hn : NoCounter s) (hsel : agentSel x.seen (BitVec.ofNat 4 (args.toNat / 2 ^ 24)) = .agent a tx)
    (hop : snpOfNum (args.toNat / 2 ^ 28) = some op) (hserv : serves s a x.tray x.eaLine = true) {rq : Nat × BitVec 12} {fgr : Nat}
    (hrq : (if op = .fs ∨ op = .fx then selPair x.seen (fld args 20 4) else (0, 0)) = rq)
    (hfgr : (if op = .fs ∨ op = .fx then fld args 14 2 else 0) = fgr) :
    ∃ t, exec (.send c 1 args) s = .next t ∧ t.tx = s.tx ++ [snoopMsg s c a op rq fgr x] ∧
      ctxOf t c = some (snooping a op rq.1 (sent x r)) ∧ (∀ k, k ≠ c → ctxOf t k = ctxOf s k) ∧
      t.home = (holdSlots c a s).home ∧ Only [.dev, .home, .tx, .xbar, .meter] s t := by
  obtain ⟨h1, h2, h3, h4, h5⟩ := ruleSnoop_serves (op := op) (rq := rq) (fgr := fgr) hn h.ctx hserv
  have hu := ruleSend_snoop (c := c) (s := s) hsel hop
  rw [hrq, hfgr] at hu
  generalize ruleSnoop c a op rq fgr s = u at hu h1 h2 h3 h4 h5
  exact ⟨_, exec_sends h hu h5.pending h5.aon, h1, sent_snooping h2 h.inFlight,
    fun k hk => (ctxOf_setStage_ne hk _).trans (h3 k hk), h4, h5.trans ((only_setStage _ _ _).mono (by simp))⟩

/-- Settles O34: a snoop is booked in its context and sent, or answered at once; SNPV is a fold over its agents. -/
theorem snoopsSent : Obligations.SnoopsSent := by
  intro c args x r s hn line kept
  refine ⟨fun a tx h hsel => ⟨fun q hq hop hserv => ?_, fun q hq b bx hop hserv hg hb => ?_, fun hop hserv => ?_⟩,
    fun h l hl hall => ?_⟩
  · have hsnp : snpOfNum (args.toNat / 2 ^ 28) = some q.2 ∧ ¬ (q.2 = .fs ∨ q.2 = .fx) := by
      rw [hop]
      simp only [List.mem_cons, List.not_mem_nil, or_false] at hq
      rcases hq with rfl | rfl | rfl <;> exact ⟨rfl, by decide⟩
    obtain ⟨t, h1, h2, h3, h4, h5, h6⟩ := exec_snoops h hn hsel hsnp.1 hserv (if_neg hsnp.2) (if_neg hsnp.2)
    refine ⟨t, h1, h2.trans ?_, h3.trans ?_, h4, h5, h6⟩
    · simp only [List.mem_cons, List.not_mem_nil, or_false] at hq
      rcases hq with rfl | rfl | rfl <;> rfl
    · simp only [List.mem_cons, List.not_mem_nil, or_false] at hq
      rcases hq with rfl | rfl | rfl <;> rfl
  · have hsnp : snpOfNum (args.toNat / 2 ^ 28) = some q.2 ∧ (q.2 = .fs ∨ q.2 = .fx) := by
      rw [hop]
      simp only [List.mem_cons, List.not_mem_nil, or_false] at hq
      rcases hq with rfl | rfl <;> exact ⟨rfl, by decide⟩
    obtain ⟨t, h1, h2, h3, h4, h5, h6⟩ := exec_snoops (rq := (b, bx)) (fgr := args.toNat / 2 ^ 14 % 4) h hn hsel hsnp.1 hserv
      ((if_pos hsnp.2).trans (selPair_agent hb)) ((if_pos hsnp.2).trans (fld_eq _ _ _))
    refine ⟨t, h1, h2.trans ?_, h3.trans ?_, h4, h5, h6⟩
    · rw [snoopMsg, hg]
      rfl
    · simp only [List.mem_cons, List.not_mem_nil, or_false] at hq
      rcases hq with rfl | rfl <;> rfl
  · have hu := ruleSend_snoop (c := c) (s := s) hsel (op := .i) (by rw [hop]; rfl)
    obtain ⟨h1, h2, h3⟩ := ruleSnoop_answered (c := c) (a := a) (op := .i) (rq := (0, 0)) (fgr := 0) h.ctx h.inFlight h.rule.st hserv
    have hu : ruleSend c 1 args x.seen s = ruleSnoop c a .i (0, 0) 0 s := hu
    generalize ruleSnoop c a .i (0, 0) 0 s = u at hu h1 h2 h3
    exact ⟨_, exec_sends h hu h3.pending h3.aon, ctxOf_setStage h1 h.inFlight,
      fun k hk => (ctxOf_setStage_ne hk _).trans (h2 k hk), h3.trans (only_setStage _ _ _)⟩
  · obtain ⟨h1, h2, h3, h4, h5⟩ := snpv_frame l hn h.ctx hall
    have hu : ruleSend c 2 args x.seen s = l.foldl (fun s a => ruleSnoop c a .i (0, 0) 0 s) s := by
      rw [← hl]
      rfl
    generalize l.foldl (fun s a => ruleSnoop c a .i (0, 0) 0 s) s = u at hu h1 h2 h3 h4 h5
    exact ⟨_, exec_sends h hu h5.pending h5.aon, h1, ctxOf_setStage h2 h.inFlight,
      fun k hk => (ctxOf_setStage_ne hk _).trans (h3 k hk), h4, h5.trans ((only_setStage _ _ _).mono (by simp))⟩

end Sys2Proof.Machine
end

section
/-! PROOFS. A line becomes FOGGED; FOG, CTR and STPB, and the completion of a stop bath (R190, R191, R213 to R215, R316, R327). -/

namespace Sys2Proof.Machine

/-! ### A line becomes FOGGED -/

theorem noCounter_psWrite {s : State} (h : NoCounter s) (c : Cause) (k : Class) (r : PsRec) : NoCounter (psWrite c k r s) := by
  have hps : ∀ q w, w < 8 → inRow (oPs (q % 32) w) 0x341000 4 256 = false := fun q w hw => by
    rw [← Bool.not_eq_true, inRow_iff]
    unfold oPs
    omega
  have hw : ∀ (t : State) (q w : Nat) (v : W64), w < 8 → NoCounter t → NoCounter (wr t (oPs (q % 32) w) v) :=
    fun t q w v hw ht => ht.wr (hps q w hw)
  unfold psWrite
  refine NoCounter.wr ?_ (by decide)
  iterate 8 refine hw _ _ _ _ (by decide) ?_
  exact h

/-- A cause below class GF configures no counter. -/
theorem noCounter_raise {c : Cause} (hc : c.cls ≠ .gf) {u : Nat} (hu : u < 32) (r : PsRec) {s : State} (h : NoCounter s) :
    NoCounter (raise c u r s) := by
  obtain ⟨h1, h2⟩ := causeReg_range (c := c) hu
  have h0 : NoCounter (setCause c u s) := h.wr (by rw [← Bool.not_eq_true, inRow_iff]; omega)
  have hcount : NoCounter (classCount c (setCause c u s)) := by
    unfold classCount
    cases c.cls with
    | none => exact h0
    | ce => exact h0.wr (by decide)
    | de => exact h0.wr (by decide)
    | lf => exact h0.wr (by decide)
    | gf => exact h0.wr (by decide)
  rw [raise_eq]
  unfold classAct
  cases hcls : c.cls with
  | none => exact hcount
  | ce => exact hcount
  | de => exact noCounter_psWrite hcount _ _ _
  | lf => exact noCounter_psWrite hcount _ _ _
  | gf => exact absurd hcls hc

theorem fogged_not_idle (e : Entry) (k own : Nat) (extra : BitVec 32) : isIdle (applyUpdate e k .fogged own extra) = false ∧
    (applyUpdate e k .fogged own extra).lst.get k = .fogged := by
  have hget : (applyUpdate e k .fogged own extra).lst.get k = .fogged := by
    rw [(applyUpdate_lst e k .fogged own extra).1]
    exact Quad.get_set_same _ _ _
  refine ⟨Bool.eq_false_iff.2 fun hi => ?_, hget⟩
  rw [isIdle_get hi] at hget
  cases hget

/-- A record set FOGGED leaves every register alone: its entry is not idle (R115). -/
theorem only_setRec_fogged {s : State} {line w : Nat} {e : Entry} (hn : NoCounter s) (h : OneEntry s (line / 4) w e) (own : Nat)
    (extra : BitVec 32) : Only [.sheet, .meter] s (setRec line .fogged own extra s) := by
  obtain ⟨hidle, -⟩ := fogged_not_idle e (line % 4) own extra
  have heq : setRec line .fogged own extra s = countFog (e.lst.get (line % 4)) .fogged (some e.tray)
      (putWay (wayKey (bankOf (line / 4)) (setOf (line / 4)) w) (some (applyUpdate e (line % 4) .fogged own extra)) s) := by
    unfold setRec storeEntry
    dsimp only
    rw [findEntry_one h]
    dsimp only
    rw [hidle]
    rfl
  have h1 : Only [.sheet] s (putWay (wayKey (bankOf (line / 4)) (setOf (line / 4)) w)
      (some (applyUpdate e (line % 4) .fogged own extra)) s) := by simp [only_iff, putWay]
  rw [heq]
  generalize putWay (wayKey (bankOf (line / 4)) (setOf (line / 4)) w) (some (applyUpdate e (line % 4) .fogged own extra)) s = u at h1
  refine (h1.mono (by simp)).trans ?_
  unfold countFog
  split
  · exact (only_count (noCounter_of hn h1) _ _ _).mono (by simp)
  · exact Only.refl _ u

/-- The line's sector has an entry in which the line is FOGGED. -/
def FogEntry (line : Nat) (s : State) : Prop := ∃ w e, OneEntry s (line / 4) w e ∧ e.lst.get (line % 4) = .fogged

theorem FogEntry.lst {line : Nat} {s : State} (h : FogEntry line s) : (recOf s line).lst = .fogged := by
  obtain ⟨w, e, h1, h2⟩ := h
  rw [recOf_found (findEntry_one h1)]
  exact h2

theorem FogEntry.congr {line : Nat} {s t : State} (h : FogEntry line s) (hs : t.sheet.ways = s.sheet.ways) : FogEntry line t := by
  obtain ⟨w, e, h1, h2⟩ := h
  exact ⟨w, e, oneEntry_congr hs h1, h2⟩

/-- The line is FOGGED under a cause of class DE: the record, the cause, the count, and nothing else. -/
structure FoggedBy (line : Nat) (k : Cause) (s t : State) : Prop where
  lst : (recOf t line).lst = .fogged
  entry : FogEntry line t
  caused : Caused t k 0
  counted : rd t 0x010024 = satInc32 (rd s 0x010024)
  others : line < 2 ^ 36 → ∀ j, j < 2 ^ 36 → j ≠ line → (recOf t j).lst = (recOf s j).lst
  noCounter : NoCounter t
  regs : RegsOnly (fun o => o = causeReg k.domain 0 ∨ ClassReg o) s t
  only : Only [.regs, .sheet, .meter] s t

theorem foggedBy {s : State} {line w : Nat} {e : Entry} {k : Cause} (hn : NoCounter s) (h : OneEntry s (line / 4) w e)
    (hk : k.cls = .de) (r : PsRec) : FoggedBy line k s (setRec line .fogged 0 0 (raise k 0 r s)) := by
  have hgf : k.cls ≠ .gf := by rw [hk]; decide
  have h1 := only_raise_regs hgf 0 r s
  have h2 := noCounter_raise hgf (u := 0) (by decide) r hn
  have h3 := caused_raise k (u := 0) (by decide) r s
  have h4 := rd_raise_counter (c := k) (o := 0x010024) (u := 0) (by rw [hk]; rfl) (by decide) r s
  have h5 := regsOnly_raise k 0 r s
  generalize raise k 0 r s = u at h1 h2 h3 h4 h5
  have hu : OneEntry u (line / 4) w e := oneEntry_congr (congrArg SheetSide.ways h1.sheet) h
  obtain ⟨g1, -, g3⟩ := setRec_records h2 hu .fogged 0 0 (fun h => by cases h)
  have g4 := only_setRec_fogged h2 hu 0 0
  obtain ⟨hidle, hget⟩ := fogged_not_idle e (line % 4) 0 0
  have g5 := (setRec_frame h2 hu .fogged 0 0).one _ (by rw [hidle]; rfl)
  exact ⟨g1, ⟨w, _, g5, hget⟩, (caused_congr g4.regs k 0).2 h3, by rw [rd_congr g4.regs, h4],
    fun hl j hj hne => by rw [g3 hl j hj hne, recOf_sheet h1.sheet], noCounter_of h2 g4,
    h5.trans (regsOnly_of_regs g4.regs), (h1.mono (by simp)).trans (g4.mono (by simp))⟩

theorem ensureEntry_found {s : State} {line w : Nat} {e : Entry} (h : OneEntry s (line / 4) w e) (tray : Nat) :
    ensureEntry line tray s = some ([], s) := by
  unfold ensureEntry
  dsimp only
  rw [findEntry_one h]
  rfl

/-! ### FOG -/

theorem fogCause_cls {n : Nat} {k : Cause} (h : fogCause n = some k) : k.cls = .de := by
  unfold fogCause at h
  split at h <;> cases h <;> rfl

theorem noteDirty_frame (k : Cause) (r : Rec) (s : State) : Only [.sheet] s (noteDirty k r s) ∧
    (noteDirty k r s).sheet.ways = s.sheet.ways ∧ (noteDirty k r s).sheet.evSlots = s.sheet.evSlots := by
  unfold noteDirty
  split
  · exact ⟨only_updSheet _ s, rfl, rfl⟩
  · exact ⟨Only.refl _ s, rfl, rfl⟩

theorem sheetCopy_congr {s t : State} (hw : t.sheet.ways = s.sheet.ways) (he : t.sheet.evSlots = s.sheet.evSlots) (line : Nat) :
    sheetCopy t line = sheetCopy s line := by
  unfold sheetCopy heldEntry evictOf
  rw [findEntry_congr hw, he]

/-- The context's copy of the sheet's entry after its line was fogged. -/
theorem reload_copy {c line : Nat} {y : Ctx} {s : State} (hy : ctxOf s c = some y) :
    let t := if line / 4 = y.eaLine / 4 then reload c s else s
    (∃ z, ctxOf t c = some z ∧ z.job = y.job ∧ z.inFlight = y.inFlight ∧
      (line / 4 = y.eaLine / 4 → (z.sv, z.so, z.ss) = sheetCopy t y.eaLine)) ∧
    (∀ k, k ≠ c → ctxOf t k = ctxOf s k) ∧ Only [.dev] s t := by
  dsimp only
  split
  · obtain ⟨cd, hz⟩ := ctxOf_reload hy
    exact ⟨⟨_, hz, rfl, rfl, fun _ => rfl⟩, fun k hk => ctxOf_modCtx_ne hk _ _, only_modCtx _ _ _⟩
  · next h => exact ⟨⟨y, hy, rfl, rfl, fun h' => absurd h' h⟩, fun _ _ => rfl, Only.refl _ s⟩

/-- FOG of a line whose sector has an entry, and which is not FOGGED. -/
theorem fogRun_frame {c line code w : Nat} {k : Cause} {x y : Ctx} {e : Entry} {s : State} (hn : NoCounter s) (hy : ctxOf s c = some y)
    (hxy : x.eaLine = y.eaLine) (h : OneEntry s (line / 4) w e) (hl : (recOf s line).lst ≠ .fogged) (hk : fogCause code = some k) :
    let t := fogRun c line code x s
    (recOf t line).lst = .fogged ∧ Caused t k 0 ∧ rd t 0x010024 = satInc32 (rd s 0x010024) ∧
    (line < 2 ^ 36 → ∀ j, j < 2 ^ 36 → j ≠ line → (recOf t j).lst = (recOf s j).lst) ∧ (∀ j, j ≠ c → ctxOf t j = ctxOf s j) ∧
    (∃ z, ctxOf t c = some z ∧ z.job = none ∧ z.inFlight = y.inFlight ∧
      (line / 4 = y.eaLine / 4 → (z.sv, z.so, z.ss) = sheetCopy t y.eaLine)) ∧
    Only [.regs, .sheet, .dev, .meter] s t := by
  have h0 : Only [.dev] s (modCtx c (fun y => { y with job := none }) s) := only_modCtx _ _ _
  have hy0 : ctxOf (modCtx c (fun y => { y with job := none }) s) c = some { y with job := none } := ctxOf_modCtx_same hy _
  have hk0 : ∀ j, j ≠ c → ctxOf (modCtx c (fun y => { y with job := none }) s) j = ctxOf s j := fun j hj => ctxOf_modCtx_ne hj _ _
  intro t
  have ht : t = fogRun c line code x s := rfl
  unfold fogRun at ht
  dsimp only at ht
  generalize modCtx c (fun y => { y with job := none }) s = u at h0 hy0 hk0 ht
  have hu : OneEntry u (line / 4) w e := oneEntry_congr (congrArg SheetSide.ways h0.sheet) h
  rw [if_neg hl, ensureEntry_found hu, hk] at ht
  dsimp only [Option.getD] at ht
  rw [go_nil, hxy] at ht
  have hf := foggedBy (noCounter_of hn h0) hu (fogCause_cls hk)
    (lineRec u line (some c) (if (recOf s line).lst.owned then some (recOf s line).own else none))
  generalize setRec line .fogged 0 0 _ = v at hf ht
  obtain ⟨g1, g2, g3⟩ := noteDirty_frame k (recOf s line) v
  generalize noteDirty k (recOf s line) v = q at g1 g2 g3 ht
  have hyq : ctxOf q c = some { y with job := none } := (ctxOf_congr (congrArg DevSide.ctxs (g1.dev.trans hf.only.dev)) c).trans hy0
  obtain ⟨⟨z, hz1, hz2, hz3, hz4⟩, hz5, hz6⟩ := reload_copy (line := line) hyq
  rw [show ({ y with job := none } : Ctx).eaLine = y.eaLine from rfl, ← ht] at hz1 hz4
  rw [show ({ y with job := none } : Ctx).eaLine = y.eaLine from rfl, ← ht] at hz5 hz6
  have hrec : ∀ j, recOf t j = recOf v j := fun j =>
    (recOf_sheet hz6.sheet j).trans (recOf_congr (findEntry_congr g2 _) g3)
  have hreg : t.regs = v.regs := hz6.regs.trans g1.regs
  refine ⟨by rw [hrec]; exact hf.lst, (caused_congr hreg k 0).2 hf.caused, ?_, fun hline j hj hne => ?_, fun j hj => ?_,
    ⟨z, hz1, hz2, hz3, hz4⟩, ?_⟩
  · rw [rd_congr hreg, hf.counted, rd_congr h0.regs]
  · rw [hrec, hf.others hline j hj hne, recOf_sheet h0.sheet]
  · rw [hz5 j hj, ctxOf_congr (congrArg DevSide.ctxs (g1.dev.trans hf.only.dev)), hk0 j hj]
  · exact (h0.mono (by simp)).trans ((hf.only.mono (by simp)).trans ((g1.mono (by simp)).trans (hz6.mono (by simp))))

/-! ### CTR -/

/-- A counter whose MODE is a plain count. -/
theorem ctrAdd_plain {s : State} {c : Nat} (h : fld (rd s (oCtrCfg c)) 24 2 = 0) (n : Nat) :
    rd (ctrAdd c n s) (oCtrVal c) = rd s (oCtrVal c) + w64 n ∧ RegsOnly (· = oCtrVal c) s (ctrAdd c n s) ∧
    Only [.regs] s (ctrAdd c n s) := by
  unfold ctrAdd
  split
  · next h0 =>
    rw [h0]
    exact ⟨(BitVec.add_zero _).symm, RegsOnly.refl _ s, Only.refl _ s⟩
  · rw [h]
    exact ⟨rd_wr_same _ _ _, regsOnly_wr _ _ rfl, only_wr _ _ _⟩

/-! ### Stop baths -/

/-- A stop bath's status: FOGGED for the first to complete after a drop that it covers (R215). -/
theorem bathStatus_frame (a : Nat) (p : Pend) (s : State) :
    (bathStatus a p s).1 = (if s.home.bathFog.any (fun q => decide (q.1 = a) && decide (q.2 < p.seq)) then .fogged else .ok) ∧
    Only [.home] s (bathStatus a p s).2 ∧ (bathStatus a p s).2.home.reqs = s.home.reqs ∧
    ∀ q ∈ (bathStatus a p s).2.home.bathFog, q.1 = a → p.seq ≤ q.2 := by
  refine ⟨rfl, only_updHome _ s, rfl, fun q hq ha => ?_⟩
  have h := (List.mem_filter.1 hq).2
  simp [ha] at h
  omega

/-- A completion marked as sent: the context, and its REQ in the buffer (R213). -/
theorem markSent_frame {c : Nat} {x : Ctx} {p : Pend} {s : State} (hx : ctxOf s c = some x) (hr : x.req = some p)
    (hq : s.home.reqs = [p]) : let t := markSent c s
    ctxOf t c = some { x with cplSent := true, cmpTimer := !owesAnswer x } ∧ (∀ k, k ≠ c → ctxOf t k = ctxOf s k) ∧
    t.home = { s.home with reqs := [{ p with processed := true }] } ∧ Only [.dev, .home] s t := by
  have he : markSent c s = modPend p.seq (fun q => { q with processed := true })
      (setCtx c { x with cplSent := true, cmpTimer := !owesAnswer x } s) := by
    unfold markSent
    rw [hx]
    dsimp only
    rw [hr]
  have h1 := only_setCtx c { x with cplSent := true, cmpTimer := !owesAnswer x } s
  have h2 := ctxOf_setCtx_same c { x with cplSent := true, cmpTimer := !owesAnswer x } s
  have h3 := fun k (hk : k ≠ c) => ctxOf_setCtx_ne hk { x with cplSent := true, cmpTimer := !owesAnswer x } s
  intro t
  rw [show t = _ from he]
  generalize setCtx c { x with cplSent := true, cmpTimer := !owesAnswer x } s = u at h1 h2 h3
  have h4 : Only [.home] u (modPend p.seq (fun q => { q with processed := true }) u) := only_updHome _ _
  have hc : ∀ k, ctxOf (modPend p.seq (fun q => { q with processed := true }) u) k = ctxOf u k := fun _ => rfl
  refine ⟨(hc c).trans h2, fun k hk => (hc k).trans (h3 k hk), ?_, (h1.mono (by simp)).trans (h4.mono (by simp))⟩
  rw [modPend_only (by rw [h1.home]; exact hq), h1.home]

theorem stopBath_completes : ∀ (c a b : Nat) (tx : BitVec 12) (p : Pend) (x : Ctx) (s : State), c < 8704 → InRun s → ctxOf s c = some x →
    x.byRule = true → x.phase = .bath → x.req = some p → x.agent = some a → p.req.agent = a → p.place = .begun c →
    x.cplSent = false → p.op.bath = true → s.home.reqs = [p] → s.mem.pwb = [] → x.bathTo = some (b, tx) →
    detached s b = false →
    let st : Status := if s.home.bathFog.any (fun q => decide (q.1 = a) && decide (q.2 < p.seq)) then .fogged else .ok
    ∃ t, exec (.stopBathComplete c) s = .next t ∧ t.tx = s.tx ++ [.rsp b .cmpB c tx st] ∧
      ctxOf t c = some { x with cplSent := true, cmpTimer := false, phase := .cmp } ∧
      (∀ k, k ≠ c → ctxOf t k = ctxOf s k) ∧ t.home.reqs = [{ p with processed := true }] ∧
      (∀ q ∈ t.home.bathFog, q.1 = a → p.seq ≤ q.2) ∧ Only [.dev, .home, .tx, .xbar, .meter] s t := by
  intro c a b tx p x s hc hin hx hb hph hreq hag hpa hpl hcpl hbath hq hpwb hto hdet st
  have hready : bathReady s a p = true := by simp [bathReady, bathProcessed, hq, hpwb]
  obtain ⟨hst, h1, h1q, h1f⟩ := bathStatus_frame a p s
  have hne : st ≠ .errAddr := by
    show (if _ then Status.fogged else Status.ok) ≠ _
    split <;> decide
  have hop : opStopBath c s = bathNext a (modCtx c (fun y => { y with phase := .cmp, cmpTimer := false })
      (sendBath c x (bathStatus a p s).1 (bathStatus a p s).2)) := by
    unfold opStopBath
    rw [hx]
    dsimp only
    rw [hreq, hag]
    dsimp only
    rw [hin.notSafe, hph, hbath, hcpl, hready, hb]
    rfl
  rw [show (bathStatus a p s).1 = st from hst] at hop
  generalize (bathStatus a p s).2 = u at hop h1 h1q h1f
  have hsend : sendBath c x st u = markSent c (sendCpl b .cmpB c tx st none false x.tray x.deadline u) := by
    unfold sendBath
    rw [hto]
    dsimp only
    rw [detached_congr h1.links, hdet]
    rfl
  rw [hsend] at hop
  obtain ⟨g1, g2, -, g4⟩ := sendCpl_zcl (noCounter_of hin.noCounter h1) b .cmpB c tx st false x.tray x.deadline
  have g5 := Only.of_regs_eq g2 (g4 hne)
  generalize sendCpl b .cmpB c tx st none false x.tray x.deadline u = v at hop g1 g5
  have hxv : ∀ k, ctxOf v k = ctxOf s k := ctxOf_congr (congrArg DevSide.ctxs (g5.dev.trans h1.dev))
  obtain ⟨m1, m2, m3, m4⟩ := markSent_frame ((hxv c).trans hx) hreq (by rw [g5.home, h1q]; exact hq)
  generalize markSent c v = q at hop m1 m2 m3 m4
  have hx6 : ctxOf (modCtx c (fun y => { y with phase := .cmp, cmpTimer := false }) q) c =
      some { x with cplSent := true, cmpTimer := false, phase := .cmp } := ctxOf_modCtx_same m1 _
  have hk6 := fun k (hk : k ≠ c) => ctxOf_modCtx_ne hk (fun y => { y with phase := .cmp, cmpTimer := false }) q
  have h6 := only_modCtx c (fun y => { y with phase := .cmp, cmpTimer := false }) q
  generalize modCtx c (fun y => { y with phase := .cmp, cmpTimer := false }) q = t at hop hx6 hk6 h6
  have hth : t.home = { u.home with reqs := [{ p with processed := true }] } := by rw [h6.home, m3, g5.home]
  have hnext : bathNext a t = t := by
    have hfind : t.home.reqs.find? (fun p => decide (p.req.agent = a) && decide (p.place = .bath)) = none := by
      rw [hth]
      simp [hpl]
    unfold bathNext
    rw [hfind]
  rw [hnext] at hop
  have hO := ((h1.mono (l := [.dev, .home, .tx, .xbar, .meter]) (by simp)).trans (g5.mono (by simp))).trans
    ((m4.mono (by simp)).trans (h6.mono (by simp)))
  refine ⟨t, exec_live (decide_eq_true hc) hin.1 hop hO.pending hO.aon, ?_, hx6, fun k hk => ?_, by rw [hth], by rw [hth]; exact h1f, hO⟩
  · rw [h6.tx, m4.tx, g1, h1.tx]
  · rw [hk6 k hk, m2 k hk, hxv]

/-! ### O37 -/

/-- Settles O37: FOG through the record of one line, CTR by the counter's configuration, STPB and the completion that follows it. -/
theorem fogCtrAndStopBaths : Obligations.FogCtrAndStopBaths := by
  refine ⟨fun c args x r s => ⟨?_, ?_, fun a tx h hk hsel => ?_⟩, stopBath_completes⟩
  · intro line w e k h hn hone hl hk
    have hk' : fogCause (fld args 20 4) = some k := by rw [fld_eq]; exact hk
    have hline : lineOfAddr (argOpd x.seen args) = line := rfl
    obtain ⟨h1, h2, h3, h4, h5, ⟨z, hz1, hz2, hz3, hz4⟩, h7⟩ := fogRun_frame (x := x.seen) hn h.ctx (seen_eaLine x) hone hl hk'
    have hu : ruleSend c 6 args x.seen s = fogRun c line (fld args 20 4) x.seen s := rfl
    generalize fogRun c line (fld args 20 4) x.seen s = u at hu h1 h2 h3 h4 h5 hz1 hz4 h7
    have hO := only_setStage c 2 u
    have hrec : ∀ j, recOf (setStage c 2 u) j = recOf u j := recOf_sheet hO.sheet
    refine ⟨_, exec_sends h hu h7.pending h7.aon, by rw [hrec]; exact h1, (caused_congr hO.regs k 0).2 h2, ?_,
      fun j hj hne => ?_, fun j hj => ?_, ⟨_, ctxOf_setStage hz1 (hz3.trans h.inFlight), hz2, rfl, fun hs => ?_⟩,
      h7.trans (hO.mono (by simp))⟩
    · rw [rd_congr hO.regs, h3]
    · rw [hrec, h4 (Nat.mod_lt _ (by decide)) j hj hne]
    · rw [ctxOf_setStage_ne hj, h5 j hj]
    · rw [sheetCopy_congr (congrArg SheetSide.ways hO.sheet) (congrArg SheetSide.evSlots hO.sheet)]
      exact hz4 hs
  · intro num add h
    have hnum : fld args 26 8 = num := by
      rw [fld_eq]
      exact Nat.mod_eq_of_lt (by omega)
    have hadd : (if bitOf args 25 then (opd x.seen (BitVec.ofNat 4 (fld args 21 4))).toNat else 1) = add := by rw [argSel]
    have hu : ruleSend c 7 args x.seen s =
        if ctrMatches (rd s (oCtrCfg num)) 0x30 ⟨x.seen.tray, none, none⟩ then ctrAdd num add s else s := by
      show ruleCtr args x.seen s = _
      unfold ruleCtr
      rw [hnum, hadd]
    refine ⟨fun hev hmode => ?_, fun hev => ?_⟩
    · have hm : ctrMatches (rd s (oCtrCfg num)) 0x30 ⟨x.seen.tray, none, none⟩ = true := by
        rw [fld_eq] at hev
        have h8 : fld (rd s (oCtrCfg num)) 0 8 = 0x30 := by rw [fld_eq]; omega
        have h3 : fld (rd s (oCtrCfg num)) 8 3 = 0 := by rw [fld_eq]; omega
        rw [ctrMatches, h8, h3]
        rfl
      rw [hm, if_pos rfl] at hu
      obtain ⟨h1, h2, h3⟩ := ctrAdd_plain hmode add
      generalize ctrAdd num add s = u at hu h1 h2 h3
      have hO := only_setStage c 2 u
      have hxu : ∀ k, ctxOf u k = ctxOf s k := ctxOf_congr (congrArg DevSide.ctxs h3.dev)
      exact ⟨_, exec_sends h hu h3.pending h3.aon, (rd_congr hO.regs _).trans h1, h2.trans (regsOnly_of_regs hO.regs),
        ctxOf_setStage ((hxu c).trans h.ctx) h.inFlight, fun k hk => (ctxOf_setStage_ne hk _).trans (hxu k),
        (h3.mono (by simp)).trans (hO.mono (by simp))⟩
    · have hm : ctrMatches (rd s (oCtrCfg num)) 0x30 ⟨x.seen.tray, none, none⟩ = false := by
        rw [ctrMatches, decide_eq_false hev, Bool.false_and]
      rw [hm, if_neg Bool.false_ne_true] at hu
      exact ⟨_, exec_sends h hu rfl rfl, ctxOf_setStage h.ctx h.inFlight, fun k hk => ctxOf_setStage_ne hk _, only_setStage _ _ _⟩
  · have hu : ruleSend c 8 args x.seen s = modCtx c (fun y => { y with bathTo := some (a, tx), phase := .bath }) s := by
      show ruleStpb c args x.seen s = _
      unfold ruleStpb
      obtain ⟨-, -, -, -, hkind⟩ := seen_route x
      rw [hkind, if_pos hk, selPair_agent hsel]
    have h1 := ctxOf_modCtx_same h.ctx (fun y => { y with bathTo := some (a, tx), phase := .bath })
    exact ⟨_, exec_sends h hu rfl rfl, ctxOf_setStage h1 h.inFlight,
      fun k hk => (ctxOf_setStage_ne hk _).trans (ctxOf_modCtx_ne hk _ _), (only_modCtx _ _ _).trans (only_setStage _ _ _)⟩

end Sys2Proof.Machine
end

section
/-! PROOFS. The memory operations that a rule sends (R123, R189, R216). -/

namespace Sys2Proof.Machine

/-! ### What a memory operation looks at -/

theorem regionBlank_congr {s t : State} (h : t.mem.written = s.mem.written) (r : Nat) : regionBlank t r = regionBlank s r := by
  rw [regionBlank, h, regionBlank]

theorem isDark_regs {s t : State} (h : t.regs = s.regs) (line : Nat) : isDark t line = isDark s line :=
  isDark_congr (lineChan_congr h) (fun _ => rd_congr h _) line

theorem readAtOnce_congr {s t : State} (hr : t.regs = s.regs) (hp : t.mem.pwb = s.mem.pwb) (hw : t.mem.written = s.mem.written)
    (hf : t.mem.fills = s.mem.fills) (line : Nat) : readAtOnce t line = readAtOnce s line := by
  unfold readAtOnce lineBlank pwbFind fillOf
  rw [isDark_regs hr, regionBlank_congr hw, hp, hf]

theorem pwbReady_congr {s t : State} (hr : t.regs = s.regs) (hm : ∃ n, t.mem = { s.mem with opSeq := n }) (hh : t.home = s.home)
    (line : Nat) : pwbReady t line = pwbReady s line := by
  obtain ⟨n, hm⟩ := hm
  have hth : throughHeld t = throughHeld s := by
    funext p
    rw [throughHeld, isG6_congr hr, throughHeld]
  unfold pwbReady pwbFree fillReady regionBlank fillOf
  rw [hm, hh, hth]

theorem ewa_congr {s t : State} (h : t.regs = s.regs) (line : Nat) : ewa t line = ewa s line := by
  unfold ewa rdf
  rw [rd_funext h]

/-- The batch policy looks again at the queues of one channel, where it is in force (R235). -/
theorem chansKept_lookLine (line : Nat) (s : State) : ChansKept s (lookLine line s) := by
  intro m hm
  unfold lookLine
  split
  next k co _ =>
    unfold batchLook
    split
    next hk => exact chanOf_setChan_ne (fun h => by rw [h, hk] at hm; cases hm) _ s
    next => rfl
  next => rfl

theorem ChansKept.of {s u t : State} (h : ChansKept u t) (hr : u.regs = s.regs) (hc : u.mem.chans = s.mem.chans) : ChansKept s t := by
  have hch : ∀ m, chanOf u m = chanOf s m := fun m => by rw [chanOf, chanOf, hc]
  intro m hm
  rw [h m (by unfold batching at hm ⊢; rwa [rd_congr hr, hch]), hch]

/-- A line of the buffer, taken in where its region is not blank. -/
theorem pwbEnter_written {p : PwbLine} {s : State} (hb : regionBlank s (regionOf p.line) = false) (hc : p.clears = false) :
    (pwbEnter p s).mem = { s.mem with
      pwb := s.mem.pwb ++ [{ p with seq := s.mem.opSeq }], opSeq := s.mem.opSeq + 1, chans := (pwbEnter p s).mem.chans } ∧
    ChansKept s (pwbEnter p s) ∧ Only [.mem] s (pwbEnter p s) := by
  have hd : develop p.line s = s := by rw [develop, hb]; rfl
  rw [pwbEnter_kept hc, hd]
  have h1 : Only [.mem] s (updMem (fun m => { m with opSeq := m.opSeq + 1, pwb := m.pwb ++ [pwbPlaced p s] }) s) := only_updMem _ _
  have hm : (updMem (fun m => { m with opSeq := m.opSeq + 1, pwb := m.pwb ++ [pwbPlaced p s] }) s).mem =
      { s.mem with opSeq := s.mem.opSeq + 1, pwb := s.mem.pwb ++ [pwbPlaced p s] } := rfl
  unfold pwbPut
  generalize updMem (fun m => { m with opSeq := m.opSeq + 1, pwb := m.pwb ++ [pwbPlaced p s] }) s = u at h1 hm
  have h2 := memChans_lookLine p.line u
  refine ⟨?_, (chansKept_lookLine p.line u).of h1.regs (by rw [hm]), h1.trans h2.only⟩
  rw [h2.mem, hm]
  rfl

/-- A write that its line's channel serves, and that is not acknowledged early, enters the buffer. -/
theorem writeEnter_plain {e : PwbLine} {s : State} (c : Nat) (h : ewa s e.line = false) (ha : e.acked = false) :
    writeEnter c e s = pwbEnter e s := by
  unfold writeEnter
  dsimp only
  rw [h, if_neg Bool.false_ne_true, ← ha]

/-! ### MRD -/

/-- The buffer of a context that has asked for a line. -/
def askedBuf (line n : Nat) (early : Bool) : MemBuf :=
  { line := line, seq := n, early := early, got := none, uncor := false, ldw := 0, used := false }

/-- A read of a line that must come from DRAM. -/
theorem issueRead_frame {c line : Nat} {early close : Bool} {x : Ctx} {s : State} (hx : ctxOf s c = some x)
    (hr : readAtOnce s line = false) : let t := issueRead c line early close s
    t.mem = { s.mem with memq := s.mem.memq ++ [⟨c, line, early, false, close, false, s.mem.opSeq⟩], opSeq := s.mem.opSeq + 1,
                         chans := t.mem.chans } ∧ ChansKept s t ∧
    ctxOf t c = some { x with mem := some (askedBuf line s.mem.opSeq early), owed := if early then x.owed else x.owed ++ [.mrdc] } ∧
    (∀ k, k ≠ c → ctxOf t k = ctxOf s k) ∧ Only [.dev, .mem] s t := by
  have h1 : Only [.mem] s (nextOp s).2 := only_updMem _ _
  have hm1 : (nextOp s).2.mem = { s.mem with opSeq := s.mem.opSeq + 1 } := rfl
  have h2 := only_modCtx c (fun x => { x with mem := some (askedBuf line s.mem.opSeq early) }) (nextOp s).2
  have hx2 : ctxOf (modCtx c (fun x => { x with mem := some (askedBuf line s.mem.opSeq early) }) (nextOp s).2) c =
      some { x with mem := some (askedBuf line s.mem.opSeq early) } := ctxOf_modCtx_same (s := (nextOp s).2) hx _
  have hk2 : ∀ k, k ≠ c → ctxOf (modCtx c (fun x => { x with mem := some (askedBuf line s.mem.opSeq early) }) (nextOp s).2) k =
      ctxOf s k := fun k hk => ctxOf_modCtx_ne hk _ _
  have heq : issueRead c line early close s = (fun u => if readAtOnce u line then
      memGot c s.mem.opSeq (memReadLine line (if early then .early else .txn) close [] u).1
        (memReadLine line (if early then .early else .txn) close [] u).2
    else queueRead ⟨c, line, early, false, close, false, s.mem.opSeq⟩ (if early then u else oweMore c .mrdc u))
      (modCtx c (fun x => { x with mem := some (askedBuf line s.mem.opSeq early) }) (nextOp s).2) := rfl
  intro t
  rw [show t = _ from heq]
  generalize (nextOp s).2 = u at h1 hm1 h2 hx2 hk2
  generalize modCtx c (fun x => { x with mem := some (askedBuf line s.mem.opSeq early) }) u = v at h2 hx2 hk2
  have hmv : v.mem = { s.mem with opSeq := s.mem.opSeq + 1 } := h2.mem.trans hm1
  have hv : readAtOnce v line = false := by
    rw [readAtOnce_congr (h2.regs.trans h1.regs) (by rw [hmv]) (by rw [hmv]) (by rw [hmv]), hr]
  dsimp only
  rw [hv, if_neg Bool.false_ne_true]
  have h3 : Only [.dev] v (if early then v else oweMore c .mrdc v) ∧
      ctxOf (if early then v else oweMore c .mrdc v) c =
        some { x with mem := some (askedBuf line s.mem.opSeq early), owed := if early then x.owed else x.owed ++ [.mrdc] } ∧
      ∀ k, k ≠ c → ctxOf (if early then v else oweMore c .mrdc v) k = ctxOf v k := by
    cases early with
    | true => exact ⟨Only.refl _ v, hx2, fun _ _ => rfl⟩
    | false => exact ⟨only_modCtx _ _ _, ctxOf_modCtx_same hx2 _, fun k hk => ctxOf_modCtx_ne hk _ _⟩
  obtain ⟨g1, g2, g3⟩ := h3
  generalize (if early then v else oweMore c .mrdc v) = w at g1 g2 g3
  have hmw : w.mem = { s.mem with opSeq := s.mem.opSeq + 1 } := g1.mem.trans hmv
  unfold queueRead
  have h4 : Only [.mem] w (updMem (fun m => { m with memq := m.memq ++ [⟨c, line, early, false, close, false, s.mem.opSeq⟩] }) w) :=
    only_updMem _ _
  have hm4 : (updMem (fun m => { m with memq := m.memq ++ [⟨c, line, early, false, close, false, s.mem.opSeq⟩] }) w).mem =
      { s.mem with memq := s.mem.memq ++ [⟨c, line, early, false, close, false, s.mem.opSeq⟩], opSeq := s.mem.opSeq + 1 } := by
    rw [updMem_mem, hmw]
  generalize updMem (fun m => { m with memq := m.memq ++ [⟨c, line, early, false, close, false, s.mem.opSeq⟩] }) w = q at h4 hm4
  have h5 := memChans_lookLine line q
  have hdev : (lookLine line q).dev = w.dev := h5.only.dev.trans h4.dev
  have hreg : q.regs = s.regs := h4.regs.trans (g1.regs.trans (h2.regs.trans h1.regs))
  have hxt : ∀ k, ctxOf (lookLine line q) k = ctxOf w k := ctxOf_congr (congrArg DevSide.ctxs hdev)
  refine ⟨?_, (chansKept_lookLine line q).of hreg (by rw [hm4]), (hxt c).trans g2, fun k hk => ?_, ?_⟩
  · rw [h5.mem, hm4]
  · rw [hxt, g3 k hk, hk2 k hk]
  · exact (h1.mono (by simp)).trans ((h2.mono (by simp)).trans ((g1.mono (by simp)).trans ((h4.trans h5.only).mono (by simp))))

theorem seen_mem (x : Ctx) : x.seen.mem = x.mem ∧ x.seen.pgc = x.pgc ∧ x.seen.placer = x.placer := by
  obtain ⟨hag, hreq, -⟩ := seen_route x
  refine ⟨?_, by rw [Ctx.pgc, Ctx.pgc, hreq], by rw [Ctx.placer, Ctx.placer, hreq, hag]⟩
  unfold Ctx.seen
  split <;> rfl

/-! ### MWR and MWRD -/

/-- A write with no line of its own to keep goes to its channel and enters the buffer. -/
theorem issueWrite_frame {c : Nat} {p : PwbLine} {x : Ctx} {s : State} (hx : ctxOf s c = some x) (hd : isDark s p.line = false)
    (hb : regionBlank s (regionOf p.line) = false) (hf : pwbFree s = true) (he : ewa s p.line = false) (hc : p.clears = false)
    (ha : p.acked = false) : let t := issueWrite c p s
    t.mem = { s.mem with pwb := s.mem.pwb ++ [{ p with seq := s.mem.opSeq }], opSeq := s.mem.opSeq + 1, chans := t.mem.chans } ∧
    ChansKept s t ∧
    (∃ i, t.xbar = { s.xbar with packets := s.xbar.packets ++
      [{ input := i, output := 16 + chanNo s p.line, deadline := p.deadline, slots := 5, sent := 0, msg := none,
         line := some p.line }] }) ∧
    ctxOf t c = some { x with owed := x.owed ++ [.mwrc] } ∧ (∀ k, k ≠ c → ctxOf t k = ctxOf s k) ∧
    Only [.dev, .mem, .xbar] s t := by
  have h1 : Only [.dev] s (oweMore c .mwrc s) := only_modCtx _ _ _
  have hx1 : ctxOf (oweMore c .mwrc s) c = some { x with owed := x.owed ++ [.mwrc] } := ctxOf_modCtx_same hx _
  have hk1 : ∀ k, k ≠ c → ctxOf (oweMore c .mwrc s) k = ctxOf s k := fun k hk => ctxOf_modCtx_ne hk _ _
  intro t
  have ht : t = issueWrite c p s := rfl
  unfold issueWrite at ht
  dsimp only at ht
  generalize oweMore c .mwrc s = u at h1 hx1 hk1 ht
  rw [isDark_regs h1.regs, hd, if_neg Bool.false_ne_true] at ht
  have h2 : Only [.xbar] u (moveLine (placerInput u p) (chanNo u p.line) p.line p.deadline u) := only_moveLine _ _ _ _ _
  have hx2 : (moveLine (placerInput u p) (chanNo u p.line) p.line p.deadline u).xbar = { s.xbar with packets := s.xbar.packets ++
      [{ input := placerInput u p, output := 16 + chanNo s p.line, deadline := p.deadline, slots := 5, sent := 0, msg := none,
         line := some p.line }] } := by
    rw [chanNo_congr h1.regs, ← h1.xbar]
    rfl
  generalize moveLine (placerInput u p) (chanNo u p.line) p.line p.deadline u = v at h2 hx2 ht
  have hO : Only [.dev, .xbar] s v := (h1.mono (by simp)).trans (h2.mono (by simp))
  have hready : pwbReady v p.line = true := by
    rw [pwbReady_congr hO.regs ⟨s.mem.opSeq, hO.mem⟩ hO.home, pwbReady, hf, fillReady, hb]
    rfl
  rw [hready, if_pos rfl, writeEnter_plain c (by rw [ewa_congr hO.regs, he]) ha] at ht
  obtain ⟨g1, g2, g3⟩ := pwbEnter_written (p := p) (s := v) 
    ((regionBlank_congr (by rw [hO.mem]) _).trans hb) hc
  rw [← ht] at g1 g2 g3
  have hdev : t.dev = u.dev := g3.dev.trans h2.dev
  refine ⟨?_, g2.of hO.regs (by rw [hO.mem]), ⟨_, g3.xbar.trans hx2⟩, (ctxOf_congr (congrArg DevSide.ctxs hdev) c).trans hx1,
    fun k hk => (ctxOf_congr (congrArg DevSide.ctxs hdev) k).trans (hk1 k hk), (hO.mono (by simp)).trans (g3.mono (by simp))⟩
  rw [g1, hO.mem]

/-- A write that keeps its line's data, which is in the buffer. -/
theorem issueKeep_frame {c : Nat} {e p : PwbLine} {s : State} (hd : isDark s e.line = false)
    (hb : regionBlank s (regionOf e.line) = false) (hf : pwbFree s = true) (he : ewa s e.line = false) (hc : e.clears = false)
    (ha : e.acked = false) (hp : pwbFind s e.line = some p) (hs : p.seq < s.mem.opSeq) :
    let mark := p.fog || ldwFogged p.ldw
    let t := issueKeep c e (writeEnter c) s
    t.mem = { s.mem with
      pwb := s.mem.pwb ++ [{ e with data := p.data, fog := mark, ldw := ldwMark mark e.ldw, seq := s.mem.opSeq + 1 }],
      opSeq := s.mem.opSeq + 2, chans := t.mem.chans } ∧ ChansKept s t ∧ Only [.mem] s t := by
  have h1 : Only [.mem] s (nextOp s).2 := only_updMem _ _
  have hm1 : (nextOp s).2.mem = { s.mem with opSeq := s.mem.opSeq + 1 } := rfl
  intro mark t
  have ht : t = issueKeep c e (writeEnter c) s := rfl
  unfold issueKeep at ht
  rw [show nextOp s = (s.mem.opSeq, (nextOp s).2) from rfl] at ht
  dsimp only at ht
  generalize (nextOp s).2 = u at h1 hm1 ht
  have hpu : pwbFind u e.line = some p := by rw [pwbFind, hm1]; exact hp
  have hd' : isDark u e.line = false := by rw [isDark_regs h1.regs, hd]
  have hb' : regionBlank u (regionOf e.line) = false := (regionBlank_congr (by rw [hm1]) _).trans hb
  have hlb : lineBlank u e.line = false := by rw [lineBlank, hb']; rfl
  have hready : pwbReady u e.line = true := by
    rw [pwbReady_congr h1.regs ⟨_, hm1⟩ h1.home, pwbReady, hf, fillReady, hb]
    rfl
  have honce : readAtOnce u e.line = true := by rw [readAtOnce, hpu]; simp
  have hbefore : pwbBefore u e.line u.mem.opSeq = some p := pwbBefore_newest hpu (by rw [hm1]; exact Nat.lt_succ_of_lt hs)
  have htake : takeCurrent { e with seq := s.mem.opSeq } u =
      ({ e with data := p.data, fog := mark, ldw := ldwMark mark e.ldw, seq := s.mem.opSeq }, u) := by
    unfold takeCurrent currentData memReadLine
    dsimp only
    rw [honce, memReadAt_buffered hd' hlb hbefore]
    dsimp only [readBuffered]
    rw [Bool.or_false]
    rfl
  rw [hready, keepReads, honce, htake] at ht
  have ht : t = writeEnter c { e with data := p.data, fog := mark, ldw := ldwMark mark e.ldw, seq := s.mem.opSeq } u := ht
  rw [writeEnter_plain (e := { e with data := p.data, fog := mark, ldw := ldwMark mark e.ldw, seq := s.mem.opSeq }) c
    (by rw [ewa_congr h1.regs]; exact he) ha] at ht
  obtain ⟨g1, g2, g3⟩ := pwbEnter_written
    (p := { e with data := p.data, fog := mark, ldw := ldwMark mark e.ldw, seq := s.mem.opSeq }) (s := u) hb' hc
  rw [← ht] at g1 g2 g3
  exact ⟨by rw [g1, hm1], g2.of h1.regs (by rw [hm1]), h1.trans g3⟩

/-- Settles O36: a read is queued with its place, a write enters the buffer with the data of its source, or of the line itself. -/
theorem memoryOperationsSent : Obligations.MemoryOperationsSent := by
  intro c args x r s line fog n
  obtain ⟨hmem, hpgc, hplacer⟩ := seen_mem x
  have hdl : x.seen.deadline = x.deadline := (seen_route x).2.2.2.1
  refine ⟨?_, fun hd hb hf he => ⟨fun h hsrc h21 => ?_, ?_⟩⟩
  · intro h hm hr h20 early close
    have hclose : (if fld args 22 2 = 0 then x.seen.pgc else decide (fld args 22 2 = 2)) = close := by
      rw [hpgc, fld_eq]
      rfl
    have hu : ruleSend c 3 args x.seen s = issueRead c line early close s := by
      show ruleMrd c args x.seen s = _
      unfold ruleMrd
      dsimp only
      rw [hclose, discardEarly_none (hmem.trans hm), h20, if_neg Bool.false_ne_true, show lineOfAddr (argOpd x.seen args) = line from rfl, hr]
      rfl
    obtain ⟨h1, h2, h3, h4, h5⟩ := issueRead_frame (early := early) (close := close) h.ctx hr
    generalize issueRead c line early close s = u at hu h1 h2 h3 h4 h5
    have hO := only_setStage c 2 u
    refine ⟨_, exec_sends h hu h5.pending h5.aon, h1, h2, ctxOf_setStage h3 h.inFlight,
      fun k hk => (ctxOf_setStage_ne hk _).trans (h4 k hk), h5.trans (hO.mono (by simp))⟩
  · have hsrc' : fld args 22 2 = 3 := by rw [fld_eq]; exact hsrc
    have hu : ruleSend c 4 args x.seen s = issueWrite c (pwbLine c line { data := 0, fog := fog } (dataLdw fog) x.pgc x.placer
        x.deadline false) s := by
      show ruleMwr c args x.seen s = _
      unfold ruleMwr
      dsimp only
      rw [hsrc', h21]
      dsimp only [useSource]
      rw [if_neg (by simp), if_neg (by simp), hpgc, hplacer, hdl]
      rfl
    obtain ⟨h1, h2, ⟨i, h3⟩, h4, h5, h6⟩ := issueWrite_frame (c := c)
      (p := pwbLine c line { data := 0, fog := fog } (dataLdw fog) x.pgc x.placer x.deadline false) h.ctx hd hb hf he rfl rfl
    generalize issueWrite c (pwbLine c line { data := 0, fog := fog } (dataLdw fog) x.pgc x.placer x.deadline false) s = u
      at hu h1 h2 h3 h4 h5 h6
    have hO := only_setStage c 2 u
    refine ⟨_, i, exec_sends h hu h6.pending h6.aon, h1, h2, h3, ctxOf_setStage h4 h.inFlight,
      fun k hk => (ctxOf_setStage_ne hk _).trans (h5 k hk), h6.trans (hO.mono (by simp))⟩
  · intro p h hp hs v mark
    have h1 : Only [.dev] s (oweMore c .mwrc s) := only_modCtx _ _ _
    have hx1 : ctxOf (oweMore c .mwrc s) c = some { x with owed := x.owed ++ [.mwrc] } := ctxOf_modCtx_same h.ctx _
    have hk1 : ∀ k, k ≠ c → ctxOf (oweMore c .mwrc s) k = ctxOf s k := fun k hk => ctxOf_modCtx_ne hk _ _
    have hu : ruleSend c 5 args x.seen s = (fun u => if isDark u line then writeDone c line true .block u
        else issueKeep c (pwbLine c line fogZero v false .block x.deadline false) (writeEnter c) u) (oweMore c .mwrc s) := by
      show ruleMwrd c args x.seen s = _
      unfold ruleMwrd
      dsimp only
      rw [argSel, hdl]
      rfl
    generalize oweMore c .mwrc s = w at h1 hx1 hk1 hu
    dsimp only at hu
    rw [isDark_regs h1.regs, hd, if_neg Bool.false_ne_true] at hu
    have hfree : pwbFree w = true := by
      have := pwbReady_congr h1.regs ⟨s.mem.opSeq, h1.mem⟩ h1.home line
      have hfr : fillReady w line = true ∧ fillReady s line = true := by
        rw [fillReady, fillReady, regionBlank_congr (s := s) (by rw [h1.mem]), show regionBlank s (regionOf line) = false from hb]
        exact ⟨rfl, rfl⟩
      rw [pwbReady, pwbReady, hfr.1, hfr.2, hf] at this
      simpa using this
    obtain ⟨g1, g2, g3⟩ := issueKeep_frame (c := c) (e := pwbLine c line fogZero v false .block x.deadline false) (p := p) (s := w)
      (by rw [isDark_regs h1.regs]; exact hd) ((regionBlank_congr (by rw [h1.mem]) _).trans hb) hfree
      (by rw [ewa_congr h1.regs]; exact he) rfl rfl (by rw [pwbFind, h1.mem]; exact hp) (by rw [h1.mem]; exact hs)
    generalize issueKeep c (pwbLine c line fogZero v false .block x.deadline false) (writeEnter c) w = u at hu g1 g2 g3
    have hO := only_setStage c 2 u
    have hxu : ∀ k, ctxOf u k = ctxOf w k := ctxOf_congr (congrArg DevSide.ctxs g3.dev)
    refine ⟨_, exec_sends h hu (g3.pending.trans h1.pending) (g3.aon.trans h1.aon), ?_, g2.of h1.regs (by rw [h1.mem]),
      ctxOf_setStage ((hxu c).trans hx1) h.inFlight, fun k hk => ?_, (h1.mono (by simp)).trans ((g3.mono (by simp)).trans (hO.mono (by simp)))⟩
    · rw [hO.mem, g1, h1.mem]
      rfl
    · rw [ctxOf_setStage_ne hk, hxu, hk1 k hk]

end Sys2Proof.Machine
end

section
/-! PROOFS. SLK and SEVT: the lookup of a sector, and its move into an eviction slot (R103, R121, R173, R182). -/

namespace Sys2Proof.Machine

/-! ### SLK -/

theorem lookup_hit {s : State} {sec w : Nat} {e : Entry} (hn : NoCounter s) (h : s.sheet.errs = []) (he : OneEntry s sec w e) :
    lookup sec s = (.hit w e, count 0x05 Units.block 1 s) := by
  have hs := (only_count hn 0x05 Units.block 1).sheet
  unfold lookup
  dsimp only
  generalize count 0x05 Units.block 1 s = u at hs
  rw [readSet_sound (by rw [hs, h])]
  dsimp only
  rw [show (List.range 8).filterMap (fun w => (storedWay u (wayKey (bankOf sec) (setOf sec) w)).map (fun e => (w, e))) =
    setWays s (bankOf sec) (setOf sec) from setWays_congr hs _ _, he]

/-- The result of an SLK of a line, by what the lookup of its sector gives (R182). -/
def slkRes (o : Oper) (line : Nat) : Look → OpRes
  | .hit _ e => ⟨o.d, 1, some (e.sv, soOf e, ssOf (some e) (line % 4)), none⟩
  | _ => ⟨o.d, 0, some (0, 0, ssOf none (line % 4)), none⟩

/-- A lookup that gives a result leaves it for the context. -/
theorem slk_result {c line : Nat} {o : Oper} {x : Ctx} {r : InFlight} {s : State} {k : Look} (h : AtOper s c x r o 0x20)
    (hh : Harmless r) (hn : NoCounter s) (hi : o.imm = false) (hd : canWrite o.d = true) (hline : lineOfAddr (opd x.seen o.a) = line)
    (hk : k ≠ .noResult) (hl : lookup (line / 4) s = (k, count 0x05 Units.block 1 s)) :
    ∃ t, exec (.slk c o) s = .next t ∧ t.sheet = s.sheet ∧ Only [.dev, .meter] s t ∧
      ctxOf t c = some { x with inFlight := some { r with stage := 1 }, opRes := some (slkRes o line k) } := by
  have h1 := only_count hn 0x05 Units.block 1
  generalize count 0x05 Units.block 1 s = u at hl h1
  have hxu : ctxOf u c = some x := (ctxOf_congr (congrArg DevSide.ctxs h1.dev) c).trans h.ctx
  have h2 := only_modCtx c (fun y => { y with opRes := some (slkRes o line k) }) u
  have hx2 := ctxOf_modCtx_same hxu (fun y => { y with opRes := some (slkRes o line k) })
  have hO := (h1.mono (l := [.dev, .meter]) (by simp)).trans (h2.mono (by simp))
  have hex : exec (.slk c o) s = .next (setStage c 1 (modCtx c (fun y => { y with opRes := some (slkRes o line k) }) u)) := by
    refine exec_harmless h.rule h.guard hh (decide_eq_true h.field) ?_ hx2 h.inFlight h.noStall hO.pending hO.aon
    dsimp only
    rw [hi, hd, hline, hl]
    cases k with
    | noResult => exact absurd rfl hk
    | miss => rfl
    | hit w e => rfl
  generalize modCtx c (fun y => { y with opRes := some (slkRes o line k) }) u = v at hex h2 hx2 hO
  have hO' := hO.trans ((only_setStage c 1 v).mono (by simp))
  exact ⟨_, hex, hO'.sheet, hO', ctxOf_setStage hx2 h.inFlight⟩

/-- SEVT of a sector without an entry. -/
theorem sevt_none {c : Nat} {o : Oper} {x : Ctx} {r : InFlight} {s : State} (h : AtOper s c x r o 0x26) (hh : Harmless r)
    (hi : o.imm = false) (hd : canWrite o.d = true) (he : findEntry s (lineOfAddr (opd x.seen o.a) / 4) = none) :
    ∃ t, exec (.sevt c o) s = .next t ∧ Only [.dev] s t ∧
      ctxOf t c = some { x with inFlight := some { r with stage := 1 }, opRes := some ⟨o.d, 0, none, none⟩ } := by
  have h2 : Only [.dev] s (answer c o.d 0 s) := only_modCtx _ _ _
  have hx2 : ctxOf (answer c o.d 0 s) c = some { x with opRes := some ⟨o.d, 0, none, none⟩ } := ctxOf_modCtx_same h.ctx _
  have hex : exec (.sevt c o) s = .next (setStage c 1 (answer c o.d 0 s)) := by
    refine exec_harmless h.rule h.guard hh (decide_eq_true h.field) ?_ hx2 h.inFlight h.noStall h2.pending h2.aon
    dsimp only
    rw [hi, hd, if_neg (by decide), he]
  exact ⟨_, hex, h2.trans (only_setStage _ _ _), ctxOf_setStage hx2 h.inFlight⟩

/-! ### Free entries of the latent table (R103) -/

theorem scanFree_some {s : State} : ∀ n i, (∃ k, k < n ∧ entryFree s ((i + k) % Config.latentEntries) = true) →
    ∃ d, scanFree n i s = some d ∧ entryFree s d = true := by
  intro n
  induction n with
  | zero => rintro i ⟨k, hk, -⟩; omega
  | succ n ih =>
    rintro i ⟨k, hk, hf⟩
    rw [scanFree]
    split
    · next h => exact ⟨_, rfl, h⟩
    · next h =>
      cases k with
      | zero => exact absurd hf h
      | succ k => exact ih (i + 1) ⟨k, by omega, by rw [Nat.add_right_comm]; exact hf⟩

/-- A list of fewer than 8192 numbers leaves one of them out. -/
theorem exists_not_mem {K : List Nat} {n : Nat} (h : K.length < n) : ∃ i, i < n ∧ i ∉ K := by
  by_contra hall
  have hsub : List.range n ⊆ K := fun i hi => by
    by_contra hn
    exact hall ⟨i, List.mem_range.1 hi, hn⟩
  have := (List.nodup_range.subperm hsub).length_le
  rw [List.length_range] at this
  omega

/-- Contexts that are used are among `K`, and no latent line keeps an entry for a context to come (R85). -/
def UsedIn (K : List Nat) (s : State) : Prop := (∀ d, d ∉ K → ctxOf s d = none) ∧ ∀ p ∈ s.home.latent, ∃ d, p.2 = .ctx d

theorem UsedIn.free {K : List Nat} {s : State} (h : UsedIn K s) {d : Nat} (hd : d ∉ K) : entryFree s d = true := by
  have hheld : entryHeld s d = false := by
    unfold entryHeld
    refine List.any_eq_false.2 fun p hp => ?_
    obtain ⟨b, hb⟩ := h.2 p hp
    rw [hb]
    simp
  rw [entryFree, h.1 d hd, hheld]
  rfl

/-- A free entry is found where few contexts are used. -/
theorem takeEntry_some {K : List Nat} {s : State} (h : UsedIn K s) (hK : K.length < 8192) (hp : s.picks = []) :
    ∃ d, takeEntry s = some (d, s) ∧ ctxOf s d = none := by
  obtain ⟨i, hi, hiK⟩ := exists_not_mem hK
  obtain ⟨d, hd, hf⟩ := scanFree_some Config.latentEntries 0 (s := s)
    ⟨i, hi, by rw [Nat.zero_add, Nat.mod_eq_of_lt (show i < Config.latentEntries from hi)]; exact h.free hiK⟩
  refine ⟨d, ?_, ?_⟩
  · rw [takeEntry, choose_default _ hp]
    dsimp only
    rw [hd]
    rfl
  · have := (Bool.and_eq_true _ _ ▸ hf).1
    simpa using this

/-! ### The four lines of an eviction slot -/

/-- An event posted to a context leaves its kind and its layer, and every other context. -/
theorem postEvent_keeps {e : Event} {x : Ctx} {s : State} (hx : ctxOf s e.ctx = some x) :
    (∃ y, ctxOf (postEvent e s) e.ctx = some y ∧ y.kind = x.kind ∧ y.byRule = x.byRule) ∧
    (∀ k, k ≠ e.ctx → ctxOf (postEvent e s) k = ctxOf s k) ∧ Only [.dev] s (postEvent e s) ∧
    (postEvent e s).dev.byRule = s.dev.byRule := by
  unfold postEvent
  rw [hx]
  dsimp only
  split
  · exact ⟨⟨x, hx, rfl, rfl⟩, fun _ _ => rfl, only_updDev _ s, rfl⟩
  · exact ⟨⟨_, ctxOf_setCtx_same _ _ _, rfl, rfl⟩, fun k hk => ctxOf_setCtx_ne hk _ _, only_setCtx _ _ _, rfl⟩

/-- The first `m` lines of a sector are latent for new contexts of eviction slot 0, the contexts `l`; the rest is as in `s`. -/
structure Evicting (s : State) (c sec m : Nat) (l : List Nat) (u : State) : Prop where
  owner : ctxOf u c = ctxOf s c
  lines : ∀ k, k < m → ∃ d y, d ≠ c ∧ holderOf u (4 * sec + k) = some (.ctx d) ∧ ctxOf u d = some y ∧ y.kind = .evict 0 (4 * sec + k)
  ids : ∀ d ∈ l, d ≠ c ∧ ∃ y k i, ctxOf u d = some y ∧ y.byRule = true ∧ y.kind = .evict k i
  used : ∃ K, K.length ≤ m + 1 ∧ UsedIn K u
  only : Only [.regs, .dev, .home] s u
  byRule : u.dev.byRule = true

/-- The state in which context `d` has been bound to a line of an eviction slot. -/
theorem evicting_bound {s u : State} {c sec m d : Nat} {l : List Nat} {x : Ctx} (h : Evicting s c sec m l u) (hd : ctxOf u d = none)
    (hc : ctxOf s c ≠ none) (hx : x.kind = .evict 0 (4 * sec + m)) :
    let t := setHolder (4 * sec + m) (.ctx d) (bindCtx d x u)
    Evicting s c sec (m + 1) (l ++ [d]) t ∧ ctxOf t d = some (bound u x) := by
  have hxd := ctxOf_bindCtx d x u
  obtain ⟨h1, -, h2⟩ := bindCtx_frame d x u
  have hne : ∀ k, k ≠ d → ctxOf (bindCtx d x u) k = ctxOf u k := fun k hk => by
    rw [ctxOf, h2]
    exact sFind_sSet_ne _ _ hk
  have hby : (bindCtx d x u).dev.byRule = true := by rw [h2]; exact h.byRule
  have hhome : (bindCtx d x u).home = u.home := h1.home
  generalize bindCtx d x u = v at hxd h1 hne hby hhome
  have hcd : c ≠ d := fun e => hc (by rw [← h.owner, e, hd])
  have h3 : Only [.home] v (setHolder (4 * sec + m) (.ctx d) v) := only_updHome _ _
  have hlat : (setHolder (4 * sec + m) (.ctx d) v).home.latent = sSet u.home.latent (4 * sec + m) (.ctx d) := by
    rw [← hhome]
    rfl
  intro t
  have hxt : ∀ k, ctxOf t k = ctxOf v k := fun _ => rfl
  refine ⟨⟨by rw [hxt, hne c hcd, h.owner], fun k hk => ?_, fun b hb => ?_, ?_, ?_, hby⟩, by rw [hxt, hxd]⟩
  · by_cases hkm : k = m
    · exact ⟨d, bound u x, fun e => hcd e.symm, by rw [hkm]; exact holderOf_setHolder_same _ _ _, by rw [hxt, hxd], by rw [hkm]; exact hx⟩
    · obtain ⟨b, y, g1, g2, g3, g4⟩ := h.lines k (by omega)
      have hbd : b ≠ d := fun e => by rw [e, hd] at g3; cases g3
      refine ⟨b, y, g1, ?_, by rw [hxt, hne b hbd]; exact g3, g4⟩
      have hh : holderOf t (4 * sec + k) = holderOf v (4 * sec + k) := holderOf_setHolder_ne (by omega) _ _
      rw [hh, holderOf, hhome]
      exact g2
  · rcases List.mem_append.1 hb with hb | hb
    · obtain ⟨g1, y, k, i, g2, g3, g4⟩ := h.ids b hb
      have hbd : b ≠ d := fun e => by rw [e, hd] at g2; cases g2
      exact ⟨g1, y, k, i, by rw [hxt, hne b hbd]; exact g2, g3, g4⟩
    · rw [List.mem_singleton.1 hb]
      exact ⟨fun e => hcd e.symm, bound u x, _, _, by rw [hxt, hxd], h.byRule, hx⟩
  · obtain ⟨K, hK, hU⟩ := h.used
    refine ⟨d :: K, by rw [List.length_cons]; omega, fun b hb => ?_, fun p hp => ?_⟩
    · rw [List.mem_cons, not_or] at hb
      rw [hxt, hne b hb.1]
      exact hU.1 b hb.2
    · rw [hlat] at hp
      rcases mem_sSet hp with rfl | hp
      · exact ⟨d, rfl⟩
      · exact hU.2 p hp
  · exact h.only.trans ((h1.mono (by simp)).trans (h3.mono (by simp)))

/-- A context's event leaves the lines of the slot as they are. -/
theorem Evicting.posted {s u : State} {c sec m : Nat} {l : List Nat} (h : Evicting s c sec m l u) {e : Event} {x : Ctx}
    (hx : ctxOf u e.ctx = some x) (hc : e.ctx ≠ c) : Evicting s c sec m l (postEvent e u) := by
  obtain ⟨⟨z, hz, hzk, hzb⟩, hne, hO, hby⟩ := postEvent_keeps hx
  have hkeep : ∀ {d : Nat} {y : Ctx}, ctxOf u d = some y → ∃ y', ctxOf (postEvent e u) d = some y' ∧ y'.kind = y.kind ∧ y'.byRule = y.byRule := by
    intro d y hy
    by_cases hd : d = e.ctx
    · subst hd
      obtain rfl := Option.some.inj (hx.symm.trans hy)
      exact ⟨z, hz, hzk, hzb⟩
    · exact ⟨y, (hne d hd).trans hy, rfl, rfl⟩
  refine ⟨(hne c fun h' => hc h'.symm).trans h.owner, fun k hk => ?_, fun d hd => ?_, ?_, h.only.trans (hO.mono (by simp)), hby.trans h.byRule⟩
  · obtain ⟨d, y, g1, g2, g3, g4⟩ := h.lines k hk
    obtain ⟨y', e1, e2, -⟩ := hkeep g3
    exact ⟨d, y', g1, (holderOf_congr (congrArg HomeSide.latent hO.home) _).trans g2, e1, e2.trans g4⟩
  · obtain ⟨g1, y, k, i, g2, g3, g4⟩ := h.ids d hd
    obtain ⟨y', e1, e2, e3⟩ := hkeep g2
    exact ⟨g1, y', k, i, e1, e3.trans g3, e2.trans g4⟩
  · obtain ⟨K, hK, hU⟩ := h.used
    refine ⟨K, hK, fun d hd => ?_, fun p hp => hU.2 p (by rwa [hO.home] at hp)⟩
    have hnone := hU.1 d hd
    have hde : d ≠ e.ctx := fun h' => by rw [h', hx] at hnone; cases hnone
    rw [hne d hde, hnone]

/-- One more line of the slot. -/
theorem evicting_step {s u : State} {c sec way m : Nat} {l : List Nat} {e : Entry} (h : Evicting s c sec m l u) (hm : m < 4)
    (hc : ctxOf s c ≠ none) (hp : s.picks = []) :
    Evicting s c sec (m + 1) (l ++ (evictBind 0 (4 * sec + m) e u).1)
      (evictPost sec way m (evictBind 0 (4 * sec + m) e u).1 (evictBind 0 (4 * sec + m) e u).2) := by
  obtain ⟨K, hK, hU⟩ := h.used
  obtain ⟨d, hd, hfree⟩ := takeEntry_some hU (by omega) (h.only.picks.trans hp)
  have hbind : ∃ x : Ctx, evictBind 0 (4 * sec + m) e u = ([d], setHolder (4 * sec + m) (.ctx d) (bindCtx d x u)) ∧
      x.kind = .evict 0 (4 * sec + m) := by
    unfold evictBind
    rw [hd]
    exact ⟨_, rfl, rfl⟩
  obtain ⟨x, hb, hx⟩ := hbind
  rw [hb]
  obtain ⟨h1, h2⟩ := evicting_bound h hfree hc hx
  generalize setHolder (4 * sec + m) (.ctx d) (bindCtx d x u) = v at h1 h2
  have hdc : d ≠ c := fun e => hc (by rw [← h.owner, ← e, hfree])
  unfold evictPost
  dsimp only
  rw [h1.byRule, if_pos rfl]
  exact h1.posted h2 hdc

/-- The four lines one after another. -/
theorem evicting_fold {s : State} {c sec way : Nat} {e : Entry} (h0 : Evicting s c sec 0 [] s) (hc : ctxOf s c ≠ none)
    (hp : s.picks = []) : ∀ m, m ≤ 4 → let a := (List.range m).foldl (fun (acc : List Nat × State) j =>
      match evictBind 0 (4 * sec + j) e acc.2 with
      | (l, s) => (acc.1 ++ l, evictPost sec way j l s)) ([], s)
    Evicting s c sec m a.1 a.2 := by
  intro m
  induction m with
  | zero => exact fun _ => h0
  | succ m ih =>
    intro hm
    have h := ih (by omega)
    rw [List.range_succ, List.foldl_append]
    exact evicting_step h (by omega) hc hp

/-! ### SEVT -/

/-- Contexts whose transactions make no step of their own leave the state as it is. -/
theorem run_still {s : State} {l : List Nat} (h : ∀ d ∈ l, stepTxn d s = ([], s)) (n : Nat) : run n l s = s := by
  induction l generalizing n with
  | nil => exact run_nil n s
  | cons d l ih =>
    cases n with
    | zero => rfl
    | succ n =>
      rw [run, h d List.mem_cons_self]
      exact ih (fun b hb => h b (List.mem_cons_of_mem _ hb)) n

/-- A rule-run context of an eviction slot makes no step of its own. -/
theorem stepTxn_evict {s : State} {d k i : Nat} {y : Ctx} (hy : ctxOf s d = some y) (hb : y.byRule = true) (hk : y.kind = .evict k i) :
    stepTxn d s = ([], s) := by
  unfold stepTxn
  split
  · rfl
  · rw [hy]
    dsimp only
    rw [hb, hk, if_pos rfl, ite_self]

/-- The eviction slot that takes an entry in. -/
def evSlotOf (sec : Nat) (e : Entry) (s : State) : EvSlot :=
  { sector := sec, entry := e, recalls := !traySpill s e.tray && !isIdle e, idle := isIdle e, seq := s.sheet.seqCtr, left := 4 }

/-- The state in which an entry has gone into slot 0 and its lines are not latent yet. -/
theorem evictStart_opens {s : State} {c sec way : Nat} {x : Ctx} {e : Entry} (hn : NoCounter s) (hv : s.sheet.evSlots = [])
    (hctx : s.dev.ctxs = [(c, x)]) (hby : s.dev.byRule = true) (hlat : s.home.latent = []) (hp : s.picks = []) :
    ∃ u, Only [.sheet, .meter] s u ∧ sFind u.sheet.evSlots 0 = some (evSlotOf sec e s) ∧ u.sheet.ways = s.sheet.ways ∧
      Evicting u c sec 4 (evictStart sec way e s).1 (evictStart sec way e s).2 := by
  have hfree : freeEvSlot s = some 0 := by
    have hnone : ∀ k, (sFind s.sheet.evSlots k).isNone = true := fun k => by rw [hv]; rfl
    unfold freeEvSlot
    simp only [hnone]
    rfl
  have h1 : Only [.sheet] s (updSheet (fun y => { y with evSlots := sSet y.evSlots 0 (evSlotOf sec e s) }) s) := only_updSheet _ _
  have hv1 : sFind (updSheet (fun y => { y with evSlots := sSet y.evSlots 0 (evSlotOf sec e s) }) s).sheet.evSlots 0 = some (evSlotOf sec e s) :=
    sFind_sSet_same _ _ _
  have hw1 : (updSheet (fun y => { y with evSlots := sSet y.evSlots 0 (evSlotOf sec e s) }) s).sheet.ways = s.sheet.ways := rfl
  unfold evictStart
  rw [hfree]
  dsimp only
  rw [show EvSlot.mk sec e (!traySpill s e.tray && !isIdle e) (isIdle e) s.sheet.seqCtr 4 = evSlotOf sec e s from rfl]
  generalize evSlotOf sec e s = slot at h1 hv1 hw1 ⊢
  generalize updSheet (fun y => { y with evSlots := sSet y.evSlots 0 slot }) s = u at h1 hv1 hw1
  have h2 : ∀ b : Bool, Only [.sheet] u (if b then updSheet (fun y => { y with seqCtr := y.seqCtr + 1 }) u else u) ∧
      sFind (if b then updSheet (fun y => { y with seqCtr := y.seqCtr + 1 }) u else u).sheet.evSlots 0 = some slot ∧
      (if b then updSheet (fun y => { y with seqCtr := y.seqCtr + 1 }) u else u).sheet.ways = s.sheet.ways := fun b => by
    cases b with
    | true => exact ⟨only_updSheet _ u, hv1, hw1⟩
    | false => exact ⟨Only.refl _ u, hv1, hw1⟩
  obtain ⟨h2, hv2, hw2⟩ := h2 (!isIdle e && !!traySpill s e.tray)
  generalize (if (!isIdle e && !!traySpill s e.tray) = true then updSheet (fun y => { y with seqCtr := y.seqCtr + 1 }) u else u) = v at h2 hv2 hw2
  have hn2 : NoCounter v := noCounter_of (noCounter_of hn h1) h2
  have h3 := only_count hn2 0x07 ⟨some e.tray, none, none⟩ 1
  generalize count 0x07 ⟨some e.tray, none, none⟩ 1 v = w at h3
  have hO : Only [.sheet, .meter] s w := (h1.mono (by simp)).trans ((h2.mono (by simp)).trans (h3.mono (by simp)))
  have hxw : ∀ d, ctxOf w d = sFind [(c, x)] d := fun d => by rw [ctxOf, hO.dev, hctx]
  have h0 : Evicting w c sec 0 [] w := by
    refine ⟨rfl, fun k hk => by omega, fun d hd => by simp at hd, ⟨[c], by simp, fun d hd => ?_, fun p hpp => ?_⟩, Only.refl _ w, ?_⟩
    · rw [hxw]
      simp at hd
      simp [sFind, hd]
    · rw [hO.home, hlat] at hpp
      simp at hpp
    · rw [hO.dev, hby]
  have hcw : ctxOf w c ≠ none := by rw [hxw]; simp [sFind]
  exact ⟨w, hO, by rw [h3.sheet]; exact hv2, by rw [h3.sheet]; exact hw2, evicting_fold h0 hcw (hO.picks.trans hp) 4 (le_refl 4)⟩

/-- SEVT of a sector with an entry, in a block where nothing but the rule's context is in hand. -/
theorem sevt_evicts {c w : Nat} {e : Entry} {o : Oper} {x : Ctx} {r : InFlight} {s : State} (h : AtOper s c x r o 0x26)
    (hh : Harmless r) (hn : NoCounter s) (hby : s.dev.byRule = true) (hctx : s.dev.ctxs = [(c, x)]) (hv : s.sheet.evSlots = [])
    (hp : s.picks = []) (hlat : s.home.latent = []) (hi : o.imm = false) (hd : canWrite o.d = true)
    (hone : OneEntry s (lineOfAddr (opd x.seen o.a) / 4) w e) : let sec := lineOfAddr (opd x.seen o.a) / 4
    ∃ t v, exec (.sevt c o) s = .next t ∧ sFind t.sheet.evSlots 0 = some v ∧ v.sector = sec ∧ v.entry = e ∧ v.left = 4 ∧
      sFind t.sheet.ways (wayKey (bankOf sec) (setOf sec) w) = none ∧
      (∀ k, k ≠ wayKey (bankOf sec) (setOf sec) w → sFind t.sheet.ways k = sFind s.sheet.ways k) ∧
      (∀ k, k < 4 → ∃ d y, d ≠ c ∧ holderOf t (4 * sec + k) = some (.ctx d) ∧ ctxOf t d = some y ∧
        y.kind = .evict 0 (4 * sec + k)) ∧
      ctxOf t c = some { x with inFlight := some { r with stage := 1 }, opRes := some ⟨o.d, 1, none, none⟩ } ∧
      Only [.regs, .sheet, .dev, .home, .meter] s t := by
  intro sec
  have hlatent : sectorLatent s sec = false := by
    unfold sectorLatent
    rw [hlat]
    simp [sFind]
  have hready : evictReady s = true := by
    have hused : entriesUsed s ≤ 1 := by
      unfold entriesUsed
      rw [hctx, hlat]
      exact List.length_filter_le _ _
    have hfree : (freeEvSlot s).isSome = true := by
      have hnone : ∀ k, (sFind s.sheet.evSlots k).isNone = true := fun k => by rw [hv]; rfl
      unfold freeEvSlot
      simp only [hnone]
      rfl
    rw [evictReady, hfree, Bool.true_and, decide_eq_true_eq, show Config.latentEntries = 8192 from rfl]
    omega
  have h1 := stored_putWay (wayKey (bankOf sec) (setOf sec) w) none s
  have hw1 : (putWay (wayKey (bankOf sec) (setOf sec) w) none s).sheet.ways = sDel s.sheet.ways (wayKey (bankOf sec) (setOf sec) w) := rfl
  have hf : (match findEntry s sec with
      | some (w, e) =>
        if !sectorLatent s sec && evictReady s then
          go (evictStart sec w e (quotaCheck e.tray (putWay (wayKey (bankOf sec) (setOf sec) w) none s))).1 (answer c o.d 1
            (evictStart sec w e (quotaCheck e.tray (putWay (wayKey (bankOf sec) (setOf sec) w) none s))).2)
        else answer c o.d 0 s
      | none => answer c o.d 0 s) =
      go (evictStart sec w e (quotaCheck e.tray (putWay (wayKey (bankOf sec) (setOf sec) w) none s))).1 (answer c o.d 1
        (evictStart sec w e (quotaCheck e.tray (putWay (wayKey (bankOf sec) (setOf sec) w) none s))).2) := by
    rw [findEntry_one hone]
    dsimp only
    rw [hlatent, hready]
    rfl
  generalize putWay (wayKey (bankOf sec) (setOf sec) w) none s = u1 at h1 hw1 hf
  obtain ⟨h2, hw2⟩ := stored_quotaCheck e.tray u1
  generalize quotaCheck e.tray u1 = u2 at h2 hw2 hf
  have h12 := h1.trans h2
  obtain ⟨u, g1, g2, g3, g4⟩ := evictStart_opens (sec := sec) (way := w) (e := e) (h12.noCounter hn) (h12.evSlots.trans hv)
    (by rw [h12.only.dev]; exact hctx) (by rw [h12.only.dev]; exact hby) (by rw [h12.only.home]; exact hlat) (h12.only.picks.trans hp)
  have hslot : (evSlotOf sec e u2).sector = sec ∧ (evSlotOf sec e u2).entry = e ∧ (evSlotOf sec e u2).left = 4 := ⟨rfl, rfl, rfl⟩
  generalize evSlotOf sec e u2 = v at g2 hslot
  generalize (evictStart sec w e u2).1 = l at g4 hf
  generalize (evictStart sec w e u2).2 = q at g4 hf
  have hxq : ctxOf q c = some x := by
    rw [g4.owner]
    exact (ctxOf_congr (congrArg DevSide.ctxs (g1.dev.trans h12.only.dev)) c).trans h.ctx
  have h5 : Only [.dev] q (answer c o.d 1 q) := only_modCtx _ _ _
  have hx5 : ctxOf (answer c o.d 1 q) c = some { x with opRes := some ⟨o.d, 1, none, none⟩ } := ctxOf_modCtx_same hxq _
  have hk5 : ∀ k, k ≠ c → ctxOf (answer c o.d 1 q) k = ctxOf q k := fun k hk => ctxOf_modCtx_ne hk _ _
  generalize answer c o.d 1 q = t at h5 hx5 hk5 hf
  have hgo : go l t = t := run_still (fun d hd => by
    obtain ⟨e1, y, k, i, e2, e3, e4⟩ := g4.ids d hd
    exact stepTxn_evict ((hk5 d e1).trans e2) e3 e4) _
  rw [hgo] at hf
  have hO : Only [.regs, .sheet, .dev, .home, .meter] s t :=
    (h12.only.mono (by simp)).trans ((g1.mono (by simp)).trans ((g4.only.mono (by simp)).trans (h5.mono (by simp))))
  have hex : exec (.sevt c o) s = .next (setStage c 1 t) := by
    refine exec_harmless h.rule h.guard hh (decide_eq_true h.field) ?_ hx5 h.inFlight h.noStall hO.pending hO.aon
    dsimp only
    rw [hi, hd, if_neg (by decide)]
    exact hf
  have h6 := only_setStage c 1 t
  have hsheet : (setStage c 1 t).sheet = u.sheet := h6.sheet.trans (h5.sheet.trans g4.only.sheet)
  have hways : (setStage c 1 t).sheet.ways = sDel s.sheet.ways (wayKey (bankOf sec) (setOf sec) w) := by
    rw [hsheet, g3, hw2, hw1]
  refine ⟨_, v, hex, by rw [hsheet]; exact g2, hslot.1, hslot.2.1, hslot.2.2, by rw [hways]; exact sFind_sDel_same _ _,
    fun k hk => by rw [hways]; exact sFind_sDel_ne _ hk, fun k hk => ?_, ctxOf_setStage hx5 h.inFlight, hO.trans (h6.mono (by simp))⟩
  obtain ⟨d, y, e1, e2, e3, e4⟩ := g4.lines k hk
  refine ⟨d, y, e1, ?_, ?_, e4⟩
  · rw [holderOf, h6.home, h5.home]
    exact e2
  · rw [ctxOf_setStage_ne e1, hk5 d e1, e3]

/-- Settles O31: SLK by the sector's one way, SEVT by binding the four lines of the slot one after another. -/
theorem sheetLookupsAndEviction : Obligations.SheetLookupsAndEviction := by
  refine ⟨?_, fun c w e o x r s h hh hn hby hctx hv hp hlat hi hd => sevt_evicts h hh hn hby hctx hv hp hlat hi hd⟩
  intro c o x r s hh hn hi hd he line sec
  have hline : lineOfAddr (opd x.seen o.a) = line := rfl
  refine ⟨fun w e h hone => slk_result h hh hn hi hd hline (by simp) (lookup_hit hn he hone),
    fun hno => ⟨fun h => ?_, fun h => sevt_none h hh hi hd (findEntry_no hno)⟩⟩
  obtain ⟨t, h1, -, h3, h4⟩ := slk_result h hh hn hi hd hline (by simp) (lookup_miss hn he hno)
  exact ⟨t, h1, h3, h4⟩

end Sys2Proof.Machine
end

section
/-! PROOFS. T_SNOOP and T_CMP, the park limit, stuck contexts and the trap limit (R97 to R102, R157, R169). -/

namespace Sys2Proof.Machine

/-! ### A line is fogged as a timer expires -/

theorem fogLine_one {s : State} {line w : Nat} {e : Entry} {k : Cause} (hn : NoCounter s) (h : OneEntry s (line / 4) w e)
    (hl : (recOf s line).lst ≠ .fogged) (hk : k.cls = .de) (tray : Nat) (c other : Option Nat) :
    ∃ u, fogLine line tray k c other s = ([], u) ∧ FoggedBy line k s u := by
  have hgf : k.cls ≠ .gf := by rw [hk]; decide
  have hO := only_raise_regs hgf 0 (lineRec s line c other) s
  refine ⟨_, ?_, foggedBy hn h hk (lineRec s line c other)⟩
  have h' := oneEntry_congr (congrArg SheetSide.ways hO.sheet) h
  unfold fogLine fogMark
  rw [if_neg hl, ensureEntry_found h']

theorem FoggedBy.ctx {line : Nat} {k : Cause} {s t : State} (h : FoggedBy line k s t) (c : Nat) : ctxOf t c = ctxOf s c :=
  ctxOf_congr (congrArg DevSide.ctxs h.only.dev) c

theorem FoggedBy.reg {line : Nat} {k : Cause} {s t : State} (h : FoggedBy line k s t) {o : Nat} (ho : 0x010800 ≤ o) : rd t o = rd s o :=
  h.regs o fun hp => by
    obtain ⟨h1, h2⟩ := causeReg_range (c := k) (u := 0) (by decide)
    unfold ClassReg at hp
    omega

theorem FoggedBy.muted {line : Nat} {k : Cause} {s t : State} (h : FoggedBy line k s t) (a : Nat) (tray : Option Nat) (b : Bool) :
    muted t a tray b = muted s a tray b := by
  have hmemb : ∀ n, isMember t n a = isMember s n a := fun n => by
    rw [isMember, isMember, h.reg (by unfold oMemb trayBase; omega)]
  unfold Machine.muted
  rw [detached_congr h.only.links]
  simp only [hmemb]

theorem FoggedBy.settled {line : Nat} {k : Cause} {x : Ctx} {s t : State} (h : FoggedBy line k s t) (hs : Settled s x) : Settled t x := by
  obtain ⟨hr, hb⟩ := hs
  refine ⟨?_, fun b hb' => ?_⟩
  · rw [reelState_congr (h.reg (o := 0x020010) (by decide))]
    exact hr
  · rw [bankState, rdf, h.reg (by unfold oBank; omega)]
    exact hb b hb'

/-! ### A context that runs rules: the TIMER event (R97) -/

/-- The TIMER event of a parked context, after a change of the context that leaves it parked. -/
theorem postTimer_parked {c kind a : Nat} {x y : Ctx} {s : State} (ha : a < 32) (hy : ctxOf s c = some y)
    (hea : y.ea = x.ea) (hst : y.st = .parked) (hstall : y.stall = none) (hr : s.dev.ready = []) :
    postTimer c kind a s = updDev (fun d => { d with ready := d.ready ++
      [{ eventFor x c 41 0x3A#6 0 (w64 (0x3A + 2 ^ 6 * kind + 2 ^ 7 * a)) with ed := BitVec.ofNat 32 (nowNs s) }] }) s := by
  have he : ({ eventFor y c 41 0x3A#6 0 (w64 (0x3A + 2 ^ 6 * kind + 2 ^ 7 * (a % 32))) with ed := BitVec.ofNat 32 (nowNs s) } : Event) =
      { eventFor x c 41 0x3A#6 0 (w64 (0x3A + 2 ^ 6 * kind + 2 ^ 7 * a)) with ed := BitVec.ofNat 32 (nowNs s) } := by
    rw [Nat.mod_eq_of_lt ha, eventFor, eventFor, hea]
  unfold postTimer
  rw [hy]
  dsimp only
  rw [he]
  exact postEvent_idle (e := { eventFor x c 41 0x3A#6 0 (w64 (0x3A + 2 ^ 6 * kind + 2 ^ 7 * a)) with ed := BitVec.ofNat 32 (nowNs s) })
    hy (idles_parked hr hst hstall)

/-- `v` is `u` with context `c`, which was `x` in it, now `y`; no event was ready. -/
structure Expiring (c : Nat) (x y : Ctx) (u v : State) : Prop where
  ctx : ctxOf v c = some y
  other : ∀ j, j ≠ c → ctxOf v j = ctxOf u j
  ready : v.dev.ready = []
  only : Only [.dev] u v
  parked : y.ea = x.ea ∧ y.st = .parked ∧ y.stall = none

/-- An expiry in a parked context that runs rules: the line is FOGGED, the context changed, and the TIMER event ready. -/
theorem timer_posted {c kind a line : Nat} {k : Cause} {x y : Ctx} {s u v : State} (ha : a < 32) (hu : FoggedBy line k s u)
    (hv : Expiring c x y u v) : let t := postTimer c kind a v
    (recOf t line).lst = .fogged ∧ Caused t k 0 ∧ t.tx = s.tx ∧ holderOf t line = holderOf s line ∧
    (∀ j, j ≠ c → ctxOf t j = ctxOf s j) ∧ Only [.regs, .sheet, .dev, .meter] s t ∧ ctxOf t c = some y ∧
    t.dev.ready = [{ eventFor x c 41 0x3A#6 0 (w64 (0x3A + 2 ^ 6 * kind + 2 ^ 7 * a)) with ed := BitVec.ofNat 32 (nowNs s) }] := by
  obtain ⟨hy, hne, hready, h1, f1, f2, f3⟩ := hv
  have hft : v.aon.ft = s.aon.ft := congrArg AonSide.ft (h1.aon.trans hu.only.aon)
  intro t
  have ht : t = _ := postTimer_parked ha hy f1 f2 f3 hready
  rw [nowNs_congr hft] at ht
  have h2 : Only [.dev] v t := by rw [ht]; exact only_updDev _ v
  have hctx : t.dev.ctxs = v.dev.ctxs := by rw [ht]; rfl
  have hO : Only [.regs, .sheet, .dev, .meter] s t := (hu.only.mono (by simp)).trans ((h1.trans h2).mono (by simp))
  refine ⟨by rw [recOf_sheet (h1.trans h2).sheet]; exact hu.lst, (caused_congr (h1.trans h2).regs k 0).2 hu.caused, hO.tx,
    holderOf_congr (congrArg HomeSide.latent hO.home) line, fun j hj => ?_, hO, (ctxOf_congr hctx c).trans hy, ?_⟩
  · rw [ctxOf_congr hctx, hne j hj, hu.ctx]
  · rw [ht]
    show v.dev.ready ++ _ = _
    rw [hready]
    rfl

theorem tCmp_owes {c : Nat} {x : Ctx} {u : State} (hx : ctxOf u c = some x) (hst : x.st = .parked) (hstall : x.stall = none)
    (hr : u.dev.ready = []) : Expiring c x { x with cmpTimer := false, owed := x.owed ++ [.cmp] } u
      (modCtx c (fun y => { y with cmpTimer := false }) (oweMore c .cmp u)) :=
  ⟨ctxOf_modCtx_same (ctxOf_modCtx_same hx _) _, fun _ hj => (ctxOf_modCtx_ne hj _ _).trans (ctxOf_modCtx_ne hj _ _), hr,
    (only_modCtx _ _ _).trans (only_modCtx _ _ _), rfl, hst, hstall⟩

theorem timers_byRule : ∀ (c a w line : Nat) (e : Entry) (x : Ctx) (s : State), c < 8704 → InRun s → ctxOf s c = some x → x.byRule = true →
    x.st = .parked → x.stall = none → s.dev.ready = [] → x.expired = false → x.line = some line → x.form = none →
    OneEntry s (line / 4) w e → (recOf s line).lst ≠ .fogged →
    let left := fun (t : State) (k : Cause) => (recOf t line).lst = .fogged ∧ Caused t k 0 ∧ t.tx = s.tx ∧
      holderOf t line = holderOf s line ∧ (∀ j, j ≠ c → ctxOf t j = ctxOf s j) ∧ Only [.regs, .sheet, .dev, .meter] s t
    let timer := fun (kind b : Nat) =>
      { eventFor x c 41 0x3A#6 0 (w64 (0x3A + 2 ^ 6 * kind + 2 ^ 7 * b)) with ed := BitVec.ofNat 32 (nowNs s) }
    (a < 32 → snoopTimer x a = true →
      ∃ t, exec (.tSnoop c a) s = .next t ∧ left t .tSnoop ∧ ctxOf t c = some { stopSnoop a x with expired := true } ∧
        t.dev.ready = [timer 0 a]) ∧
    (x.agent = some a → a < 32 → x.cmpTimer = true → x.cmpIn = false →
      ∃ t, exec (.tCmp c) s = .next t ∧ left t .tCmp ∧
        ctxOf t c = some { x with cmpTimer := false, owed := x.owed ++ [.cmp] } ∧ t.dev.ready = [timer 1 a]) := by
  intro c a w line e x s hc hin hx hb hst hstall hr hexp hline hform hone hl left timer
  refine ⟨fun ha hsn => ?_, fun hag ha hcmp hcin => ?_⟩
  · obtain ⟨u, hfog, hu⟩ := fogLine_one (k := .tSnoop) hin.noCounter hone hl rfl (x.tray.getD 0) (some c) (some a)
    have hop : opTSnoop c a s = postTimer c 0 a (modCtx c (fun y => { stopSnoop a y with expired := true }) u) := by
      unfold opTSnoop
      rw [hx]
      dsimp only
      rw [hin.notSafe, hst, hexp, hsn, hline, if_neg (by simp), Option.getD_some, hfog]
      dsimp only
      rw [hb, go_nil, if_pos rfl]
    have hv : Expiring c x { stopSnoop a x with expired := true } u (modCtx c (fun y => { stopSnoop a y with expired := true }) u) :=
      ⟨ctxOf_modCtx_same ((hu.ctx c).trans hx) _, fun _ hj => ctxOf_modCtx_ne hj _ u, (congrArg DevSide.ready hu.only.dev).trans hr,
        only_modCtx _ _ u, rfl, hst, hstall⟩
    generalize modCtx c (fun y => { stopSnoop a y with expired := true }) u = v at hop hv
    obtain ⟨g1, g2, g3, g4, g5, g6, g7, g8⟩ := timer_posted (kind := 0) ha hu hv
    generalize postTimer c 0 a v = t at *
    exact ⟨t, exec_live (by simp [okCtx, okAgent, hc, ha]) hin.1 hop g6.pending g6.aon, ⟨g1, g2, g3, g4, g5, g6⟩, g7, g8⟩
  · obtain ⟨u, hfog, hu⟩ := fogLine_one (k := .tCmp) hin.noCounter hone hl rfl (x.tray.getD 0) (some c) x.agent
    have hop : opTCmp c s = postTimer c 1 a (modCtx c (fun y => { y with cmpTimer := false }) (oweMore c .cmp u)) := by
      unfold opTCmp
      rw [hx]
      dsimp only
      rw [hin.notSafe, hst, hcmp, hcin, hform, hline, if_neg (by simp), Option.getD_some, hfog]
      dsimp only
      rw [hb, go_nil, if_pos rfl, hag]
      rfl
    have hv := tCmp_owes ((hu.ctx c).trans hx) hst hstall ((congrArg DevSide.ready hu.only.dev).trans hr)
    generalize modCtx c (fun y => { y with cmpTimer := false }) (oweMore c .cmp u) = v at hop hv
    obtain ⟨g1, g2, g3, g4, g5, g6, g7, g8⟩ := timer_posted (kind := 1) ha hu hv
    generalize postTimer c 1 a v = t at *
    exact ⟨t, exec_live (decide_eq_true hc) hin.1 hop g6.pending g6.aon, ⟨g1, g2, g3, g4, g5, g6⟩, g7, g8⟩

/-! ### A read that the tables run (R99) -/

theorem toTables_tables {c : Nat} {x : Ctx} {s : State} (hx : ctxOf s c = some x) (hb : x.byRule = false) : toTables c s = s := by
  unfold toTables
  rw [hx]
  dsimp only
  rw [hb]
  rfl

/-- A REQ that waits for its CMP makes no step. -/
theorem stepTxn_waits {c : Nat} {x : Ctx} {op : ReqOp} {p : Pend} {s : State} (hx : ctxOf s c = some x) (hb : x.byRule = false)
    (hk : x.kind = .req op) (hr : x.req = some p) (hp : x.phase = .cmp) (hc : x.cmpIn = false) (hw : s.home.wslots = []) :
    stepTxn c s = ([], s) := by
  have hstep : stepReq c x p s = ([], s) := by
    unfold stepReq
    rw [hp, hc]
    simp
  have hack : ackSlots c s = s := endSlots_none hw c false
  unfold stepTxn
  split
  · rfl
  · rw [hx]
    dsimp only
    rw [hb, hk, hr]
    dsimp only
    rw [hstep]
    dsimp only
    rw [hack]
    simp

/-- A completion with data, to the requester of a ZCL REQ. -/
theorem completeDat_zcl {c b line : Nat} {y : Ctx} {op : DatOp} {d : LineData} {st : Status} {s : State} (hy : ctxOf s c = some y)
    (hag : y.agent = some b) (hl : y.line = some line) (hm : muted s b y.tray true = false) (hf : y.form = none) :
    completeDat c op d st s = markSent c (sendFrom (chanLane (chanNo s line)) y.deadline
      (.dat b op c y.txid d.fog st y.deadline d.data) s) := by
  unfold completeDat
  rw [hy]
  dsimp only
  rw [hag]
  dsimp only
  rw [hl, Option.isSome_some, hm, hf]
  rfl

/-- The end of a read whose snoop was not answered: the tables send zero data with FOG 1 and status FOGGED. -/
theorem expireTxn_read {c b line : Nat} {x : Ctx} {p : Pend} {s : State} (hn : NoCounter s) (hx : ctxOf s c = some x)
    (hb : x.byRule = false) (hk : x.kind = .req p.op) (hr : p.op.isRead = true) (hreq : x.req = some p) (hq : s.home.reqs = [p])
    (hz : p.cxl = none) (hag : x.agent = some b) (hm : muted s b x.tray true = false) (hl : x.line = some line)
    (hcpl : x.cplSent = false) (hfwd : x.fwdPass = false) : ∃ t y, expireTxn c s = ([c], t) ∧
      t.tx = s.tx ++ [.dat b .i c x.txid true .fogged x.deadline 0] ∧ ctxOf t c = some y ∧
      y = { x with expired := true, phase := .cmp, cplSent := true, cmpTimer := !owesAnswer x } ∧
      (∀ k, k ≠ c → ctxOf t k = ctxOf s k) ∧ t.home.wslots = s.home.wslots ∧ Only [.dev, .home, .tx, .xbar, .meter] s t := by
  have h1 := only_modCtx c (fun x => { x with expired := true }) s
  have hx1 := ctxOf_modCtx_same hx (fun x => { x with expired := true })
  have hk1 := fun k (hk : k ≠ c) => ctxOf_modCtx_ne hk (fun x => { x with expired := true }) s
  have hexp : expireTxn c s = ([c], completeDat c .i fogZero .fogged (setPhase c .cmp (modCtx c (fun x => { x with expired := true }) s))) := by
    unfold expireTxn
    rw [toTables_tables hx hb]
    dsimp only
    rw [hx1]
    dsimp only
    rw [hk]
    dsimp only
    rw [hcpl, hfwd, hreq, if_neg Bool.false_ne_true, if_neg Bool.false_ne_true]
    dsimp only
    rw [hr]
    rfl
  generalize modCtx c (fun x => { x with expired := true }) s = u at h1 hx1 hk1 hexp
  have h2 : Only [.dev] u (setPhase c .cmp u) := only_modCtx _ _ _
  have hx2 : ctxOf (setPhase c .cmp u) c = some { x with expired := true, phase := .cmp } := ctxOf_modCtx_same hx1 _
  have hk2 : ∀ k, k ≠ c → ctxOf (setPhase c .cmp u) k = ctxOf u k := fun k hk => ctxOf_modCtx_ne hk _ _
  generalize setPhase c .cmp u = v at h2 hx2 hk2 hexp
  have hO := h1.trans h2
  have hdat : completeDat c .i fogZero .fogged v = markSent c (sendFrom (chanLane (chanNo v line)) x.deadline
      (.dat b .i c x.txid true .fogged x.deadline 0) v) :=
    completeDat_zcl (y := { x with expired := true, phase := .cmp }) hx2 hag hl (by rw [muted_congr hO.links hO.regs]; exact hm) (Ctx.form_zcl hreq hz)
  have h3 := only_sendFrom (noCounter_of hn hO) (chanLane (chanNo v line)) x.deadline (.dat b .i c x.txid true .fogged x.deadline 0)
  have htx := tx_sendFrom (chanLane (chanNo v line)) x.deadline (.dat b .i c x.txid true .fogged x.deadline 0) v
  rw [hdat] at hexp
  generalize sendFrom (chanLane (chanNo v line)) x.deadline (.dat b .i c x.txid true .fogged x.deadline 0) v = w at h3 htx hexp
  have hxw : ∀ k, ctxOf w k = ctxOf v k := ctxOf_congr (congrArg DevSide.ctxs h3.dev)
  obtain ⟨g1, g2, g3, g4⟩ := markSent_frame ((hxw c).trans hx2) hreq (by rw [h3.home, hO.home]; exact hq)
  refine ⟨_, _, hexp, ?_, g1, rfl, fun k hk => ?_, ?_, (hO.mono (by simp)).trans ((h3.mono (by simp)).trans (g4.mono (by simp)))⟩
  · rw [g4.tx, htx, hO.tx]
  · rw [g2 k hk, hxw, hk2 k hk, hk1 k hk]
  · rw [g3, h3.home, hO.home]

theorem tSnoop_read : ∀ (c a b w line : Nat) (tx : BitVec 12) (cov : Bool) (op : SnpOp) (e : Entry) (p : Pend) (x : Ctx) (s : State),
    c < 8704 → a < 32 → InRun s → ctxOf s c = some x → x.st ≠ .quarantined → x.expired = false →
    x.owed = [.ans a op cov true] → x.kind = .req p.op → p.op.isRead = true → x.req = some p → s.home.reqs = [p] →
    p.cxl = none → x.agent = some b → muted s b x.tray true = false → x.txid = tx → x.line = some line → x.lines = [] →
    x.cplSent = false → x.fwdPass = false → x.cmpIn = false → x.byRule = false → s.home.wslots = [] → OneEntry s (line / 4) w e → (recOf s line).lst ≠ .fogged →
    ∃ t y, exec (.tSnoop c a) s = .next t ∧ (recOf t line).lst = .fogged ∧ Caused t .tSnoop 0 ∧
      t.tx = s.tx ++ [.dat b .i c tx true .fogged x.deadline 0] ∧ ctxOf t c = some y ∧ y.expired = true ∧
      y.cplSent = true ∧ y.owed = x.owed ∧ (∀ k, k ≠ c → ctxOf t k = ctxOf s k) ∧
      Only [.regs, .sheet, .dev, .home, .tx, .xbar, .meter] s t := by
  intro c a b w line tx cov op e p x s hc ha hin hx hst hexp ho hk hr hreq hq hz hag hm htx hl hls hcpl hfwd hcin hb hw hone hlst
  obtain ⟨u, hfog, hu⟩ := fogLine_one (k := .tSnoop) hin.noCounter hone hlst rfl (x.tray.getD 0) (some c) (some a)
  obtain ⟨t, y, h1, h2, h3, h4, h5, h6, h7⟩ := expireTxn_read hu.noCounter ((hu.ctx c).trans hx) hb hk hr hreq
    (by rw [hu.only.home]; exact hq) hz hag
    (by rw [hu.muted]; exact hm) hl hcpl hfwd
  have hwait : stepTxn c t = ([], t) := stepTxn_waits h3 (by rw [h4]; exact hb) (by rw [h4]; exact hk) (by rw [h4]; exact hreq)
    (by rw [h4]) (by rw [h4]; exact hcin) (by rw [h6, hu.only.home, hw])
  have hsn : snoopTimer x a = true := by simp [snoopTimer, ho]
  have hop : opTSnoop c a s = t := by
    unfold opTSnoop
    rw [hx]
    dsimp only
    rw [hin.notSafe, decide_eq_false hst, hexp, hsn, hl, if_neg (by simp), Option.getD_some, hfog]
    dsimp only
    rw [hb, h1, if_neg Bool.false_ne_true]
    exact go_done hwait
  have hO := (hu.only.mono (l := [.regs, .sheet, .dev, .home, .tx, .xbar, .meter]) (by simp)).trans (h7.mono (by simp))
  refine ⟨t, y, exec_live (by simp [okCtx, okAgent, hc, ha]) hin.1 hop hO.pending hO.aon, ?_, (caused_congr h7.regs _ 0).2 hu.caused, ?_,
    h3, by rw [h4], by rw [h4], by rw [h4], fun k hk => (h5 k hk).trans (hu.ctx k), hO⟩
  · rw [recOf_sheet h7.sheet]
    exact hu.lst
  · rw [h2, hu.only.tx, htx]

/-! ### The end of a REQ that the tables run (R93, R100, R101) -/

/-- The records of an agent are taken off the entry of a FOGGED line, which stays FOGGED (Table RACE-6). -/
theorem race6_fogged {s : State} {line : Nat} (h : FogEntry line s) (a : Nat) (vol : Bool) (c : Option Nat) :
    Only [.sheet] s (race6 line a vol c s) ∧ FogEntry line (race6 line a vol c s) := by
  obtain ⟨w, e, hone, hl⟩ := id h
  have hrace : race6 line a vol c s = clearSv (line / 4) a s := by
    unfold race6
    dsimp only
    rw [h.lst]
    rfl
  let f : Entry := { e with sv := e.sv &&& ~~~(1#32 <<< a) }
  have hf : f.lst.get (line % 4) = .fogged := hl
  have hidle : isIdle f = false := by
    refine Bool.eq_false_iff.2 fun hi => ?_
    rw [isIdle_get hi] at hf
    cases hf
  have heq : clearSv (line / 4) a s = storeEntry (line / 4) w f s := by
    unfold clearSv
    rw [findEntry_one hone]
  have hs := storeEntry_sector (e' := f) hone rfl
  rw [hrace, heq]
  refine ⟨?_, w, f, hs.one f (by rw [hidle]; rfl), hf⟩
  rw [storeEntry, hidle]
  simp [only_iff, putWay]

theorem race6_fold_fogged {line : Nat} {c : Option Nat} {f : State → Nat → State} (hf : ∀ u a, ∃ vol, f u a = race6 line a vol c u)
    (l : List Nat) : ∀ s, FogEntry line s → Only [.sheet] s (l.foldl f s) ∧ FogEntry line (l.foldl f s) := by
  induction l with
  | nil => exact fun s h => ⟨Only.refl _ s, h⟩
  | cons a l ih =>
    intro s h
    obtain ⟨vol, hv⟩ := hf s a
    obtain ⟨h1, h2⟩ := race6_fogged h a vol c
    rw [List.foldl_cons, hv]
    obtain ⟨h3, h4⟩ := ih _ h2
    exact ⟨h1.trans h3, h4⟩

/-- A FOGGED line's records are resolved as its transaction RETIREs: it stays FOGGED. -/
theorem resolveGone_fogged {s : State} {line : Nat} (h : FogEntry line s) (c : Nat) :
    Only [.sheet] s (resolveGone c line s) ∧ FogEntry line (resolveGone c line s) :=
  race6_fold_fogged (fun _ _ => ⟨_, rfl⟩) _ s h

theorem tCmp_tables : ∀ (c w line : Nat) (e : Entry) (p : Pend) (x : Ctx) (s : State), c < 8704 → InRun s → Settled s x →
    ctxOf s c = some x → x.st ≠ .quarantined → x.cmpTimer = true → x.cmpIn = false → x.owed = [] → x.kind = .req p.op →
    x.req = some p → s.home.reqs = [p] → p.cxl = none → x.line = some line → x.lines = [] → x.mem = none → x.byRule = false →
    (∀ e ∈ s.dev.ready, e.ctx ≠ c) → holderOf s line = some (.ctx c) → s.home.wslots = [] → s.home.chains = [] →
    OneEntry s (line / 4) w e → (recOf s line).lst ≠ .fogged →
    ∃ t y, exec (.tCmp c) s = .next t ∧ (recOf t line).lst = .fogged ∧ Caused t .tCmp 0 ∧ ctxOf t c = some y ∧
      y.st = .quarantined ∧ y.owed = [.cmp] ∧ holderOf t line = none ∧ t.home.reqs = [p] ∧
      (∀ k, k ≠ c → ctxOf t k = ctxOf s k) ∧ Only [.regs, .sheet, .dev, .home, .meter] s t := by
  intro c w line e p x s hc hin hset hx hst hcmp hcin ho hk hreq hq hz hl hls hm hb hready hh hw hch hone hlst
  obtain ⟨u, hfog, hu⟩ := fogLine_one (k := .tCmp) hin.noCounter hone hlst rfl (x.tray.getD 0) (some c) x.agent
  have hxu : ctxOf u c = some x := (hu.ctx c).trans hx
  have h1 : Only [.dev] u (modCtx c (fun y => { y with cmpTimer := false }) (oweMore c .cmp u)) :=
    (only_modCtx _ _ _).trans (only_modCtx _ _ _)
  have hx1 : ctxOf (modCtx c (fun y => { y with cmpTimer := false }) (oweMore c .cmp u)) c =
      some { x with cmpTimer := false, owed := x.owed ++ [.cmp] } := ctxOf_modCtx_same (ctxOf_modCtx_same hxu _) _
  have hk1 : ∀ k, k ≠ c → ctxOf (modCtx c (fun y => { y with cmpTimer := false }) (oweMore c .cmp u)) k = ctxOf s k := fun k hk =>
    (ctxOf_modCtx_ne hk _ _).trans ((ctxOf_modCtx_ne hk _ _).trans (hu.ctx k))
  have hop : opTCmp c s = go (retireCore c (modCtx c (fun y => { y with cmpTimer := false }) (oweMore c .cmp u))).1
      (retireCore c (modCtx c (fun y => { y with cmpTimer := false }) (oweMore c .cmp u))).2 := by
    unfold opTCmp
    rw [hx]
    dsimp only
    rw [hin.notSafe, decide_eq_false hst, hcmp, hcin, Ctx.form_zcl hreq hz, hl, if_neg (by simp), Option.getD_some, hfog]
    dsimp only
    rw [hb, if_neg Bool.false_ne_true]
    rfl
  obtain ⟨y, hy⟩ : ∃ y : Ctx, y = { x with cmpTimer := false, owed := x.owed ++ [.cmp] } := ⟨_, rfl⟩
  rw [← hy] at hx1
  generalize modCtx c (fun y => { y with cmpTimer := false }) (oweMore c .cmp u) = v at h1 hx1 hk1 hop
  have hO1 : Only [.regs, .sheet, .dev, .meter] s v := (hu.only.mono (by simp)).trans (h1.mono (by simp))
  have hheld : y.held = [line] := by rw [hy, Ctx.held, hl, hls]
  have hhv : holderOf v line = some (.ctx c) := (holderOf_congr (congrArg HomeSide.latent hO1.home) line).trans hh
  have hres : resolveHeld c y v = resolveGone c line v := by
    unfold resolveHeld
    rw [hheld, show y.byRule = false by rw [hy]; exact hb, if_neg Bool.false_ne_true, List.foldl_cons, List.foldl_nil, if_pos hhv]
  obtain ⟨h2, hfogged⟩ := resolveGone_fogged (hu.entry.congr (congrArg SheetSide.ways h1.sheet)) c
  have hret := retireCore_req (op := p.op) hx1 (by rw [hy]; exact hk) (by rw [hy]; exact hl) (by rw [hy]; exact hls) (by rw [hy]; exact hm)
    (by
      rw [hres]
      refine settled_congr (h2.regs.trans h1.regs) ?_
      obtain ⟨e1, e2⟩ := hu.settled hset
      exact ⟨by rw [hy]; exact e1, e2⟩)
    (by rw [hres]; exact (holderOf_congr (congrArg HomeSide.latent h2.home) line).trans hhv)
    (by rw [hres, h2.home, hO1.home, hw]) (by rw [hres, h2.home, hO1.home, hch])
  rw [hres] at hret
  generalize resolveGone c line v = q at h2 hfogged hret
  rw [hret] at hop
  have hO2 := hO1.trans (h2.mono (by simp))
  have howed : y.owed = [.cmp] := by rw [hy, ho]; rfl
  obtain ⟨g1, -, -, -, g5, g6, -, g8⟩ := reqRetired_frame c y q
  obtain ⟨z, hz1, hz2, hz3⟩ := g8 (by rw [howed]; simp)
  have hreqs : (endReq y q).home.reqs = [p] := by
    have : endReq y q = q := by
      unfold endReq
      rw [show y.req = some p by rw [hy]; exact hreq, howed]
      simp
    rw [this, hO2.home, hq]
  generalize reqRetired c y q = r at *
  have h3 := only_delHolder line r
  have hhold := holderOf_delHolder_same line r
  have hrq : (delHolder line r).home.reqs = r.home.reqs := rfl
  generalize delHolder line r = t at *
  have hO := (hO2.mono (l := [.regs, .sheet, .dev, .home, .meter]) (by simp)).trans ((g1.mono (by simp)).trans (h3.mono (by simp)))
  have hxt : ∀ k, ctxOf t k = ctxOf r k := ctxOf_congr (congrArg DevSide.ctxs h3.dev)
  have hop : opTCmp c s = t := hop.trans (go_nil t)
  refine ⟨t, z, exec_live (decide_eq_true hc) hin.1 hop hO.pending hO.aon, ?_, ?_, (hxt c).trans hz1, hz2, hz3.trans howed, hhold, ?_,
    fun k hk => ?_, hO⟩
  · rw [recOf_sheet (h3.sheet.trans g1.sheet)]
    exact hfogged.lst
  · exact (caused_congr (h3.regs.trans (g1.regs.trans (h2.regs.trans h1.regs))) _ 0).2 hu.caused
  · rw [hrq, g5, hreqs]
  · rw [hxt, g6 k hk, ctxOf_congr (congrArg DevSide.ctxs h2.dev), hk1 k hk]

/-! ### The park limit, stuck contexts, and the trap limit (R102, R157, R169) -/

theorem parkLong_traps : ∀ (c : Nat) (x : Ctx) (s : State), c < 8704 → InRun s → Settled s x → ctxOf s c = some x → x.byRule = true →
    x.st = .parked → x.cmpTimer = false → x.kind = .mgmt false → x.line = none → x.lines = [] → x.owed = [] →
    x.mem = none → x.req = none → x.events = [] → (∀ e ∈ s.dev.ready, e.ctx ≠ c) → s.home.wslots = [] →
    bitOf (rd s 0x020100) 31 = false →
    ∃ t, exec (.parkLong c) s = .next t ∧ ctxOf t c = none ∧ rd t 0x020108 = satInc32 (rd s 0x020108) ∧
      rd t 0x020100 = w64 (0x7F06 + 2 ^ 16 * x.ts + 2 ^ 30 * b2n x.reelB + 2 ^ 31) ∧
      rd t 0x020104 = w64 (x.lastRule.toNat + 2 ^ 16 * c) ∧ Caused t .mreqDone 0 ∧
      Only [.regs, .dev, .home, .meter] s t := by
  intro c x s hc hin hset hx hb hst hcmp hk hl hls ho hm hreq he hr hw hv
  obtain ⟨h1, -, h3, h4, -, h6, -, h8⟩ := trap_mgmt (code := 0x7F06) (rule := x.lastRule.toNat) hin.noCounter hx hb hk hl hls ho hm hreq
    he hr hw hset.1
  have hany : anyTimer x = false := by rw [anyTimer, hcmp, ho]; rfl
  have hop : opParkLong c s = trap c 0x7F06 x.lastRule.toNat s := by
    unfold opParkLong
    rw [hx]
    dsimp only
    rw [hin.notSafe, hb, hst, hany]
    rfl
  generalize trap c 0x7F06 x.lastRule.toNat s = t at *
  obtain ⟨g1, g2⟩ := h6 hv
  exact ⟨t, exec_live (decide_eq_true hc) hin.1 hop h8.pending h8.aon, h1, h3, g1, g2, h4, h8⟩

theorem htidStuck_counts : ∀ (c a : Nat) (x : Ctx) (s : State), c < 8704 → asleep s = false → ctxOf s c = some x → x.st = .quarantined →
    owingAgents x = [a] → linkState s (2 * (a / 2)) = 0 → linkState s (2 * (a / 2) + 1) = 0 →
    ∃ t, exec (.htidStuck c) s = .next t ∧ Caused t .htidStuck 0 ∧ rd t 0x010028 = satInc32 (rd s 0x010028) ∧
      Only [.regs] s t := by
  intro c a x s hc ha hx hst ho hl0 hl1
  have hO := only_raise_regs (c := .htidStuck) (by decide) 0 (lineRec s (x.line.getD 0) (some c) (owingAgents x).head?) s
  have hcause := caused_raise .htidStuck (u := 0) (by decide) (lineRec s (x.line.getD 0) (some c) (owingAgents x).head?) s
  have hcount := rd_raise_counter (c := .htidStuck) (o := 0x010028) (u := 0) rfl (by decide)
    (lineRec s (x.line.getD 0) (some c) (owingAgents x).head?) s
  have hR := regsOnly_raise .htidStuck 0 (lineRec s (x.line.getD 0) (some c) (owingAgents x).head?) s
  have hop : opHtidStuck c s = (fun u => ((owingAgents x).map (· / 2)).dedup.foldl (fun s n =>
      [2 * n, 2 * n + 1].foldl (fun s a =>
        let st := linkState s a
        if !agentExists s a || decide (st = 0) || decide (st = 4) || decide (st = 5) then s else enterDown a s) s) u)
      (raise .htidStuck 0 (lineRec s (x.line.getD 0) (some c) (owingAgents x).head?) s) := by
    unfold opHtidStuck
    rw [hx]
    dsimp only
    rw [if_neg (by simp [hst, ho])]
  generalize raise .htidStuck 0 (lineRec s (x.line.getD 0) (some c) (owingAgents x).head?) s = u at hO hcause hcount hR hop
  have hlink : ∀ b, linkState u b = linkState s b := fun b => by
    unfold linkState rdf
    rw [hR _ (by rw [show causeReg Cause.htidStuck.domain 0 = 0x010100 from rfl]; unfold ClassReg oPtStatus portBase; omega)]
  have hop : opHtidStuck c s = u := by
    rw [hop, ho]
    have h0 : linkState u (2 * (a / 2)) = 0 := (hlink _).trans hl0
    have h1 : linkState u (2 * (a / 2) + 1) = 0 := (hlink _).trans hl1
    simp [h0, h1]
  exact ⟨u, exec_live (decide_eq_true hc) ha hop hO.pending hO.aon, hcause, hcount, hO⟩

theorem trapStorm_enters : ∀ s : State, asleep s = false → isSafe s = false → s.dev.trapWin = s.aon.ft.toNat / 4000000 →
    (rdf s 0x020018 0 16 < s.dev.trapCount →
      ∃ t, exec .trapStorm s = .next t ∧ Caused t .trapStorm 0 ∧ isSafe t = true ∧ Only [.regs, .safe] s t) ∧
    (s.dev.trapCount ≤ rdf s 0x020018 0 16 → exec .trapStorm s = .next s) := by
  intro s ha hs hwin
  refine ⟨fun h => ?_, fun h => ?_⟩
  · have hop : opTrapStorm s = raise .trapStorm 0 (storeRec 10 false s.dev.trapCount) s := if_pos ⟨hwin, h⟩
    have hO := only_raise .trapStorm 0 (storeRec 10 false s.dev.trapCount) s
    have hc := caused_raise .trapStorm (u := 0) (by decide) (storeRec 10 false s.dev.trapCount) s
    have hsafe := isSafe_raise_gf (c := .trapStorm) rfl 0 (storeRec 10 false s.dev.trapCount) s
    generalize raise .trapStorm 0 (storeRec 10 false s.dev.trapCount) s = t at *
    exact ⟨t, exec_live (ok := true) rfl ha hop hO.pending hO.aon, hc, hsafe, hO⟩
  · have hop : opTrapStorm s = s := if_neg fun hc => absurd hc.2 (Nat.not_lt.2 h)
    exact exec_live (ok := true) rfl ha hop rfl rfl

end Sys2Proof.Machine
end

section
/-! PROOFS. The sweeps after a detach (R93 to R95, R146). -/

namespace Sys2Proof.Machine

/-! ### The entry of a sector, or none -/

/-- Bank, set and tag give the sector back. -/
theorem sectorOf_eq {sec : Nat} (h : sec < 2 ^ 34) : sectorOf (bankOf sec) (setOf sec) (tagOf sec) = sec := by
  have hhi : setOf sec * 2 ^ 5 + tagOf sec * 2 ^ 19 = sec / 32 * 32 := by
    unfold setOf tagOf
    omega
  have hdiv : sec / 32 * 32 / 32 = sec / 32 := by omega
  have hmod : sec / 32 * 32 % 32 = 0 := by omega
  have hx : Nat.xor ((sec % 32) ^^^ bankFold (sec / 32)) (0 ^^^ bankFold (sec / 32)) = sec % 32 := by
    show ((sec % 32) ^^^ bankFold (sec / 32)) ^^^ (0 ^^^ bankFold (sec / 32)) = sec % 32
    rw [Nat.zero_xor, Nat.xor_assoc, Nat.xor_self, Nat.xor_zero]
  unfold sectorOf
  dsimp only
  rw [hhi, bankOf_eq sec, bankOf_eq (sec / 32 * 32), hdiv, hmod, hx]
  omega

/-- The one entry of a sheet is its sector's. -/
theorem oneEntry_only {s : State} {sec way : Nat} {e : Entry} (hway : way < 8)
    (h : s.sheet.ways = [(wayKey (bankOf sec) (setOf sec) way, e)]) (ht : e.tag = tagOf sec) : OneEntry s sec way e := by
  have hs : storedWay s (wayKey (bankOf sec) (setOf sec) way) = some e := by
    rw [storedWay, h]
    simp [sFind]
  have hne : ∀ v, v < 8 → v ≠ way → wayAt s sec v = none := fun v hv hne => by
    have hk : wayKey (bankOf sec) (setOf sec) v ≠ wayKey (bankOf sec) (setOf sec) way := fun hk =>
      hne (wayKey_inj (setOf_lt _) (setOf_lt _) hv hway hk).2.2
    unfold wayAt storedWay
    rw [h]
    simp [sFind, hk]
  show waysOf s sec = [(way, e)]
  rw [waysOf_single hway hne, wayAt_of hs ht]
  rfl

/-- A sector has the entry `o` in way `w`, or none. -/
def EntryIs (s : State) (sec w : Nat) (o : Option Entry) : Prop :=
  (∀ e, o = some e → OneEntry s sec w e) ∧ findEntry s sec = o.map (fun e => (w, e))

theorem EntryIs.congr {s t : State} {sec w : Nat} {o : Option Entry} (h : EntryIs s sec w o) (hw : t.sheet.ways = s.sheet.ways) :
    EntryIs t sec w o := ⟨fun e he => oneEntry_congr hw (h.1 e he), (findEntry_congr hw _).trans h.2⟩

theorem OneEntry.entryIs {s : State} {sec w : Nat} {e : Entry} (h : OneEntry s sec w e) : EntryIs s sec w (some e) :=
  ⟨fun _ hf => Option.some.inj hf ▸ h, findEntry_one h⟩

/-- The state of a line of a sector's entry: I where there is none. -/
def lstOf (o : Option Entry) (k : Nat) : Lst := (o.map (fun e => e.lst.get k)).getD .i

/-- The owner of a line of a sector's entry. -/
def ownOf (o : Option Entry) (k : Nat) : Nat := (o.map (fun e => e.own.get k)).getD 0

theorem recOf_entry {s : State} {line w : Nat} {o : Option Entry} (h : EntryIs s (line / 4) w o) (hv : s.sheet.evSlots = []) :
    (recOf s line).lst = lstOf o (line % 4) ∧ (recOf s line).own = ownOf o (line % 4) := by
  cases o with
  | none =>
    rw [recOf_none h.2 hv]
    exact ⟨rfl, rfl⟩
  | some e =>
    rw [recOf_found h.2]
    exact ⟨rfl, rfl⟩

/-- What is left of an entry that is stored back. -/
def kept (e : Entry) : Option Entry := if isIdle e && !e.spill then none else some e

theorem lstOf_kept (e : Entry) (k : Nat) : lstOf (kept e) k = e.lst.get k ∧ (e.lst.get k ≠ .i → ownOf (kept e) k = e.own.get k) := by
  unfold kept
  cases h : isIdle e && !e.spill with
  | true =>
    have hi := isIdle_get (Bool.and_eq_true _ _ ▸ h).1 k
    exact ⟨hi.symm, fun hne => absurd hi hne⟩
  | false => exact ⟨rfl, fun _ => rfl⟩

theorem owned_ne_i {l : Lst} (h : l.owned = true) : l ≠ .i := by
  rintro rfl
  cases h

/-- An agent's bit is taken off the sharers of a sector's entry. -/
theorem clearSv_entry {s : State} {sec w : Nat} {o : Option Entry} (h : EntryIs s sec w o) (hv : s.sheet.evSlots = []) (a : Nat) :
    Stored s (clearSv sec a s) ∧ ∃ p, EntryIs (clearSv sec a s) sec w p ∧ ∀ k, lstOf p k = lstOf o k ∧
      ((lstOf o k).owned = true → ownOf p k = ownOf o k) := by
  cases o with
  | none =>
    have heq : clearSv sec a s = s := by
      unfold clearSv
      rw [h.2]
      dsimp only [Option.map]
      rw [evictOf, hv]
      rfl
    rw [heq]
    exact ⟨Stored.refl s, none, h, fun k => ⟨rfl, fun _ => rfl⟩⟩
  | some e =>
    have hs := storeEntry_sector (e' := { e with sv := e.sv &&& ~~~(1#32 <<< a) }) (h.1 e rfl) rfl
    have heq : clearSv sec a s = storeEntry sec w { e with sv := e.sv &&& ~~~(1#32 <<< a) } s := by
      unfold clearSv
      rw [h.2]
      rfl
    rw [heq]
    refine ⟨hs.stored, kept { e with sv := e.sv &&& ~~~(1#32 <<< a) }, ⟨hs.one, hs.found⟩, fun k => ?_⟩
    obtain ⟨h1, h2⟩ := lstOf_kept { e with sv := e.sv &&& ~~~(1#32 <<< a) } k
    exact ⟨h1, fun ho => h2 (owned_ne_i ho)⟩

/-- A line's record is updated in the entry of its sector. -/
theorem setRec_entry {s : State} {sec w k : Nat} {e : Entry} (hn : NoCounter s) (h : EntryIs s sec w (some e)) (hk : k < 4) (l : Lst)
    (own : Nat) : Stored s (setRec (4 * sec + k) l own 0 s) ∧ ∃ p, EntryIs (setRec (4 * sec + k) l own 0 s) sec w p ∧
      lstOf p k = l ∧ ∀ j, j < 4 → j ≠ k → lstOf p j = e.lst.get j ∧ ((e.lst.get j).owned = true → ownOf p j = e.own.get j) := by
  have hsec : (4 * sec + k) / 4 = sec := by omega
  have hmod : (4 * sec + k) % 4 = k := by omega
  have hf := setRec_frame (line := 4 * sec + k) hn (by rw [hsec]; exact h.1 e rfl) l own 0
  dsimp only at hf
  rw [hsec, hmod] at hf
  obtain ⟨hlst, hown, -⟩ := applyUpdate_lst e k l own 0
  refine ⟨hf.stored, kept (applyUpdate e k l own 0), ⟨hf.one, hf.found⟩, ?_, fun j hj hne => ?_⟩
  · rw [(lstOf_kept _ _).1, hlst, Quad.get_set_same]
  · obtain ⟨h1, h2⟩ := lstOf_kept (applyUpdate e k l own 0) j
    have hget : (applyUpdate e k l own 0).lst.get j = e.lst.get j := by rw [hlst, Quad.get_set_ne _ _ (by omega)]
    refine ⟨h1.trans hget, fun ho => (h2 ?_).trans ?_⟩
    · rw [hget]
      exact owned_ne_i ho
    · rw [hown, Quad.get_set_ne _ _ (by omega)]

/-! ### Table RACE-6, line by line -/

/-- A line that the agent owns. -/
def goneAt (e : Entry) (a k : Nat) : Bool := (e.lst.get k).owned && decide (e.own.get k = a)

/-- A line that the agent owns, and whose data is lost with it: every state but E of a voluntary detach. -/
def dirtyAt (e : Entry) (a : Nat) (vol : Bool) (k : Nat) : Bool := goneAt e a k && !(vol && decide (e.lst.get k = .e))

/-- The state that the sweep leaves. -/
def sweptAt (e : Entry) (a : Nat) (vol : Bool) (k : Nat) : Lst :=
  if goneAt e a k then (if dirtyAt e a vol k then .fogged else .i) else e.lst.get k

theorem Stored.sweeps {s t : State} (h : Stored s t) : t.sheet.sweeps = s.sheet.sweeps := by
  obtain ⟨w, e, q, hs⟩ := h.sheet
  rw [hs]

theorem Stored.dirty {s t : State} (h : Stored s t) (hc : Caused s .detachDirty 0) : Caused t .detachDirty 0 :=
  hc.keep h.regs (by decide)

/-- The first `m` lines of a sector have been swept; `w` is the sweep. -/
structure SweptTo (e : Entry) (a : Nat) (vol : Bool) (sec way : Nat) (w : Sweep) (m : Nat) (s u : State) : Prop where
  entry : ∃ o, EntryIs u sec way o ∧ (∀ k, k < m → lstOf o k = sweptAt e a vol k) ∧
    ∀ k, m ≤ k → k < 4 → lstOf o k = e.lst.get k ∧ ((e.lst.get k).owned = true → ownOf o k = e.own.get k)
  evSlots : u.sheet.evSlots = []
  sweeps : u.sheet.sweeps = [{ w with fogged := w.fogged || (List.range m).any (dirtyAt e a vol) }]
  caused : ∀ k, k < m → dirtyAt e a vol k = true → Caused u .detachDirty 0
  noCounter : NoCounter u
  only : Only [.regs, .sheet, .meter] s u

/-- What the step of one line must give: its record, the other records, and the sweep's mark. -/
structure LineSwept (e : Entry) (a : Nat) (vol : Bool) (sec way m : Nat) (o : Option Entry) (u t : State) : Prop where
  entry : ∃ p, EntryIs t sec way p ∧ lstOf p m = sweptAt e a vol m ∧
    ∀ k, k < 4 → k ≠ m → lstOf p k = lstOf o k ∧ ((lstOf o k).owned = true → ownOf p k = ownOf o k)
  evSlots : t.sheet.evSlots = u.sheet.evSlots
  sweeps : ∀ w n, u.sheet.sweeps = [w] → w.kind = .detach a vol n → t.sheet.sweeps = [{ w with fogged := w.fogged || dirtyAt e a vol m }]
  caused : dirtyAt e a vol m = true → Caused t .detachDirty 0
  causedKept : Caused u .detachDirty 0 → Caused t .detachDirty 0
  noCounter : NoCounter t
  only : Only [.regs, .sheet, .meter] u t

theorem SweptTo.step {e : Entry} {a : Nat} {vol : Bool} {sec way m : Nat} {w : Sweep} {n : Option Nat} {s u t : State}
    (h : SweptTo e a vol sec way w m s u) (hw : w.kind = .detach a vol n) (hm : m < 4)
    (ht : ∀ o, EntryIs u sec way o → lstOf o m = e.lst.get m → ((e.lst.get m).owned = true → ownOf o m = e.own.get m) →
      LineSwept e a vol sec way m o u t) : SweptTo e a vol sec way w (m + 1) s t := by
  obtain ⟨o, ho, hlt, hge⟩ := h.entry
  obtain ⟨hl, hown⟩ := hge m (le_refl m) hm
  have hL := ht o ho hl hown
  obtain ⟨p, hp, hpm, hpk⟩ := hL.entry
  refine ⟨⟨p, hp, fun k hk => ?_, fun k hk hk4 => ?_⟩, hL.evSlots.trans h.evSlots, ?_, fun k hk hd => ?_, hL.noCounter, h.only.trans hL.only⟩
  · by_cases hkm : k = m
    · rw [hkm, hpm]
    · rw [(hpk k (by omega) hkm).1, hlt k (by omega)]
  · obtain ⟨g1, g2⟩ := hge k (by omega) hk4
    obtain ⟨p1, p2⟩ := hpk k hk4 (by omega)
    exact ⟨p1.trans g1, fun ho => (p2 (by rw [g1]; exact ho)).trans (g2 ho)⟩
  · rw [hL.sweeps _ n h.sweeps hw, List.range_succ, List.any_append]
    simp [Bool.or_assoc]
  · by_cases hkm : k = m
    · exact hL.caused (hkm ▸ hd)
    · exact hL.causedKept (h.caused k (by omega) hd)

/-- The agent's bit comes off the entry after the line's record has been dealt with. -/
theorem lineSwept_clear {e : Entry} {a : Nat} {vol : Bool} {sec way m : Nat} {o p : Option Entry} {u v : State}
    (hp : EntryIs v sec way p) (hm : lstOf p m = sweptAt e a vol m)
    (hk : ∀ k, k < 4 → k ≠ m → lstOf p k = lstOf o k ∧ ((lstOf o k).owned = true → ownOf p k = ownOf o k))
    (hv : v.sheet.evSlots = u.sheet.evSlots) (hev : u.sheet.evSlots = [])
    (hs : ∀ w n, u.sheet.sweeps = [w] → w.kind = .detach a vol n → v.sheet.sweeps = [{ w with fogged := w.fogged || dirtyAt e a vol m }])
    (hc : dirtyAt e a vol m = true → Caused v .detachDirty 0) (hck : Caused u .detachDirty 0 → Caused v .detachDirty 0)
    (hn : NoCounter v) (hO : Only [.regs, .sheet, .meter] u v) : LineSwept e a vol sec way m o u (clearSv sec a v) := by
  obtain ⟨h1, q, hq, hqk⟩ := clearSv_entry hp (hv.trans hev) a
  refine ⟨⟨q, hq, (hqk m).1.trans hm, fun k hk4 hne => ?_⟩, h1.evSlots.trans hv, fun w n hw hwk => h1.sweeps.trans (hs w n hw hwk),
    fun hd => h1.dirty (hc hd), fun hd => h1.dirty (hck hd), h1.noCounter hn, hO.trans h1.only⟩
  obtain ⟨p1, p2⟩ := hk k hk4 hne
  obtain ⟨q1, q2⟩ := hqk k
  exact ⟨q1.trans p1, fun ho => (q2 (by rw [p1]; exact ho)).trans (p2 ho)⟩

/-- Table RACE-6 for one line of the sector. -/
theorem race6_line {e : Entry} {a sec way m : Nat} {vol : Bool} {o : Option Entry} {u : State} (hn : NoCounter u) (hm : m < 4)
    (hev : u.sheet.evSlots = []) (ho : EntryIs u sec way o) (hl : lstOf o m = e.lst.get m)
    (hown : (e.lst.get m).owned = true → ownOf o m = e.own.get m) : LineSwept e a vol sec way m o u (race6 (4 * sec + m) a vol none u) := by
  have hsec : (4 * sec + m) / 4 = sec := by omega
  have hmod : (4 * sec + m) % 4 = m := by omega
  obtain ⟨hrl, hro⟩ := recOf_entry (line := 4 * sec + m) (by rw [hsec]; exact ho) hev
  rw [hmod] at hrl hro
  have hgone : ((recOf u (4 * sec + m)).lst.owned && decide ((recOf u (4 * sec + m)).own = a)) = goneAt e a m := by
    rw [hrl, hro, hl, goneAt]
    cases hb : (e.lst.get m).owned with
    | false => rfl
    | true => rw [hown hb]
  unfold race6
  dsimp only
  rw [hgone, hsec, hrl, hl]
  cases hg : goneAt e a m with
  | false =>
    rw [if_neg Bool.false_ne_true]
    have hd : dirtyAt e a vol m = false := by rw [dirtyAt, hg, Bool.false_and]
    refine lineSwept_clear ho (by rw [hl, sweptAt, hg]; rfl) (fun k _ _ => ⟨rfl, fun _ => rfl⟩) rfl hev (fun w n hw _ => ?_)
      (fun h => by rw [hd] at h; cases h) id hn (Only.refl _ u)
    rw [hw, hd, Bool.or_false]
  | true =>
    rw [if_pos rfl]
    have howned : (e.lst.get m).owned = true := (Bool.and_eq_true _ _ ▸ hg).1
    obtain ⟨f, rfl⟩ : ∃ f, o = some f := by
      cases o with
      | some f => exact ⟨f, rfl⟩
      | none => rw [← hl] at howned; cases howned
    have hdirty : dirtyAt e a vol m = !(vol && decide (e.lst.get m = .e)) := by rw [dirtyAt, hg, Bool.true_and]
    have hother : ∀ {p : Option Entry}, (∀ j, j < 4 → j ≠ m → lstOf p j = f.lst.get j ∧ ((f.lst.get j).owned = true → ownOf p j = f.own.get j)) →
        ∀ k, k < 4 → k ≠ m → lstOf p k = lstOf (some f) k ∧ ((lstOf (some f) k).owned = true → ownOf p k = ownOf (some f) k) := id
    by_cases hev2 : (decide (e.lst.get m = .e) && vol) = true
    · have hd : dirtyAt e a vol m = false := by rw [hdirty, Bool.and_comm, hev2]; rfl
      rw [if_pos hev2]
      obtain ⟨h1, p, hp, hpm, hpk⟩ := setRec_entry hn ho hm .i 0
      generalize setRec (4 * sec + m) .i 0 0 u = v at h1 hp
      refine lineSwept_clear hp (by rw [hpm, sweptAt, hg, hd]; rfl) (hother hpk) h1.evSlots hev (fun w n hw _ => ?_)
        (fun h => by rw [hd] at h; cases h) h1.dirty (h1.noCounter hn) h1.only
      rw [h1.sweeps, hw, hd, Bool.or_false]
    · have hd : dirtyAt e a vol m = true := by
        rw [hdirty, Bool.and_comm, Bool.eq_false_iff.2 hev2]
        rfl
      rw [if_neg hev2]
      obtain ⟨h1, p, hp, hpm, hpk⟩ := setRec_entry hn ho hm .fogged 0
      have hn1 := h1.noCounter hn
      generalize setRec (4 * sec + m) .fogged 0 0 u = v at h1 hp hn1
      have h2 := only_raise_regs (c := .detachDirty) (by decide) 0 (lineRec u (4 * sec + m) none (some a)) v
      have hn2 := noCounter_raise (c := .detachDirty) (by decide) (u := 0) (by decide) (lineRec u (4 * sec + m) none (some a)) hn1
      have hc2 := caused_raise .detachDirty (u := 0) (by decide) (lineRec u (4 * sec + m) none (some a)) v
      generalize raise .detachDirty 0 (lineRec u (4 * sec + m) none (some a)) v = x at h2 hn2 hc2
      have h3 : Only [.sheet] x (noteFogged a x) := only_updSheet _ x
      have hO : Only [.regs, .sheet, .meter] u (noteFogged a x) := h1.only.trans ((h2.mono (by simp)).trans (h3.mono (by simp)))
      refine lineSwept_clear (hp.congr (t := noteFogged a x) ((show (noteFogged a x).sheet.ways = x.sheet.ways from rfl).trans (congrArg SheetSide.ways h2.sheet))) (by rw [hpm, sweptAt, hg, hd]; rfl) (hother hpk) ?_ hev
        (fun w n hw hwk => ?_) (fun _ => (caused_congr h3.regs _ 0).2 hc2) (fun _ => (caused_congr h3.regs _ 0).2 hc2)
        (noCounter_of hn2 h3) hO
      · show x.sheet.evSlots = _
        rw [h2.sheet, h1.evSlots]
      · show x.sheet.sweeps.map _ = _
        rw [h2.sheet, h1.sweeps, hw, List.map_cons, List.map_nil, hwk]
        dsimp only
        rw [if_pos rfl, hd, Bool.or_true]

/-! ### A sweep visits a set -/

/-- The sweep of a sector none of whose lines is latent. -/
theorem sweepSector_swept {e : Entry} {a sec way : Nat} {vol : Bool} {w : Sweep} {n : Option Nat} {s : State}
    (h : SweptTo e a vol sec way w 0 s s) (hw : w.kind = .detach a vol n) (hlat : s.home.latent = []) :
    SweptTo e a vol sec way w 4 s (sweepSector a vol sec s) := by
  have hfold : ∀ m, m ≤ 4 → SweptTo e a vol sec way w m s ((List.range m).foldl (fun s k =>
      if (holderOf s (4 * sec + k)).isSome then s else race6 (4 * sec + k) a vol none s) s) := by
    intro m
    induction m with
    | zero => exact fun _ => h
    | succ m ih =>
      intro hm
      have hu := ih (by omega)
      rw [List.range_succ, List.foldl_append, List.foldl_cons, List.foldl_nil]
      generalize (List.range m).foldl _ s = u at hu
      have hfree : (holderOf u (4 * sec + m)).isSome = false := by
        rw [holderOf, hu.only.home, hlat]
        rfl
      rw [hfree, if_neg Bool.false_ne_true]
      exact hu.step hw (by omega) fun o ho hl hown => race6_line hu.noCounter (by omega) hu.evSlots ho hl hown
  exact hfold 4 (le_refl 4)

/-- An agent without records in an entry is nobody's owner there. -/
theorem goneAt_of_none {e : Entry} {a k : Nat} (h : holdsAgent e a = false) (hk : k < 4) : goneAt e a k = false := by
  unfold holdsAgent at h
  rw [Bool.or_eq_false_iff] at h
  exact Bool.eq_false_iff.2 (List.any_eq_false.1 h.2 k (List.mem_range.2 hk))

/-- The one way of a set, visited by a detach's sweep. -/
theorem sweepWays_detach {e : Entry} {a sec way : Nat} {vol : Bool} {w : Sweep} {n : Option Nat} {s : State} (hsec : sec < 2 ^ 34)
    (hway : way < 8) (hn : NoCounter s) (hs : s.sheet.sweeps = [w]) (hw : w.kind = .detach a vol n)
    (hwys : s.sheet.ways = [(wayKey (bankOf sec) (setOf sec) way, e)]) (htag : e.tag = tagOf sec) (herr : s.sheet.errs = [])
    (hev : s.sheet.evSlots = []) (hlat : s.home.latent = []) :
    ∃ u, sweepWays w.kind [wayKey (bankOf sec) (setOf sec) way] s = (true, [], u) ∧ SweptTo e a vol sec way w 4 s u := by
  have h0 : SweptTo e a vol sec way w 0 s s :=
    ⟨⟨some e, (oneEntry_only hway hwys htag).entryIs, fun k hk => absurd hk (Nat.not_lt_zero k), fun k _ _ => ⟨rfl, fun _ => rfl⟩⟩, hev,
      by rw [hs]; simp, fun k hk => absurd hk (Nat.not_lt_zero k), hn, Only.refl _ s⟩
  have hst := setOf_lt sec
  have h1 : wayKey (bankOf sec) (setOf sec) way / 131072 = bankOf sec := by unfold wayKey; omega
  have h2 : wayKey (bankOf sec) (setOf sec) way / 8 % 16384 = setOf sec := by unfold wayKey; omega
  have h3 : wayKey (bankOf sec) (setOf sec) way % 8 = way := by unfold wayKey; omega
  have hread : readWay (bankOf sec) (setOf sec) way s = (.clean (some e), s) := by
    rw [readWay_clean (by rw [herr]; rfl), storedWay, hwys]
    simp [sFind]
  have hone : sweepWay w.kind (wayKey (bankOf sec) (setOf sec) way) s =
      if holdsAgent e a then (true, [], sweepSector a vol sec s) else (true, [], s) := by
    unfold sweepWay
    dsimp only
    rw [h1, h2, h3, hread]
    show (if sweepConcerns s w.kind (sectorOf (bankOf sec) (setOf sec) e.tag) e then _ else _) = _
    rw [htag, sectorOf_eq hsec, hw]
    rfl
  unfold sweepWays
  rw [hone]
  cases hh : holdsAgent e a with
  | true => exact ⟨_, rfl, sweepSector_swept h0 hw hlat⟩
  | false =>
    refine ⟨s, rfl, ?_⟩
    have hg : ∀ k, k < 4 → goneAt e a k = false := fun k hk => goneAt_of_none hh hk
    have hd : ∀ k, k < 4 → dirtyAt e a vol k = false := fun k hk => by rw [dirtyAt, hg k hk, Bool.false_and]
    have hany : (List.range 4).any (dirtyAt e a vol) = false := List.any_eq_false.2 fun k hk => by
      rw [hd k (List.mem_range.1 hk)]
      exact Bool.false_ne_true
    refine ⟨⟨some e, (oneEntry_only hway hwys htag).entryIs, fun k hk => ?_, fun k h1 h2 => by omega⟩, hev, ?_, fun k hk h => ?_, hn, Only.refl _ s⟩
    · rw [sweptAt, hg k hk]
      rfl
    · rw [hs, hany, Bool.or_false]
    · rw [hd k hk] at h
      cases h

/-- The scrubbers note that a set has been visited. -/
theorem scrubNext_frame (s : State) : Only [.regs, .sheet] s (scrubNext s) ∧ (scrubNext s).sheet.ways = s.sheet.ways ∧
    (scrubNext s).sheet.evSlots = s.sheet.evSlots ∧ (scrubNext s).sheet.sweeps = s.sheet.sweeps ∧
    RegsOnly (fun o => o = 0x030014 ∨ o = 0x010118) s (scrubNext s) ∧ (Caused s .detachDirty 0 → Caused (scrubNext s) .detachDirty 0) := by
  unfold scrubNext
  dsimp only
  split
  · exact ⟨(only_updSheet _ s).mono (by simp), rfl, rfl, rfl, RegsOnly.refl _ s, id⟩
  · have h1 := only_wr s 0x030014 (w64 (elapsed s s.sheet.scrubLapStart 4000 % 2 ^ 32))
    have hr1 : RegsOnly (fun o => o = 0x030014 ∨ o = 0x010118) s (wr s 0x030014 (w64 (elapsed s s.sheet.scrubLapStart 4000 % 2 ^ 32))) :=
      regsOnly_wr _ _ (.inl rfl)
    generalize wr s 0x030014 (w64 (elapsed s s.sheet.scrubLapStart 4000 % 2 ^ 32)) = u at h1 hr1
    have h2 : ∀ f : SheetSide → SheetSide, Only [.sheet] u (updSheet f u) := fun f => only_updSheet f u
    have h2w : ∀ f : SheetSide → SheetSide, (updSheet f u).sheet = f u.sheet := fun f => rfl
    have hu : u.sheet = s.sheet := h1.sheet
    specialize h2 (fun x => { x with scrubSet := 0, scrubLapStart := u.aon.ft, scrubSeen := [] })
    specialize h2w (fun x => { x with scrubSet := 0, scrubLapStart := u.aon.ft, scrubSeen := [] })
    generalize updSheet (fun x => { x with scrubSet := 0, scrubLapStart := u.aon.ft, scrubSeen := [] }) u = v at h2 h2w
    have h3 := only_raise0_none (c := .scrubLap) rfl v
    have hr3 := regsOnly_raise0_none (c := .scrubLap) rfl v
    have hall : RegsOnly (fun o => o = 0x030014 ∨ o = 0x010118) s (raise0 .scrubLap v) :=
      hr1.trans ((regsOnly_of_regs h2.regs).trans (hr3.mono fun o ho => .inr ho))
    generalize raise0 .scrubLap v = t at h3 hall
    refine ⟨(h1.mono (by simp)).trans ((h2.mono (by simp)).trans (h3.mono (by simp))), ?_, ?_, ?_, hall, fun hc => hc.keep hall (by decide)⟩ <;>
      rw [h3.sheet, h2w, hu]

theorem sweepScrubs_frame (bank set : Nat) (s : State) : let t := sweepScrubs bank set s
    Only [.regs, .sheet] s t ∧ t.sheet.ways = s.sheet.ways ∧ t.sheet.evSlots = s.sheet.evSlots ∧ t.sheet.sweeps = s.sheet.sweeps ∧
    RegsOnly (fun o => o = 0x030014 ∨ o = 0x010118) s t ∧ (Caused s .detachDirty 0 → Caused t .detachDirty 0) := by
  unfold sweepScrubs
  split
  · exact ⟨Only.refl _ s, rfl, rfl, rfl, RegsOnly.refl _ s, id⟩
  · split
    · exact scrubNext_frame s
    · split
      · exact ⟨Only.refl _ s, rfl, rfl, rfl, RegsOnly.refl _ s, id⟩
      · exact ⟨(only_updSheet _ s).mono (by simp), rfl, rfl, rfl, RegsOnly.refl _ s, id⟩

/-- A sweep at its set: it raises its events there, or visits it. -/
def sweepTurn (w : Sweep) (s : State) : State :=
  match sweepRaise 0 w (sweepKeys s w.kind w.next) s with
  | some s => s
  | none => sweepVisit 0 w (sweepKeys s w.kind w.next) s

/-- The one sweep is `w`. -/
def oneSweep (w : Sweep) (s : State) : State := updSheet (fun x => { x with sweeps := [w] }) s

theorem only_oneSweep (w : Sweep) (s : State) : Only [.sheet] s (oneSweep w s) := only_updSheet _ s

/-- A sweep whose DETACH event needs no context goes straight on to its set. -/
theorem opSweep_goes {w : Sweep} {a : Nat} {vol : Bool} {n : Option Nat} {s : State} (hsafe : isSafe s = false) (hs : s.sheet.sweeps = [w])
    (hk : w.kind = .detach a vol n) (hp : w.posted = true ∨ s.dev.byRule = false) (hnext : w.next < 16384) :
    opSweep 0 [] s = sweepTurn { w with posted := true } (oneSweep { w with posted := true } s) := by
  have hpost : postDetach w s = (true, s) := by
    unfold postDetach
    rw [hk]
    dsimp only [SweepKind.detachEx]
    rcases hp with hp | hp <;> simp [hp]
  unfold opSweep
  rw [hs]
  dsimp only [List.getElem?_cons_zero]
  rw [hsafe, if_neg (by simp; omega), show upsetAll [] s = s from rfl, hpost]
  dsimp only
  rw [show updSheet (fun x => { x with sweeps := x.sweeps.set 0 { w with posted := true } }) s = oneSweep { w with posted := true } s by
    rw [updSheet, hs]; rfl]
  rfl

/-- The visit of a set by a detach's sweep, from what its ways gave. -/
theorem sweepVisit_detach {w : Sweep} {a : Nat} {vol f : Bool} {n : Option Nat} {keys : List Nat} {s u : State}
    (hk : w.kind = .detach a vol n) (hways : sweepWays w.kind keys s = (true, [], u)) (hs : u.sheet.sweeps = [{ w with fogged := f }]) :
    let w' := { w with next := w.next + 1, raised := false, fogged := f }
    sweepVisit 0 w keys s = if w.next + 1 = 16384 then sweepEnd w' (updSheet (fun x => { x with sweeps := [] }) (sweepScrubs 32 w.next u))
      else oneSweep w' (sweepScrubs 32 w.next u) := by
  intro w'
  obtain ⟨-, -, -, hsw, -⟩ := sweepScrubs_frame 32 w.next u
  unfold sweepVisit
  rw [hways, hk]
  dsimp only
  rw [if_pos rfl, Option.getD_none]
  generalize sweepScrubs 32 w.next u = v at hsw ⊢
  rw [show (if true = true then v else u) = v from rfl, hsw, hs]
  dsimp only [List.getElem?_cons_zero, Option.map_some, Option.getD_some]
  rw [go_nil]
  by_cases hl : w.next + 1 = 16384
  · simp [hl, w', hk]
  · simp [hl, w', hk, oneSweep]

theorem sweep_sets : ∀ (a sec way : Nat) (vol : Bool) (n : Option Nat) (e : Entry) (w : Sweep) (s : State), asleep s = false →
    isSafe s = false → NoCounter s → s.dev.byRule = false → sec < 2 ^ 34 → way < 8 →
    s.sheet.sweeps = [w] → w.kind = .detach a vol n →
    w.next = setOf sec → w.next < 16383 → s.sheet.ways = [(wayKey (bankOf sec) (setOf sec) way, e)] →
    e.tag = tagOf sec → s.sheet.errs = [] → s.sheet.evSlots = [] → s.home.latent = [] →
    let gone := fun k => (e.lst.get k).owned && decide (e.own.get k = a)
    let dirty := fun k => gone k && !(vol && decide (e.lst.get k = .e))
    ∃ t, exec (.sweep 0 []) s = .next t ∧
      (∀ k, k < 4 → (recOf t (4 * sec + k)).lst =
        if gone k then (if dirty k then .fogged else .i) else e.lst.get k) ∧
      ((∃ k, k < 4 ∧ dirty k = true) → Caused t .detachDirty 0) ∧
      t.sheet.sweeps = [{ w with next := w.next + 1, posted := true, raised := false,
                                 fogged := w.fogged || dirty 0 || dirty 1 || dirty 2 || dirty 3 }] ∧
      Only [.regs, .sheet, .meter] s t := by
  intro a sec way vol n e w s ha hsafe hn hby hsec hway hs hk hnext hlt hwys htag herr hev hlat gone dirty
  have h0 := only_oneSweep { w with posted := true } s
  have hs0 : (oneSweep { w with posted := true } s).sheet = { s.sheet with sweeps := [{ w with posted := true }] } := rfl
  have hop := opSweep_goes hsafe hs hk (.inr hby) (by omega)
  generalize oneSweep { w with posted := true } s = u at h0 hs0 hop
  obtain ⟨v, hv, hswept⟩ := sweepWays_detach (w := { w with posted := true }) (e := e) hsec hway (noCounter_of hn h0) (by rw [hs0]) hk
    (by rw [hs0]; exact hwys) htag (by rw [hs0]; exact herr) (by rw [hs0]; exact hev) (by rw [h0.home]; exact hlat)
  have hkeys : sweepKeys u w.kind w.next = [wayKey (bankOf sec) (setOf sec) way] := by
    have hst := setOf_lt sec
    unfold sweepKeys
    rw [hs0, hwys, herr, hk]
    have h2 : wayKey (bankOf sec) (setOf sec) way / 8 % 16384 = w.next := by unfold wayKey; omega
    simp [h2]
  have hraise : sweepRaise 0 { w with posted := true } (sweepKeys u w.kind w.next) u = none := by
    unfold sweepRaise
    rw [h0.dev, hby]
    rfl
  have hvis := sweepVisit_detach (w := { w with posted := true }) (f := w.fogged || (List.range 4).any (dirtyAt e a vol)) hk hv hswept.sweeps
  dsimp only at hvis
  rw [if_neg (show ¬ w.next + 1 = 16384 by omega)] at hvis
  obtain ⟨g1, g2, g3, -, -, g6⟩ := sweepScrubs_frame 32 w.next v
  unfold sweepTurn at hop
  rw [hraise, hkeys] at hop
  have hop := hop.trans hvis
  generalize sweepScrubs 32 w.next v = q at g1 g2 g3 g6 hop
  have h5 := only_oneSweep { w with next := w.next + 1, raised := false, posted := true, fogged := w.fogged || (List.range 4).any (dirtyAt e a vol) } q
  have h5w : (oneSweep { w with next := w.next + 1, raised := false, posted := true, fogged := w.fogged || (List.range 4).any (dirtyAt e a vol) } q).sheet =
    { q.sheet with sweeps := [{ w with next := w.next + 1, raised := false, posted := true, fogged := w.fogged || (List.range 4).any (dirtyAt e a vol) }] } := rfl
  generalize oneSweep { w with next := w.next + 1, raised := false, posted := true, fogged := w.fogged || (List.range 4).any (dirtyAt e a vol) } q = t at h5 h5w hop
  have hO : Only [.regs, .sheet, .meter] s t :=
    (h0.mono (by simp)).trans (hswept.only.trans ((g1.mono (by simp)).trans (h5.mono (by simp))))
  refine ⟨t, exec_live (ok := true) rfl ha hop hO.pending hO.aon, fun k hk4 => ?_, fun ⟨k, hk4, hd⟩ => ?_, ?_, hO⟩
  · obtain ⟨o, ho, hol, -⟩ := hswept.entry
    have hways : t.sheet.ways = v.sheet.ways := by rw [h5w]; exact g2
    have hevt : t.sheet.evSlots = [] := by rw [h5w]; exact g3.trans hswept.evSlots
    have hdiv : (4 * sec + k) / 4 = sec := by omega
    have hmod : (4 * sec + k) % 4 = k := by omega
    rw [(recOf_entry (line := 4 * sec + k) (by rw [hdiv]; exact ho.congr hways) hevt).1, hmod, hol k hk4]
    rfl
  · exact (caused_congr h5.regs _ 0).2 (g6 (hswept.caused k hk4 hd))
  · rw [h5w]
    have hany : (List.range 4).any (dirtyAt e a vol) = (dirty 0 || dirty 1 || dirty 2 || dirty 3) := by
      simp [List.range_succ, dirty, gone, dirtyAt, goneAt, Bool.or_assoc]
    rw [hany]
    simp [Bool.or_assoc]

/-! ### The sweep's rules (R146) -/

/-- The context of a sweep's rules at an entry, before it binds. -/
def sweepBlank (key : Nat) (e : Entry) (s : State) : Ctx :=
  let line := 4 * sectorOf (key / 131072) (key / 8 % 16384) e.tag
  loadSheet line s { Ctx.blank (.sweep key) with
    tray := some e.tray, variant := trayVariant s e.tray, deadline := BitVec.ofNat 32 (nowNs s), ed := BitVec.ofNat 32 (nowNs s),
    ea := w64 (64 * line), ex := w64 (0x3C + 2 ^ 6 * (key / 131072) + 2 ^ 11 * (key / 8 % 16384) + 2 ^ 25 * (key % 8)) }

/-- The SWEEP event (Table DEV-6). -/
def sweepEvent (key : Nat) (e : Entry) (s : State) : Event :=
  { ts := 42, ctx := 0, typ := 0x3C#6, ea := w64 (64 * (4 * sectorOf (key / 131072) (key / 8 % 16384) e.tag)), es := 0,
    ed := BitVec.ofNat 32 (nowNs s),
    ex := w64 (0x3C + 2 ^ 6 * (key / 131072) + 2 ^ 11 * (key / 8 % 16384) + 2 ^ 25 * (key % 8)), code := none }

theorem loadSheet_keeps (line : Nat) (s : State) (x : Ctx) : let y := loadSheet line s x
    y.kind = x.kind ∧ y.tray = x.tray ∧ y.inFlight = x.inFlight ∧ y.chain = x.chain ∧ y.stall = x.stall := by
  intro y
  unfold y loadSheet
  split <;> exact ⟨rfl, rfl, rfl, rfl, rfl⟩

/-- Where nothing is in hand the sweep's event takes context 0 and is ready. -/
theorem postSweep_fresh {key : Nat} {e : Entry} {s : State} (hc : s.dev.ctxs = []) (hl : s.home.latent = []) (hp : s.picks = [])
    (hr : s.dev.ready = []) : ∃ t x, postSweep s (key, e) = t ∧ ctxOf t 0 = some x ∧ x.kind = .sweep key ∧ x.tray = some e.tray ∧
      t.dev.ready = [sweepEvent key e s] ∧ Only [.regs, .dev] s t := by
  obtain ⟨hk, ht, hf, hch, hst⟩ : (sweepBlank key e s).kind = .sweep key ∧ (sweepBlank key e s).tray = some e.tray ∧
    (sweepBlank key e s).inFlight = none ∧ (sweepBlank key e s).chain = 0 ∧ (sweepBlank key e s).stall = none := loadSheet_keeps _ s _
  have he : postSweep s (key, e) = postEvent (sweepEvent key e s)
      (modCtx 0 (fun y => { y with byRule := true }) (bindCtx 0 (sweepBlank key e s) s)) := by
    unfold postSweep postWork
    rw [takeEntry_fresh hc hl hp]
    rfl
  obtain ⟨hO, -, hd⟩ := bindCtx_frame 0 (sweepBlank key e s) s
  have hx := ctxOf_bindCtx 0 (sweepBlank key e s) s
  generalize sweepBlank key e s = x at hk ht hf hch hst he hO hd hx
  generalize bindCtx 0 x s = u at he hO hd hx
  rw [modCtx_eq hx] at he
  have hy := ctxOf_setCtx_same 0 { bound s x with byRule := true } u
  have hsO := only_setCtx 0 { bound s x with byRule := true } u
  have hrd : (setCtx 0 { bound s x with byRule := true } u).dev.ready = [] := by
    rw [setCtx, updDev_dev, hd]
    exact hr
  generalize setCtx 0 { bound s x with byRule := true } u = v at he hy hsO hrd
  rw [postEvent_idle (e := sweepEvent key e s) hy (idles_begun hrd hf hch hst)] at he
  have hw := only_updDev (fun d => { d with ready := d.ready ++ [sweepEvent key e s] }) v
  refine ⟨_, _, he, (ctxOf_congr (t := updDev (fun d => { d with ready := d.ready ++ [sweepEvent key e s] }) v) rfl 0).trans hy, hk, ht, ?_,
    hO.trans ((hsO.mono (by simp)).trans (hw.mono (by simp)))⟩
  rw [updDev_dev, hrd]
  rfl

theorem sweep_posts : ∀ (a sec way : Nat) (vol : Bool) (n : Option Nat) (e : Entry) (w : Sweep) (s : State), InRun s → s.dev.byRule = true →
    s.dev.running = true → sec < 2 ^ 34 → way < 8 → s.sheet.sweeps = [w] → w.kind = .detach a vol n → w.posted = true →
    w.raised = false → w.next = setOf sec → s.sheet.ways = [(wayKey (bankOf sec) (setOf sec) way, e)] → e.tag = tagOf sec →
    holdsAgent e a = true → s.dev.ctxs = [] → s.dev.ready = [] → s.home.latent = [] → s.picks = [] →
    let key := wayKey (bankOf sec) (setOf sec) way
    ∃ t x v, exec (.sweep 0 []) s = .next t ∧ ctxOf t 0 = some x ∧ x.kind = .sweep key ∧ x.tray = some e.tray ∧
      t.dev.ready = [v] ∧ v.ctx = 0 ∧ v.ts = 42 ∧ v.typ = 0x3C#6 ∧
      v.ex = w64 (0x3C + 2 ^ 6 * bankOf sec + 2 ^ 11 * setOf sec + 2 ^ 25 * way) ∧
      t.sheet = { s.sheet with sweeps := [{ w with raised := true }] } ∧ Only [.regs, .sheet, .dev] s t := by
  intro a sec way vol n e w s h hby hrun hsec hway hs hk hpost hraised hnext hwys htag hholds hctx hready hlat hpick key
  have hst := setOf_lt sec
  have hw : { w with posted := true } = w := by rw [← hpost]
  have hop := opSweep_goes h.notSafe hs hk (.inl hpost) (by omega)
  rw [hw] at hop
  have h0 := only_oneSweep w s
  have hs0 : (oneSweep w s).sheet = { s.sheet with sweeps := [w] } := rfl
  generalize oneSweep w s = u at h0 hs0 hop
  have h1 : key / 131072 = bankOf sec := by unfold key wayKey; omega
  have h2 : key / 8 % 16384 = setOf sec := by unfold key wayKey; omega
  have h3 : key % 8 = way := by unfold key wayKey; omega
  have hmem : (sweepKeys u w.kind w.next).contains key = true := by
    unfold sweepKeys
    rw [hs0, hwys, hk]
    simp [key, hnext, h2]
  unfold sweepTurn at hop
  generalize sweepKeys u w.kind w.next = keys at hmem hop
  have hhits : sweepHits u w.kind keys = [(key, e)] := by
    unfold sweepHits
    rw [hs0, hwys, List.filter_cons_of_pos, List.filter_nil]
    rw [hk, Bool.and_eq_true]
    exact ⟨hmem, hholds⟩
  obtain ⟨t, x, ht, hx, hxk, hxt, hr, hO⟩ := postSweep_fresh (key := key) (e := e) (by rw [h0.dev]; exact hctx) (by rw [h0.home]; exact hlat)
    (by rw [h0.picks]; exact hpick) (by rw [h0.dev]; exact hready)
  have hfree : entriesFor u 1 = true := by
    unfold entriesFor entriesUsed
    rw [h0.dev, h0.home, hctx, hlat]
    rfl
  have hraise : sweepRaise 0 w keys u = some (updSheet (fun x => { x with sweeps := x.sweeps.set 0 { w with raised := true } }) t) := by
    unfold sweepRaise
    rw [h0.dev, hby, hrun, hraised, hhits]
    simp [hfree, ht]
  rw [hraise] at hop
  have hsh : (updSheet (fun x => { x with sweeps := x.sweeps.set 0 { w with raised := true } }) t).sheet =
      { s.sheet with sweeps := [{ w with raised := true }] } := by
    rw [updSheet_sheet, hO.sheet, hs0]
    rfl
  have h5 := only_updSheet (fun x => { x with sweeps := x.sweeps.set 0 { w with raised := true } }) t
  generalize updSheet (fun x => { x with sweeps := x.sweeps.set 0 { w with raised := true } }) t = q at hop hsh h5
  have hall : Only [.regs, .sheet, .dev] s q := (h0.mono (by simp)).trans ((hO.mono (by simp)).trans (h5.mono (by simp)))
  refine ⟨q, x, sweepEvent key e u, exec_live (ok := true) rfl h.1 hop hall.pending hall.aon,
    (ctxOf_congr (congrArg DevSide.ctxs h5.dev) 0).trans hx, hxk, hxt, ?_, rfl, rfl, rfl, ?_, hsh, hall⟩
  · rw [h5.dev]
    exact hr
  · show w64 _ = _
    rw [h1, h2, h3]

theorem sweepLives_nil (s : State) : sweepLives s [] = false := List.any_eq_false.2 fun p _ => by split <;> simp

theorem sweep_ends : ∀ (a : Nat) (vol : Bool) (w : Sweep) (s : State), asleep s = false → isSafe s = false →
    (w.posted = true ∨ s.dev.byRule = false) → s.sheet.sweeps = [w] → w.kind = .detach a vol none → w.next = 16383 →
    s.sheet.ways = [] → s.sheet.errs = [] →
    ∃ t, exec (.sweep 0 []) s = .next t ∧ t.sheet.sweeps = [] ∧ Caused t .detachDone 0 ∧
      Only [.regs, .sheet] s t ∧ RegsOnly (fun o => o = 0x010150 ∨ o = 0x010118 ∨ o = 0x030014) s t := by
  intro a vol w s ha hsafe hp hs hk hnext hwys herr
  have h0 := only_oneSweep { w with posted := true } s
  have hs0 : (oneSweep { w with posted := true } s).sheet = { s.sheet with sweeps := [{ w with posted := true }] } := rfl
  have hop := opSweep_goes hsafe hs hk hp (by omega)
  generalize oneSweep { w with posted := true } s = u at h0 hs0 hop
  have hkeys : sweepKeys u w.kind w.next = [] := by
    unfold sweepKeys
    rw [hs0, hwys, herr]
    rfl
  have hraise : sweepRaise 0 { w with posted := true } [] u = none := by
    unfold sweepRaise sweepHits
    rw [hs0, hwys, sweepLives_nil]
    cases u.dev.byRule <;> cases u.dev.running <;> cases w.raised <;> rfl
  have hvis := sweepVisit_detach (w := { w with posted := true }) (f := w.fogged) (s := u) (u := u) (keys := []) hk rfl (by rw [hs0])
  dsimp only at hvis
  rw [if_pos (show w.next + 1 = 16384 by omega)] at hvis
  obtain ⟨g1, -, -, -, g5, -⟩ := sweepScrubs_frame 32 w.next u
  unfold sweepTurn at hop
  rw [hkeys, hraise] at hop
  have hop := hop.trans hvis
  generalize sweepScrubs 32 w.next u = q at g1 g5 hop
  have h2 : Only [.sheet] q (updSheet (fun x => { x with sweeps := [] }) q) := only_updSheet _ q
  have h2s : (updSheet (fun x => { x with sweeps := [] }) q).sheet.sweeps = [] := rfl
  generalize updSheet (fun x => { x with sweeps := [] }) q = v at h2 h2s hop
  have hend : sweepEnd { w with next := w.next + 1, raised := false, posted := true } v = raise0 .detachDone v := by
    unfold sweepEnd
    dsimp only
    rw [hk]
  rw [hend] at hop
  have h3 := only_raise0_none (c := .detachDone) rfl v
  have hr3 := regsOnly_raise0_none (c := .detachDone) rfl v
  have hc3 := caused_raise0 .detachDone v
  generalize raise0 .detachDone v = t at h3 hr3 hc3 hop
  have hO : Only [.regs, .sheet] s t := (h0.mono (by simp)).trans (g1.trans ((h2.mono (by simp)).trans (h3.mono (by simp))))
  refine ⟨t, exec_live (ok := true) rfl ha hop hO.pending hO.aon, by rw [h3.sheet]; exact h2s, hc3, hO, ?_⟩
  refine (regsOnly_of_regs h0.regs).trans ((g5.mono fun o ho => ?_).trans ((regsOnly_of_regs h2.regs).trans (hr3.mono fun o ho => .inl ho)))
  rcases ho with ho | ho
  · exact .inr (.inr ho)
  · exact .inr (.inl ho)

/-- Settles O42, by the kind of deadline: one that passes in a transaction, one that only counts, and the sweep of a set. -/
theorem timersExpire : Obligations.TimersExpire :=
  ⟨tSnoop_read, tCmp_tables, timers_byRule, ⟨parkLong_traps, htidStuck_counts, trapStorm_enters⟩, sweep_sets, sweep_posts, sweep_ends⟩

end Sys2Proof.Machine
end

section
/-! PROOFS. Memory reads and posted writes complete (R28, R66, R70, R71, R128 to R130, R189). -/

namespace Sys2Proof.Machine

/-! ### What is shared -/

/-- A context that runs rules, and whose transaction is no writeback, makes no step of its own. -/
theorem go_rules {c : Nat} {x : Ctx} {s : State} (hx : ctxOf s c = some x) (hb : x.byRule = true) (hk : ∀ w, x.kind ≠ .wb w) :
    go [c] s = s := by
  refine run_still (fun d hd => ?_) 4096
  rw [List.mem_singleton.1 hd]
  unfold stepTxn
  rw [hx]
  dsimp only
  rw [hb]
  split
  · rfl
  · split
    · rfl
    · rw [if_pos rfl]
      cases hkk : x.kind with
      | wb w => exact absurd hkk (hk w)
      | _ => rfl

/-- A region that is not blank has no line that reads BLANK. -/
theorem lineBlank_written {s : State} {line : Nat} (h : regionBlank s (line / 2 ^ 14) = false) : lineBlank s line = false := by
  unfold lineBlank regionOf
  rw [h]
  rfl

/-- A read leaves its bank queue. -/
theorem leaveQueue_frame (q : MemOp) (dram : Bool) (s : State) : let t := leaveQueue q dram s
    Only [.mem] s t ∧ MemOnly [.memq, .chans] s t ∧ t.mem.memq = s.mem.memq.erase q := by
  have h1 : Only [.mem] s (updMem (fun m => { m with memq := m.memq.erase q }) s) := only_updMem _ _
  have hm1 : MemOnly [.memq, .chans] s (updMem (fun m => { m with memq := m.memq.erase q }) s) := by simp [memOnly_iff]
  have hq1 : (updMem (fun m => { m with memq := m.memq.erase q }) s).mem.memq = s.mem.memq.erase q := rfl
  unfold leaveQueue
  dsimp only
  generalize updMem (fun m => { m with memq := m.memq.erase q }) s = u at h1 hm1 hq1
  have hfold : ∀ (l : List Nat) (v : State), MemOnly [.chans] v (l.foldl (fun s l => if dram then leadNext l s else lookLine l s) v) ∧
      Only [.mem] v (l.foldl (fun s l => if dram then leadNext l s else lookLine l s) v) := by
    intro l
    induction l with
    | nil => exact fun v => ⟨MemOnly.refl _ v, Only.refl _ v⟩
    | cons k l ih =>
      intro v
      have hk : MemChans v (if dram then leadNext k v else lookLine k v) := by
        cases dram
        · exact memChans_lookLine k v
        · exact memChans_leadNext k v
      exact ⟨hk.memOnly.trans (ih _).1, hk.only.trans (ih _).2⟩
  obtain ⟨g1, g2⟩ := hfold q.reads u
  exact ⟨h1.trans g2, hm1.trans (g1.mono (by simp)), g1.memq.trans hq1⟩

/-! ### MRDC (R189) -/

/-- What a read leaves in the context that has asked for it. -/
def gotBuf (b : MemBuf) (o : ReadOut) : MemBuf :=
  { b with got := some { data := o.data, fog := o.fog || o.uncor }, uncor := o.uncor, ldw := o.ldw }

theorem memGot_eq {c n : Nat} {o : ReadOut} {b : MemBuf} {x : Ctx} {s : State} (hx : ctxOf s c = some x) (hm : x.mem = some b)
    (hb : b.seq = n) : memGot c n o s = modCtx c (fun x => { x with mem := some (gotBuf b o) }) s := by
  rw [memGot, modCtx_eq hx, modCtx_eq hx, hm]
  dsimp only
  rw [if_pos hb]
  rfl

theorem mrdc_lands : ∀ (c m co line n : Nat) (close : Bool) (b : MemBuf) (x : Ctx) (s : State), c < 8704 → InRun s → ctxOf s c = some x →
    x.byRule = true → x.st = .parked → x.stall = none → s.dev.ready = [] → x.mem = some b → b.line = line → b.seq = n →
    s.mem.memq = [⟨c, line, false, false, close, false, n⟩] → readReady s ⟨c, line, false, false, close, false, n⟩ = true →
    lineChan s line = some (m, co) → isDark s line = false → regionBlank s (line / 2 ^ 14) = false → pwbFind s line = none →
    let a := m * 2 ^ 39 + co
    let w := sGet 0 s.mem.ldws (a / 64)
    sGet [] s.mem.burstErr (a / 64) = [] → ldwInvalid w = false →
    ∃ t e, exec (.mrdc c []) s = .next t ∧ t.mem.memq = [] ∧
      ctxOf t c = some { x with
        mem := some { b with got := some ⟨lineOf (memRead s.mem.dram a 64), ldwFogged w⟩, uncor := false, ldw := w } } ∧
      t.dev.ready = [e] ∧ e.ctx = c ∧ e.typ = 0x38#6 ∧ e.ts = 32 + m ∧ t.mem.dram = s.mem.dram ∧
      t.mem.ldws = s.mem.ldws ∧ t.mem.pwb = s.mem.pwb ∧ Only [.dev, .mem, .meter] s t := by
  intro c m co line n close b x s hc h hx hrule hst hstall hready hmem hline hseq hmemq hrr hchan hdark hblank hpwb a w herr hldw
  have hread := memReadAt_sound hdark (lineBlank_written hblank) (pwbBefore_none hpwb n) hchan herr hldw .txn close
  have h1 := only_dramAccessed h.noCounter m co line close
  obtain ⟨-, -, hm1⟩ := dramAccessed_frame m co line close s
  have hfind : s.mem.memq.find? (fun q => decide (q.ctx = c) && !q.sector && readReady s q) = some ⟨c, line, false, false, close, false, n⟩ := by
    rw [hmemq, List.find?_cons_of_pos]
    simp [hrr]
  obtain ⟨g1, gm, gq⟩ := leaveQueue_frame ⟨c, line, false, false, close, false, n⟩ (needsDram s n line) (dramAccessed m co line close s)
  have hop : opMrdc c [] s = readLands ⟨c, line, false, false, close, false, n⟩ (soundRead s a)
      (leaveQueue ⟨c, line, false, false, close, false, n⟩ (needsDram s n line) (dramAccessed m co line close s)) := by
    unfold opMrdc
    rw [hfind]
    unfold completeRead
    dsimp only
    rw [if_neg Bool.false_ne_true, show (if false = true then ReadSrc.early else ReadSrc.txn) = .txn from rfl, hread]
  generalize dramAccessed m co line close s = u at h1 hm1 g1 gm gq hop
  generalize leaveQueue ⟨c, line, false, false, close, false, n⟩ (needsDram s n line) u = v at g1 gm gq hop
  have hxv : ctxOf v c = some x := (ctxOf_congr (congrArg DevSide.ctxs (g1.dev.trans h1.dev)) c).trans hx
  have hrv : v.dev.ready = [] := (congrArg DevSide.ready (g1.dev.trans h1.dev)).trans hready
  have hregs : v.regs = s.regs := g1.regs.trans h1.regs
  have hland : readLands ⟨c, line, false, false, close, false, n⟩ (soundRead s a) v =
      posted (eventFor { x with mem := some (gotBuf b (soundRead s a)) } c (32 + chanNo v line) 0x38#6 0 (mrdcEx false w)) c
        (fun x => { x with mem := some (gotBuf b (soundRead s a)) }) v := by
    unfold readLands
    dsimp only
    rw [hxv]
    dsimp only
    rw [if_neg (by rw [hst]; decide), hrule, if_pos rfl, if_neg Bool.false_ne_true, memGot_eq hxv hmem hseq, postMrdc,
      ctxOf_modCtx_same hxv]
    exact postEvent_parked rfl hxv hrv hst hstall
  rw [hland] at hop
  obtain ⟨f1, f2, f3, -, -⟩ := posted_frame
    (e := eventFor { x with mem := some (gotBuf b (soundRead s a)) } c (32 + chanNo v line) 0x38#6 0 (mrdcEx false w))
    (f := fun x => { x with mem := some (gotBuf b (soundRead s a)) }) hxv hrv
  generalize posted (eventFor { x with mem := some (gotBuf b (soundRead s a)) } c (32 + chanNo v line) 0x38#6 0 (mrdcEx false w)) c
    (fun x => { x with mem := some (gotBuf b (soundRead s a)) }) v = t at hop f1 f2 f3
  have hO : Only [.dev, .mem, .meter] s t := (h1.mono (by simp)).trans ((g1.mono (by simp)).trans (f1.mono (by simp)))
  refine ⟨t, _, exec_live (decide_eq_true hc) h.1 hop hO.pending hO.aon, ?_, f3.trans ?_, f2, rfl, rfl, ?_, ?_, ?_, ?_, hO⟩
  · rw [f1.mem, gq, hm1.memq, hmemq]
    simp
  · show some { x with mem := some (gotBuf b (soundRead s a)) } = _
    unfold gotBuf soundRead
    dsimp only
    rw [Bool.or_false]
    rfl
  · show 32 + chanNo v line = 32 + m
    rw [chanNo_congr hregs, chanNo, hchan]
    rfl
  · rw [f1.mem, gm.dram, hm1.dram]
  · rw [f1.mem, gm.ldws, hm1.ldws]
  · rw [f1.mem, gm.pwb, hm1.pwb]

/-! ### MWRC and POSTED_WRITE_DONE (R70, R71) -/

/-- A stored line: its bytes, its LDW, and no wrong symbol; every other byte stays. -/
structure LineStored (a : Nat) (d : LineBits) (ldw : W32) (s t : State) : Prop where
  bytes : ∀ i, i < 64 → memGet t.mem.dram (a + i) = byteAt d i
  other : ∀ b, (b < a ∨ a + 64 ≤ b) → memGet t.mem.dram b = memGet s.mem.dram b
  ldw : sGet 0 t.mem.ldws (a / 64) = ldw
  sound : sFind t.mem.burstErr (a / 64) = none

theorem lineStored_writeBurst (a : Nat) (d : LineBits) (ldw : W32) (s : State) : LineStored a d ldw s (writeBurst a d ldw s) := by
  refine ⟨fun i hi => ?_, fun b hb => ?_, sGet_sPut_same _ _ _ _, sFind_sDel_same _ _⟩
  · show memGet (memWrite s.mem.dram a (lineBytes d)) (a + i) = byteAt d i
    rw [memGet_memWrite_in _ _ _ _ (by rw [length_lineBytes]; exact hi)]
    simp [lineBytes, bytesOf]
  · show memGet (memWrite s.mem.dram a (lineBytes d)) b = _
    rw [memGet_memWrite_out _ _ (by rw [length_lineBytes]; exact hb)]

theorem LineStored.congr {a : Nat} {d : LineBits} {ldw : W32} {s u v t : State} (h : LineStored a d ldw u v) (hu : u.mem.dram = s.mem.dram)
    (hd : t.mem.dram = v.mem.dram) (hl : t.mem.ldws = v.mem.ldws) (he : t.mem.burstErr = v.mem.burstErr) : LineStored a d ldw s t :=
  ⟨fun i hi => by rw [hd, h.bytes i hi], fun b hb => by rw [hd, h.other b hb, hu], by rw [hl, h.ldw], by rw [he, h.sound]⟩

/-- A buffered line is stored in DRAM, and leaves the buffer. -/
theorem pwbDrain_stores {p : PwbLine} {m co : Nat} {s : State} (hn : NoCounter s) (hc : lineChan s p.line = some (m, co)) :
    let t := pwbDrain p s
    LineStored (m * 2 ^ 39 + co) p.data p.ldw s t ∧ t.mem.pwb = s.mem.pwb.erase p ∧ Only [.mem, .meter, .xbar] s t := by
  have h1 := only_count hn 0x19 ⟨trayOf s p.line, none, some m⟩ 1
  have h2 := only_moveLine (chanLane m) m p.line p.deadline (count 0x19 ⟨trayOf s p.line, none, some m⟩ 1 s)
  have hn2 := noCounter_of (noCounter_of hn h1) h2
  have h3 := only_rowAccess hn2 m (coordOf (count 0x19 ⟨trayOf s p.line, none, some m⟩ 1 s) m co) p.close true
  obtain ⟨-, -, hm3⟩ := rowAccess_frame m (coordOf (count 0x19 ⟨trayOf s p.line, none, some m⟩ 1 s) m co) p.close true
    (moveLine (chanLane m) m p.line p.deadline (count 0x19 ⟨trayOf s p.line, none, some m⟩ 1 s))
  have heq : pwbStore p s = writeBurst (m * 2 ^ 39 + co) p.data p.ldw
      (rowAccess m (coordOf (count 0x19 ⟨trayOf s p.line, none, some m⟩ 1 s) m co) p.close true
        (moveLine (chanLane m) m p.line p.deadline (count 0x19 ⟨trayOf s p.line, none, some m⟩ 1 s))) := by
    unfold pwbStore
    rw [hc]
  obtain ⟨-, -, -, hp⟩ := pwbDrain_frame p s
  intro t
  have ht : t = leadNext p.line (updMem (fun m => { m with pwb := m.pwb.erase p }) (pwbStore p s)) := pwbDrain_eq p s
  rw [heq] at ht
  have hp : t.mem.pwb = s.mem.pwb.erase p := hp
  have hm0 : MemOnly [.chans] s (moveLine (chanLane m) m p.line p.deadline (count 0x19 ⟨trayOf s p.line, none, some m⟩ 1 s)) :=
    (memOnly_of_only _ h1).trans (memOnly_of_only _ h2)
  have hO0 : Only [.meter, .xbar] s (moveLine (chanLane m) m p.line p.deadline (count 0x19 ⟨trayOf s p.line, none, some m⟩ 1 s)) :=
    (h1.mono (by simp)).trans (h2.mono (by simp))
  generalize coordOf (count 0x19 ⟨trayOf s p.line, none, some m⟩ 1 s) m co = cd at h3 hm3 ht
  generalize moveLine (chanLane m) m p.line p.deadline (count 0x19 ⟨trayOf s p.line, none, some m⟩ 1 s) = u at h3 hm3 hm0 hO0 ht
  generalize rowAccess m cd p.close true u = v at h3 hm3 ht
  have h4 := lineStored_writeBurst (m * 2 ^ 39 + co) p.data p.ldw v
  have h4O := (writeBurst_frame (m * 2 ^ 39 + co) p.data p.ldw v).1
  generalize writeBurst (m * 2 ^ 39 + co) p.data p.ldw v = w at h4 h4O ht
  have h5 : Only [.mem] w (updMem (fun m => { m with pwb := m.pwb.erase p }) w) := only_updMem _ _
  have hm5 : MemOnly [.pwb] w (updMem (fun m => { m with pwb := m.pwb.erase p }) w) := by simp [memOnly_iff]
  generalize updMem (fun m => { m with pwb := m.pwb.erase p }) w = q at h5 hm5 ht
  have h6 := memChans_leadNext p.line q
  rw [← ht] at h6
  have hm6 := h6.memOnly
  refine ⟨h4.congr (hm3.dram.trans hm0.dram) (hm6.dram.trans hm5.dram) (hm6.ldws.trans hm5.ldws) (hm6.burstErr.trans hm5.burstErr), hp, ?_⟩
  exact (hO0.mono (by simp)).trans ((h3.mono (by simp)).trans ((h4O.mono (by simp)).trans ((h5.mono (by simp)).trans (h6.only.mono (by simp)))))

theorem only_markWritten (p : Placer) (s : State) : Only [.home] s (markWritten p s) := by
  unfold markWritten
  cases p with
  | wbk a q => exact only_updHome _ s
  | _ => exact Only.refl _ s

/-- The transaction of a write that is done hears of it. -/
theorem writeDone_rules {c m co line : Nat} {p : Placer} {x : Ctx} {s : State} (hx : ctxOf s c = some x) (hrule : x.byRule = true)
    (hst : x.st = .parked) (hstall : x.stall = none) (hk : ∀ w, x.kind ≠ .wb w) (hr : s.dev.ready = [])
    (hc : lineChan s line = some (m, co)) : let t := afterWrite c (writeDone c line false p s)
    t.dev.ready = [eventFor x c (32 + m) 0x39#6 0 (w64 0x39)] ∧ Only [.dev, .home] s t := by
  have h1 := only_markWritten p s
  have hch : chanNo (markWritten p s) line = m := by
    rw [chanNo_congr h1.regs, chanNo, hc]
    rfl
  have hx1 : ctxOf (markWritten p s) c = some x := (ctxOf_congr (congrArg DevSide.ctxs h1.dev) c).trans hx
  have hr1 : (markWritten p s).dev.ready = [] := (congrArg DevSide.ready h1.dev).trans hr
  intro t
  have ht : t = afterWrite c (writeDone c line false p s) := rfl
  unfold writeDone at ht
  generalize markWritten p s = u at h1 hch hx1 hr1 ht
  dsimp only at ht
  rw [hx1] at ht
  dsimp only at ht
  rw [hrule, hst, if_pos (by decide), hch, postEvent_idle (e := eventFor x c (32 + m) 0x39#6 0 (w64 (0x39 + 64 * b2n false))) hx1
    (idles_parked hr1 hst hstall)] at ht
  have h2 := only_updDev (fun d => { d with ready := d.ready ++ [eventFor x c (32 + m) 0x39#6 0 (w64 (0x39 + 64 * b2n false))] }) u
  have hr2 : (updDev (fun d => { d with ready := d.ready ++ [eventFor x c (32 + m) 0x39#6 0 (w64 (0x39 + 64 * b2n false))] }) u).dev.ready =
      [eventFor x c (32 + m) 0x39#6 0 (w64 0x39)] := by
    rw [updDev_dev, hr1]
    rfl
  have hx2 : ctxOf (updDev (fun d => { d with ready := d.ready ++ [eventFor x c (32 + m) 0x39#6 0 (w64 (0x39 + 64 * b2n false))] }) u) c =
      some x := hx1
  generalize updDev (fun d => { d with ready := d.ready ++ [eventFor x c (32 + m) 0x39#6 0 (w64 (0x39 + 64 * b2n false))] }) u = v
    at h2 hr2 hx2 ht
  rw [afterWrite, hx2] at ht
  dsimp only at ht
  rw [hst, if_neg (by decide), go_rules hx2 hrule hk] at ht
  rw [ht]
  exact ⟨hr2, (h1.mono (by simp)).trans (h2.mono (by simp))⟩

theorem drainLine_posts {c m co : Nat} {p : PwbLine} {x : Ctx} {s : State} (h : InRun s) (hx : ctxOf s c = some x) (hrule : x.byRule = true)
    (hst : x.st = .parked) (hstall : x.stall = none) (hk : ∀ w, x.kind ≠ .wb w) (hr : s.dev.ready = []) (hp : s.mem.pwb = [p])
    (hsrc : p.src = c) (hack : p.acked = false) (hc : lineChan s p.line = some (m, co)) : let t := drainLine p s
    t.mem.pwb = [] ∧ LineStored (m * 2 ^ 39 + co) p.data p.ldw s t ∧
    t.dev.ready = [eventFor x c (32 + m) 0x39#6 0 (w64 0x39)] ∧ Only [.dev, .home, .mem, .meter, .xbar] s t := by
  obtain ⟨h1, h2, h3⟩ := pwbDrain_stores h.noCounter hc
  have heq : drainLine p s = afterWrite c (writeDone c p.line false p.placer (pwbDrain p s)) := by
    unfold drainLine
    dsimp only
    rw [hack, if_neg Bool.false_ne_true, hsrc]
  generalize pwbDrain p s = u at h1 h2 h3 heq
  obtain ⟨g1, g2⟩ := writeDone_rules (p := p.placer) (s := u) (line := p.line)
    ((ctxOf_congr (congrArg DevSide.ctxs h3.dev) c).trans hx) hrule hst hstall hk ((congrArg DevSide.ready h3.dev).trans hr)
    ((lineChan_congr h3.regs _).trans hc)
  intro t
  have ht : t = _ := heq
  rw [← ht] at g1 g2
  have hm : t.mem = u.mem := g2.mem
  refine ⟨?_, h1.congr rfl (by rw [hm]) (by rw [hm]) (by rw [hm]), g1, (h3.mono (by simp)).trans (g2.mono (by simp))⟩
  rw [hm, h2, hp]
  simp

theorem write_lands : ∀ (c m co : Nat) (p : PwbLine) (x : Ctx) (s : State), c < 8704 → p.line < 2 ^ 36 → InRun s → ctxOf s c = some x →
    x.byRule = true → x.st = .parked → x.stall = none → (∀ w, x.kind ≠ .wb w) → s.dev.ready = [] → s.mem.pwb = [p] →
    p.src = c → p.acked = false → drainReady s p = true → lineChan s p.line = some (m, co) →
    let a := m * 2 ^ 39 + co
    ∀ cmd ∈ [Instr.mwrc c, .postedWriteDone p.line],
      ∃ t e, exec cmd s = .next t ∧ t.mem.pwb = [] ∧ (∀ i, i < 64 → memGet t.mem.dram (a + i) = byteAt p.data i) ∧
        (∀ b, (b < a ∨ a + 64 ≤ b) → memGet t.mem.dram b = memGet s.mem.dram b) ∧
        sGet 0 t.mem.ldws (a / 64) = p.ldw ∧ sFind t.mem.burstErr (a / 64) = none ∧
        t.dev.ready = [e] ∧ e.ctx = c ∧ e.typ = 0x39#6 ∧ e.ts = 32 + m ∧ Only [.dev, .home, .mem, .meter, .xbar] s t := by
  intro c m co p x s hc hl h hx hrule hst hstall hk hr hp hsrc hack hdr hch a cmd hcmd
  obtain ⟨h1, h2, h3, h4⟩ := drainLine_posts h hx hrule hst hstall hk hr hp hsrc hack hch
  have hexec : exec cmd s = .next (drainLine p s) := by
    rcases List.mem_cons.1 hcmd with rfl | hcmd
    · refine exec_live (decide_eq_true hc) h.1 ?_ h4.pending h4.aon
      unfold opMwrc
      rw [hp, List.find?_cons_of_pos (by simp [hsrc, hack, hdr])]
    · rw [List.mem_singleton.1 hcmd]
      refine exec_live (decide_eq_true hl) h.1 ?_ h4.pending h4.aon
      unfold opPwbDone
      rw [hp, List.find?_cons_of_pos (by simp)]
      exact if_pos hdr
  exact ⟨_, _, hexec, h1, h2.bytes, h2.other, h2.ldw, h2.sound, h3, rfl, rfl, rfl, h4⟩

/-! ### POSTED_WRITE_RESUME (R70, R78) -/

/-- A line enters the buffer where its region is not blank; one that stores bytes clears the reservations of its granule. -/
theorem pwbEnter_clearing {p : PwbLine} {s : State} (hb : regionBlank s (regionOf p.line) = false) :
    let t := pwbEnter p s
    t.mem = { s.mem with
      pwb := s.mem.pwb ++ [{ p with seq := s.mem.opSeq }], opSeq := s.mem.opSeq + 1, chans := t.mem.chans } ∧
    t.home = { s.home with resv := if p.clears then s.home.resv.filter (fun q =>
        !(decide (q.base ≤ p.line) && decide (p.line < q.base + q.size))) else s.home.resv } ∧
    ChansKept s t ∧ Only [.mem, .home] s t := by
  have hd : develop p.line s = s := by rw [develop, hb]; rfl
  intro t
  by_cases hc : p.clears = true
  case neg =>
    obtain ⟨h1, h2, h3⟩ := pwbEnter_written hb (Bool.eq_false_iff.2 hc)
    refine ⟨h1, ?_, h2, h3.mono (by simp)⟩
    rw [if_neg hc]
    exact h3.home
  case pos =>
    rw [if_pos hc]
    have h1 : Only [.mem, .home] s (updMem (fun m => { m with opSeq := m.opSeq + 1, pwb := m.pwb ++ [pwbPlaced p s] }) (clearResv p.line s)) := by
      simp [only_iff, clearResv]
    have hm : (updMem (fun m => { m with opSeq := m.opSeq + 1, pwb := m.pwb ++ [pwbPlaced p s] }) (clearResv p.line s)).mem =
        { s.mem with opSeq := s.mem.opSeq + 1, pwb := s.mem.pwb ++ [pwbPlaced p s] } := rfl
    have hh : (updMem (fun m => { m with opSeq := m.opSeq + 1, pwb := m.pwb ++ [pwbPlaced p s] }) (clearResv p.line s)).home =
        { s.home with resv := s.home.resv.filter (fun q => !(decide (q.base ≤ p.line) && decide (p.line < q.base + q.size))) } := rfl
    have heq : t = lookLine p.line (updMem (fun m => { m with opSeq := m.opSeq + 1, pwb := m.pwb ++ [pwbPlaced p s] }) (clearResv p.line s)) := by
      have he := pwbEnter_clears hc s
      rw [hd] at he
      exact he
    generalize updMem (fun m => { m with opSeq := m.opSeq + 1, pwb := m.pwb ++ [pwbPlaced p s] }) (clearResv p.line s) = u at h1 hm hh heq
    have h2 := memChans_lookLine p.line u
    have h3 := chansKept_lookLine p.line u
    rw [← heq] at h2 h3
    refine ⟨?_, h2.only.home.trans hh, h3.of h1.regs (by rw [hm]), h1.trans (h2.only.mono (by simp))⟩
    rw [h2.mem, hm]
    rfl

theorem write_resumes : ∀ (c : Nat) (e : PwbLine) (x : Ctx) (s : State), asleep s = false → s.mem.pwbWait = [⟨c, e, false⟩] →
    isDark s e.line = false → regionBlank s (e.line / 2 ^ 14) = false → pwbFree s = true →
    ewa s e.line = false → e.acked = false → ctxOf s c = some x → x.byRule = true → x.st ≠ .quarantined →
    (∀ w, x.kind ≠ .wb w) →
    ∃ t, exec .postedWriteResume s = .next t ∧
      t.mem = { s.mem with pwbWait := [], pwb := s.mem.pwb ++ [{ e with seq := s.mem.opSeq }], opSeq := s.mem.opSeq + 1,
                           chans := t.mem.chans } ∧ ChansKept s t ∧
      t.home = { s.home with resv := if e.clears then s.home.resv.filter (fun q =>
        !(decide (q.base ≤ e.line) && decide (e.line < q.base + q.size))) else s.home.resv } ∧ Only [.mem, .home] s t := by
  intro c e x s ha hwait hdark hblank hfree hewa hack hx hrule hq hk
  have hover : waitOver s ⟨c, e, false⟩ = true := by
    unfold waitOver pwbReady fillReady regionOf
    rw [hfree, hblank]
    simp
  have h1 : Only [.mem] s (updMem (fun m => { m with pwbWait := m.pwbWait.erase ⟨c, e, false⟩ }) s) := only_updMem _ s
  have hm1 : (updMem (fun m => { m with pwbWait := m.pwbWait.erase ⟨c, e, false⟩ }) s).mem = { s.mem with pwbWait := [] } := by
    rw [updMem_mem, hwait]
    simp
  have hop : opPwbResume s = afterWrite c (writeEnter c e (updMem (fun m => { m with pwbWait := m.pwbWait.erase ⟨c, e, false⟩ }) s)) := by
    unfold opPwbResume
    rw [hwait, List.find?_cons_of_pos hover]
    unfold resumeWrite
    dsimp only
    rw [hdark, if_neg Bool.false_ne_true, if_neg Bool.false_ne_true]
    dsimp only
    rw [hack, if_neg Bool.false_ne_true]
  generalize updMem (fun m => { m with pwbWait := m.pwbWait.erase ⟨c, e, false⟩ }) s = u at h1 hm1 hop
  rw [writeEnter_plain c ((ewa_congr h1.regs _).trans hewa) hack] at hop
  have hbu : regionBlank u (regionOf e.line) = false := (regionBlank_congr (by rw [hm1]) _).trans hblank
  obtain ⟨g1, g2, g3, g4⟩ := pwbEnter_clearing hbu
  generalize pwbEnter e u = t at g1 g2 g3 g4 hop
  have hxt : ctxOf t c = some x := (ctxOf_congr (congrArg DevSide.ctxs (g4.dev.trans h1.dev)) c).trans hx
  rw [afterWrite, hxt] at hop
  dsimp only at hop
  rw [if_neg hq, go_rules hxt hrule hk] at hop
  have hO : Only [.mem, .home] s t := (h1.mono (by simp)).trans g4
  refine ⟨t, exec_live (ok := true) rfl ha hop hO.pending hO.aon, ?_, g3.of h1.regs (by rw [hm1]), by rw [g2, h1.home], hO⟩
  rw [g1, hm1]

/-! ### LDWC: the four LDWs of a sector (R28, R129, R130) -/

/-- A line that has decoded, with an EMPTY LDW. -/
def EmptyRead (o : ReadOut) : Prop := o.uncor = false ∧ o.ldw = 0

/-- Memory that holds no LDW and no wrong symbol, and no buffered line. -/
def NoLdw (s : State) : Prop := s.mem.ldws = [] ∧ s.mem.burstErr = [] ∧ s.mem.pwb = []

theorem NoLdw.keep {s t : State} (h : NoLdw s) (hm : MemOnly [.chans] s t) : NoLdw t :=
  ⟨hm.ldws.trans h.1, hm.burstErr.trans h.2.1, hm.pwb.trans h.2.2⟩

theorem memReadAt_empty {s : State} {line : Nat} (hn : NoCounter s) (h : NoLdw s) (hd : isDark s line = false) (bound : Nat) (src : ReadSrc)
    (close : Bool) : let r := memReadAt bound line src close [] s
    EmptyRead r.1 ∧ Only [.meter, .mem] s r.2 ∧ MemOnly [.chans] s r.2 := by
  intro r
  obtain ⟨hl, he, hp⟩ := h
  have hbef : pwbBefore s line bound = none := by
    unfold pwbBefore
    rw [hp]
    rfl
  cases hb : lineBlank s line with
  | true =>
    have hr : r = (ReadOut.zero, s) := by
      show memReadAt bound line src close [] s = _
      unfold memReadAt
      rw [hd, hb]
      rfl
    rw [hr]
    exact ⟨⟨rfl, rfl⟩, Only.refl _ s, MemOnly.refl _ s⟩
  | false =>
    cases hc : lineChan s line with
    | none =>
      have hr : r = (ReadOut.zero, s) := by
        show memReadAt bound line src close [] s = _
        unfold memReadAt
        rw [hd, hb, hbef, hc]
        rfl
      rw [hr]
      exact ⟨⟨rfl, rfl⟩, Only.refl _ s, MemOnly.refl _ s⟩
    | some q =>
      obtain ⟨m, co⟩ := q
      have hs0 : sGet 0 s.mem.ldws ((m * 2 ^ 39 + co) / 64) = 0 := by rw [hl]; rfl
      have hr : r = _ := memReadAt_sound hd hb hbef hc (by rw [he]; rfl) (by rw [hs0]; decide) src close
      rw [hr]
      exact ⟨⟨rfl, hs0⟩, only_dramAccessed hn m co line close, (dramAccessed_frame m co line close s).2.2⟩

theorem readFour_empty {s : State} {sec line : Nat} (hn : NoCounter s) (h : NoLdw s) (hd : ∀ k, k < 4 → isDark s (4 * sec + k) = false)
    (n : Nat) (close : Bool) : ∃ l u, readFour sec line n close [] s = (l, u) ∧ (∀ o ∈ l, EmptyRead o) ∧ l.length = 4 ∧
    Only [.meter, .mem] s u ∧ MemOnly [.chans] s u := by
  have hfold : ∀ (ks : List Nat) (l : List ReadOut) (u : State), (∀ k ∈ ks, k < 4) → (∀ o ∈ l, EmptyRead o) → l.length = 4 →
      Only [.meter, .mem] s u → MemOnly [.chans] s u →
      let r := ks.foldl (fun acc k =>
        match memReadAt n (4 * sec + k) (if 4 * sec + k = line then .txn else .ldw) close [] acc.2 with
        | (o, s) => (acc.1.set k o, s)) (l, u)
      (∀ o ∈ r.1, EmptyRead o) ∧ r.1.length = 4 ∧ Only [.meter, .mem] s r.2 ∧ MemOnly [.chans] s r.2 := by
    intro ks
    induction ks with
    | nil => exact fun l u _ h1 h2 h3 h4 => ⟨h1, h2, h3, h4⟩
    | cons k ks ih =>
      intro l u hk h1 h2 h3 h4
      obtain ⟨g1, g2, g3⟩ := memReadAt_empty (line := 4 * sec + k) (noCounter_of hn h3) (h.keep h4)
        ((isDark_regs h3.regs _).trans (hd k (hk k List.mem_cons_self))) n (if 4 * sec + k = line then .txn else .ldw) close
      refine ih _ _ (fun j hj => hk j (List.mem_cons_of_mem _ hj)) (fun o ho => ?_) (by rw [List.length_set]; exact h2)
        (h3.trans g2) (h4.trans g3)
      rcases List.mem_or_eq_of_mem_set ho with ho | rfl
      · exact h1 o ho
      · exact g1
  have horder : ∀ k ∈ readOrder (line % 4), k < 4 := by
    intro k hk
    rcases List.mem_cons.1 hk with rfl | hk
    · exact Nat.mod_lt _ (by decide)
    · exact List.mem_range.1 (List.mem_filter.1 hk).1
  obtain ⟨g1, g2, g3, g4⟩ := hfold (readOrder (line % 4)) (List.replicate 4 ReadOut.zero) s horder
    (fun o ho => by rw [List.eq_of_mem_replicate ho]; exact ⟨rfl, rfl⟩) rfl (Only.refl _ s) (MemOnly.refl _ s)
  exact ⟨_, _, rfl, g1, g2, g3, g4⟩

/-- The entry that four EMPTY LDWs decode to. -/
def emptyEntry (sec t : Nat) : Entry := { newEntry sec t with spill := true }

theorem EmptyRead.facts {o : ReadOut} (h : EmptyRead o) : ldwBad o = false ∧ ldwBadKind o = false ∧ ldwTracks o.ldw = false ∧
    ldwLine o = (.i, 0) := by
  obtain ⟨hu, hl⟩ := h
  have hb : ldwBad o = false := by
    rw [ldwBad, hu, hl]
    decide
  refine ⟨hb, by rw [ldwBadKind, hl]; decide, by rw [hl]; decide, ?_⟩
  rw [ldwLine, hb, hl, show ldwTracks (0 : W32) = false from by decide]
  rfl

theorem ldwDecode_empty {l : List ReadOut} (h : ∀ o ∈ l, EmptyRead o) (hl : l.length = 4) (s : State) (sec t : Nat) :
    ldwDecode s sec t l = (emptyEntry sec t, false) := by
  obtain ⟨a, b, c, d, rfl⟩ : ∃ a b c d, l = [a, b, c, d] := by
    obtain ⟨a, k, rfl⟩ := List.exists_cons_of_length_eq_add_one hl
    obtain ⟨b, c, d, rfl⟩ := List.length_eq_three.1 (Nat.succ.inj hl)
    exact ⟨a, b, c, d, rfl⟩
  obtain ⟨a1, -, a3, a4⟩ := (h a (by simp)).facts
  obtain ⟨b1, -, b3, b4⟩ := (h b (by simp)).facts
  obtain ⟨c1, -, c3, c4⟩ := (h c (by simp)).facts
  obtain ⟨d1, -, d3, d4⟩ := (h d (by simp)).facts
  have hgood : [a, b, c, d].filter (fun o => !ldwBad o) = [a, b, c, d] := by simp only [List.filter, a1, b1, c1, d1, Bool.not_false]
  have hagree : ldwAgree [a, b, c, d] = true := by simp only [ldwAgree, a3, b3, c3, d3, List.all, Bool.and_true, Bool.not_false, Bool.false_eq_true, if_false]
  have hbad : [a, b, c, d].any ldwBad = false := by simp only [List.any, a1, b1, c1, d1, Bool.or_false]
  unfold ldwDecode
  dsimp only
  rw [hgood, hagree, hbad]
  simp only [List.getElem?_cons_zero, List.getElem?_cons_succ, a1, a3, a4, b1, b3, b4, c1, c3, c4, d1, d3, d4, Bool.not_true, Bool.and_false,
    Bool.false_eq_true, if_false]
  rfl

theorem ldwRaise_empty {l : List ReadOut} (h : ∀ o ∈ l, EmptyRead o) (c sec : Nat) (s : State) : ldwRaise c sec false l s = s := by
  refine foldl_fixed fun k _ => ?_
  cases ho : l[k]? with
  | none => rfl
  | some o =>
    dsimp only
    rw [(h o (List.mem_of_getElem? ho)).facts.2.1, if_neg Bool.false_ne_true, Bool.false_and, if_neg Bool.false_ne_true]

/-- The sector's records, of a sector whose one entry tracks nothing. -/
theorem recOf_emptyEntry {s : State} {sec w t line : Nat} (h : OneEntry s sec w (emptyEntry sec t)) (hl : line / 4 = sec) :
    recOf s line = { lst := .i, own := 0, sv := 0, tray := some t, hit := true } := by
  rw [recOf_found (by rw [hl]; exact findEntry_one h), recOfEntry]
  have h1 : (emptyEntry sec t).lst.get (line % 4) = .i := by unfold emptyEntry newEntry Quad.get; dsimp only; split <;> rfl
  have h2 : (emptyEntry sec t).own.get (line % 4) = 0 := by unfold emptyEntry newEntry Quad.get; dsimp only; split <;> rfl
  rw [h1, h2]
  rfl

/-- An entry that tracks nothing has nothing to resolve. -/
theorem resolve_emptyEntry {s : State} {sec w t line : Nat} (h : OneEntry s sec w (emptyEntry sec t)) (hl : line / 4 = sec) (c : Nat)
    (l : List ReadOut) : resolveSharers line t ((List.range 4).foldl (fun s k =>
      resolveOwner c (4 * sec + k) t ((l[k]?).getD ReadOut.zero) s) s) = s := by
  have ho : (List.range 4).foldl (fun s k => resolveOwner c (4 * sec + k) t ((l[k]?).getD ReadOut.zero) s) s = s := by
    refine foldl_fixed fun k hk => ?_
    have hk4 := List.mem_range.1 hk
    rw [resolveOwner, recOf_emptyEntry h (show (4 * sec + k) / 4 = sec by omega)]
    rfl
  rw [ho, resolveSharers, recOf_emptyEntry h hl]
  dsimp only
  rw [show agentsOf (0 : BitVec 32) = [] from by decide]
  rfl

/-- The event that ends a read of the four LDWs, from what the sheet holds then. -/
def ldwcEvent (c line : Nat) (o : ReadOut) (x : Ctx) (s : State) : Event :=
  { eventFor x c (32 + chanNo s line) 0x3E#6 0
      (w64 (0x3E + 2 ^ 6 * b2n o.uncor + 2 ^ 7 * b2n (ldwFogged o.ldw) + 2 ^ 8 * o.ldw.toNat)) with
    code := some (codeOf s line { recOf s line with hit := true } x.tray).num }

theorem ldwGoOn_rules {c line n : Nat} {o : ReadOut} {b : MemBuf} {x : Ctx} {s : State} (hx : ctxOf s c = some x) (hm : x.mem = some b)
    (hb : b.seq = n) (hrule : x.byRule = true) (hst : x.st = .parked) (hstall : x.stall = none) (hr : s.dev.ready = []) :
    ldwGoOn c line n o x s = posted (ldwcEvent c line o x s) c (fun x => { x with mem := some (gotBuf b o) }) s := by
  unfold ldwGoOn
  dsimp only
  rw [hrule, if_pos rfl, memGot_eq hx hm hb]
  have hch : chanNo (modCtx c (fun x => { x with mem := some (gotBuf b o) }) s) line = chanNo s line :=
    chanNo_congr (only_modCtx c (fun x => { x with mem := some (gotBuf b o) }) s).regs line
  rw [hch]
  exact postEvent_parked (e := ldwcEvent c line o x s) rfl hx hr hst hstall

/-- The four reads of a sector with four EMPTY LDWs: an entry with every line I is installed, with SPILL 1. -/
theorem ldwFinish_empty {c line n : Nat} {b : MemBuf} {x : Ctx} {s : State} (hn : NoCounter s) (h : NoLdw s)
    (hx : ctxOf s c = some x) (hm : x.mem = some b) (hbl : b.line = line) (hb : b.seq = n) (hrule : x.byRule = true)
    (hst : x.st = .parked) (hstall : x.stall = none) (hr : s.dev.ready = []) (herrs : x.ldwErrs = [])
    (hg5 : ∀ a, x.agent = some a → isG5 s a = false) (hd : ∀ k, k < 4 → isDark s (4 * (line / 4) + k) = false)
    (hw : s.sheet.ways = []) (hv : s.sheet.evSlots = []) : ∃ t e, ldwFinish c x s = t ∧ t.dev.ready = [e] ∧
      e.ctx = c ∧ e.typ = 0x3E#6 ∧ e.code = some (codeOf t line (recOf t line) x.tray).num ∧
      (∀ k, k < 4 → (recOf t (line / 4 * 4 + k)).lst = .i ∧ (recOf t (line / 4 * 4 + k)).hit = true) ∧
      t.sheet.ways.map (fun p => (p.2.tray, p.2.sv, p.2.spill)) = [(x.tray.getD 0, 0, true)] ∧
      MemOnly [.chans] s t ∧ Only [.regs, .sheet, .dev, .mem, .meter] s t := by
  have hmod : modCtx c (fun y => { y with ldwErrs := [] }) s = setCtx c x s := by
    rw [modCtx_eq hx]
    show setCtx c { x with ldwErrs := [] } s = _
    rw [← herrs]
  have h0 := only_setCtx c x s
  have hx0 : ctxOf (setCtx c x s) c = some x := ctxOf_setCtx_same c x s
  have hr0 : (setCtx c x s).dev.ready = [] := hr
  obtain ⟨q, hq, -, -⟩ := allocate_empty hn hw (line / 4) (emptyEntry (line / 4) (x.tray.getD 0))
  generalize hu : setCtx c x s = u at h0 hx0 hr0 hmod
  have hdu : ∀ k, k < 4 → isDark u (4 * (line / 4) + k) = false := fun k hk => (isDark_regs h0.regs _).trans (hd k hk)
  obtain ⟨l, v, hread, hplain, hlen, hvO, hvM⟩ := readFour_empty (line := line) (noCounter_of hn h0)
    (h.keep (memOnly_of_only _ h0)) hdu n x.pgc
  have hwv : v.sheet.ways = [] := by rw [hvO.sheet, h0.sheet, hw]
  have hevv : v.sheet.evSlots = [] := by rw [hvO.sheet, h0.sheet, hv]
  have hheld : ∀ {y : State}, y.sheet.ways = [] → y.sheet.evSlots = [] → (heldEntry y (line / 4)).isSome = false := fun hy hy' => by
    unfold heldEntry evictOf
    rw [findEntry_empty hy, hy']
    rfl
  obtain ⟨w, hwall, hws, hww⟩ := allocate_empty (noCounter_of (noCounter_of hn h0) hvO) hwv (line / 4) (emptyEntry (line / 4) (x.tray.getD 0))
  have hone : OneEntry w (line / 4) 0 (emptyEntry (line / 4) (x.tray.getD 0)) := oneEntry_only (by decide) hww rfl
  have hskip : ldwSkips v x (emptyEntry (line / 4) (x.tray.getD 0)) = false := by
    unfold ldwSkips
    cases hag : x.agent with
    | none => rfl
    | some a =>
      dsimp only
      rw [isG5_congr (hvO.regs.trans h0.regs), hg5 a hag]
      rfl
  have heq : ldwFinish c x s = ldwGoOn c line n ((l[line % 4]?).getD ReadOut.zero) x w := by
    unfold ldwFinish
    rw [hm]
    dsimp only
    rw [hbl, hb, show ({ newEntry (line / 4) (x.tray.getD 0) with spill := true } : Entry) = emptyEntry (line / 4) (x.tray.getD 0) from rfl,
      hq, if_neg (by simp), hmod, herrs, hread]
    dsimp only
    rw [hheld hwv hevv, if_neg Bool.false_ne_true, ldwDecode_empty hplain hlen]
    dsimp only
    rw [hskip, if_neg Bool.false_ne_true, ldwRaise_empty hplain]
    have hfog : (emptyEntry (line / 4) (x.tray.getD 0)).lst.list.foldl (fun s n => countFog .i n (some (x.tray.getD 0)) s) v = v := rfl
    rw [hfog, hwall]
    dsimp only
    rw [resolve_emptyEntry hone rfl, go_nil]
  have hxw : ctxOf w c = some x := (ctxOf_congr (congrArg DevSide.ctxs (hws.only.dev.trans hvO.dev)) c).trans hx0
  have hrw : w.dev.ready = [] := (congrArg DevSide.ready (hws.only.dev.trans hvO.dev)).trans hr0
  rw [ldwGoOn_rules hxw hm hb hrule hst hstall hrw] at heq
  generalize (l[line % 4]?).getD ReadOut.zero = o at heq
  obtain ⟨f1, f2, -, -, -⟩ := posted_frame (e := ldwcEvent c line o x w) (f := fun x => { x with mem := some (gotBuf b o) }) hxw hrw
  generalize posted (ldwcEvent c line o x w) c (fun x => { x with mem := some (gotBuf b o) }) w = t at heq f1 f2
  have honet := oneEntry_congr (congrArg SheetSide.ways f1.sheet) hone
  have hrec : ∀ k, k / 4 = line / 4 → recOf t k = { lst := .i, own := 0, sv := 0, tray := some (x.tray.getD 0), hit := true } :=
    fun k hk => recOf_emptyEntry honet hk
  refine ⟨t, _, heq, f2, rfl, rfl, ?_, fun k hk => ?_, ?_, ?_, ?_⟩
  · show some (codeOf w line { recOf w line with hit := true } x.tray).num = _
    rw [hrec line rfl, recOf_emptyEntry hone rfl, codeOf_congr f1.mem (.inl f1.regs)]
  · rw [hrec _ (by omega)]
    exact ⟨rfl, rfl⟩
  · rw [f1.sheet, hww]
    rfl
  · exact (memOnly_of_only _ h0).trans (hvM.trans ((memOnly_of_only _ hws.only).trans (memOnly_of_only _ f1)))
  · exact (h0.mono (by simp)).trans ((hvO.mono (by simp)).trans ((hws.only.mono (by simp)).trans (f1.mono (by simp))))

theorem ldwc_installs : ∀ (c line n : Nat) (close : Bool) (b : MemBuf) (x : Ctx) (s : State), c < 8704 → InRun s → s.dev.running = true →
    ctxOf s c = some x → x.byRule = true → x.st = .parked → x.stall = none → (∀ w, x.kind ≠ .wb w) →
    (∀ a, x.agent = some a → isG5 s a = false) → s.dev.ready = [] →
    x.mem = some b → b.line = line → b.seq = n → line < 2 ^ 36 → x.owed = [.ldwc] →
    s.mem.memq = [⟨c, line, false, true, close, false, n⟩] → readReady s ⟨c, line, false, true, close, false, n⟩ = true →
    (∀ k, k < 4 → isDark s (line / 4 * 4 + k) = false) → s.mem.ldws = [] → s.mem.burstErr = [] → s.mem.pwb = [] →
    s.sheet.ways = [] → s.sheet.evSlots = [] →
    ∃ t e, exec (.ldwc c []) s = .next t ∧ t.mem.memq = [] ∧ t.dev.ready = [e] ∧ e.ctx = c ∧ e.typ = 0x3E#6 ∧
      e.code = some (codeOf t line (recOf t line) x.tray).num ∧
      (∀ k, k < 4 → (recOf t (line / 4 * 4 + k)).lst = .i ∧ (recOf t (line / 4 * 4 + k)).hit = true) ∧
      t.sheet.ways.map (fun p => (p.2.tray, p.2.sv, p.2.spill)) = [(x.tray.getD 0, 0, true)] ∧
      t.mem.dram = s.mem.dram ∧ Only [.regs, .sheet, .dev, .mem, .meter] s t := by
  intro c line n close b x s hc h _ hx hrule hst hstall _ hg5 hr hm hbl hb _ howed hmemq hrr hd hldws herr hpwb hw hv
  have hfind : s.mem.memq.find? (fun q => decide (q.ctx = c) && q.sector && readReady s q) = some ⟨c, line, false, true, close, false, n⟩ := by
    rw [hmemq, List.find?_cons_of_pos]
    simp [hrr]
  have hop : opLdwc c [] s = ldwLands c [] (leaveQueue ⟨c, line, false, true, close, false, n⟩
      ((MemOp.reads ⟨c, line, false, true, close, false, n⟩).any (needsDram s n)) s) := by
    unfold opLdwc
    rw [hfind]
    rfl
  obtain ⟨h1, hm1, hq1⟩ := leaveQueue_frame ⟨c, line, false, true, close, false, n⟩
    ((MemOp.reads ⟨c, line, false, true, close, false, n⟩).any (needsDram s n)) s
  generalize leaveQueue ⟨c, line, false, true, close, false, n⟩
    ((MemOp.reads ⟨c, line, false, true, close, false, n⟩).any (needsDram s n)) s = u at hop h1 hm1 hq1
  have hxu : ctxOf u c = some x := (ctxOf_congr (congrArg DevSide.ctxs h1.dev) c).trans hx
  have hland : ldwLands c [] u = ldwFinish c { x with ldwErrs := [] } (setCtx c { x with ldwErrs := [] } u) := by
    unfold ldwLands
    rw [hxu]
    dsimp only
    rw [if_neg (by rw [hst]; decide), if_neg (by rw [howed]; decide)]
  have h2 := only_setCtx c { x with ldwErrs := [] } u
  have hx2 : ctxOf (setCtx c { x with ldwErrs := [] } u) c = some { x with ldwErrs := [] } := ctxOf_setCtx_same _ _ _
  have hrv : (setCtx c { x with ldwErrs := [] } u).dev.ready = [] := (congrArg DevSide.ready h1.dev).trans hr
  generalize setCtx c { x with ldwErrs := [] } u = v at hland h2 hx2 hrv
  have hOv : Only [.dev, .mem] s v := (h1.mono (by simp)).trans (h2.mono (by simp))
  have hmv : v.mem = u.mem := h2.mem
  obtain ⟨t, e, ht, f1, f2, f3, f4, f5, f6, f7, f8⟩ := ldwFinish_empty (x := { x with ldwErrs := [] }) (line := line) (n := n) (b := b)
    (noCounter_of h.noCounter hOv) ⟨by rw [hmv, hm1.ldws, hldws], by rw [hmv, hm1.burstErr, herr], by rw [hmv, hm1.pwb, hpwb]⟩ hx2 hm hbl hb
    hrule hst hstall hrv rfl (fun a ha => (isG5_congr hOv.regs a).trans (hg5 a ha))
    (fun k hk => (isDark_regs hOv.regs _).trans (by rw [Nat.mul_comm]; exact hd k hk)) (by rw [hOv.sheet, hw]) (by rw [hOv.sheet, hv])
  have hO : Only [.regs, .sheet, .dev, .mem, .meter] s t := (hOv.mono (by simp)).trans f8
  refine ⟨t, e, exec_live (decide_eq_true hc) h.1 (hop.trans (hland.trans ht)) hO.pending hO.aon, ?_, f1, f2, f3, f4, f5, f6, ?_, hO⟩
  · rw [f7.memq, hmv, hq1, hmemq]
    simp
  · rw [f7.dram, hmv, hm1.dram]

/-- Settles O41, by the kind of completion. -/
theorem memoryCompletes : Obligations.MemoryCompletes := ⟨mrdc_lands, write_lands, write_resumes, ldwc_installs⟩

end Sys2Proof.Machine
end

section
/-! PROOFS. Patrol scrub and remapping of pages (R248, R268 to R274). -/

namespace Sys2Proof.Machine

/-! ### A corrected read (R256, Table CODE-2) -/

/-- The registers that a corrected read of channel `m` changes beside CD_CECNT: the device counters, the error log, and those of its
cause. -/
def ReadReg (m o : Nat) : Prop :=
  o = causeReg Cause.memCe.domain m ∨ o = 0x010020 ∨ chanBase m + 0x8100 ≤ o ∧ o < chanBase m + 0x8600

theorem regsOnly_raise_ce {c : Cause} (h : c.cls = .ce) (u : Nat) (r : PsRec) (s : State) :
    RegsOnly (fun o => o = causeReg c.domain u ∨ o = 0x010020) s (raise c u r s) := by
  rw [raise_eq, classAct, h, classCount, h]
  exact (regsOnly_wr (o := causeReg c.domain u) s _ (.inl rfl)).trans (regsOnly_wr _ _ (.inr rfl))

theorem elog_frame (m line : Nat) (c : Coord) (ue : Bool) (dev syms : Nat) (src : ReadSrc) (s : State) :
    Only [.regs] s (elog m line c ue dev syms src s) ∧ RegsOnly (ReadReg m) s (elog m line c ue dev syms src s) := by
  have hr : ∀ o, chanBase m + 0x8100 ≤ o → o < chanBase m + 0x8600 → ReadReg m o := fun o h1 h2 => .inr (.inr ⟨h1, h2⟩)
  unfold elog
  dsimp only
  split
  next hn =>
    exact ⟨(only_wr _ _ _).trans ((only_wr _ _ _).trans (only_wrf _ _ _ _ _)),
      (regsOnly_wr _ _ (hr _ (by omega) (by omega))).trans ((regsOnly_wr _ _ (hr _ (by omega) (by omega))).trans
        (regsOnly_wrf _ _ _ _ (hr _ (by omega) (by omega))))⟩
  · exact ⟨only_wrf _ _ _ _ _, regsOnly_wrf _ _ _ _ (hr _ (by omega) (by omega))⟩

theorem devCount_frame {m : Nat} {c : Coord} {devs : List Nat} (hsc : c.sc < 2) (hrk : c.rank < 8) (hd : ∀ d ∈ devs, d < 16) (s : State) :
    Only [.regs] s (devCount m c devs s) ∧ RegsOnly (ReadReg m) s (devCount m c devs s) := by
  induction devs generalizing s with
  | nil => exact ⟨Only.refl _ s, RegsOnly.refl _ s⟩
  | cons d devs ih =>
    have hdd := hd d List.mem_cons_self
    obtain ⟨g1, g2⟩ := ih (fun e he => hd e (List.mem_cons_of_mem _ he)) (wrf s (chanBase m + 0x8100 + 0x100 * c.sc + 0x20 * c.rank + 4 * (d / 2))
      (16 * (d % 2)) 16 (min 0xFFFF (rdf s (chanBase m + 0x8100 + 0x100 * c.sc + 0x20 * c.rank + 4 * (d / 2)) (16 * (d % 2)) 16 + 1)))
    exact ⟨(only_wrf _ _ _ _ _).trans g1, (regsOnly_wrf _ _ _ _ (.inr (.inr ⟨by omega, by omega⟩))).trans g2⟩

/-- A corrected read: counted, raised and logged. -/
structure Corrected (m : Nat) (s t : State) : Prop where
  caused : Caused t .memCe m
  counted : rd t (chanBase m + 0x8010) = satInc32 (rd s (chanBase m + 0x8010))
  regs : RegsOnly (fun o => o = chanBase m + 0x8010 ∨ ReadReg m o) s t
  only : Only [.regs, .meter] s t

theorem readReg_ne {m o : Nat} (h : ReadReg m o) (hm : m < 8) : o ≠ chanBase m + 0x8010 := by
  rcases h with h | h | h
  · have hc := (causeReg_range (c := .memCe) (u := m) (by omega)).2
    unfold chanBase
    omega
  · unfold chanBase
    omega
  · omega

theorem readCorrected_frame {m : Nat} {c : Coord} {devs : List Nat} (hm : m < 8) (hsc : c.sc < 2) (hrk : c.rank < 8)
    (hd : ∀ d ∈ devs, d < 16) (line syms : Nat) (src : ReadSrc) (s : State) : Corrected m s (readCorrected m line c devs syms src s) := by
  have hne : ∀ o, ReadReg m o → o ≠ chanBase m + 0x8010 := fun o h => readReg_ne h hm
  have h1 := only_wr s (chanBase m + 0x8010) (satInc32 (rd s (chanBase m + 0x8010)))
  have hr1 : RegsOnly (· = chanBase m + 0x8010) s (wr s (chanBase m + 0x8010) (satInc32 (rd s (chanBase m + 0x8010)))) := regsOnly_wr s _ rfl
  have hv1 := rd_wr_same s (chanBase m + 0x8010) (satInc32 (rd s (chanBase m + 0x8010)))
  unfold readCorrected
  dsimp only
  generalize wr s (chanBase m + 0x8010) (satInc32 (rd s (chanBase m + 0x8010))) = u at h1 hr1 hv1 ⊢
  obtain ⟨h2, hr2⟩ := devCount_frame hsc hrk hd (m := m) u
  generalize devCount m c devs u = v at h2 hr2 ⊢
  have h3 : Only [.meter] v (statAdd 0x102 4 m 1 v) := by simp [only_iff, statAdd]
  generalize statAdd 0x102 4 m 1 v = w at h3 ⊢
  have h4 := only_raise_ce (c := .memCe) (.inr rfl) m PsRec.none w
  have hr4 : RegsOnly (ReadReg m) w (raiseAt .memCe m w) := (regsOnly_raise_ce (c := .memCe) rfl m PsRec.none w).mono fun o ho => by
    rcases ho with ho | ho
    · exact .inl ho
    · exact .inr (.inl ho)
  have hc4 : Caused (raiseAt .memCe m w) .memCe m := caused_raise .memCe (by omega) _ w
  change Only [.regs] w (raiseAt .memCe m w) at h4
  generalize raiseAt .memCe m w = x at h4 hr4 hc4 ⊢
  have h5 := elog_frame m line c false ((devs.min?).getD 0xF) syms src x
  have hlog : RegsOnly (fun o => chanBase m + 0x8400 ≤ o ∧ o < chanBase m + 0x8600) x (elog m line c false ((devs.min?).getD 0xF) syms src x) := by
    unfold elog
    dsimp only
    split
    · exact (regsOnly_wr _ _ ⟨by omega, by omega⟩).trans ((regsOnly_wr _ _ ⟨by omega, by omega⟩).trans
        (regsOnly_wrf _ _ _ _ ⟨by omega, by omega⟩))
    · exact regsOnly_wrf _ _ _ _ ⟨by omega, by omega⟩
  generalize elog m line c false ((devs.min?).getD 0xF) syms src x = t at h5 hlog ⊢
  have hr : RegsOnly (ReadReg m) u t := hr2.trans ((regsOnly_of_regs h3.regs).trans (hr4.trans h5.2))
  refine ⟨hc4.keep hlog ?_, ?_, (hr1.mono fun o ho => .inl ho).trans (hr.mono fun o ho => .inr ho),
    (h1.mono (by simp)).trans ((h2.mono (by simp)).trans ((h3.mono (by simp)).trans ((h4.mono (by simp)).trans (h5.1.mono (by simp)))))⟩
  · have hc := (causeReg_range (c := .memCe) (u := m) (by omega)).2
    unfold chanBase
    omega
  · rw [hr _ fun ho => hne _ ho rfl, hv1]

theorem chanRanks_le (s : State) (m : Nat) : 0 < chanRanks s m ∧ chanRanks s m ≤ 8 := by
  have h : ∀ lo, fld (rd s (oMcCfg m)) lo 1 < 2 := fun lo => by rw [fld_eq]; exact Nat.mod_lt _ (by decide)
  have h6 := h 6
  have h7 := h 7
  have h8 := h 8
  unfold chanRanks
  exact ⟨by positivity, Nat.mul_le_mul (Nat.mul_le_mul (show _ ≤ 2 by omega) (show _ ≤ 2 by omega)) (show _ ≤ 2 by omega)⟩

/-- A burst with one wrong symbol beside those at rest, and no erased device, is corrected (R256). -/
theorem decodeBurst_one {m co i : Nat} {x : Byte} {s : State} (hm : m < 8) (hi : i < 64) (hx : x ≠ 0)
    (he : sGet [] s.mem.burstErr ((m * 2 ^ 39 + co) / 64) = []) (hl : ldwInvalid (sGet 0 s.mem.ldws ((m * 2 ^ 39 + co) / 64)) = false)
    (her : bitOf (rd s (chanBase m + 0x8020 + 0x20 * (coordOf s m co).sc + 4 * (coordOf s m co).rank)) 31 = false) (line : Nat)
    (src : ReadSrc) : ∃ t, decodeBurst m co line src [(i, x)] s = ({ soundRead s (m * 2 ^ 39 + co) with fixed := true }, t) ∧
      Corrected m s t := by
  have hadd : addErrs (sGet [] s.mem.burstErr ((m * 2 ^ 39 + co) / 64)) [(i, x)] = [(i, x)] := by
    rw [he]
    simp [addErrs]
    exact hx
  have her' : erased s m (coordOf s m co).sc (coordOf s m co).rank = none := by
    unfold erased
    dsimp only
    rw [her]
    rfl
  have hdev : deviceOf s m i < 16 := by unfold deviceOf; split <;> omega
  have hcls : classify false 1 s = (.corrected, s) := rfl
  obtain ⟨hr0, hr8⟩ := chanRanks_le s m
  have hsc : (coordOf s m co).sc < 2 := Nat.mod_lt _ (by decide)
  have hrk : (coordOf s m co).rank < 8 := lt_of_lt_of_le (Nat.mod_lt _ hr0) hr8
  refine ⟨_, ?_, readCorrected_frame (devs := [deviceOf s m i]) hm hsc hrk (fun d hd => by rw [List.mem_singleton.1 hd]; exact hdev) line 1 src s⟩
  unfold decodeBurst
  dsimp only
  rw [hadd, her']
  simp only [reduceCtorEq, ne_eq, not_false_eq_true, decide_true, List.filter_cons_of_pos, List.filter_nil, List.map_cons, List.map_nil,
    List.length_singleton, Option.isSome_none, hcls]
  rw [hl]
  rfl

/-! ### The patrol scrubber (R248, R268 to R270) -/

theorem chanGib_of {s t : State} (h : ∀ k, rd t (oMcCfg k) = rd s (oMcCfg k)) : chanGib t = chanGib s := funext fun m => by
  unfold chanGib chanPresent chanRanks
  rw [h]

/-- The locations that the scrubber visits follow from the memory layout and the blank map. -/
theorem patrol_congr {s t : State} (hmap : rd t oMcMap = rd s oMcMap) (hcfg : ∀ k, rd t (oMcCfg k) = rd s (oMcCfg k))
    (hsp : rd t 0x209010 = rd s 0x209010) (hb : notBlank t = notBlank s) (m : Nat) :
    subLines t m = subLines s m ∧ ∀ sc k, patrolNext t m sc k = patrolNext s m sc k := by
  have hg := chanGib_of hcfg
  have hmm : mapMode t = mapMode s := by rw [mapMode, mapMode, rdf, rdf, hmap]
  have hbase : chanBaseGib t = chanBaseGib s := funext fun m => by
    unfold chanBaseGib
    rw [hmm, hg]
  have hspare : spareRange t = spareRange s := by
    unfold spareRange
    rw [hsp]
  have hsub : subLines t m = subLines s m := by rw [subLines, subLines, hg]
  have hrs : scrubRegions t m = scrubRegions s m := by
    unfold scrubRegions
    rw [hb, hspare, hmm, hbase, hg]
  have hst : regionStart t m = regionStart s m := funext fun r => by
    unfold regionStart
    rw [hmm, hbase]
  have hloc : ∀ sc k, locLine t m sc k = locLine s m sc k := fun sc k => by
    unfold locLine unmapAddr
    rw [hmm, hbase]
  refine ⟨hsub, fun sc k => ?_⟩
  unfold patrolNext
  rw [hrs, hst, hsub, hloc]

theorem not_readReg {m o : Nat} (hm : m < 8) (h : 0x200000 ≤ o) (h2 : ∀ k, o < chanBase k + 0x8000 ∨ chanBase k + 0x9000 ≤ o) :
    ¬ (o = chanBase m + 0x8010 ∨ ReadReg m o) := by
  have hc := (causeReg_range (c := .memCe) (u := m) (by omega)).2
  have hk := h2 m
  rintro (h | h | h | ⟨h, h'⟩) <;> omega

/-- What a read leaves of the memory layout. -/
theorem patrol_corrected {m : Nat} {s t : State} (hm : m < 8) (h : RegsOnly (fun o => o = chanBase m + 0x8010 ∨ ReadReg m o) s t)
    (hb : notBlank t = notBlank s) : subLines t m = subLines s m ∧ ∀ sc k, patrolNext t m sc k = patrolNext s m sc k := by
  refine patrol_congr (h _ (not_readReg hm (by decide) fun k => ?_)) (fun j => h _ (not_readReg hm ?_ fun k => ?_))
    (h _ (not_readReg hm (by decide) fun k => ?_)) hb m
  · unfold oMcMap chanBase
    omega
  · unfold oMcCfg chanBase
    omega
  · unfold oMcCfg chanBase
    omega
  · unfold chanBase
    omega

theorem notBlank_of {s t : State} (hw : t.mem.written = s.mem.written) (hf : t.mem.fills = s.mem.fills) : notBlank t = notBlank s := by
  rw [notBlank, notBlank, hw, hf]

/-- A scrub read that corrects a symbol asks for a rewrite. -/
theorem scrubRead_corrects {m co i line : Nat} {x : Byte} {s : State} (hm : m < 8) (hi : i < 64) (hx : x ≠ 0) (h : InRun s)
    (hblank : regionBlank s (line / 2 ^ 14) = false) (hpwb : pwbFind s line = none) (hc : lineChan s line = some (m, co))
    (hdark : isDark s line = false) (he : sGet [] s.mem.burstErr ((m * 2 ^ 39 + co) / 64) = [])
    (hl : ldwInvalid (sGet 0 s.mem.ldws ((m * 2 ^ 39 + co) / 64)) = false)
    (her : bitOf (rd s (chanBase m + 0x8020 + 0x20 * (coordOf s m co).sc + 4 * (coordOf s m co).rank)) 31 = false) :
    let a := m * 2 ^ 39 + co
    let t := scrubRead line [(i, x)] s
    Caused t .memCe m ∧ rd t (chanBase m + 0x8010) = satInc32 (rd s (chanBase m + 0x8010)) ∧
    sFind t.mem.rewrites line = some (lineOf (memRead s.mem.dram a 64), sGet 0 s.mem.ldws (a / 64)) ∧ MemOnly [.chans, .rewrites] s t ∧
    RegsOnly (fun o => o = chanBase m + 0x8010 ∨ ReadReg m o) s t ∧ Only [.regs, .mem, .meter] s t := by
  intro a t
  have h1 := only_dramAccessed h.noCounter m co line true
  obtain ⟨-, -, hm1⟩ := dramAccessed_frame m co line true s
  have hread := memReadAt_dram hdark (lineBlank_written hblank) (pwbBefore_none hpwb s.mem.opSeq) hc .scrub true [(i, x)]
  have ht : t = scrubRead line [(i, x)] s := rfl
  unfold scrubRead memReadLine at ht
  rw [hread] at ht
  generalize dramAccessed m co line true s = u at h1 hm1 ht
  have hcoord : coordOf u m co = coordOf s m co := by
    unfold coordOf chanRanks
    rw [rd_funext h1.regs]
  obtain ⟨v, hv, hC⟩ := decodeBurst_one (s := u) hm hi hx (by rw [hm1.burstErr]; exact he) (by rw [hm1.ldws]; exact hl)
    (by rw [hcoord, rd_congr h1.regs]; exact her) line .scrub
  rw [hv] at ht
  dsimp only at ht
  have hsafe : isSafe v = false := by
    rw [isSafe, hC.regs oFltStatus ?_, rd_congr h1.regs]
    · exact h.notSafe
    · have hcr := (causeReg_range (c := .memCe) (u := m) (by omega)).1
      unfold oFltStatus ReadReg chanBase
      omega
  rw [hsafe, show (soundRead u (m * 2 ^ 39 + co)).uncor = false from rfl] at ht
  rw [if_neg (by simp)] at ht
  have h5 : Only [.mem] v (updMem (fun x => { x with rewrites := sSet x.rewrites line ((soundRead u (m * 2 ^ 39 + co)).data, (soundRead u (m * 2 ^ 39 + co)).ldw) }) v) :=
    only_updMem _ _
  have hm5 : MemOnly [.rewrites] v (updMem (fun x => { x with rewrites := sSet x.rewrites line ((soundRead u (m * 2 ^ 39 + co)).data, (soundRead u (m * 2 ^ 39 + co)).ldw) }) v) := by
    simp [memOnly_iff]
  have hw5 : (updMem (fun x => { x with rewrites := sSet x.rewrites line ((soundRead u (m * 2 ^ 39 + co)).data, (soundRead u (m * 2 ^ 39 + co)).ldw) }) v).mem.rewrites =
      sSet v.mem.rewrites line ((soundRead u (m * 2 ^ 39 + co)).data, (soundRead u (m * 2 ^ 39 + co)).ldw) := rfl
  rw [← ht] at h5 hm5 hw5
  refine ⟨(caused_congr h5.regs _ m).2 hC.caused, ?_, ?_, (hm1.mono (by simp)).trans ((memOnly_of_only _ hC.only).trans (hm5.mono (by simp))), ?_, ?_⟩
  · rw [rd_congr h5.regs, hC.counted, rd_congr h1.regs]
  · rw [hw5, sFind_sSet_same]
    unfold soundRead burstData
    rw [hm1.dram, hm1.ldws]
  · exact (regsOnly_of_regs h1.regs).trans (hC.regs.trans (regsOnly_of_regs h5.regs))
  · exact (h1.mono (by simp)).trans ((hC.only.mono (by simp)).trans (h5.mono (by simp)))

theorem chanServes_notDark {s : State} {m co line : Nat} (h : chanServes s m = true) (hc : lineChan s line = some (m, co)) :
    isDark s line = false := by
  rw [chanServes, Bool.and_eq_true, decide_eq_true_eq] at h
  rw [isDark, hc]
  exact decide_eq_false (by rw [h.1]; decide)

/-- The scrubber's visit of its next location. -/
def patrolAt (m k : Nat) (errs : List SymErr) (s : State) : State :=
  match heldLine s (locLine s m 0 k) with
  | some line => if lineBlank s line then s else scrubRead line errs s
  | none => s

/-- The scrubber goes on behind a location. -/
def patrolPast (m k : Nat) (s : State) : State :=
  if patrolNext s m 0 (k + 1) < subLines s m then s else scrubLapEnd m 0 s

theorem opPatrol_goes {m : Nat} {s : State} (errs : List SymErr) (hen : bitOf (rd s (chanBase m + 0x8000)) 31 = true)
    (hserves : chanServes s m = true) (hpresent : chanPresent s m = true) (hpwr : rdf s oPwrStatus 0 3 = 0)
    (hlap : (chanOf s m).lap0 = false) (hroom : ownRoom s m 0 = true) : opPatrol m 0 errs s =
      if subLines s m ≤ patrolNext s m 0 (chanOf s m).pos0 then scrubLapEnd m 0 s
      else patrolPast m (patrolNext s m 0 (chanOf s m).pos0)
        (setChan m (fun c => { c with pos0 := patrolNext s m 0 (chanOf s m).pos0 + 1 })
          (patrolAt m (patrolNext s m 0 (chanOf s m).pos0) errs s)) := by
  unfold opPatrol
  dsimp only
  rw [hen, hserves, hpresent, hpwr, hroom, if_pos rfl, hlap, if_neg (by decide)]
  rfl

theorem patrol_visits : ∀ (m : Nat) (s : State), m < 8 → InRun s → bitOf (rd s (chanBase m + 0x8000)) 31 = true →
    chanServes s m = true → chanPresent s m = true → (chanOf s m).lap0 = false → ownRoom s m 0 = true →
    (∀ (i co line : Nat) (x : Byte), i < 64 → x ≠ 0 → (chanOf s m).pos0 < subLines s m →
      patrolNext s m 0 (chanOf s m).pos0 = (chanOf s m).pos0 →
      patrolNext s m 0 ((chanOf s m).pos0 + 1) < subLines s m →
      heldLine s (locLine s m 0 (chanOf s m).pos0) = some line → regionBlank s (line / 2 ^ 14) = false →
      pwbFind s line = none → lineChan s line = some (m, co) →
      let a := m * 2 ^ 39 + co
      let w := sGet 0 s.mem.ldws (a / 64)
      sGet [] s.mem.burstErr (a / 64) = [] → ldwInvalid w = false →
      bitOf (rd s (chanBase m + 0x8020 + 0x20 * (coordOf s m co).sc + 4 * (coordOf s m co).rank)) 31 = false →
      ∃ t, exec (.patrolScrubRead m 0 [(i, x)]) s = .next t ∧ Caused t .memCe m ∧
        rd t (chanBase m + 0x8010) = satInc32 (rd s (chanBase m + 0x8010)) ∧
        sFind t.mem.rewrites line = some (lineOf (memRead s.mem.dram a 64), w) ∧
        (chanOf t m).pos0 = (chanOf s m).pos0 + 1 ∧ t.mem.dram = s.mem.dram ∧ Only [.regs, .mem, .meter] s t) ∧
    (scrubRegions s m = [] → (chanOf s m).lap1 = false →
      ∃ t, exec (.patrolScrubRead m 0 []) s = .next t ∧ (chanOf t m).lap0 = true ∧ Only [.mem] s t) := by
  intro m s hm h hen hserves hpresent hlap hroom
  have hok : okSc m 0 = true := by simp [okSc, okChan, hm]
  have hpwr : rdf s oPwrStatus 0 3 = 0 := h.2.1
  have hgo := fun errs => opPatrol_goes errs hen hserves hpresent hpwr hlap hroom
  refine ⟨fun i co line x hi hx hpos hnext hnext1 hheld hblank hpwb hc => ?_, fun hrs hlap1 => ?_⟩
  · intro a w he hl her
    obtain ⟨g1, g2, g3, g4, g5, g6⟩ := scrubRead_corrects hm hi hx h hblank hpwb hc (chanServes_notDark hserves hc) he hl her
    have hop := hgo [(i, x)]
    have hat : patrolAt m (chanOf s m).pos0 [(i, x)] s = scrubRead line [(i, x)] s := by
      rw [patrolAt, hheld]
      exact if_neg (by rw [lineBlank_written hblank]; exact Bool.false_ne_true)
    rw [hnext, if_neg (Nat.not_le.2 hpos), hat, patrolPast] at hop
    generalize scrubRead line [(i, x)] s = u at g1 g2 g3 g4 g5 g6 hop
    have h7 := memChans_setChan m (fun c => { c with pos0 := (chanOf s m).pos0 + 1 }) u
    have hpos7 : (chanOf (setChan m (fun c => { c with pos0 := (chanOf s m).pos0 + 1 }) u) m).pos0 = (chanOf s m).pos0 + 1 := by
      rw [chanOf_setChan_same]
    generalize setChan m (fun c => { c with pos0 := (chanOf s m).pos0 + 1 }) u = t at h7 hpos7 hop
    obtain ⟨p1, p2⟩ := patrol_corrected (t := t) hm (g5.trans (regsOnly_of_regs h7.regs))
      (notBlank_of (h7.memOnly.written.trans g4.written) (h7.memOnly.fills.trans g4.fills))
    rw [p1, p2, if_pos hnext1] at hop
    have hO : Only [.regs, .mem, .meter] s t := g6.trans (h7.only.mono (by simp))
    exact ⟨t, exec_live hok h.1 hop hO.pending hO.aon, (caused_congr h7.regs _ m).2 g1, (rd_congr h7.regs _).trans g2,
      by rw [h7.memOnly.rewrites]; exact g3, hpos7, h7.memOnly.dram.trans g4.dram, hO⟩
  · have hnext : patrolNext s m 0 (chanOf s m).pos0 = subLines s m := by
      unfold patrolNext
      rw [hrs]
      simp
    have hop := hgo []
    rw [hnext, if_pos (le_refl _)] at hop
    have h7 := memChans_setChan m (fun c => { c with lap0 := true }) s
    have hlap7 : (chanOf (setChan m (fun c => { c with lap0 := true }) s) m) = { chanOf s m with lap0 := true } := by
      rw [chanOf_setChan_same]
    have hend : scrubLapEnd m 0 s = setChan m (fun c => { c with lap0 := true }) s := by
      refine if_pos ?_
      show (!((chanOf (setChan m (fun c => { c with lap0 := true }) s) m).lap0 &&
        (chanOf (setChan m (fun c => { c with lap0 := true }) s) m).lap1)) = true
      rw [hlap7, hlap1]
      rfl
    rw [hend] at hop
    generalize setChan m (fun c => { c with lap0 := true }) s = t at h7 hlap7 hop
    have hO := h7.only
    exact ⟨t, exec_live hok h.1 hop hO.pending hO.aon, by rw [hlap7], hO⟩

/-! ### The rewrite of a line (R269) -/

theorem rewrite_line : ∀ (line : Nat) (d : LineBits) (w : W32) (p : PwbLine) (s : State), line < 2 ^ 36 → asleep s = false → isSafe s = false →
    sFind s.mem.rewrites line = some (d, w) → holderOf s line = none → entriesFor s 1 = true → isDark s line = false →
    regionBlank s (line / 2 ^ 14) = false → pwbFree s = true → pwbFind s line = some p → p.seq < s.mem.opSeq →
    (heldEntry s (line / 4)).isSome = true →
    (p.data = d → p.ldw = w →
      ∃ t q, exec (.scrubRewrite line []) s = .next t ∧ t.mem.pwb = s.mem.pwb ++ [q] ∧ q.line = line ∧ q.data = d ∧
        q.ldw = w ∧ sFind t.mem.rewrites line = none ∧ Only [.mem] s t) ∧
    (p.data ≠ d ∨ p.ldw ≠ w →
      ∃ t, exec (.scrubRewrite line []) s = .next t ∧ t.mem.pwb = s.mem.pwb ∧ sFind t.mem.rewrites line = none ∧
        Only [.mem] s t) := by
  intro line d w p s hl ha hsafe hrw hhold hent hdark hblank hfree hpwb hseq hheld
  have hready : pwbReady s line = true := by
    unfold pwbReady fillReady regionOf
    rw [hfree, hblank]
    rfl
  have hown : ownReads s line true = true := by
    unfold ownReads readAtOnce
    rw [hpwb]
    simp
  have h1 : Only [.mem] s (updMem (fun x => { x with rewrites := sDel x.rewrites line }) s) := only_updMem _ s
  have hm1 : (updMem (fun x => { x with rewrites := sDel x.rewrites line }) s).mem = { s.mem with rewrites := sDel s.mem.rewrites line } := rfl
  have hop : opRewrite line [] s = (match memReadLine line .scrub true [] (updMem (fun x => { x with rewrites := sDel x.rewrites line }) s) with
      | (o, s) => if o.uncor || isDark s line || lineBlank s line || decide (o.data ≠ d) || decide (o.ldw ≠ w) then s
        else rewriteLine line o s) := by
    unfold opRewrite
    rw [hrw]
    dsimp only
    rw [hsafe, hhold, hent, hready, hown]
    rfl
  generalize updMem (fun x => { x with rewrites := sDel x.rewrites line }) s = u at h1 hm1 hop
  have hdu : isDark u line = false := (isDark_regs h1.regs _).trans hdark
  have hru : regionBlank u (line / 2 ^ 14) = false := (regionBlank_congr (by rw [hm1]) _).trans hblank
  have hpu : pwbFind u line = some p := by
    unfold pwbFind
    rw [hm1]
    exact hpwb
  have hread : memReadLine line .scrub true [] u = (readBuffered p, u) :=
    memReadAt_buffered hdu (lineBlank_written hru) (pwbBefore_newest hpu (by rw [hm1]; exact hseq)) _ _ _
  rw [hread] at hop
  dsimp only at hop
  rw [hdu, lineBlank_written hru, show (readBuffered p).uncor = false from rfl, show (readBuffered p).data = p.data from rfl,
    show (readBuffered p).ldw = p.ldw from rfl] at hop
  have hok : okLine line = true := decide_eq_true hl
  refine ⟨fun hd hw => ?_, fun hne => ?_⟩
  · rw [hd, hw, if_neg (by simp)] at hop
    have hheldu : (heldEntry u (line / 4)).isSome = true := by
      unfold heldEntry evictOf
      rw [findEntry_congr (congrArg SheetSide.ways h1.sheet), h1.sheet]
      exact hheld
    have hrl : rewriteLine line (readBuffered p) u = pwbEnter (ownLine line p.data (ldwFogged p.ldw) p.ldw u) u := by
      unfold rewriteLine
      rw [hheldu]
      rfl
    rw [hrl, hd, hw] at hop
    obtain ⟨g1, -, g3⟩ := pwbEnter_written (p := ownLine line d (ldwFogged w) w u) (s := u) hru rfl
    generalize pwbEnter (ownLine line d (ldwFogged w) w u) u = t at hop g1 g3
    have hO := h1.trans g3
    refine ⟨t, _, exec_live hok ha hop hO.pending hO.aon, by rw [g1, hm1], rfl, rfl, rfl, ?_, hO⟩
    rw [g1, hm1]
    exact sFind_sDel_same _ _
  · rw [if_pos (by simpa using hne)] at hop
    exact ⟨u, exec_live hok ha hop h1.pending h1.aon, by rw [hm1], by rw [hm1]; exact sFind_sDel_same _ _, h1⟩

/-! ### COPY and LOAD (R272, R274) -/

/-- An entry of the remap table taken, with the bit `b`. -/
def rmpTaken (b e old new : Nat) (s : State) : State :=
  wrf (wrf (wr s (oRmp e) (w64 (2 ^ b + 2 ^ 32 * new + old))) oRmpSts 5 10 e) oRmpSts 0 5 0

theorem rmpFree_congr {s t : State} (h : t.regs = s.regs) : rmpFree t = rmpFree s := by
  unfold rmpFree
  rw [rd_funext h]

theorem rmpFree_lt {e : Nat} {s : State} (h : rmpFree s = some e) : e < 1024 := by
  unfold rmpFree at h
  generalize hl : List.range 1024 = l at h
  have hm := List.mem_of_find?_eq_some h
  rw [← hl] at hm
  exact List.mem_range.1 hm

theorem rmpTake_some {e : Nat} {s : State} (h : rmpFree s = some e) (b old new : Nat) :
    rmpTake b old new s = some (rmpTaken b e old new s) := by
  rw [rmpTake, h]
  rfl

theorem oRmp_ne (e : Nat) : oRmp e ≠ oRmpSts ∧ oRmp e ≠ 0x20902C := by
  unfold oRmp oRmpSts
  omega

/-- What taking an entry, with a result, leaves in CD_RMP_STS and in the entry. -/
theorem rmpTaken_frame {e : Nat} {s : State} (he : e < 1024) (b old new r : Nat) : let t := rmpResult r (rmpTaken b e old new s)
    rd t (oRmp e) = w64 (2 ^ b + 2 ^ 32 * new + old) ∧ rdf t oRmpSts 0 5 = 0 ∧ rdf t oRmpSts 5 10 = e ∧ rdf t oRmpSts 28 3 = r % 8 ∧
    t.cap = s.cap ∧ Only [.regs] s t ∧ RegsOnly (fun o => o = oRmp e ∨ o = 0x20902C) s t := by
  intro t
  have hne := (oRmp_ne e).1
  have hv : rd t oRmpSts = setFld (setFld (setFld (rd s oRmpSts) 5 10 e) 0 5 0) 28 3 r := by
    unfold t rmpResult rmpTaken
    rw [rd_wrf_same, rd_wrf_same, rd_wrf_same, rd_wr_ne _ _ hne.symm]
  refine ⟨?_, ?_, ?_, ?_, rfl, ?_, ?_⟩
  · unfold t rmpResult rmpTaken
    rw [rd_wrf_ne _ _ _ _ hne, rd_wrf_ne _ _ _ _ hne, rd_wrf_ne _ _ _ _ hne, rd_wr_same]
  · rw [rdf, hv, fld_setFld_ne _ _ _ _ _ _ (by decide) (by decide), fld_setFld_same _ _ _ _ (by decide)]
    rfl
  · rw [rdf, hv, fld_setFld_ne _ _ _ _ _ _ (by decide) (by decide), fld_setFld_ne _ _ _ _ _ _ (by decide) (by decide),
      fld_setFld_same _ _ _ _ (by decide), Nat.mod_eq_of_lt (by omega)]
  · rw [rdf, hv, fld_setFld_same _ _ _ _ (by decide)]
    rfl
  · exact (only_wr _ _ _).trans ((only_wrf _ _ _ _ _).trans ((only_wrf _ _ _ _ _).trans (only_wrf _ _ _ _ _)))
  · exact (regsOnly_wr _ _ (.inl rfl)).trans ((regsOnly_wrf _ _ _ _ (.inr rfl)).trans ((regsOnly_wrf _ _ _ _ (.inr rfl)).trans
      (regsOnly_wrf _ _ _ _ (.inr rfl))))

/-- A refused remap command. -/
theorem rmpRefused_frame (s : State) : let t := cdRefuse 0 (rmpResult 2 s)
    rdf t 0x20902C 28 3 = 2 ∧ Caused t .cdCmd 0 ∧ t.cap = s.cap ∧ Only [.regs] s t := by
  intro t
  have hc : Caused t .cdCmd 0 := caused_raise .cdCmd (by decide) PsRec.none _
  have h1 : Only [.regs] s (rmpResult 2 s) := only_wrf _ _ _ _ _
  have hv : rdf (rmpResult 2 s) oRmpSts 28 3 = 2 := rdf_wrf_same _ _ _ _ _ (by decide)
  have ht : t = wr (rmpResult 2 s) (causeReg Cause.cdCmd.domain 0) _ := raiseAt_none (c := .cdCmd) rfl 0 (rmpResult 2 s)
  refine ⟨?_, hc, rfl, ?_⟩
  · rw [ht]
    exact (rdf_wr_ne _ _ _ _ (by decide)).trans hv
  · rw [ht]
    exact h1.trans (only_wr _ _ _)

theorem remap_commands : ∀ (e : Nat) (s : State), capAnswers s = true → rmpFree s = some e →
    let old := rdf s 0x209020 0 30
    let new := rdf s 0x209024 0 30
    (rmpRefused s old new = false →
      (s.dev.running = true → isSafe s = false →
        ∃ t, exec .copy s = .next t ∧ rd t (oRmp e) = w64 (2 ^ 62 + 2 ^ 32 * new + old) ∧
          bitOf (rd t 0x20902C) 31 = true ∧ rdf t 0x20902C 0 5 = 0 ∧ rdf t 0x20902C 5 10 = e ∧
          rdf t 0x20902C 28 3 = 0 ∧ Acked s t ∧ Only [.cap, .regs] s t ∧
          RegsOnly (fun o => o = oRmp e ∨ o = 0x20902C) s t) ∧
      (s.dev.running = false →
        ∃ t, exec .load s = .next t ∧ rd t (oRmp e) = w64 (2 ^ 63 + 2 ^ 32 * new + old) ∧ rdf t 0x20902C 28 3 = 1 ∧
          Acked s t ∧ Only [.cap, .regs] s t ∧ RegsOnly (fun o => o = oRmp e ∨ o = 0x20902C) s t)) ∧
    ((rmpRefused s old new = true ∨ s.dev.running = false ∨ isSafe s = true) →
      ∃ t, exec .copy s = .next t ∧ rdf t 0x20902C 28 3 = 2 ∧ Caused t .cdCmd 0 ∧ Acked s t ∧ Only [.cap, .regs] s t) ∧
    ((rmpRefused s old new = true ∨ s.dev.running = true) →
      ∃ t, exec .load s = .next t ∧ rdf t 0x20902C 28 3 = 2 ∧ Caused t .cdCmd 0 ∧ Acked s t ∧ Only [.cap, .regs] s t) := by
  intro e s hc hfree old new
  have he := rmpFree_lt hfree
  have hA : Only [.cap] s (answered false 0 s) := by simp [only_iff, answered]
  have hregsA : RegsOnly (fun o => o = oRmp e ∨ o = 0x20902C) s (answered false 0 s) := regsOnly_of_regs rfl
  have hack : Acked s (answered false 0 s) := rfl
  have hfreeA : rmpFree (answered false 0 s) = some e := by
    rw [rmpFree_congr (t := answered false 0 s) (s := s) rfl]
    exact hfree
  have htake := fun b => rmpTake_some hfreeA b old new
  have hcopy : opCopy (answered false 0 s) = if rmpRefused s old new || !s.dev.running || isSafe s then cdRefuse 0 (rmpResult 2 (answered false 0 s))
      else wrf (rmpResult 0 (rmpTaken 62 e old new (answered false 0 s))) oRmpSts 31 1 1 := by
    unfold opCopy
    rw [show rdf (answered false 0 s) 0x209020 0 30 = old from rfl, show rdf (answered false 0 s) 0x209024 0 30 = new from rfl]
    dsimp only
    rw [htake]
    rfl
  have hload : opLoad (answered false 0 s) = if rmpRefused s old new || s.dev.running then cdRefuse 0 (rmpResult 2 (answered false 0 s))
      else rmpResult 1 (rmpTaken 63 e old new (answered false 0 s)) := by
    unfold opLoad
    rw [show rdf (answered false 0 s) 0x209020 0 30 = old from rfl, show rdf (answered false 0 s) 0x209024 0 30 = new from rfl]
    dsimp only
    rw [htake]
    rfl
  have hbad := rmpRefused_frame (answered false 0 s)
  have h62 := rmpTaken_frame (s := answered false 0 s) he 62 old new 0
  have h63 := rmpTaken_frame (s := answered false 0 s) he 63 old new 1
  dsimp only at hbad h62 h63
  generalize cdRefuse 0 (rmpResult 2 (answered false 0 s)) = bad at hcopy hload hbad
  generalize rmpResult 0 (rmpTaken 62 e old new (answered false 0 s)) = u at hcopy h62
  generalize rmpResult 1 (rmpTaken 63 e old new (answered false 0 s)) = v at hload h63
  obtain ⟨b1, b2, b3, b4⟩ := hbad
  obtain ⟨u1, u2, u3, u4, u5, u6, u7⟩ := h62
  obtain ⟨v1, -, -, v4, v5, v6, v7⟩ := h63
  have hrefused : ∀ {c : Instr} {f : State → State}, exec c s = .next (capCmd f s) → f (answered false 0 s) = bad →
      ∃ t, exec c s = .next t ∧ rdf t 0x20902C 28 3 = 2 ∧ Caused t .cdCmd 0 ∧ Acked s t ∧ Only [.cap, .regs] s t := fun hx hf => by
    have hO : Only [.cap, .regs] s bad := (hA.mono (by simp)).trans (b4.mono (by simp))
    exact ⟨bad, hx.trans (congrArg Host.Outcome.next (capCmd_eq hc hf hO.pending hO.aon)), b1, b2, b3.trans hack, hO⟩
  refine ⟨fun hno => ⟨fun hrun hsafe => ?_, fun hrun => ?_⟩, fun hyes => ?_, fun hyes => ?_⟩
  · rw [if_neg (by simp [hno, hrun, hsafe])] at hcopy
    have h1 := only_wrf u oRmpSts 31 1 1
    have hr1 : RegsOnly (fun o => o = oRmp e ∨ o = 0x20902C) u (wrf u oRmpSts 31 1 1) := regsOnly_wrf _ _ _ _ (.inr rfl)
    have hv : rd (wrf u oRmpSts 31 1 1) oRmpSts = setFld (rd u oRmpSts) 31 1 1 := rd_wrf_same _ _ _ _ _
    have he' : rd (wrf u oRmpSts 31 1 1) (oRmp e) = rd u (oRmp e) := rd_wrf_ne _ _ _ _ (oRmp_ne e).1
    have hc' : (wrf u oRmpSts 31 1 1).cap = u.cap := rfl
    have hfld : ∀ lo w, lo + w ≤ 31 → rdf (wrf u oRmpSts 31 1 1) oRmpSts lo w = rdf u oRmpSts lo w := fun lo w h => by
      rw [rdf, hv, fld_setFld_ne _ _ _ _ _ _ (.inl h) (by omega), rdf]
    generalize wrf u oRmpSts 31 1 1 = t at hcopy h1 hr1 hv he' hc' hfld
    have hO : Only [.cap, .regs] s t := (hA.mono (by simp)).trans ((u6.mono (by simp)).trans (h1.mono (by simp)))
    refine ⟨t, congrArg Host.Outcome.next (capCmd_eq hc hcopy hO.pending hO.aon), he'.trans u1, ?_, (hfld 0 5 (by decide)).trans u2,
      (hfld 5 10 (by decide)).trans u3, (hfld 28 3 (by decide)).trans u4, hc'.trans (u5.trans hack), hO, hregsA.trans (u7.trans hr1)⟩
    show bitOf (rd t oRmpSts) 31 = true
    rw [hv, bitOf_setFld_one _ _ _ (by decide)]
    rfl
  · rw [if_neg (by simp [hno, hrun])] at hload
    have hO : Only [.cap, .regs] s v := (hA.mono (by simp)).trans (v6.mono (by simp))
    exact ⟨v, congrArg Host.Outcome.next (capCmd_eq hc hload hO.pending hO.aon), v1, v4, v5.trans hack, hO, hregsA.trans v7⟩
  · exact hrefused rfl (hcopy.trans (if_pos (by simpa [or_assoc] using hyes)))
  · exact hrefused rfl (hload.trans (if_pos (by simpa using hyes)))

/-! ### A sector of a page is copied (R272, R273) -/

theorem lineBlank_congr {s t : State} (hw : t.mem.written = s.mem.written) (hf : t.mem.fills = s.mem.fills) (line : Nat) :
    lineBlank t line = lineBlank s line := by
  unfold lineBlank fillOf
  rw [regionBlank_congr hw, hf]

theorem chanState_congr' {s t : State} (h : t.regs = s.regs) (m : Nat) : chanState t m = chanState s m := rdf_congr h _ _ _

/-- A line that reads BLANK copies nothing. -/
theorem copyLine_blank {line phys : Nat} {s : State} (h : lineBlank s line = true) (errs : List SymErr) : copyLine line phys errs s = s :=
  if_pos h

theorem byteAt_burst (s : State) (a i : Nat) (hi : i < 64) : byteAt (burstData s a) i = memGet s.mem.dram (a + i) := by
  have hl := length_memRead s.mem.dram a 64
  rw [burstData, byteAt_lineOf hl (by rw [hl]; exact hi)]
  simp [memRead]

/-- A line that holds data reaches its new place with its LDW. -/
theorem copyLine_data {line phys m co m2 co2 : Nat} {s : State} (hn : NoCounter s) (hb : lineBlank s line = false)
    (hp : pwbFind s line = none) (hc : lineChan s line = some (m, co)) (hm : mapAddr s (phys * 64) = some (m2, co2))
    (hs : chanState s m = 1) (hs2 : chanState s m2 = 1) (he : sGet [] s.mem.burstErr ((m * 2 ^ 39 + co) / 64) = [])
    (hl : ldwInvalid (sGet 0 s.mem.ldws ((m * 2 ^ 39 + co) / 64)) = false) : let t := copyLine line phys [] s
    LineStored (m2 * 2 ^ 39 + co2) (burstData s (m * 2 ^ 39 + co)) (sGet 0 s.mem.ldws ((m * 2 ^ 39 + co) / 64)) s t ∧
    MemOnly [.dram, .ldws, .burstErr, .chans] s t ∧ Only [.mem, .meter] s t := by
  intro t
  have ht : t = copyLine line phys [] s := rfl
  have hd : isDark s line = false := by
    rw [isDark, hc]
    exact decide_eq_false (by rw [hs]; decide)
  have h1 := only_dramAccessed hn m co line false
  obtain ⟨-, -, hm1⟩ := dramAccessed_frame m co line false s
  unfold copyLine memReadLine at ht
  rw [if_neg (by rw [hb]; decide), memReadAt_sound hd hb (pwbBefore_none hp _) hc he hl] at ht
  dsimp only at ht
  generalize dramAccessed m co line false s = u at h1 hm1 ht
  rw [mapAddr_congr h1.regs, hm] at ht
  dsimp only at ht
  rw [if_neg (by rw [chanState_congr' h1.regs, hs2]; decide), show (soundRead s (m * 2 ^ 39 + co)).uncor = false from rfl,
    if_neg Bool.false_ne_true, if_neg Bool.false_ne_true] at ht
  have hnu := noCounter_of hn h1
  have h2 := only_count hnu 0x19 ⟨trayOf u line, none, some m2⟩ 1
  generalize coordOf u m2 co2 = cd at ht
  generalize count 0x19 ⟨trayOf u line, none, some m2⟩ 1 u = v at h2 ht
  have h3 := only_rowAccess (noCounter_of hnu h2) m2 cd false true
  obtain ⟨-, -, hm3⟩ := rowAccess_frame m2 cd false true v
  generalize rowAccess m2 cd false true v = w at h3 hm3 ht
  have h4 := lineStored_writeBurst (m2 * 2 ^ 39 + co2) (soundRead s (m * 2 ^ 39 + co)).data (soundRead s (m * 2 ^ 39 + co)).ldw w
  obtain ⟨h4O, hm4⟩ := writeBurst_frame (m2 * 2 ^ 39 + co2) (soundRead s (m * 2 ^ 39 + co)).data (soundRead s (m * 2 ^ 39 + co)).ldw w
  rw [← ht] at h4 h4O hm4
  have hM : MemOnly [.chans] s w := hm1.trans ((memOnly_of_only _ h2).trans hm3)
  exact ⟨h4.congr hM.dram rfl rfl rfl, (hM.mono (by simp)).trans (hm4.mono (by simp)),
    (h1.mono (by simp)).trans ((h2.mono (by simp)).trans ((h3.mono (by simp)).trans (h4O.mono (by simp))))⟩

theorem foldl_first {f : State → Nat → State} {s : State} (h : ∀ i, 1 ≤ i → i < 4 → f (f s 0) i = f s 0) :
    (List.range 4).foldl f s = f s 0 := by
  show f (f (f (f s 0) 1) 2) 3 = f s 0
  rw [h 1 (by decide) (by decide), h 2 (by decide) (by decide), h 3 (by decide) (by decide)]

/-- What a copy's progress leaves in CD_RMP_STS. -/
theorem copyStep_frame {e k : Nat} {s : State} (hk : k < 16) (hbusy : bitOf (rd s oRmpSts) 31 = true) :
    let t := (if k + 1 = 16 then copyEnd e (wrf s oRmpSts 0 5 (k + 1)) else wrf s oRmpSts 0 5 (k + 1))
    (k < 15 → rdf t oRmpSts 0 5 = k + 1 ∧ bitOf (rd t oRmpSts) 31 = true ∧ rd t (oRmp e) = rd s (oRmp e)) ∧
    (k = 15 → bitOf (rd t oRmpSts) 31 = false ∧ rdf t oRmpSts 28 3 = 1 ∧ bitOf (rd t (oRmp e)) 63 = true ∧
      bitOf (rd t (oRmp e)) 62 = false ∧ Caused t .rmpDone 0) ∧ Only [.regs] s t := by
  have hne := (oRmp_ne e).1
  intro t
  by_cases h15 : k = 15
  · have ht : t = copyEnd e (wrf s oRmpSts 0 5 (k + 1)) := if_pos (by omega)
    have h1 := only_wrf s oRmpSts 0 5 (k + 1)
    generalize wrf s oRmpSts 0 5 (k + 1) = u at h1 ht
    unfold copyEnd at ht
    dsimp only at ht
    generalize rd u (oRmp e) = v at ht
    have h2 := only_wr u (oRmp e) (setBit (setBit v 62 false) 63 true)
    have hv2 := rd_wr_same u (oRmp e) (setBit (setBit v 62 false) 63 true)
    generalize wr u (oRmp e) (setBit (setBit v 62 false) 63 true) = w at h2 hv2 ht
    have h3 : Only [.regs] w (rmpResult 1 (wrf w oRmpSts 31 1 0)) := (only_wrf _ _ _ _ _).trans (only_wrf _ _ _ _ _)
    have hv3 : rd (rmpResult 1 (wrf w oRmpSts 31 1 0)) (oRmp e) = setBit (setBit v 62 false) 63 true := by
      rw [rmpResult, rd_wrf_ne _ _ _ _ hne, rd_wrf_ne _ _ _ _ hne, hv2]
    have hr3 : rdf (rmpResult 1 (wrf w oRmpSts 31 1 0)) oRmpSts 28 3 = 1 := rdf_wrf_same _ _ _ _ _ (by decide)
    have hb3 : bitOf (rd (rmpResult 1 (wrf w oRmpSts 31 1 0)) oRmpSts) 31 = false := by
      rw [rmpResult, rd_wrf_same, rd_wrf_same, bitOf_setFld_ne _ _ _ _ _ (by decide), bitOf_setFld_one _ _ _ (by decide)]
      rfl
    generalize rmpResult 1 (wrf w oRmpSts 31 1 0) = x at h3 hv3 hr3 hb3 ht
    have hraise : t = wr x (causeReg Cause.rmpDone.domain 0) _ := ht.trans (raiseAt_none (c := .rmpDone) rfl 0 x)
    have hc : Caused t .rmpDone 0 := ht ▸ caused_raise .rmpDone (by decide) PsRec.none x
    have h4 : Only [.regs] x t := hraise ▸ only_wr _ _ _
    have hcr := (causeReg_range (c := .rmpDone) (u := 0) (by decide)).2
    have hkeep : ∀ o, 0x200000 ≤ o → rd t o = rd x o := fun o ho => by
      rw [hraise]
      exact rd_wr_ne _ _ (by omega)
    have hE := hkeep (oRmp e) (by unfold oRmp; omega)
    have hS := hkeep oRmpSts (by decide)
    refine ⟨fun h => absurd h15 (by omega), fun _ => ⟨by rw [hS, hb3], by rw [rdf, hS]; exact hr3, ?_, ?_, hc⟩,
      h1.trans (h2.trans (h3.trans h4))⟩
    · rw [hE, hv3, setBit, bitOf_setFld_one _ _ _ (by decide)]
      rfl
    · rw [hE, hv3, setBit, bitOf_setFld_ne _ _ _ _ _ (by decide), setBit, bitOf_setFld_one _ _ _ (by decide)]
      rfl
  · have ht : t = wrf s oRmpSts 0 5 (k + 1) := if_neg (by omega)
    rw [ht]
    refine ⟨fun _ => ⟨?_, ?_, rd_wrf_ne _ _ _ _ hne⟩, fun h => absurd h h15, only_wrf _ _ _ _ _⟩
    · rw [rdf_wrf_same _ _ _ _ _ (by decide), Nat.mod_eq_of_lt (by omega)]
    · rw [rd_wrf_same, bitOf_setFld_ne _ _ _ _ _ (by decide), hbusy]

theorem copyReady_notBuffered {s : State} {old new k : Nat} (h : copyReady s old new k = true) : pwbFind s (old * 64 + 4 * k) = none := by
  unfold copyReady at h
  rw [Bool.and_eq_true, List.all_eq_true] at h
  have h0 := h.2 0 (by simp)
  dsimp only at h0
  simp only [Bool.and_eq_true, Nat.add_zero, Bool.not_eq_true'] at h0
  obtain ⟨⟨⟨⟨-, hp⟩, -⟩, -⟩, -⟩ := h0
  rw [List.any_eq_false] at hp
  unfold pwbFind
  rw [List.getLast?_eq_none_iff, List.filter_eq_nil_iff]
  exact hp

theorem sector_copied : ∀ (m co m2 co2 : Nat) (s : State), InRun s →
    let e := rdf s 0x20902C 5 10
    let old := rdf s (oRmp e) 0 30
    let new := rdf s (oRmp e) 32 30
    let k := rdf s 0x20902C 0 5
    let l := old * 64 + 4 * k
    bitOf (rd s 0x20902C) 31 = true → k < 16 → copyReady s old new k = true →
    (∀ i, 1 ≤ i → i < 4 → lineBlank s (l + i) = true) → lineBlank s l = false → lineChan s l = some (m, co) →
    mapAddr s ((new * 64 + 4 * k) * 64) = some (m2, co2) → chanState s m = 1 → chanState s m2 = 1 →
    let a := m * 2 ^ 39 + co
    let b := m2 * 2 ^ 39 + co2
    let w := sGet 0 s.mem.ldws (a / 64)
    sGet [] s.mem.burstErr (a / 64) = [] → ldwInvalid w = false →
    ∃ t, exec (.remapCopySector []) s = .next t ∧
      (∀ i, i < 64 → memGet t.mem.dram (b + i) = memGet s.mem.dram (a + i)) ∧
      (∀ x, (x < b ∨ b + 64 ≤ x) → memGet t.mem.dram x = memGet s.mem.dram x) ∧
      sGet 0 t.mem.ldws (b / 64) = w ∧
      (k < 15 → rdf t 0x20902C 0 5 = k + 1 ∧ bitOf (rd t 0x20902C) 31 = true ∧ rd t (oRmp e) = rd s (oRmp e)) ∧
      (k = 15 → bitOf (rd t 0x20902C) 31 = false ∧ rdf t 0x20902C 28 3 = 1 ∧ bitOf (rd t (oRmp e)) 63 = true ∧
        bitOf (rd t (oRmp e)) 62 = false ∧ Caused t .rmpDone 0) ∧
      Only [.regs, .mem, .meter] s t := by
  intro m co m2 co2 s h e old new k l hbusy hk hready hblank hdata hc hm hs hs2 a b w he hl
  have hpwb := copyReady_notBuffered hready
  obtain ⟨g1, g2, g3⟩ := copyLine_data (phys := new * 64 + 4 * k) h.noCounter hdata hpwb hc hm hs hs2 he hl
  have hop : opCopySector [] s = (fun u => if k + 1 = 16 then copyEnd e (wrf u oRmpSts 0 5 (k + 1)) else wrf u oRmpSts 0 5 (k + 1))
      ((List.range 4).foldl (fun s i => copyLine (l + i) (new * 64 + 4 * k + i) [] s) s) := by
    unfold opCopySector
    dsimp only
    rw [show rd s oRmpSts = rd s 0x20902C from rfl, hbusy, show copyReady s (fld (rd s (oRmp (rdf s oRmpSts 5 10))) 0 30)
      (fld (rd s (oRmp (rdf s oRmpSts 5 10))) 32 30) (rdf s oRmpSts 0 5) = copyReady s old new k from rfl, hready]
    rfl
  have hfold : (List.range 4).foldl (fun s i => copyLine (l + i) (new * 64 + 4 * k + i) [] s) s = copyLine l (new * 64 + 4 * k) [] s := by
    refine foldl_first fun i h1 h4 => copyLine_blank ?_ []
    show lineBlank (copyLine l (new * 64 + 4 * k) [] s) (l + i) = true
    rw [lineBlank_congr g2.written g2.fills]
    exact hblank i h1 h4
  rw [hfold] at hop
  generalize copyLine l (new * 64 + 4 * k) [] s = u at g1 g2 g3 hop
  obtain ⟨f1, f2, f3⟩ := copyStep_frame (s := u) (e := e) hk (by rw [rd_congr g3.regs]; exact hbusy)
  dsimp only at hop f1 f2 f3
  generalize (if k + 1 = 16 then copyEnd e (wrf u oRmpSts 0 5 (k + 1)) else wrf u oRmpSts 0 5 (k + 1)) = t at hop f1 f2 f3
  have hO : Only [.regs, .mem, .meter] s t := (g3.mono (by simp)).trans (f3.mono (by simp))
  refine ⟨t, exec_live (ok := true) rfl h.1 hop hO.pending hO.aon, fun i hi => ?_, fun x hx => ?_, ?_, fun hk15 => ?_, f2, hO⟩
  · rw [f3.mem, g1.bytes i hi, byteAt_burst _ _ _ hi]
  · rw [f3.mem, g1.other x hx]
  · rw [f3.mem, g1.ldw]
  · obtain ⟨q1, q2, q3⟩ := f1 hk15
    exact ⟨q1, q2, q3.trans (rd_congr g3.regs _)⟩

/-- Settles O50, by the command. -/
theorem scrubAndRemap : Obligations.ScrubAndRemap := ⟨patrol_visits, rewrite_line, remap_commands, sector_copied⟩

end Sys2Proof.Machine
end

section
/-! PROOFS. A link's fields in PT_STATUS, and what a link that leaves service loses (R96, R219, R297 to R299). -/

namespace Sys2Proof.Machine

/-! ### Fields of PT_STATUS -/

/-- A field of a register stays where a field apart from it is written. -/
theorem rdf_wrf_apart (s : State) (o : Nat) {lo w lo2 w2 : Nat} (x : Nat) (h : lo2 + w2 ≤ lo ∨ lo + w ≤ lo2) (h2 : lo2 + w2 ≤ 64) :
    rdf (wrf s o lo w x) o lo2 w2 = rdf s o lo2 w2 := by
  rw [rdf, rd_wrf_same, fld_setFld_ne _ _ _ _ _ _ h h2, rdf]

theorem oPtStatus_inj {m n : Nat} (h : m ≠ n) : oPtStatus m ≠ oPtStatus n := by
  unfold oPtStatus portBase
  omega

/-- A field of a port's status stays where a field apart from it, or one of another port, is written. -/
theorem status_keep {m n lo w lo2 w2 : Nat} (s : State) (x : Nat) (h : m = n → lo2 + w2 ≤ lo ∨ lo + w ≤ lo2) (h2 : lo2 + w2 ≤ 64) :
    rdf (wrf s (oPtStatus n) lo w x) (oPtStatus m) lo2 w2 = rdf s (oPtStatus m) lo2 w2 := by
  by_cases hmn : m = n
  · subst hmn
    exact rdf_wrf_apart s _ x (h rfl) h2
  · exact rdf_wrf_ne _ _ _ _ _ _ (oPtStatus_inj hmn)

theorem linkState_congr {s t : State} (h : t.regs = s.regs) (a : Nat) : linkState t a = linkState s a := rdf_congr h _ _ _

theorem linkWidth_congr {s t : State} (h : t.regs = s.regs) (a : Nat) : linkWidth t a = linkWidth s a := rdf_congr h _ _ _

theorem linkTrained_congr {s t : State} (h : t.regs = s.regs) (a : Nat) : linkTrained t a = linkTrained s a := by
  unfold linkTrained linkLanes
  rw [rdf_congr h, rd_congr h]

theorem linkState_regs {p : Nat → Prop} {s t : State} {a : Nat} (h : RegsOnly p s t) (hn : ¬ p (oPtStatus (a / 2))) :
    linkState t a = linkState s a := by rw [linkState, rdf, h _ hn, linkState, rdf]

theorem linkWidth_regs {p : Nat → Prop} {s t : State} {a : Nat} (h : RegsOnly p s t) (hn : ¬ p (oPtStatus (a / 2))) :
    linkWidth t a = linkWidth s a := by rw [linkWidth, rdf, h _ hn, linkWidth, rdf]

theorem detached_links {s t : State} {a : Nat} (h : linkOf t a = linkOf s a) : detached t a = detached s a := by
  rw [detached, detached, h]

/-! ### The state of a link -/

theorem setLinkState_frame (a : Nat) {st : Nat} (hst : st < 8) (s : State) : let t := setLinkState a st s
    linkState t a = st ∧ (∀ b, b ≠ a → linkState t b = linkState s b) ∧ (∀ b, linkWidth t b = linkWidth s b) ∧ t.links = s.links ∧
    RegsOnly (· = oPtStatus (a / 2)) s t ∧ Only [.regs] s t := by
  intro t
  refine ⟨?_, fun b hb => ?_, fun b => ?_, rfl, regsOnly_wrf _ _ _ _ rfl, only_wrf _ _ _ _ _⟩
  · exact (rdf_wrf_same _ _ _ _ _ (by omega)).trans (Nat.mod_eq_of_lt hst)
  · exact status_keep s st (fun h => by omega) (by omega)
  · exact status_keep s st (fun h => by omega) (by omega)

theorem setLock_frame (a : Nat) (v : Bool) (s : State) : let t := setLock a v s
    linkOf t a = { linkOf s a with lock := v } ∧ (∀ b, b ≠ a → linkOf t b = linkOf s b) ∧ (∀ b, linkState t b = linkState s b) ∧
    (∀ b, linkWidth t b = linkWidth s b) ∧ RegsOnly (· = oPtStatus (a / 2)) s t ∧ Only [.regs, .links] s t := by
  intro t
  have h1 := only_setLink a (fun l => { l with lock := v }) s
  have hw : t.links = (setLink a (fun l => { l with lock := v }) s).links := rfl
  refine ⟨(linkOf_congr hw a).trans (linkOf_setLink_same a (fun l => { l with lock := v }) s),
    fun b hb => (linkOf_congr hw b).trans (linkOf_setLink_ne hb _ s), fun b => ?_, fun b => ?_, (regsOnly_of_regs h1.regs).trans (regsOnly_wrf _ _ _ _ rfl), (h1.mono (by simp)).trans ((only_wrf _ _ _ _ _).mono (by simp))⟩
  · exact (status_keep _ _ (fun h => by omega) (by omega)).trans (linkState_congr h1.regs b)
  · exact (status_keep _ _ (fun h => by omega) (by omega)).trans (linkWidth_congr h1.regs b)

theorem setWidth_frame (a : Nat) {w : Nat} (hw : w < 8) (s : State) : let t := setWidth a w s
    linkWidth t a = w ∧ (∀ b, b ≠ a → linkWidth t b = linkWidth s b) ∧ (∀ b, linkState t b = linkState s b) ∧ t.links = s.links ∧
    RegsOnly (· = oPtStatus (a / 2)) s t ∧ Only [.regs] s t := by
  intro t
  refine ⟨?_, fun b hb => ?_, fun b => ?_, rfl, regsOnly_wrf _ _ _ _ rfl, only_wrf _ _ _ _ _⟩
  · exact (rdf_wrf_same _ _ _ _ _ (by omega)).trans (Nat.mod_eq_of_lt hw)
  · exact status_keep s w (fun h => by omega) (by omega)
  · exact status_keep s w (fun h => by omega) (by omega)

/-! ### A link without traffic (R219, R299) -/

/-- What a link keeps where its traffic is cleared: its agent's own marks. -/
def clearedLink (l : Link) : Link :=
  { Link.reset with attached := l.attached, vol := l.vol, epoch := l.epoch, adv := l.adv, advCur := l.advCur }

/-- The traffic of a link is cleared. -/
structure Cleared (a : Nat) (s t : State) : Prop where
  link : linkOf t a = clearedLink (linkOf s a)
  others : ∀ b, b ≠ a → linkOf t b = linkOf s b
  states : ∀ b, linkState t b = linkState s b
  width : linkWidth t a = 0
  widths : ∀ b, b ≠ a → linkWidth t b = linkWidth s b
  regs : RegsOnly (· = oPtStatus (a / 2)) s t
  only : Only [.regs, .links, .xbar] s t

theorem clearLink_clears (a : Nat) (s : State) : Cleared a s (clearLink a s) := by
  have h1 : Only [.links, .xbar] s (setLink a clearedLink (withdraw (packetFor a) s)) := by simp [only_iff, withdraw, setLink]
  have hl1 : linkOf (setLink a clearedLink (withdraw (packetFor a) s)) a = clearedLink (linkOf s a) := linkOf_setLink_same a _ _
  have hn1 : ∀ b, b ≠ a → linkOf (setLink a clearedLink (withdraw (packetFor a) s)) b = linkOf s b :=
    fun b hb => linkOf_setLink_ne hb _ _
  have heq : clearLink a s = setWidth a 0 (setLock a false (wrf (setLink a clearedLink (withdraw (packetFor a) s))
      (oPtStatus (a / 2)) (3 + 4 * (a % 2)) 1 0)) := rfl
  rw [heq]
  generalize setLink a clearedLink (withdraw (packetFor a) s) = u at h1 hl1 hn1
  have h2 := only_wrf u (oPtStatus (a / 2)) (3 + 4 * (a % 2)) 1 0
  have hr2 : RegsOnly (· = oPtStatus (a / 2)) u (wrf u (oPtStatus (a / 2)) (3 + 4 * (a % 2)) 1 0) := regsOnly_wrf _ _ _ _ rfl
  have hs2 : ∀ b, linkState (wrf u (oPtStatus (a / 2)) (3 + 4 * (a % 2)) 1 0) b = linkState u b :=
    fun b => status_keep u 0 (fun h => by omega) (by omega)
  have hw2 : ∀ b, linkWidth (wrf u (oPtStatus (a / 2)) (3 + 4 * (a % 2)) 1 0) b = linkWidth u b :=
    fun b => status_keep u 0 (fun h => by omega) (by omega)
  generalize wrf u (oPtStatus (a / 2)) (3 + 4 * (a % 2)) 1 0 = v at h2 hr2 hs2 hw2
  obtain ⟨l3, n3, s3, w3, r3, o3⟩ := setLock_frame a false v
  generalize setLock a false v = w at l3 n3 s3 w3 r3 o3
  obtain ⟨w4, m4, s4, l4, r4, o4⟩ := setWidth_frame a (show 0 < 8 by decide) w
  have hlv : ∀ b, linkOf v b = linkOf u b := linkOf_congr h2.links
  refine ⟨?_, fun b hb => ?_, fun b => ?_, w4, fun b hb => ?_, ?_, ?_⟩
  · rw [linkOf_congr l4, l3, hlv, hl1]
    rfl
  · rw [linkOf_congr l4, n3 b hb, hlv, hn1 b hb]
  · rw [s4, s3, hs2, linkState_congr h1.regs]
  · rw [m4 b hb, w3, hw2, linkWidth_congr h1.regs]
  · exact (regsOnly_of_regs h1.regs).trans (hr2.trans (r3.trans r4))
  · exact (h1.mono (by simp)).trans ((h2.mono (by simp)).trans ((o3.mono (by simp)).trans (o4.mono (by simp))))

/-! ### An agent detaches in an idle block (R91, R93) -/

/-- A link whose agent has been detached. -/
def lostLink (l : Link) : Link :=
  { l with attached := false, vol := false, epoch := l.epoch + 1, adv := l.adv + 1, advCur := l.advCur + 1 }

/-- The sweep that an involuntary detach begins. -/
def lostSweep (a : Nat) : Sweep := { kind := .detach a false none, next := 0, fogged := false, posted := true, raised := false }

/-- An agent is detached in a block that has no transaction in hand. -/
structure Lost (a : Nat) (s t : State) : Prop where
  link : linkOf t a = lostLink (linkOf s a)
  others : ∀ b, b ≠ a → linkOf t b = linkOf s b
  reqs : ∀ p ∈ t.home.reqs, p ∈ s.home.reqs ∧ (p.req.agent = a → ∃ c, p.place = .begun c)
  sweeps : t.sheet.sweeps = s.sheet.sweeps ++ [lostSweep a]
  latent : t.home.latent = s.home.latent
  only : Only [.links, .home, .sheet] s t

theorem detachTxns_none {a : Nat} {tray : Option Nat} {vol : Bool} {s : State} (h : s.dev.ctxs = []) : detachTxns a tray vol s = s := by
  unfold detachTxns
  rw [h, List.foldl_nil]
  dsimp only
  rw [h, List.foldl_nil]
  exact go_nil s

theorem detachAgent_loses {a : Nat} {s : State} (hc : s.dev.ctxs = []) (hl : s.home.latent = []) (hb : s.dev.byRule = false) :
    Lost a s (detachAgent a false none s) := by
  have he : detachAgent a false none s = dropEmptyHandovers (detachTxns a none false
      (startSweep (.detach a false none) (clearResvIf (fun q => decide (q.agent = a)) (dropPends a (setLink a lostLink s))))) := rfl
  rw [he]
  have h1 : Only [.links] s (setLink a lostLink s) := only_setLink _ _ _
  have hl1 : linkOf (setLink a lostLink s) a = lostLink (linkOf s a) := linkOf_setLink_same a _ s
  have hn1 : ∀ b, b ≠ a → linkOf (setLink a lostLink s) b = linkOf s b := fun b hb => linkOf_setLink_ne hb _ s
  generalize setLink a lostLink s = u at h1 hl1 hn1
  have h2 : Only [.home] u (dropPends a u) := only_updHome _ _
  have hq2 : ∀ p ∈ (dropPends a u).home.reqs, p ∈ u.home.reqs ∧ (p.req.agent = a → ∃ c, p.place = .begun c) := by
    intro p hp
    obtain ⟨hp1, hp2⟩ := List.mem_filter.1 hp
    refine ⟨hp1, fun ha => ?_⟩
    rw [ha] at hp2
    cases hpl : p.place with
    | begun c => exact ⟨c, rfl⟩
    | _ => rw [hpl] at hp2; simp at hp2
  have hl2 : (dropPends a u).home.latent = u.home.latent := rfl
  generalize dropPends a u = v at h2 hq2 hl2
  have h3 : Only [.home] v (clearResvIf (fun q => decide (q.agent = a)) v) := by simp [only_iff, clearResvIf]
  have hq3 : (clearResvIf (fun q => decide (q.agent = a)) v).home.reqs = v.home.reqs := rfl
  have hl3 : (clearResvIf (fun q => decide (q.agent = a)) v).home.latent = v.home.latent := rfl
  generalize clearResvIf (fun q => decide (q.agent = a)) v = w at h3 hq3 hl3
  have hdev : w.dev = s.dev := h3.dev.trans (h2.dev.trans h1.dev)
  have hpost : postDetach { lostSweep a with posted := false } w = (true, w) := by
    unfold postDetach
    dsimp only [lostSweep, SweepKind.detachEx]
    rw [hdev, hb]
    rfl
  have hsweep : startSweep (.detach a false none) w = updSheet (fun x => { x with sweeps := x.sweeps ++ [lostSweep a] }) w := by
    unfold startSweep
    dsimp only
    rw [show ({ kind := .detach a false none, next := 0, fogged := false, posted := false, raised := false } : Sweep) =
      { lostSweep a with posted := false } from rfl, hpost]
    rfl
  rw [hsweep]
  have h4 := only_updSheet (fun x => { x with sweeps := x.sweeps ++ [lostSweep a] }) w
  have hs4 : (updSheet (fun x => { x with sweeps := x.sweeps ++ [lostSweep a] }) w).sheet.sweeps = w.sheet.sweeps ++ [lostSweep a] := rfl
  generalize updSheet (fun x => { x with sweeps := x.sweeps ++ [lostSweep a] }) w = q at h4 hs4
  have hlat : q.home.latent = s.home.latent := by rw [h4.home, hl3, hl2, h1.home]
  rw [detachTxns_none (by rw [h4.dev, hdev, hc]), dropEmptyHandovers_none (hlat.trans hl)]
  have hlk : q.links = u.links := h4.links.trans (h3.links.trans h2.links)
  refine ⟨(linkOf_congr hlk a).trans hl1, fun b hb => (linkOf_congr hlk b).trans (hn1 b hb), fun p hp => ?_, ?_, hlat, ?_⟩
  · rw [h4.home, hq3] at hp
    rw [← h1.home]
    exact hq2 p hp
  · rw [hs4, h3.sheet, h2.sheet, h1.sheet]
  · exact (h1.mono (by simp)).trans ((h2.mono (by simp)).trans ((h3.mono (by simp)).trans (h4.mono (by simp))))

/-! ### A link leaves service (R299) -/

/-- What else holds as a link leaves service: other links, what is in hand, and the frame. -/
structure LeftService (a st : Nat) (s t : State) : Prop where
  left : LinkLeft s t a st
  others : ∀ b, b ≠ a → linkOf t b = linkOf s b
  states : ∀ b, b ≠ a → linkState t b = linkState s b
  widths : ∀ b, b ≠ a → linkWidth t b = linkWidth s b
  reqs : ∀ p ∈ t.home.reqs, p ∈ s.home.reqs
  sweeps : ∀ w ∈ s.sheet.sweeps, w ∈ t.sheet.sweeps
  latent : t.home.latent = s.home.latent
  regs : RegsOnly (· = oPtStatus (a / 2)) s t
  only : Only [.regs, .links, .home, .sheet, .xbar] s t

theorem leaveService_left {a st : Nat} {s : State} (hst : st < 8) (hc : s.dev.ctxs = []) (hl : s.home.latent = [])
    (hb : s.dev.byRule = false) : LeftService a st s (leaveService a st s) := by
  unfold leaveService
  obtain ⟨s1, n1, w1, l1, r1, o1⟩ := setLinkState_frame a hst s
  generalize setLinkState a st s = u at s1 n1 w1 l1 r1 o1
  have h2 := clearLink_clears a u
  generalize clearLink a u = v at h2
  have hO : Only [.regs, .links, .home, .sheet, .xbar] s v := (o1.mono (by simp)).trans (h2.only.mono (by simp))
  have hlink : linkOf v a = clearedLink (linkOf s a) := h2.link.trans (by rw [linkOf_congr l1])
  have hother : ∀ b, b ≠ a → linkOf v b = linkOf s b := fun b hb => (h2.others b hb).trans (linkOf_congr l1 b)
  have hstate : linkState v a = st := (h2.states a).trans s1
  have hstates : ∀ b, b ≠ a → linkState v b = linkState s b := fun b hb => (h2.states b).trans (n1 b hb)
  have hwidths : ∀ b, b ≠ a → linkWidth v b = linkWidth s b := fun b hb => (h2.widths b hb).trans (w1 b)
  have hdet : detached v a = detached s a := by rw [detached, hlink, detached]; rfl
  have hhome : v.home = s.home := h2.only.home.trans o1.home
  have hsheet : v.sheet = s.sheet := h2.only.sheet.trans o1.sheet
  have hregs : RegsOnly (· = oPtStatus (a / 2)) s v := r1.trans h2.regs
  unfold detachIfAttached
  rw [hdet]
  cases hd : detached s a with
  | true =>
    rw [if_pos rfl]
    have hleft : LinkLeft s v a st := ⟨hstate, hdet.trans hd, h2.width, by rw [hlink]; rfl, by rw [hlink]; rfl, by rw [hlink]; rfl,
      by rw [hlink]; rfl, by rw [hlink]; rfl, fun _ => by rw [hlink]; rfl, fun h => by rw [hd] at h; cases h⟩
    exact ⟨hleft, hother, hstates, hwidths, fun p hp => by rw [hhome] at hp; exact hp, fun w hw => by rw [hsheet]; exact hw,
      by rw [hhome], hregs, hO⟩
  | false =>
    rw [if_neg Bool.false_ne_true]
    have h3 := detachAgent_loses (a := a) (s := v) (by rw [h2.only.dev, o1.dev, hc]) (by rw [hhome, hl]) (by rw [h2.only.dev, o1.dev, hb])
    generalize detachAgent a false none v = t at h3
    have hlt : linkOf t a = lostLink (clearedLink (linkOf s a)) := h3.link.trans (by rw [hlink])
    have hrt := h3.only.regs
    have hleft : LinkLeft s t a st := by
      refine ⟨(linkState_congr hrt a).trans hstate, by rw [detached, hlt]; rfl, (linkWidth_congr hrt a).trans h2.width, by rw [hlt]; rfl,
        by rw [hlt]; rfl, by rw [hlt]; rfl, by rw [hlt]; rfl, by rw [hlt]; rfl, fun h => absurd (hd.symm.trans h) Bool.false_ne_true, fun _ => ⟨by rw [hlt]; rfl,
        fun p hp ha => (h3.reqs p hp).2 ha, lostSweep a, ?_, rfl, rfl⟩⟩
      rw [h3.sweeps]
      exact List.mem_append_right _ (List.mem_singleton.2 rfl)
    refine ⟨hleft, fun b hb => (h3.others b hb).trans (hother b hb), fun b hb => (linkState_congr hrt b).trans (hstates b hb),
      fun b hb => (linkWidth_congr hrt b).trans (hwidths b hb), fun p hp => ?_, fun w hw => ?_, by rw [h3.latent, hhome],
      hregs.trans (regsOnly_of_regs hrt), hO.trans (h3.only.mono (by simp))⟩
    · rw [← hhome]
      exact (h3.reqs p hp).1
    · rw [h3.sweeps, hsheet]
      exact List.mem_append_left _ hw

end Sys2Proof.Machine
end

section
/-! PROOFS. Flits sent, replays, and the requests for them (R282, R288, R289, R296). -/

namespace Sys2Proof.Machine

/-! ### One flit -/

/-- A link but for what sending a flit moves: its position, what waits for one, its scramblers and lanes, and the credits granted. -/
def Link.still (l : Link) : Link := { l with pos := 0, jobs := [], scr := [], wire := [], cumReq := 0, cumWbk := 0 }

/-- Flits have been sent on a link: `fl` goes out. -/
structure FlitsOut (a : Nat) (fl : List TxMsg) (s t : State) : Prop where
  still : (linkOf t a).still = (linkOf s a).still
  others : ∀ b, b ≠ a → linkOf t b = linkOf s b
  tx : t.tx = s.tx ++ fl
  flits : ∀ m ∈ fl, ∃ b, m = .flit a b
  only : Only [.links, .tx] s t

theorem FlitsOut.refl (a : Nat) (s : State) : FlitsOut a [] s s :=
  ⟨rfl, fun _ _ => rfl, (List.append_nil _).symm, fun _ h => absurd h List.not_mem_nil, Only.refl _ s⟩

theorem FlitsOut.trans {a : Nat} {fl fm : List TxMsg} {s t u : State} (h : FlitsOut a fl s t) (g : FlitsOut a fm t u) :
    FlitsOut a (fl ++ fm) s u := by
  refine ⟨g.still.trans h.still, fun b hb => (g.others b hb).trans (h.others b hb), by rw [g.tx, h.tx, List.append_assoc], fun m hm => ?_,
    h.only.trans g.only⟩
  rcases List.mem_append.1 hm with hm | hm
  · exact h.flits m hm
  · exact g.flits m hm

/-- A change of the link that leaves what sending does not move. -/
theorem flitsOut_setLink {a : Nat} {f : Link → Link} {s : State} (h : (f (linkOf s a)).still = (linkOf s a).still) :
    FlitsOut a [] s (setLink a f s) :=
  ⟨by rw [linkOf_setLink_same]; exact h, fun _ hb => linkOf_setLink_ne hb f s, (List.append_nil _).symm,
    fun _ h => absurd h List.not_mem_nil, (only_setLink a f s).mono (by simp)⟩

section
variable {l k : Link} (h : l.still = k.still)
include h

theorem Link.still_txSeq : l.txSeq = k.txSeq := (congrArg Link.txSeq h :)
theorem Link.still_rxAck : l.rxAck = k.rxAck := (congrArg Link.rxAck h :)
theorem Link.still_rxSeq : l.rxSeq = k.rxSeq := (congrArg Link.rxSeq h :)
theorem Link.still_replayBuf : l.replayBuf = k.replayBuf := (congrArg Link.replayBuf h :)
theorem Link.still_want : l.want = k.want := (congrArg Link.want h :)
theorem Link.still_tries : l.tries = k.tries := (congrArg Link.tries h :)
theorem Link.still_lock : l.lock = k.lock := (congrArg Link.lock h :)
theorem Link.still_crcRun : l.crcRun = k.crcRun := (congrArg Link.crcRun h :)
theorem Link.still_misses : l.misses = k.misses := (congrArg Link.misses h :)
theorem Link.still_slots : l.slots = k.slots := (congrArg Link.slots h :)
theorem Link.still_attached : l.attached = k.attached := (congrArg Link.attached h :)
theorem Link.still_epoch : l.epoch = k.epoch := (congrArg Link.epoch h :)

end

/-- A position sent: the flit takes SEQ and ACK from the link, and some credits. -/
theorem sendUnit_sends (a : Nat) (bytes : BitVec 12 → BitVec 12 → Nat → Nat → List Byte) (s : State) : let t := sendUnit a bytes s
    ∃ ccl cnt, FlitsOut a [.flit a (bytes (linkOf s a).txSeq (linkOf s a).rxAck ccl cnt)] s t ∧ (linkOf t a).pos = (linkOf s a).pos + 1 ∧
      (linkOf t a).jobs = (linkOf s a).jobs := by
  unfold sendUnit
  dsimp only
  generalize (if min (creditCap s (linkOf s a).pos) (reqCredits s a) ≠ 0 then 1 else
    if (if min (creditCap s (linkOf s a).pos) (reqCredits s a) = 0 then min 15 (wbkCredits s a) else 0) ≠ 0 then 3 else 0) = ccl
  generalize (if min (creditCap s (linkOf s a).pos) (reqCredits s a) = 0 then min 15 (wbkCredits s a) else 0) = wk
  generalize min (creditCap s (linkOf s a).pos) (reqCredits s a) = rq
  generalize bytes (linkOf s a).txSeq (linkOf s a).rxAck = B
  refine ⟨ccl, rq + wk, ?_⟩
  have h1 : FlitsOut a [] s (onLanes a false (B ccl (rq + wk)) s) := flitsOut_setLink rfl
  have hp1 : (linkOf (onLanes a false (B ccl (rq + wk)) s) a).pos = (linkOf s a).pos ∧
      (linkOf (onLanes a false (B ccl (rq + wk)) s) a).jobs = (linkOf s a).jobs := by
    unfold onLanes
    dsimp only
    rw [linkOf_setLink_same]
    exact ⟨rfl, rfl⟩
  generalize onLanes a false (B ccl (rq + wk)) s = u at h1 hp1
  have h2 : FlitsOut a [.flit a (B ccl (rq + wk))] u (emit (.flit a (B ccl (rq + wk))) u) :=
    ⟨rfl, fun _ _ => rfl, rfl, fun m hm => ⟨_, List.mem_singleton.1 hm⟩, by simp [only_iff]⟩
  have hp2 : linkOf (emit (.flit a (B ccl (rq + wk))) u) a = linkOf u a := rfl
  generalize emit (.flit a (B ccl (rq + wk))) u = v at h2 hp2
  have h3 : FlitsOut a [] v (setLink a (fun x => { x with cumReq := (x.cumReq + rq) % 2 ^ 16, cumWbk := (x.cumWbk + wk) % 2 ^ 16, pos := x.pos + 1 }) v) :=
    flitsOut_setLink rfl
  refine ⟨(h1.trans h2).trans h3, ?_, ?_⟩
  · rw [linkOf_setLink_same, hp2]
    exact congrArg (· + 1) hp1.1
  · rw [linkOf_setLink_same, hp2]
    exact hp1.2

/-! ### What waits for a position -/

/-- The bytes of a REPLAY, or of a flit sent again. -/
def jobBytes (j : FlitJob) (seq ack : BitVec 12) (ccl cnt : Nat) : List Byte :=
  match j with
  | .replay fr => replayFlit fr seq ack ccl cnt
  | .again q l => slotFlit q ack ccl cnt l

theorem sendJob_sends (a : Nat) (j : FlitJob) (s : State) : let t := sendJob a j s
    ∃ ccl cnt, FlitsOut a [.flit a (jobBytes j (linkOf s a).txSeq (linkOf s a).rxAck ccl cnt)] s t ∧
      (linkOf t a).pos = (linkOf s a).pos + 1 ∧ (linkOf t a).jobs = (linkOf s a).jobs := by
  cases j with
  | replay fr => exact sendUnit_sends a (replayFlit fr) s
  | again q l => exact sendUnit_sends a (fun _ ack ccl cnt => slotFlit q ack ccl cnt l) s

/-- The first `m` of what waits has gone out. -/
structure JobsOut (a m : Nat) (fl : List TxMsg) (s t : State) : Prop where
  out : FlitsOut a fl s t
  length : fl.length = m
  each : ∀ i, i < m → ∃ j ccl cnt, (linkOf s a).jobs[i]? = some j ∧
    fl[i]? = some (.flit a (jobBytes j (linkOf s a).txSeq (linkOf s a).rxAck ccl cnt))
  pos : (linkOf t a).pos = (linkOf s a).pos + m
  jobs : (linkOf t a).jobs = (linkOf s a).jobs.drop m

/-- Jobs go out while positions are left before the next wedge. -/
theorem sendJobs_sends (n a : Nat) (s : State) :
    ∃ fl, JobsOut a (min n (min (31 - (linkOf s a).pos) (linkOf s a).jobs.length)) fl s (sendJobs n a s) := by
  have hnone : ∀ t : State, t = s → JobsOut a 0 [] s t := fun t ht => by
    rw [ht]
    exact ⟨FlitsOut.refl a s, rfl, fun i hi => absurd hi (Nat.not_lt_zero i), rfl, rfl⟩
  induction n generalizing s with
  | zero => exact ⟨[], by rw [Nat.zero_min]; exact hnone _ rfl⟩
  | succ n ih =>
    cases hj : (linkOf s a).jobs with
    | nil =>
      refine ⟨[], ?_⟩
      have hs : sendJobs (n + 1) a s = s := by rw [sendJobs, hj]
      rw [hs, List.length_nil, Nat.min_zero, Nat.min_zero]
      exact hnone s rfl
    | cons j l =>
      by_cases hp : 31 ≤ (linkOf s a).pos
      · refine ⟨[], ?_⟩
        have hs : sendJobs (n + 1) a s = s := by
          rw [sendJobs, hj]
          exact if_pos hp
        rw [hs, Nat.sub_eq_zero_of_le hp, Nat.zero_min, Nat.min_zero]
        exact hnone s rfl
      · have hs : sendJobs (n + 1) a s = sendJobs n a (sendJob a j (setLink a (fun x => { x with jobs := l }) s)) := by
          rw [sendJobs, hj]
          exact if_neg hp
        rw [hs]
        have h1 : FlitsOut a [] s (setLink a (fun x => { x with jobs := l }) s) := flitsOut_setLink rfl
        have hp1 : (linkOf (setLink a (fun x => { x with jobs := l }) s) a).pos = (linkOf s a).pos ∧
            (linkOf (setLink a (fun x => { x with jobs := l }) s) a).jobs = l := by
          rw [linkOf_setLink_same]
          exact ⟨rfl, rfl⟩
        generalize setLink a (fun x => { x with jobs := l }) s = u at h1 hp1
        obtain ⟨ccl, cnt, h2, hp2, hj2⟩ := sendJob_sends a j u
        generalize sendJob a j u = v at h2 hp2 hj2
        obtain ⟨fl, h3⟩ := ih v (fun t ht => by
          rw [ht]
          exact ⟨FlitsOut.refl a v, rfl, fun i hi => absurd hi (Nat.not_lt_zero i), rfl, rfl⟩)
        have hst := h1.trans h2
        have hjv : (linkOf v a).jobs = l := hj2.trans hp1.2
        have hpv : (linkOf v a).pos = (linkOf s a).pos + 1 := hp2.trans (congrArg (· + 1) hp1.1)
        rw [hjv, hpv] at h3
        have hm : min (n + 1) (min (31 - (linkOf s a).pos) (j :: l).length) = min n (min (31 - ((linkOf s a).pos + 1)) l.length) + 1 := by
          rw [List.length_cons]
          omega
        rw [hm]
        have htx := Link.still_txSeq hst.still
        have hrx := Link.still_rxAck hst.still
        refine ⟨.flit a (jobBytes j (linkOf u a).txSeq (linkOf u a).rxAck ccl cnt) :: fl, hst.trans h3.out, by rw [List.length_cons, h3.length],
          fun i hi => ?_, by rw [h3.pos, hpv]; omega, by rw [h3.jobs, hjv, hj, List.drop_succ_cons]⟩
        cases i with
        | zero =>
          refine ⟨j, ccl, cnt, by rw [hj]; rfl, ?_⟩
          rw [Link.still_txSeq h1.still, Link.still_rxAck h1.still]
          rfl
        | succ i =>
          obtain ⟨j', c', n', e1, e2⟩ := h3.each i (Nat.lt_of_succ_lt_succ hi)
          rw [hjv] at e1
          rw [htx, hrx] at e2
          exact ⟨j', c', n', by rw [hj]; exact e1, e2⟩

/-! ### Replays (R296) -/

/-- Flits resent from FROM on, where nothing else waits. -/
theorem resend_sends {a : Nat} {fr : BitVec 12} {s : State} (hj : ∀ j ∈ (linkOf s a).jobs, ∃ q l, j = .again q l) :
    let l := (linkOf s a).replayBuf.dropWhile (fun p => decide (p.1 ≠ fr))
    let t := resend a fr s
    Resent s t a l ∧ ∃ fl, FlitsOut a fl s t ∧ fl.length = min (31 - (linkOf s a).pos) l.length ∧
      (linkOf t a).pos = (linkOf s a).pos + fl.length := by
  intro l t
  have hfilter : (linkOf s a).jobs.filter (fun j => match j with
      | .replay _ => true
      | .again _ _ => false) = [] := List.filter_eq_nil_iff.2 fun j hm => by
    obtain ⟨q, l, rfl⟩ := hj j hm
    exact Bool.false_ne_true
  have ht : t = sendJobs 2048 a (setLink a (fun k => { k with
      jobs := (k.jobs.filter fun j => match j with
        | .replay _ => true
        | .again _ _ => false) ++ (k.replayBuf.dropWhile (fun p => decide (p.1 ≠ fr))).map (fun p => .again p.1 p.2) }) s) := rfl
  have h1 : FlitsOut a [] s (setLink a (fun k => { k with
      jobs := (k.jobs.filter fun j => match j with
        | .replay _ => true
        | .again _ _ => false) ++ (k.replayBuf.dropWhile (fun p => decide (p.1 ≠ fr))).map (fun p => .again p.1 p.2) }) s) := flitsOut_setLink rfl
  have hp1 : (linkOf (setLink a (fun k => { k with
      jobs := (k.jobs.filter fun j => match j with
        | .replay _ => true
        | .again _ _ => false) ++ (k.replayBuf.dropWhile (fun p => decide (p.1 ≠ fr))).map (fun p => .again p.1 p.2) }) s) a).pos =
      (linkOf s a).pos ∧ (linkOf (setLink a (fun k => { k with
      jobs := (k.jobs.filter fun j => match j with
        | .replay _ => true
        | .again _ _ => false) ++ (k.replayBuf.dropWhile (fun p => decide (p.1 ≠ fr))).map (fun p => .again p.1 p.2) }) s) a).jobs =
      l.map (fun p => .again p.1 p.2) := by
    rw [linkOf_setLink_same]
    exact ⟨rfl, by rw [hfilter]; rfl⟩
  generalize setLink a (fun k => { k with
      jobs := (k.jobs.filter fun j => match j with
        | .replay _ => true
        | .again _ _ => false) ++ (k.replayBuf.dropWhile (fun p => decide (p.1 ≠ fr))).map (fun p => .again p.1 p.2) }) s = u at ht h1 hp1
  obtain ⟨fl, h2⟩ := sendJobs_sends 2048 a u
  rw [← ht, hp1.1, hp1.2, List.length_map] at h2
  have hm : min 2048 (min (31 - (linkOf s a).pos) l.length) = min (31 - (linkOf s a).pos) l.length := by omega
  rw [hm] at h2
  have hO := h1.trans h2.out
  refine ⟨⟨fl, hO.tx, h2.length, fun i p hi hp => ?_, ?_⟩, fl, hO, h2.length, by rw [h2.pos, hp1.1, h2.length]⟩
  · obtain ⟨hil, -⟩ := List.getElem?_eq_some_iff.1 hp
    obtain ⟨j, c, n, e1, e2⟩ := h2.each i (by omega)
    rw [hp1.2, List.getElem?_map, hp] at e1
    rw [Link.still_rxAck h1.still] at e2
    obtain rfl := Option.some.inj e1
    exact ⟨c, n, e2⟩
  · rw [h2.jobs, hp1.2, ← List.map_drop]
    by_cases hle : l.length ≤ 31 - (linkOf s a).pos
    · rw [Nat.min_eq_right hle, List.drop_of_length_le (le_refl _), List.drop_of_length_le hle]
    · rw [Nat.min_eq_left (by omega)]

/-- A replay has been asked for. -/
structure Asked (a : Nat) (fr : BitVec 12) (n : Nat) (s t : State) : Prop where
  requested : Requested s t a fr (linkOf s a).rxAck
  still : (linkOf t a).still = ({ linkOf s a with want := some fr, tries := n + 1 } : Link).still
  others : ∀ b, b ≠ a → linkOf t b = linkOf s b
  sent : (linkOf s a).pos < 31 → (linkOf t a).pos = (linkOf s a).pos + 1 ∧ (linkOf t a).jobs = (linkOf s a).jobs
  counted : rd t (portBase (a / 2) + 0x48) = satInc32 (rd s (portBase (a / 2) + 0x48))
  regs : RegsOnly (· = portBase (a / 2) + 0x48) s t
  only : Only [.regs, .links, .meter, .tx] s t

section
variable {a n : Nat} {fr : BitVec 12} {s t : State} (h : Asked a fr n s t)
include h

theorem Asked.attached : (linkOf t a).attached = (linkOf s a).attached := (congrArg Link.attached h.still :)
theorem Asked.epoch : (linkOf t a).epoch = (linkOf s a).epoch := (congrArg Link.epoch h.still :)
theorem Asked.lock : (linkOf t a).lock = (linkOf s a).lock := (congrArg Link.lock h.still :)
theorem Asked.rxSeq : (linkOf t a).rxSeq = (linkOf s a).rxSeq := (congrArg Link.rxSeq h.still :)
theorem Asked.rxAck : (linkOf t a).rxAck = (linkOf s a).rxAck := (congrArg Link.rxAck h.still :)
theorem Asked.misses : (linkOf t a).misses = (linkOf s a).misses := (congrArg Link.misses h.still :)
theorem Asked.crcRun : (linkOf t a).crcRun = (linkOf s a).crcRun := (congrArg Link.crcRun h.still :)
theorem Asked.slots : (linkOf t a).slots = (linkOf s a).slots := (congrArg Link.slots h.still :)
theorem Asked.replayBuf : (linkOf t a).replayBuf = (linkOf s a).replayBuf := (congrArg Link.replayBuf h.still :)
theorem Asked.want : (linkOf t a).want = some fr := (congrArg Link.want h.still :)
theorem Asked.tries : (linkOf t a).tries = n + 1 := (congrArg Link.tries h.still :)

end

theorem askReplay_asks {a : Nat} {fr : BitVec 12} {s : State}
    (h : (if (linkOf s a).want = some fr then (linkOf s a).tries else 0) < rdf s (portBase (a / 2) + 0x18) 16 4) :
    Asked a fr (if (linkOf s a).want = some fr then (linkOf s a).tries else 0) s (askReplay a fr s) := by
  have he : askReplay a fr s = sendReplayReq a fr (setLink a (fun x => { x with
      want := some fr, tries := (if (linkOf s a).want = some fr then (linkOf s a).tries else 0) + 1 }) s) := if_neg (Nat.not_le.2 h)
  rw [he]
  generalize (if (linkOf s a).want = some fr then (linkOf s a).tries else 0) = n
  have h1 := only_setLink a (fun x => { x with want := some fr, tries := n + 1 }) s
  have hl1 := linkOf_setLink_same a (fun x => { x with want := some fr, tries := n + 1 }) s
  have hn1 : ∀ b, b ≠ a → linkOf (setLink a (fun x => { x with want := some fr, tries := n + 1 }) s) b = linkOf s b :=
    fun b hb => linkOf_setLink_ne hb _ s
  generalize setLink a (fun x => { x with want := some fr, tries := n + 1 }) s = u at h1 hl1 hn1
  unfold sendReplayReq
  dsimp only
  have h2 := only_wr u (portBase (a / 2) + 0x48) (satInc32 (rd u (portBase (a / 2) + 0x48)))
  have hr2 : RegsOnly (· = portBase (a / 2) + 0x48) u (wr u (portBase (a / 2) + 0x48) (satInc32 (rd u (portBase (a / 2) + 0x48)))) :=
    regsOnly_wr _ _ rfl
  have hv2 := rd_wr_same u (portBase (a / 2) + 0x48) (satInc32 (rd u (portBase (a / 2) + 0x48)))
  generalize wr u (portBase (a / 2) + 0x48) (satInc32 (rd u (portBase (a / 2) + 0x48))) = v at h2 hr2 hv2
  have h3 : Only [.meter] v (statAdd 0x101 3 (a / 2) 1 v) := by simp [only_iff, statAdd]
  generalize statAdd 0x101 3 (a / 2) 1 v = w at h3
  have h4 : FlitsOut a [] w (setLink a (fun x => { x with jobs := .replay fr :: x.jobs }) w) := flitsOut_setLink rfl
  have hj4 : (linkOf (setLink a (fun x => { x with jobs := .replay fr :: x.jobs }) w) a).jobs = .replay fr :: (linkOf w a).jobs ∧
      (linkOf (setLink a (fun x => { x with jobs := .replay fr :: x.jobs }) w) a).pos = (linkOf w a).pos := by
    rw [linkOf_setLink_same]
    exact ⟨rfl, rfl⟩
  generalize setLink a (fun x => { x with jobs := .replay fr :: x.jobs }) w = q at h4 hj4
  obtain ⟨fl, h5⟩ := sendJobs_sends 1 a q
  generalize sendJobs 1 a q = t at h5
  have hlw : linkOf w a = { linkOf s a with want := some fr, tries := n + 1 } := by
    rw [linkOf_congr h3.links, linkOf_congr h2.links, hl1]
  have hnw : ∀ b, b ≠ a → linkOf w b = linkOf s b := fun b hb => by rw [linkOf_congr h3.links, linkOf_congr h2.links, hn1 b hb]
  have hpos : (linkOf q a).pos = (linkOf s a).pos := by rw [hj4.2, hlw]
  have hjobs : (linkOf q a).jobs = .replay fr :: (linkOf s a).jobs := by rw [hj4.1, hlw]
  have hO := h4.trans h5.out
  have hsw : Only [.regs, .links, .meter, .tx] s w := (h1.mono (by simp)).trans ((h2.mono (by simp)).trans (h3.mono (by simp)))
  have htx : t.tx = s.tx ++ fl := by rw [hO.tx, h3.tx, h2.tx, h1.tx]; rfl
  rw [hpos, hjobs, List.length_cons] at h5
  refine ⟨⟨fun hp => ?_, fun hp => ?_⟩, by rw [hO.still, hlw], fun b hb => (hO.others b hb).trans (hnw b hb), fun hp => ?_, ?_,
    (regsOnly_of_regs h1.regs).trans (hr2.trans ((regsOnly_of_regs h3.regs).trans (regsOnly_of_regs hO.only.regs))),
    hsw.trans (hO.only.mono (by simp))⟩
  · have hm : min 1 (min (31 - (linkOf s a).pos) ((linkOf s a).jobs.length + 1)) = 1 := by omega
    rw [hm] at h5
    obtain ⟨j, ccl, cnt, e1, e2⟩ := h5.each 0 (by decide)
    rw [hjobs] at e1
    obtain rfl : FlitJob.replay fr = j := Option.some.inj e1
    obtain ⟨m, rfl⟩ := List.length_eq_one_iff.1 h5.length
    have hq := h4.still
    rw [Link.still_txSeq hq, Link.still_rxAck hq, hlw] at e2
    exact ⟨ccl, cnt, by rw [htx, Option.some.inj e2]; rfl⟩
  · have hm : min 1 (min (31 - (linkOf s a).pos) ((linkOf s a).jobs.length + 1)) = 0 := by omega
    rw [hm] at h5
    rw [htx, List.length_eq_zero_iff.1 h5.length, List.append_nil, h5.jobs, hjobs]
    exact ⟨rfl, rfl⟩
  · have hm : min 1 (min (31 - (linkOf s a).pos) ((linkOf s a).jobs.length + 1)) = 1 := by omega
    rw [hm] at h5
    rw [h5.pos, hpos, h5.jobs, hjobs]
    exact ⟨rfl, rfl⟩
  · rw [rd_congr hO.only.regs, rd_congr h3.regs, hv2, rd_congr h1.regs]

/-! ### RECOVERY (R298) -/

/-- A link in recovery: it has lost lock, and keeps its replay buffer and sequence numbers. -/
def recoveringLink (widen : Bool) (l : Link) : Link := { l with widen := widen, candidates := [], jobs := [], lock := false }

theorem enterRecovery_frame (a : Nat) (widen : Bool) (s : State) : let t := enterRecovery a widen s
    linkState t a = 3 ∧ linkOf t a = recoveringLink widen (linkOf s a) ∧ (∀ b, b ≠ a → linkOf t b = linkOf s b) ∧
    RegsOnly (· = oPtStatus (a / 2)) s t ∧ Only [.regs, .links] s t := by
  have h1 := only_setLink a (fun l => { l with widen := widen, candidates := [], jobs := [] }) s
  have hl1 := linkOf_setLink_same a (fun l => { l with widen := widen, candidates := [], jobs := [] }) s
  have hn1 : ∀ b, b ≠ a → linkOf (setLink a (fun l => { l with widen := widen, candidates := [], jobs := [] }) s) b = linkOf s b :=
    fun b hb => linkOf_setLink_ne hb _ s
  unfold enterRecovery
  generalize setLink a (fun l => { l with widen := widen, candidates := [], jobs := [] }) s = u at h1 hl1 hn1
  obtain ⟨l2, n2, -, -, r2, o2⟩ := setLock_frame a false u
  generalize setLock a false u = v at l2 n2 r2 o2
  obtain ⟨s3, -, -, l3, r3, o3⟩ := setLinkState_frame a (show 3 < 8 by decide) v
  refine ⟨s3, ?_, fun b hb => ?_, (regsOnly_of_regs h1.regs).trans (r2.trans r3),
    (h1.mono (by simp)).trans ((o2.mono (by simp)).trans (o3.mono (by simp)))⟩
  · rw [linkOf_congr l3, l2, hl1]
    rfl
  · rw [linkOf_congr l3, n2 b hb, hn1 b hb]

theorem askReplay_gives_up {a : Nat} {fr : BitVec 12} {s : State}
    (h : rdf s (portBase (a / 2) + 0x18) 16 4 ≤ if (linkOf s a).want = some fr then (linkOf s a).tries else 0) :
    askReplay a fr s = enterRecovery a false s := if_pos h

end Sys2Proof.Machine
end

section
/-! PROOFS. The states of a link: its commands, training, recovery and timeouts (R96, R279, R290, R297 to R299, R347, R372). -/

namespace Sys2Proof.Machine

/-! ### Link commands -/

theorem subAgent_port (n : Nat) (sub : Bool) : subAgent n sub / 2 = n := by
  cases sub with
  | false => exact Nat.mul_div_cancel_left n (by decide)
  | true => show (2 * n + 1) / 2 = n; omega

theorem portRefuse_eq (n : Nat) (s : State) : portRefuse n s = wr s (0x010200 + 8 * n) (rd s (0x010200 + 8 * n) ||| 0x1000#64) :=
  raiseAt_none (c := .portCmd) rfl n s

/-- A refused link command. -/
theorem portRefused {c : Instr} {f : State → State} {n : Nat} {s : State} (hc : capAnswers s = true) (hex : exec c s = .next (capCmd f s))
    (hf : f (answered false 0 s) = portRefuse n (answered false 0 s)) :
    exec c s = .next (wr (answered false 0 s) (0x010200 + 8 * n) (rd s (0x010200 + 8 * n) ||| 0x1000#64)) :=
  hex.trans (congrArg Host.Outcome.next (capCmd_eq hc (hf.trans (portRefuse_eq n _)) rfl rfl))

/-- The steps of a command begin, or wait behind those under way. -/
theorem steps_begin {who k n : Nat} (hk : 0 < k) {s u : State} (hp : u.pending = s.pending) (ha : u.aon = s.aon)
    (hr : RegsOnly (· = oPtStatus n) s u) : let t := beginSteps who k u
    (if s.aon.stepQ = [] ∧ s.aon.stepWait = 0 then
      t.aon = { s.aon with stepQ := List.replicate (k - 1) who, stepWait := 1000 } ∧ RegsOnly (· = oPtStatus n) s t
    else t.aon = { s.aon with stepQ := s.aon.stepQ ++ List.replicate k who } ∧ Caused t .stepHold 0) ∧
    Timeless s t ∧ Only [.aon, .regs] u t ∧ RegsOnly (· = 0x010140) u t := by
  obtain ⟨k, rfl⟩ : ∃ j, k = j + 1 := ⟨k - 1, by omega⟩
  obtain ⟨b1, b2, b3⟩ := beginSteps_frame who k u
  intro t
  refine ⟨?_, ?_, b1, b2⟩
  · split
    next h =>
      have ht : t = _ := beginSteps_free (s := u) (by rw [ha]; exact h.1) (by rw [ha]; exact h.2) who k
      rw [ht]
      exact ⟨by rw [updAon_aon, ha]; rfl, hr.trans (regsOnly_of_regs rfl)⟩
    next h =>
      have ht : t = _ := beginSteps_held (s := u) (by rw [ha]; exact h) who k
      rw [ht]
      refine ⟨?_, caused_raise0 _ _⟩
      rw [(only_raise0_none (c := .stepHold) rfl _).aon, stepsQueued, updAon_aon, ha]
  · refine ⟨⟨b1.pending.trans hp, ?_, ?_, ?_, ?_⟩, ?_, ?_⟩ <;> rw [b3] <;> simp only [ha]

theorem oPtStatus_high (n : Nat) : 0x100000 ≤ oPtStatus n := by
  unfold oPtStatus portBase
  omega

/-- What a link left, left still, where its fields are kept. -/
theorem LinkLeft.congr {s t v : State} {a st : Nat} (h : LinkLeft s t a st) (hl : linkOf v a = linkOf t a)
    (hst : linkState v a = linkState t a) (hw : linkWidth v a = linkWidth t a) (hr : ∀ p ∈ v.home.reqs, p ∈ t.home.reqs)
    (hsw : ∀ w ∈ t.sheet.sweeps, w ∈ v.sheet.sweeps) : LinkLeft s v a st := by
  obtain ⟨h1, h2, h3, h4, h5, h6, h7, h8, h9, h10⟩ := h
  refine ⟨hst.trans h1, (detached_links hl).trans h2, hw.trans h3, by rw [hl, h4], by rw [hl, h5], by rw [hl, h6], by rw [hl, h7],
    by rw [hl, h8], fun hd => by rw [hl, h9 hd], fun hd => ?_⟩
  obtain ⟨g1, g2, w, g3, g4⟩ := h10 hd
  exact ⟨by rw [hl, g1], fun p hp => g2 p (hr p hp), w, hsw w g3, g4⟩

theorem LinkLeft.from {s u t : State} {a st : Nat} (h : LinkLeft u t a st) (hl : linkOf u a = linkOf s a) : LinkLeft s t a st := by
  obtain ⟨h1, h2, h3, h4, h5, h6, h7, h8, h9, h10⟩ := h
  rw [detached_links hl, hl] at h9 h10
  exact ⟨h1, h2, h3, h4, h5, h6, h7, h8, h9, h10⟩

/-- One or both links of a port leave service. -/
structure PortLeft (n st : Nat) (both : Bool) (s t : State) : Prop where
  first : LinkLeft s t (2 * n) st
  second : both = true → LinkLeft s t (2 * n + 1) st
  others : ∀ b, b / 2 ≠ n → linkOf t b = linkOf s b
  regs : RegsOnly (· = oPtStatus n) s t
  only : Only [.regs, .links, .home, .sheet, .xbar] s t

theorem portLeft {n st : Nat} {both : Bool} {s : State} (hst : st < 8) (hc : s.dev.ctxs = []) (hl : s.home.latent = [])
    (hb : s.dev.byRule = false) : PortLeft n st both s
      ((if both then [2 * n, 2 * n + 1] else [2 * n]).foldl (fun s b => leaveService b st s) s) := by
  have h1 := leaveService_left (a := 2 * n) hst hc hl hb
  have hn : 2 * n / 2 = n := by omega
  have hr1 := h1.regs
  rw [hn] at hr1
  cases both with
  | false => exact ⟨h1.left, fun h => absurd h Bool.false_ne_true, fun b hb => h1.others b (by omega), hr1, h1.only⟩
  | true =>
    show PortLeft n st true s (leaveService (2 * n + 1) st (leaveService (2 * n) st s))
    generalize leaveService (2 * n) st s = u at h1 hr1
    have h2 := leaveService_left (a := 2 * n + 1) (s := u) hst (by rw [h1.only.dev, hc]) (h1.latent.trans hl) (by rw [h1.only.dev, hb])
    have hr2 := h2.regs
    rw [show (2 * n + 1) / 2 = n by omega] at hr2
    generalize leaveService (2 * n + 1) st u = t at h2 hr2
    exact ⟨h1.left.congr (h2.others _ (by omega)) (h2.states _ (by omega)) (h2.widths _ (by omega)) h2.reqs h2.sweeps,
      fun _ => h2.left.from (h1.others _ (by omega)), fun b hb => (h2.others b (by omega)).trans (h1.others b (by omega)), hr1.trans hr2,
      h1.only.trans h2.only⟩

/-- The check of an ENABLE fails exactly where the link is not idle. -/
theorem enable_check {x i y : Bool} {st : Nat} :
    (!x || !(decide (st = 0) || decide (st = 4) || decide (st = 5)) || i || y) = true ↔
      ¬ (x = true ∧ (st = 0 ∨ st = 4 ∨ st = 5) ∧ i = false ∧ y = false) := by
  cases x <;> cases i <;> cases y <;> simp [and_assoc]

theorem link_commands : ∀ (n : Nat) (sub : Bool) (s : State), n < 16 → capAnswers s = true → s.dev.ctxs = [] → s.home.latent = [] →
    s.dev.byRule = false →
    let a := subAgent n sub
    let st := linkState s a
    let refused := Host.Outcome.next (wr (answered false 0 s) (0x010200 + 8 * n) (rd s (0x010200 + 8 * n) ||| 0x1000#64))
    let idle := agentExists s a = true ∧ (st = 0 ∨ st = 4 ∨ st = 5) ∧ isSafe s = false ∧ sweeping s a = false
    let steps := if bitOf (rd s oIslSts) n && !stepsLeft s n then 3 else 1
    let stepped := fun (t : State) (k : Nat) =>
      if s.aon.stepQ = [] ∧ s.aon.stepWait = 0 then
        t.aon = { s.aon with stepQ := List.replicate (k - 1) n, stepWait := 1000 } ∧ RegsOnly (· = oPtStatus n) s t
      else t.aon = { s.aon with stepQ := s.aon.stepQ ++ List.replicate k n } ∧ Caused t .stepHold 0
    (idle → (linkOf s a).adv < 255 →
      ∃ t, exec (.linkEnable n sub) s = .next t ∧ linkState t a = 1 ∧ stepped t steps ∧ Acked s t ∧
        Only [.cap, .regs, .aon] s t) ∧
    (idle → 255 ≤ (linkOf s a).adv →
      ∃ t, exec (.linkEnable n sub) s = .next t ∧ Caused t .epochWrap 0 ∧ Caused t .portCmd n ∧ linkState t a = st ∧
        Acked s t ∧ Only [.cap, .regs] s t) ∧
    (¬ idle → exec (.linkEnable n sub) s = refused) ∧
    (agentExists s a = true → st = 2 →
      ∃ t, exec (.retrain n sub) s = .next t ∧ linkState t a = 3 ∧ (linkOf t a).lock = false ∧
        (linkOf t a).replayBuf = (linkOf s a).replayBuf ∧ detached t a = detached s a ∧ Acked s t ∧
        Only [.cap, .regs, .links] s t ∧ RegsOnly (· = oPtStatus n) s t) ∧
    (agentExists s a = false ∨ st ≠ 2 → exec (.retrain n sub) s = refused) ∧
    (agentExists s a = true → st = 1 →
      ∃ t, exec (.linkDisable n sub) s = .next t ∧ linkState t a = 0 ∧ detached t a = detached s a ∧
        (linkOf t a).epoch = (linkOf s a).epoch ∧ (linkOf t a).txq = [] ∧ (∀ b, b ≠ a → linkOf t b = linkOf s b) ∧
        Acked s t ∧ Only [.cap, .regs, .links, .xbar] s t ∧ RegsOnly (· = oPtStatus n) s t) ∧
    (agentExists s a = true → st = 2 →
      ∃ t, exec (.linkDisable n sub) s = .next t ∧ LinkLeft s t a 0 ∧ (∀ b, b ≠ a → linkOf t b = linkOf s b) ∧ Acked s t ∧
        Only [.cap, .regs, .links, .home, .sheet, .xbar] s t ∧ RegsOnly (· = oPtStatus n) s t) ∧
    (agentExists s a = false ∨ st ≠ 1 ∧ st ≠ 2 → exec (.linkDisable n sub) s = refused) ∧
    (agentExists s a = true → st = 2 ∨ st = 4 →
      ∃ t, exec (.linkRetire n sub) s = .next t ∧ LinkLeft s t (2 * n) 5 ∧
        (bitOf (rd s (oPtCfg n)) 2 = true → LinkLeft s t (2 * n + 1) 5) ∧ (∀ b, b / 2 ≠ n → linkOf t b = linkOf s b) ∧
        stepped t 3 ∧ Acked s t ∧ Only [.cap, .regs, .links, .home, .sheet, .xbar, .aon] s t) ∧
    (agentExists s a = false ∨ st ≠ 2 ∧ st ≠ 4 → exec (.linkRetire n sub) s = refused) := by
  intro n sub s hn hc hctx hlat hby a st refused idle steps stepped
  have hport : a / 2 = n := subAgent_port n sub
  have hokp : okPort n = true := decide_eq_true hn
  have hA := only_answered false 0 s
  have hack : Acked s (answered false 0 s) := rfl
  have hrA : RegsOnly (· = oPtStatus n) s (answered false 0 s) := regsOnly_of_regs rfl
  have hx1 : exec (.linkEnable n sub) s = .next (capCmd (opLinkEnable n sub) s) := onUnit_true hokp _ _
  have hx2 : exec (.retrain n sub) s = .next (capCmd (opRetrain n sub) s) := onUnit_true hokp _ _
  have hx3 : exec (.linkDisable n sub) s = .next (capCmd (opLinkDisable n sub) s) := onUnit_true hokp _ _
  have hx4 : exec (.linkRetire n sub) s = .next (capCmd (opLinkRetire n sub) s) := onUnit_true hokp _ _
  have hq1 : opLinkEnable n sub (answered false 0 s) =
      if !agentExists s a || !(decide (st = 0) || decide (st = 4) || decide (st = 5)) || isSafe s || sweeping s a then portRefuse n (answered false 0 s)
      else if 255 ≤ (linkOf s a).adv then portRefuse n (raise0 .epochWrap (answered false 0 s))
      else beginSteps n steps (setLinkState a 1 (answered false 0 s)) := rfl
  have hq2 : opRetrain n sub (answered false 0 s) =
      if !agentExists s a || decide (st ≠ 2) then portRefuse n (answered false 0 s) else enterRecovery a true (answered false 0 s) := rfl
  have hq3 : opLinkDisable n sub (answered false 0 s) =
      if !agentExists s a || !(decide (st = 1) || decide (st = 2)) then portRefuse n (answered false 0 s)
      else if st = 1 then clearLink a (setLinkState a 0 (answered false 0 s)) else leaveService a 0 (answered false 0 s) := rfl
  have hq4 : opLinkRetire n sub (answered false 0 s) =
      if !agentExists s a || !(decide (st = 2) || decide (st = 4)) then portRefuse n (answered false 0 s)
      else beginSteps n 3 ((if bitOf (rd s (oPtCfg n)) 2 then [2 * n, 2 * n + 1] else [2 * n]).foldl (fun s b => leaveService b 5 s)
        (answered false 0 s)) := rfl
  refine ⟨fun hid hadv => ?_, fun hid hadv => ?_, fun hid => portRefused hc hx1 (hq1.trans (if_pos ?_)), fun hex hst => ?_,
    fun h => portRefused hc hx2 (hq2.trans (if_pos (by simpa using h))), fun hex hst => ?_, fun hex hst => ?_,
    fun h => portRefused hc hx3 (hq3.trans (if_pos (by simpa using h))), fun hex hst => ?_,
    fun h => portRefused hc hx4 (hq4.trans (if_pos (by simpa using h)))⟩
  · obtain ⟨s1, -, -, -, r1, o1⟩ := setLinkState_frame a (show 1 < 8 by decide) (answered false 0 s)
    rw [hport] at r1
    have hk : 0 < steps := by
      show 0 < ite _ _ _
      split <;> omega
    have hif := hq1.trans ((if_neg (fun h => enable_check.1 h hid)).trans (if_neg (Nat.not_le.2 hadv)))
    generalize setLinkState a 1 (answered false 0 s) = u at s1 r1 o1 hif
    obtain ⟨b1, b2, b3, b4⟩ := steps_begin (who := n) hk (s := s) (u := u) o1.pending o1.aon (hrA.trans r1)
    generalize beginSteps n steps u = t at b1 b2 b3 b4 hif
    refine ⟨t, hx1.trans (capCmd_timeless hc hif b2), (linkState_regs b4 ?_).trans s1, b1, ?_, ?_⟩
    · have := oPtStatus_high (a / 2)
      omega
    · exact (b3.cap.trans o1.cap).trans hack
    · exact (hA.mono (by simp)).trans ((o1.mono (by simp)).trans (b3.mono (by simp)))
  · have hif := hq1.trans ((if_neg (fun h => enable_check.1 h hid)).trans (if_pos hadv))
    have h1 : Caused (raise0 .epochWrap (answered false 0 s)) .epochWrap 0 := caused_raise0 _ _
    have o1 : Only [.regs] (answered false 0 s) (raise0 .epochWrap (answered false 0 s)) := only_raise0_none rfl _
    have hr1 : RegsOnly (· < 0x100000) (answered false 0 s) (raise0 .epochWrap (answered false 0 s)) := by
      rw [raise0_none rfl]
      exact regsOnly_wr _ _ (by decide)
    generalize raise0 .epochWrap (answered false 0 s) = u at hif h1 o1 hr1
    have h2 : Caused (portRefuse n u) .epochWrap 0 := caused_raise_of (r := PsRec.none) (by omega) (by decide) h1
    have h3 : Caused (portRefuse n u) .portCmd n := caused_raise _ (by omega) PsRec.none u
    have o2 : Only [.regs] u (portRefuse n u) := by
      rw [portRefuse_eq]
      exact only_wr _ _ _
    have hr2 : RegsOnly (· < 0x100000) u (portRefuse n u) := by
      rw [portRefuse_eq]
      exact regsOnly_wr _ _ (by omega)
    generalize portRefuse n u = t at hif h2 h3 o2 hr2
    refine ⟨t, hx1.trans (congrArg _ (capCmd_eq hc hif (o2.pending.trans o1.pending) (o2.aon.trans o1.aon))), h2, h3,
      (linkState_regs (hr1.trans hr2) ?_).trans rfl, (o2.cap.trans o1.cap).trans hack,
      (hA.mono (by simp)).trans ((o1.mono (by simp)).trans (o2.mono (by simp)))⟩
    have := oPtStatus_high (a / 2)
    omega
  · exact enable_check.2 hid
  · obtain ⟨s1, l1, -, r1, o1⟩ := enterRecovery_frame a true (answered false 0 s)
    rw [hport] at r1
    have hif := hq2.trans (if_neg (by simp [hex, hst]))
    generalize enterRecovery a true (answered false 0 s) = t at s1 l1 r1 o1 hif
    refine ⟨t, hx2.trans (congrArg _ (capCmd_eq hc hif o1.pending o1.aon)), s1, by rw [l1]; rfl, by rw [l1]; rfl, ?_, o1.cap.trans hack,
      (hA.mono (by simp)).trans (o1.mono (by simp)), hrA.trans r1⟩
    rw [detached, l1]
    rfl
  · obtain ⟨s1, -, -, l1, r1, o1⟩ := setLinkState_frame a (show 0 < 8 by decide) (answered false 0 s)
    rw [hport] at r1
    have hif := hq3.trans ((if_neg (by simp [hex, hst])).trans (if_pos hst))
    generalize setLinkState a 0 (answered false 0 s) = u at s1 l1 r1 o1 hif
    have h2 := clearLink_clears a u
    generalize clearLink a u = t at h2 hif
    have hl : linkOf t a = clearedLink (linkOf s a) := h2.link.trans (by rw [linkOf_congr l1]; rfl)
    have r2 := h2.regs
    rw [hport] at r2
    refine ⟨t, hx3.trans (congrArg _ (capCmd_eq hc hif (h2.only.pending.trans o1.pending) (h2.only.aon.trans o1.aon))), (h2.states a).trans s1,
      ?_, by rw [hl]; rfl, by rw [hl]; rfl, fun b hb => (h2.others b hb).trans (linkOf_congr l1 b), (h2.only.cap.trans o1.cap).trans hack,
      (hA.mono (by simp)).trans ((o1.mono (by simp)).trans (h2.only.mono (by simp))), hrA.trans (r1.trans r2)⟩
    rw [detached, hl]
    rfl
  · have h1 := leaveService_left (a := a) (st := 0) (s := answered false 0 s) (by decide) hctx hlat hby
    have hif := hq3.trans ((if_neg (by simp [hex, hst])).trans (if_neg (by rw [hst]; decide)))
    generalize leaveService a 0 (answered false 0 s) = t at h1 hif
    have r1 := h1.regs
    rw [hport] at r1
    exact ⟨t, hx3.trans (congrArg _ (capCmd_eq hc hif h1.only.pending h1.only.aon)), h1.left.from rfl, h1.others, h1.only.cap.trans hack,
      (hA.mono (by simp)).trans (h1.only.mono (by simp)), hrA.trans r1⟩
  · have h1 := portLeft (n := n) (st := 5) (both := bitOf (rd s (oPtCfg n)) 2) (s := answered false 0 s) (by decide) hctx hlat hby
    have hif := hq4.trans (if_neg (by rcases hst with hst | hst <;> simp [hex, hst]))
    generalize (if bitOf (rd s (oPtCfg n)) 2 then [2 * n, 2 * n + 1] else [2 * n]).foldl (fun s b => leaveService b 5 s)
      (answered false 0 s) = u at h1 hif
    obtain ⟨b1, b2, b3, b4⟩ := steps_begin (who := n) (show 0 < 3 by decide) (s := s) (u := u) h1.only.pending h1.only.aon
      (hrA.trans h1.regs)
    generalize beginSteps n 3 u = t at b1 b2 b3 b4 hif
    have hlow : ∀ b, ¬ oPtStatus (b / 2) = 0x010140 := fun b h => by
      have := oPtStatus_high (b / 2)
      omega
    have hgo : ∀ {b}, LinkLeft (answered false 0 s) u b 5 → LinkLeft s t b 5 := fun {b} h =>
      (h.from rfl).congr (linkOf_congr b3.links b) (linkState_regs b4 (hlow b)) (linkWidth_regs b4 (hlow b))
        (fun p hp => by rw [← b3.home]; exact hp) (fun w hw => by rw [b3.sheet]; exact hw)
    exact ⟨t, hx4.trans (capCmd_timeless hc hif b2), hgo h1.first, fun h => hgo (h1.second h),
      fun b hb => (linkOf_congr b3.links b).trans (h1.others b hb), b1, (b3.cap.trans h1.only.cap).trans hack,
      (hA.mono (by simp)).trans ((h1.only.mono (by simp)).trans (b3.mono (by simp)))⟩

end Sys2Proof.Machine
end

section
/-! PROOFS. Training and recovery of a link (R279, R290, R297, R298). -/

namespace Sys2Proof.Machine

/-! ### A link comes up -/

theorem widthCode_lt (w : Nat) : widthCode w < 8 := by
  unfold widthCode
  split_ifs <;> decide

theorem linkLanes_le (s : State) (a : Nat) : linkLanes s a ≤ 8 := by
  unfold linkLanes
  split <;> decide

theorem laneBase_le (a : Nat) : laneBase a ≤ 4 := by
  unfold laneBase
  omega

theorem oPtCfg_ne_status (m n : Nat) : oPtCfg m ≠ oPtStatus n := by
  unfold oPtCfg oPtStatus portBase
  omega

section
variable {p : Nat → Prop} {s t : State} {a : Nat} (h : RegsOnly p s t) (hn : ¬ p (oPtCfg (a / 2)))
include h hn

theorem isZcl_regs : isZcl t a = isZcl s a := by rw [isZcl, portMode, rdf, h _ hn, isZcl, portMode, rdf]

theorem linkLanes_regs : linkLanes t a = linkLanes s a := by rw [linkLanes, h _ hn, linkLanes]

end

/-- A link brought UP on the lanes that have locked. -/
def broughtUp (a w : Nat) (lanes : BitVec 8) (f : Link → Link) (s : State) : State :=
  raiseAt .linkUp (a / 2) (setLock a true (setLink a f (setWidth a (widthCode w) (setTrained a lanes (setLinkState a 2 s)))))

/-- The registers that a link's coming up changes. -/
def UpReg (a o : Nat) : Prop := o = oPtStatus (a / 2) ∨ o = 0x010200 + 8 * (a / 2)

theorem not_upReg_cfg (a : Nat) : ¬ UpReg a (oPtCfg (a / 2)) := by
  unfold UpReg oPtStatus oPtCfg portBase
  omega

/-- What a link that has come up shows. -/
structure BroughtUp (a w : Nat) (lanes : BitVec 8) (f : Link → Link) (s t : State) : Prop where
  state : linkState t a = 2
  width : linkWidth t a = widthCode w
  trained : (linkTrained t a).toNat = lanes.toNat % 2 ^ linkLanes s a
  link : linkOf t a = { f (linkOf s a) with lock := true }
  caused : Caused t .linkUp (a / 2)
  regs : RegsOnly (UpReg a) s t
  only : Only [.regs, .links] s t

theorem broughtUp_shows {a : Nat} (ha : a < 32) (w : Nat) (lanes : BitVec 8) (f : Link → Link) (s : State) :
    BroughtUp a w lanes f s (broughtUp a w lanes f s) := by
  have hln := linkLanes_le s a
  have hlb := laneBase_le a
  unfold broughtUp
  obtain ⟨s1, -, -, l1, r1, o1⟩ := setLinkState_frame a (show 2 < 8 by decide) s
  have hcfg1 := linkLanes_regs r1 (oPtCfg_ne_status (a / 2) (a / 2))
  generalize setLinkState a 2 s = u1 at s1 l1 r1 o1 hcfg1
  have o2 : Only [.regs] u1 (setTrained a lanes u1) := only_wrf _ _ _ _ _
  have r2 : RegsOnly (· = oPtStatus (a / 2)) u1 (setTrained a lanes u1) := regsOnly_wrf _ _ _ _ rfl
  have s2 : linkState (setTrained a lanes u1) a = 2 := (status_keep u1 _ (fun _ => by omega) (by omega)).trans s1
  have l2 : (setTrained a lanes u1).links = s.links := l1
  have t2 : rdf (setTrained a lanes u1) (oPtStatus (a / 2)) (24 + laneBase a) (linkLanes s a) = lanes.toNat % 2 ^ linkLanes s a := by
    rw [← hcfg1]
    exact rdf_wrf_same _ _ _ _ _ (by omega)
  generalize setTrained a lanes u1 = u2 at o2 r2 s2 l2 t2
  obtain ⟨w3, -, s3, l3, r3, o3⟩ := setWidth_frame a (widthCode_lt w) u2
  have t3 : rdf (setWidth a (widthCode w) u2) (oPtStatus (a / 2)) (24 + laneBase a) (linkLanes s a) = lanes.toNat % 2 ^ linkLanes s a :=
    (status_keep u2 _ (fun _ => by omega) (by omega)).trans t2
  generalize setWidth a (widthCode w) u2 = u3 at w3 s3 l3 r3 o3 t3
  have h4 := only_setLink a f u3
  have l4 : linkOf (setLink a f u3) a = f (linkOf s a) := by rw [linkOf_setLink_same, linkOf_congr l3, linkOf_congr l2]
  generalize setLink a f u3 = u4 at h4 l4
  obtain ⟨l5, -, s5, w5, r5, o5⟩ := setLock_frame a true u4
  have t5 : rdf (setLock a true u4) (oPtStatus (a / 2)) (24 + laneBase a) (linkLanes s a) = lanes.toNat % 2 ^ linkLanes s a :=
    ((status_keep _ _ (fun _ => by omega) (by omega)).trans (rdf_congr h4.regs _ _ _)).trans t3
  generalize setLock a true u4 = u5 at l5 s5 w5 r5 o5 t5
  have o6 : Only [.regs] u5 (raiseAt .linkUp (a / 2) u5) := only_raise_regs (by decide) _ _ _
  have c6 : Caused (raiseAt .linkUp (a / 2) u5) .linkUp (a / 2) := caused_raise _ (by omega) _ _
  have r6 : RegsOnly (· = 0x010200 + 8 * (a / 2)) u5 (raiseAt .linkUp (a / 2) u5) := by
    rw [raiseAt_none rfl]
    exact regsOnly_wr _ _ rfl
  generalize raiseAt .linkUp (a / 2) u5 = t at o6 c6 r6
  have hne : ¬ oPtStatus (a / 2) = 0x010200 + 8 * (a / 2) := by
    unfold oPtStatus portBase
    omega
  have hst : RegsOnly (· = oPtStatus (a / 2)) s u5 := r1.trans (r2.trans (r3.trans ((regsOnly_of_regs h4.regs).trans r5)))
  have hr : RegsOnly (UpReg a) s t := (hst.mono fun _ h => .inl h).trans (r6.mono fun _ h => .inr h)
  refine ⟨?_, ?_, ?_, ?_, c6, hr, ?_⟩
  · rw [linkState_regs r6 hne, s5, linkState_congr h4.regs, s3, s2]
  · rw [linkWidth_regs r6 hne, w5, linkWidth_congr h4.regs, w3]
  · rw [linkTrained, linkLanes_regs hr (not_upReg_cfg a), rdf, r6 _ hne]
    rw [rdf] at t5
    rw [t5, BitVec.toNat_ofNat]
    exact Nat.mod_eq_of_lt (lt_of_lt_of_le (Nat.mod_lt _ (by positivity)) (Nat.pow_le_pow_right (by decide) hln))
  · rw [linkOf_congr o6.links, l5, l4]
  · exact (o1.mono (by simp)).trans ((o2.mono (by simp)).trans ((o3.mono (by simp)).trans ((h4.mono (by simp)).trans
      ((o5.mono (by simp)).trans (o6.mono (by simp))))))

/-- Registers that ask for a replay, apart from those of a link's state. -/
theorem Asked.state {a : Nat} {fr : BitVec 12} {n : Nat} {s t : State} (h : Asked a fr n s t) :
    linkState t a = linkState s a ∧ linkWidth t a = linkWidth s a ∧ linkTrained t a = linkTrained s a := by
  have h1 : ¬ oPtStatus (a / 2) = portBase (a / 2) + 0x48 := by
    unfold oPtStatus
    omega
  have h2 : ¬ oPtCfg (a / 2) = portBase (a / 2) + 0x48 := by
    unfold oPtCfg
    omega
  refine ⟨linkState_regs h.regs h1, linkWidth_regs h.regs h1, ?_⟩
  rw [linkTrained, linkTrained, linkLanes_regs h.regs h2, rdf, rdf, h.regs _ h1]

/-- A link whose width has shrunk, and any other. -/
theorem degraded_frame {a : Nat} (ha : a < 32) (c : Bool) (s : State) : let t := if c then raiseAt .degrade (a / 2) s else s
    (c = true → Caused t .degrade (a / 2)) ∧ (Caused s .linkUp (a / 2) → Caused t .linkUp (a / 2)) ∧
    RegsOnly (fun o => o = 0x010200 + 8 * (a / 2) ∨ o = 0x010020) s t ∧ Only [.regs] s t := by
  cases c with
  | false => exact ⟨fun h => absurd h Bool.false_ne_true, id, RegsOnly.refl _ s, Only.refl _ s⟩
  | true =>
    have ht : a / 2 < 32 := by omega
    show (_ → Caused (raise .degrade (a / 2) PsRec.none s) .degrade (a / 2)) ∧ (_ → Caused (raise .degrade (a / 2) PsRec.none s) .linkUp (a / 2)) ∧
      RegsOnly _ s (raise .degrade (a / 2) PsRec.none s) ∧ Only [.regs] s (raise .degrade (a / 2) PsRec.none s)
    exact ⟨fun _ => caused_raise _ ht PsRec.none s, fun h => caused_raise_of ht ht h,
      regsOnly_raise_ce (c := .degrade) rfl _ _ _, only_raise_ce (c := .degrade) (.inr rfl) _ _ _⟩

/-- The first request and replay of a recovery: the flits not acknowledged, after the request. -/
def recoveryReplay (a : Nat) (s : State) : State :=
  let u := askReplay a ((linkOf s a).rxAck + 1) s
  match (linkOf u a).replayBuf with
  | (q, _) :: _ => resend a q u
  | [] => u

/-- What a link that has recovered has sent. -/
structure Replayed (a : Nat) (s t : State) : Prop where
  sent : ∃ ccl cnt fl,
    t.tx = s.tx ++ .flit a (replayFlit ((linkOf s a).rxAck + 1) (linkOf s a).txSeq (linkOf s a).rxAck ccl cnt) :: fl ∧
    fl.length = min 30 (linkOf s a).replayBuf.length ∧
    (∀ i p, i < 30 → (linkOf s a).replayBuf[i]? = some p →
      ∃ c n, fl[i]? = some (.flit a (slotFlit p.1 (linkOf s a).rxAck c n p.2))) ∧
    (linkOf t a).jobs = ((linkOf s a).replayBuf.drop 30).map (fun p => .again p.1 p.2)
  lock : (linkOf t a).lock = (linkOf s a).lock
  replayBuf : (linkOf t a).replayBuf = (linkOf s a).replayBuf
  regs : RegsOnly (· = portBase (a / 2) + 0x48) s t
  only : Only [.regs, .links, .meter, .tx] s t

theorem recoveryReplay_sends {a : Nat} {s : State} (hw : (linkOf s a).want = none) (hp : (linkOf s a).pos = 0)
    (hj : (linkOf s a).jobs = []) (ht : rdf s (portBase (a / 2) + 0x18) 16 4 ≠ 0) : Replayed a s (recoveryReplay a s) := by
  have hif : (if (linkOf s a).want = some ((linkOf s a).rxAck + 1) then (linkOf s a).tries else 0) = 0 :=
    if_neg (by rw [hw]; exact fun h => by cases h)
  have h1 := askReplay_asks (a := a) (fr := (linkOf s a).rxAck + 1) (s := s) (by rw [hif]; omega)
  unfold recoveryReplay
  dsimp only
  generalize askReplay a ((linkOf s a).rxAck + 1) s = u at h1
  obtain ⟨ccl, cnt, htx⟩ := h1.requested.1 (by omega)
  obtain ⟨hpos, hjobs⟩ := h1.sent (by omega)
  rw [hp] at hpos
  rw [hj] at hjobs
  have hbuf : (linkOf u a).replayBuf = (linkOf s a).replayBuf := h1.replayBuf
  have hack : (linkOf u a).rxAck = (linkOf s a).rxAck := h1.rxAck
  have hlock : (linkOf u a).lock = (linkOf s a).lock := h1.lock
  rw [hbuf]
  cases hb : (linkOf s a).replayBuf with
  | nil =>
    refine ⟨⟨ccl, cnt, [], htx, ?_, fun i p _ hip => ?_, ?_⟩, hlock, hbuf, h1.regs, h1.only⟩
    · rw [hb]
      rfl
    · rw [hb] at hip
      cases hip
    · rw [hb]
      exact hjobs
  | cons q l =>
    obtain ⟨q, l1⟩ := q
    obtain ⟨⟨fl, e1, e2, e3, e4⟩, fm, hO, -⟩ := resend_sends (a := a) (fr := q) (s := u) (by rw [hjobs]; exact fun j h => absurd h List.not_mem_nil)
    have hdw : (linkOf u a).replayBuf.dropWhile (fun p => decide (p.1 ≠ q)) = (linkOf s a).replayBuf := by
      rw [hbuf, hb, List.dropWhile_cons_of_neg (by simp)]
    rw [hdw, hpos] at e2 e3 e4
    rw [hack] at e3
    dsimp only
    generalize resend a q u = t at e1 e2 e3 e4 hO
    exact ⟨⟨ccl, cnt, fl, by rw [e1, htx, List.append_assoc]; rfl, e2, e3, e4⟩, (Link.still_lock hO.still).trans hlock,
      (Link.still_replayBuf hO.still).trans hbuf, h1.regs.trans (regsOnly_of_regs hO.only.regs), h1.only.trans (hO.only.mono (by simp))⟩

/-! ### Training (R297) -/

/-- What a link that comes UP after training keeps of its agent: attached anew, with its first credits. -/
def trainedLink (zcl : Bool) (l : Link) : Link := { l with attached := true, vol := false, cumSnp := if zcl then 0 else 4 }

theorem linkUp_up {a b w : Nat} {lanes : BitVec 8} {s : State} (ha : a < 32) (hs : asleep s = false) (hst : linkState s a = 1)
    (hg : laneGroup (linkLanes s a) lanes = some (b, w)) (hw : minWidth s a ≤ w)
    (ht : isZcl s a = true → rdf s (portBase (a / 2) + 0x18) 16 4 ≠ 0) :
    ∃ t, exec (.linkUp a lanes) s = .next t ∧ linkState t a = 2 ∧ detached t a = false ∧ linkWidth t a = widthCode w ∧
      (linkTrained t a).toNat = lanes.toNat % 2 ^ linkLanes s a ∧ (linkOf t a).lock = true ∧
      (linkOf t a).epoch = (linkOf s a).epoch ∧ (linkOf t a).replayBuf = [] ∧ Caused t .linkUp (a / 2) ∧
      (isZcl s a = true → (linkOf t a).want = some 0 ∧
        ∃ ccl cnt, t.tx = s.tx ++ [.flit a (replayFlit 0 0 0xFFF ccl cnt)]) ∧
      (isZcl s a = false → t.tx = s.tx) ∧ Only [.regs, .links, .meter, .tx, .xbar] s t := by
  have hok : okAgent a = true := decide_eq_true ha
  have h1 := clearLink_clears a s
  have he : opLinkUp a lanes s =
      let v := broughtUp a w lanes (trainedLink (isZcl (setWidth a (widthCode w) (setTrained a lanes (setLinkState a 2 (clearLink a s)))) a))
        (clearLink a s)
      if isZcl v a then askReplay a ((linkOf v a).rxAck + 1) v else v := by
    unfold opLinkUp
    rw [if_neg (not_not.2 hst), hg]
    exact if_neg (Nat.not_lt.2 hw)
  dsimp only at he
  generalize isZcl (setWidth a (widthCode w) (setTrained a lanes (setLinkState a 2 (clearLink a s)))) a = z at he
  generalize clearLink a s = u at h1 he
  have h2 := broughtUp_shows ha w lanes (trainedLink z) u
  generalize broughtUp a w lanes (trainedLink z) u = v at h2 he
  have hreg : RegsOnly (UpReg a) s v := (h1.regs.mono fun _ h => .inl h).trans h2.regs
  have hlanes : linkLanes u a = linkLanes s a := linkLanes_regs h1.regs (oPtCfg_ne_status _ _)
  have htr := h2.trained
  rw [hlanes] at htr
  rw [isZcl_regs hreg (not_upReg_cfg a)] at he
  have hl : linkOf v a = { trainedLink z (clearedLink (linkOf s a)) with lock := true } := h2.link.trans (by rw [h1.link])
  have hO : Only [.regs, .links, .meter, .tx, .xbar] s v := (h1.only.mono (by simp)).trans (h2.only.mono (by simp))
  have hvt : v.tx = s.tx := h2.only.tx.trans h1.only.tx
  cases hz : isZcl s a with
  | false =>
    rw [hz, if_neg Bool.false_ne_true] at he
    exact ⟨v, exec_live hok hs he hO.pending hO.aon, h2.state, by rw [detached, hl]; rfl, h2.width, htr, by rw [hl], by rw [hl]; rfl,
      by rw [hl]; rfl, h2.caused, fun h => absurd h Bool.false_ne_true, fun _ => hvt, hO⟩
  | true =>
    rw [hz, if_pos rfl] at he
    have hack : (linkOf v a).rxAck = 0xFFF := by rw [hl]; rfl
    have hseq : (linkOf v a).txSeq = 0 := by rw [hl]; rfl
    have hpos : (linkOf v a).pos = 0 := by rw [hl]; rfl
    have hwant : (linkOf v a).want = none := by rw [hl]; rfl
    have hfr : (linkOf v a).rxAck + 1 = 0 := by rw [hack]; rfl
    have htries : rdf v (portBase (a / 2) + 0x18) 16 4 = rdf s (portBase (a / 2) + 0x18) 16 4 := by
      rw [rdf, hreg _ (by unfold UpReg oPtStatus portBase; omega), rdf]
    have hif : (if (linkOf v a).want = some (0 : BitVec 12) then (linkOf v a).tries else 0) = 0 :=
      if_neg (by rw [hwant]; exact fun h => by cases h)
    have h3 := askReplay_asks (a := a) (fr := 0) (s := v) (by rw [hif, htries]; exact Nat.pos_of_ne_zero (ht hz))
    rw [hfr] at he
    generalize askReplay a 0 v = t at h3 he
    obtain ⟨ccl, cnt, htx⟩ := h3.requested.1 (by omega)
    rw [hseq, hack, hvt] at htx
    obtain ⟨k1, k2, k3⟩ := h3.state
    have hO' : Only [.regs, .links, .meter, .tx, .xbar] s t := hO.trans (h3.only.mono (by simp))
    exact ⟨t, exec_live hok hs he hO'.pending hO'.aon, k1.trans h2.state, by rw [detached, h3.attached, hl]; rfl, k2.trans h2.width,
      by rw [k3, htr], by rw [h3.lock, hl], by rw [h3.epoch, hl]; rfl, by rw [h3.replayBuf, hl]; rfl,
      h2.caused.keep h3.regs (by have := (causeReg_range (c := .linkUp) (u := a / 2) (by omega)).2; unfold portBase; omega),
      fun _ => ⟨h3.want, ccl, cnt, htx⟩, fun h => absurd h.symm Bool.false_ne_true, hO'⟩

/-! ### Training or recovery that lasts too long (R297, R298) -/

theorem enterDown_down {a : Nat} {s : State} (ha : a < 32) (hc : s.dev.ctxs = []) (hl : s.home.latent = []) (hb : s.dev.byRule = false) :
    let t := enterDown a s
    LinkLeft s t a 4 ∧ Caused t .portDown (a / 2) ∧ rd t 0x010028 = satInc32 (rd s 0x010028) ∧
      Only [.regs, .links, .home, .sheet, .xbar] s t := by
  unfold enterDown
  have hu : a / 2 < 32 := by omega
  have h1 := caused_raise .portDown hu (unitRec (a / 2) 1 (a % 2) 4) s
  have h2 := rd_raise_counter (c := .portDown) (o := 0x010028) rfl hu (unitRec (a / 2) 1 (a % 2) 4) s
  have o1 : Only [.regs] s (raise .portDown (a / 2) (unitRec (a / 2) 1 (a % 2) 4) s) := only_raise_regs (by decide) _ _ _
  generalize raise .portDown (a / 2) (unitRec (a / 2) 1 (a % 2) 4) s = u at h1 h2 o1
  have h3 := leaveService_left (a := a) (st := 4) (s := u) (by decide) (by rw [o1.dev, hc]) (by rw [o1.home, hl]) (by rw [o1.dev, hb])
  generalize leaveService a 4 u = t at h3
  have hhi := oPtStatus_high (a / 2)
  have hrange := (causeReg_range (c := .portDown) hu).2
  exact ⟨h3.left.from (linkOf_congr o1.links a), h1.keep h3.regs (by omega), by rw [h3.regs _ (by omega), h2],
    (o1.mono (by simp)).trans h3.only⟩

theorem link_timeouts {a : Nat} {s : State} (ha : a < 32) (hs : asleep s = false) (hc : s.dev.ctxs = []) (hl : s.home.latent = [])
    (hb : s.dev.byRule = false) : ∀ p ∈ [(Instr.trainingTimeout a, 1), (.recoveryTimeout a, 3)], linkState s a = p.2 →
      ∃ t, exec p.1 s = .next t ∧ LinkLeft s t a 4 ∧ Caused t .portDown (a / 2) ∧
        rd t 0x010028 = satInc32 (rd s 0x010028) ∧ Only [.regs, .links, .home, .sheet, .xbar] s t := by
  have hok : okAgent a = true := decide_eq_true ha
  obtain ⟨h1, h2, h3, h4⟩ := enterDown_down ha hc hl hb
  have hgo : ∀ f : State → State, f s = enterDown a s → onUnit (okAgent a) (live f) s = .next (enterDown a s) :=
    fun f hf => exec_live hok hs hf h4.pending h4.aon
  intro p hp hst
  simp only [List.mem_cons, List.not_mem_nil, or_false] at hp
  rcases hp with rfl | rfl
  · exact ⟨_, hgo (opTrainingTimeout a) (if_pos hst), h1, h2, h3, h4⟩
  · exact ⟨_, hgo (opRecoveryTimeout a) (if_pos hst), h1, h2, h3, h4⟩

/-! ### A recovery that locks (R298) -/

/-- A link that is UP again: its receiver and its positions begin anew. -/
def recoveredLink (l : Link) : Link := { l with want := none, misses := 0, crcRun := 0, tries := 0, pos := 0, jobs := [] }

theorem recoveryLock_up {a b w : Nat} {lanes : BitVec 8} {s : State} (ha : a < 32) (hs : asleep s = false) (hst : linkState s a = 3)
    (hg : laneGroup (linkLanes s a) (if (linkOf s a).widen then lanes else lanes &&& linkTrained s a) = some (b, w))
    (hw : minWidth s a ≤ w) (ht : isZcl s a = true → rdf s (portBase (a / 2) + 0x18) 16 4 ≠ 0) :
    let k := linkOf s a
    ∃ t, exec (.recoveryLock a lanes) s = .next t ∧ linkState t a = 2 ∧ linkWidth t a = widthCode w ∧
      (linkOf t a).lock = true ∧ (linkOf t a).replayBuf = k.replayBuf ∧ Caused t .linkUp (a / 2) ∧
      (widthCode w < linkWidth s a → Caused t .degrade (a / 2)) ∧
      (isZcl s a = true → ∃ ccl cnt fl,
        t.tx = s.tx ++ .flit a (replayFlit (k.rxAck + 1) k.txSeq k.rxAck ccl cnt) :: fl ∧
        fl.length = min 30 k.replayBuf.length ∧
        (∀ i p, i < 30 → k.replayBuf[i]? = some p → ∃ c n, fl[i]? = some (.flit a (slotFlit p.1 k.rxAck c n p.2))) ∧
        (linkOf t a).jobs = (k.replayBuf.drop 30).map (fun p => .again p.1 p.2)) ∧
      (isZcl s a = false → t.tx = s.tx) ∧ Only [.regs, .links, .meter, .tx] s t := by
  intro k
  have hok : okAgent a = true := decide_eq_true ha
  have hu : a / 2 < 32 := by omega
  generalize hln : (if (linkOf s a).widen then lanes else lanes &&& linkTrained s a) = ln at hg
  have he : opRecoveryLock a lanes s =
      let v := broughtUp a w ln recoveredLink s
      let v := if decide (widthCode w < linkWidth s a) then raiseAt .degrade (a / 2) v else v
      if isZcl v a then recoveryReplay a v else v := by
    unfold opRecoveryLock
    rw [if_neg (not_not.2 hst)]
    dsimp only
    rw [hln, hg]
    exact if_neg (Nat.not_lt.2 hw)
  dsimp only at he
  have h1 := broughtUp_shows ha w ln recoveredLink s
  generalize broughtUp a w ln recoveredLink s = u at h1 he
  obtain ⟨d1, d2, d3, d4⟩ := degraded_frame ha (decide (widthCode w < linkWidth s a)) u
  generalize (if decide (widthCode w < linkWidth s a) then raiseAt .degrade (a / 2) u else u) = v at d1 d2 d3 d4 he
  have hup := d2 h1.caused
  have hreg : RegsOnly (fun o => UpReg a o ∨ o = 0x010020) s v :=
    (h1.regs.mono fun _ h => .inl h).trans (d3.mono fun _ h => h.imp .inr id)
  have hhi := oPtStatus_high (a / 2)
  rw [isZcl_regs hreg (by unfold UpReg oPtStatus oPtCfg portBase; omega)] at he
  have hl : linkOf v a = { recoveredLink (linkOf s a) with lock := true } := (linkOf_congr d4.links a).trans h1.link
  have hstate : linkState v a = 2 := (linkState_regs d3 (by omega)).trans h1.state
  have hwidth : linkWidth v a = widthCode w := (linkWidth_regs d3 (by omega)).trans h1.width
  have hO : Only [.regs, .links] s v := h1.only.trans (d4.mono (by simp))
  cases hz : isZcl s a with
  | false =>
    rw [hz, if_neg Bool.false_ne_true] at he
    exact ⟨v, exec_live hok hs he hO.pending hO.aon, hstate, hwidth, by rw [hl], by rw [hl]; rfl, hup, fun h => d1 (decide_eq_true h),
      fun h => absurd h Bool.false_ne_true, fun _ => hO.tx, hO.mono (by simp)⟩
  | true =>
    rw [hz, if_pos rfl] at he
    have hbuf : (linkOf v a).replayBuf = k.replayBuf := by rw [hl]; rfl
    have hack : (linkOf v a).rxAck = k.rxAck := by rw [hl]; rfl
    have hseq : (linkOf v a).txSeq = k.txSeq := by rw [hl]; rfl
    have htries : rdf v (portBase (a / 2) + 0x18) 16 4 = rdf s (portBase (a / 2) + 0x18) 16 4 := by
      rw [rdf, hreg _ (by unfold UpReg oPtStatus portBase; omega), rdf]
    have h3 := recoveryReplay_sends (a := a) (s := v) (by rw [hl]; rfl) (by rw [hl]; rfl) (by rw [hl]; rfl) (by rw [htries]; exact ht hz)
    generalize recoveryReplay a v = t at h3 he
    have hsent := h3.sent
    rw [hbuf, hack, hseq, hO.tx] at hsent
    have hO' : Only [.regs, .links, .meter, .tx] s t := (hO.mono (by simp)).trans h3.only
    have hlow : ¬ oPtStatus (a / 2) = portBase (a / 2) + 0x48 := by
      unfold oPtStatus
      omega
    have hcause : ∀ c : Cause, ¬ causeReg c.domain (a / 2) = portBase (a / 2) + 0x48 := fun c h => by
      have := (causeReg_range (c := c) hu).2
      unfold portBase at h
      omega
    exact ⟨t, exec_live hok hs he hO'.pending hO'.aon, (linkState_regs h3.regs hlow).trans hstate,
      (linkWidth_regs h3.regs hlow).trans hwidth, by rw [h3.lock, hl], h3.replayBuf.trans hbuf, hup.keep h3.regs (hcause _),
      fun h => (d1 (decide_eq_true h)).keep h3.regs (hcause _), fun _ => hsent, fun h => absurd h.symm Bool.false_ne_true, hO'⟩

/-- Settles O51: the commands of a link by the state they find, and training and recovery, each by the one way a link comes up or
leaves service. -/
theorem linkStates : Obligations.LinkStates :=
  ⟨link_commands, fun _ _ _ ha _ hs hc hl hb => ⟨fun _ _ h1 h2 h3 h4 => linkUp_up ha hs h1 h2 h3 h4, link_timeouts ha hs hc hl hb,
    fun _ _ h1 h2 h3 h4 => recoveryLock_up ha hs h1 h2 h3 h4⟩⟩

end Sys2Proof.Machine
end

section
/-! PROOFS. Flits received: their checks and counts, acknowledgements, replays and slots (R285, R287, R295, R296). -/

namespace Sys2Proof.Machine

/-! ### Corrected symbols (R295) -/

/-- The registers in which a port counts symbols corrected. -/
def FecReg (a o : Nat) : Prop :=
  o = portBase (a / 2) + 0x40 ∨ portBase (a / 2) + 0x100 ≤ o ∧ o < portBase (a / 2) + 0x140

theorem laneGroup_within {s : State} {a b w : Nat} {lanes : BitVec 8} (h : laneGroup (linkLanes s a) lanes = some (b, w)) :
    0 < w ∧ b + w ≤ linkLanes s a := by
  have hm := List.mem_of_find?_eq_some h
  have hall : ∀ n ∈ [4, 8], ∀ g ∈ laneGroups n, 0 < g.2 ∧ g.1 + g.2 ≤ n := by decide
  refine hall _ ?_ _ hm
  unfold linkLanes
  split <;> simp

theorem portLane_lt (s : State) (a : Nat) {j : Nat} (h : j < 8) : portLane s a j < 16 := by
  have h1 := laneBase_le a
  have h2 := linkLanes_le s a
  unfold portLane
  split <;> omega

/-- Symbols counted: lane counters move, and nothing that a flit's slots or replays turn on. -/
structure Counted (a : Nat) (s t : State) : Prop where
  link : ∃ x, linkOf t a = { linkOf s a with laneErrs := x }
  regs : RegsOnly (FecReg a) s t
  noCounter : NoCounter s → NoCounter t
  only : Only [.regs, .links] s t

theorem Counted.refl (a : Nat) (s : State) : Counted a s s := ⟨⟨_, rfl⟩, RegsOnly.refl _ s, id, Only.refl _ s⟩

theorem Counted.trans {a : Nat} {s t u : State} (h : Counted a s t) (g : Counted a t u) : Counted a s u := by
  obtain ⟨x, hx⟩ := h.link
  obtain ⟨y, hy⟩ := g.link
  exact ⟨⟨y, by rw [hy, hx]⟩, h.regs.trans g.regs, fun hn => g.noCounter (h.noCounter hn), h.only.trans g.only⟩

theorem counted_wr {a o : Nat} (ha : a < 32) (ho : FecReg a o) (v : W64) (s : State) : Counted a s (wr s o v) := by
  refine ⟨⟨_, rfl⟩, regsOnly_wr _ _ ho, fun hn => hn.wr ?_, (only_wr _ _ _).mono (by simp)⟩
  have h1 : o < 0x341000 := by
    unfold FecReg portBase at ho
    omega
  unfold inRow
  rw [decide_eq_false (Nat.not_le.2 h1)]
  rfl

theorem counted_laneErrs (a : Nat) (f : Sparse Nat → Sparse Nat) (s : State) :
    Counted a s (setLink a (fun l => { l with laneErrs := f l.laneErrs }) s) :=
  have h := only_setLink a (fun l => { l with laneErrs := f l.laneErrs }) s
  ⟨⟨_, linkOf_setLink_same a _ s⟩, regsOnly_of_regs h.regs, (noCounter_congr h.regs).2, h.mono (by simp)⟩

/-- One symbol corrected on lane `j`. -/
def countSymbol (a j : Nat) (s : State) : State :=
  let o := portBase (a / 2) + 0x100 + 4 * portLane s a j
  setLink a (fun l => { l with laneErrs := sUpd 0 l.laneErrs j (fun n => min 0xFFFF (n + 1)) })
    (wrf s o 16 16 (min 0xFFFF (rdf s o 16 16 + 1)))

theorem countSymbol_counts {a j : Nat} (ha : a < 32) (hj : j < 8) (s : State) : Counted a s (countSymbol a j s) := by
  have hp := portLane_lt s a hj
  exact (counted_wr ha (.inr (by omega)) _ s).trans (counted_laneErrs a (fun e => sUpd 0 e j (fun n => min 0xFFFF (n + 1))) _)

theorem countLanes_counts {a : Nat} (ha : a < 32) (fixed : List Nat) (s : State) : Counted a s (countLanes a fixed s) := by
  unfold countLanes
  split
  next b w hg =>
    obtain ⟨h1, h2⟩ := laneGroup_within hg
    have h3 : b + w ≤ 8 := le_trans h2 (linkLanes_le s a)
    clear hg h2
    show Counted a s (fixed.foldl (fun s i => countSymbol a (b + i % w) s) s)
    induction fixed generalizing s with
    | nil => exact Counted.refl a s
    | cons i l ih =>
      have hi := Nat.mod_lt i h1
      exact (countSymbol_counts ha (by omega) s).trans (ih _)
  next => exact Counted.refl a s

theorem countFec_counts {a : Nat} (ha : a < 32) (fixed : List Nat) (s : State) : Counted a s (countFec a fixed s) := by
  unfold countFec
  split
  · exact Counted.refl a s
  · exact (counted_wr ha (.inl rfl) _ s).trans (countLanes_counts ha _ _)

/-! ### A flit that passes its checks -/

/-- The acknowledgement and the snoop credits of a flit whose header is `h`, on a link whose run of failures has ended. -/
def flitTaken (a : Nat) (h : BitVec 32) (s : State) : State :=
  addSnp a (fld h 26 2) (fld h 28 4) (freeReplay a (BitVec.ofNat 12 (fld h 12 12)) (setLink a (fun l => { l with crcRun := 0 }) s))

/-- A link that has taken a flit's header. -/
def takenLink (h : BitVec 32) (l : Link) : Link :=
  { l with
    crcRun := 0
    replayBuf := l.replayBuf.filter (fun p => decide (2048 ≤ seqBehind (BitVec.ofNat 12 (fld h 12 12)) p.1))
    cumSnp := if fld h 26 2 = 2 then (l.cumSnp + fld h 28 4) % 2 ^ 16 else l.cumSnp }

/-- A link that has heard an acknowledgement. -/
def ackedLink (ack : BitVec 12) (l : Link) : Link :=
  { l with replayBuf := l.replayBuf.filter (fun p => decide (2048 ≤ seqBehind ack p.1)) }

theorem flitTaken_frame (a : Nat) (h : BitVec 32) (s : State) :
    linkOf (flitTaken a h s) a = takenLink h (linkOf s a) ∧ Only [.links] s (flitTaken a h s) := by
  have h1 := only_setLink a (fun l => { l with crcRun := 0 }) s
  have l1 := linkOf_setLink_same a (fun l => { l with crcRun := 0 }) s
  unfold flitTaken
  generalize setLink a (fun l => { l with crcRun := 0 }) s = u at h1 l1
  have h2 : Only [.links] u (freeReplay a (BitVec.ofNat 12 (fld h 12 12)) u) := only_setLink _ _ _
  have l2 : linkOf (freeReplay a (BitVec.ofNat 12 (fld h 12 12)) u) a = ackedLink (BitVec.ofNat 12 (fld h 12 12)) (linkOf u a) :=
    linkOf_setLink_same _ _ _
  generalize freeReplay a (BitVec.ofNat 12 (fld h 12 12)) u = v at h2 l2
  unfold addSnp takenLink
  split
  · exact ⟨by rw [linkOf_setLink_same, l2, l1]; rfl, (h1.trans h2).trans (only_setLink _ _ _)⟩
  · exact ⟨by rw [l2, l1]; rfl, h1.trans h2⟩

/-! ### A flit that fails its checks (R295) -/

/-- The counts of a flit that failed its checks. -/
structure CrcCounted (a : Nat) (s t : State) : Prop where
  link : linkOf t a = { linkOf s a with crcRun := (linkOf s a).crcRun + 1 }
  caused : Caused t .crcErr (a / 2)
  count : rd t (portBase (a / 2) + 0x44) = satInc32 (rd s (portBase (a / 2) + 0x44))
  regs : RegsOnly (fun o => o = portBase (a / 2) + 0x44 ∨ o < 0x100000) s t
  only : Only [.regs, .links, .meter] s t

/-- A flit that failed its checks is counted. -/
def crcCount (a : Nat) (s : State) : State :=
  let o := portBase (a / 2) + 0x44
  setLink a (fun l => { l with crcRun := l.crcRun + 1 })
    (raiseAt .crcErr (a / 2) (statAdd 0x100 3 (a / 2) 1 (wr s o (satInc32 (rd s o)))))

theorem crcCount_counts {a : Nat} (ha : a < 32) (s : State) : CrcCounted a s (crcCount a s) := by
  have hu : a / 2 < 32 := by omega
  unfold crcCount
  have h1 := only_wr s (portBase (a / 2) + 0x44) (satInc32 (rd s (portBase (a / 2) + 0x44)))
  have v1 := rd_wr_same s (portBase (a / 2) + 0x44) (satInc32 (rd s (portBase (a / 2) + 0x44)))
  have r1 : RegsOnly (· = portBase (a / 2) + 0x44) s (wr s (portBase (a / 2) + 0x44) (satInc32 (rd s (portBase (a / 2) + 0x44)))) :=
    regsOnly_wr _ _ rfl
  dsimp only
  generalize wr s (portBase (a / 2) + 0x44) (satInc32 (rd s (portBase (a / 2) + 0x44))) = u at h1 v1 r1
  have h2 : Only [.meter] u (statAdd 0x100 3 (a / 2) 1 u) := by simp [only_iff, statAdd]
  generalize statAdd 0x100 3 (a / 2) 1 u = v at h2
  have c3 : Caused (raiseAt .crcErr (a / 2) v) .crcErr (a / 2) := caused_raise .crcErr hu PsRec.none v
  have h3 : Only [.regs] v (raiseAt .crcErr (a / 2) v) := only_raise_ce (.inr rfl) _ _ _
  have r3 : RegsOnly (· < 0x100000) v (raiseAt .crcErr (a / 2) v) :=
    (regsOnly_raise_ce (c := .crcErr) rfl (a / 2) PsRec.none v).mono fun o ho => by
      have := (causeReg_range (c := .crcErr) hu).2
      omega
  generalize raiseAt .crcErr (a / 2) v = w at c3 h3 r3
  have h4 := only_setLink a (fun l => { l with crcRun := l.crcRun + 1 }) w
  refine ⟨?_, (caused_congr h4.regs _ _).2 c3, ?_, ?_, ?_⟩
  · rw [linkOf_setLink_same, linkOf_congr h3.links, linkOf_congr h2.links, linkOf_congr h1.links]
  · rw [rd_congr h4.regs, r3 _ (by unfold portBase; omega), rd_congr h2.regs, v1]
  · exact (r1.mono fun _ h => .inl h).trans ((regsOnly_of_regs h2.regs).trans ((r3.mono fun _ h => .inr h).trans (regsOnly_of_regs h4.regs)))
  · exact (h1.mono (by simp)).trans ((h2.mono (by simp)).trans ((h3.mono (by simp)).trans (h4.mono (by simp))))

/-- A link that has lost lock. -/
def unlockedLink (l : Link) : Link := { l with candidates := [], misses := 0, crcRun := 0, lock := false }

theorem loseLock_frame (a : Nat) (s : State) : let t := loseLock a s
    linkOf t a = unlockedLink (linkOf s a) ∧ (∀ b, linkState t b = linkState s b) ∧ RegsOnly (· = oPtStatus (a / 2)) s t ∧
      Only [.regs, .links] s t := by
  have h1 := only_setLink a (fun l => { l with candidates := [], misses := 0, crcRun := 0 }) s
  have l1 := linkOf_setLink_same a (fun l => { l with candidates := [], misses := 0, crcRun := 0 }) s
  unfold loseLock
  generalize setLink a (fun l => { l with candidates := [], misses := 0, crcRun := 0 }) s = u at h1 l1
  obtain ⟨l2, -, s2, -, r2, o2⟩ := setLock_frame a false u
  exact ⟨by rw [l2, l1]; rfl, fun b => (s2 b).trans (linkState_congr h1.regs b), (regsOnly_of_regs h1.regs).trans r2,
    (h1.mono (by simp)).trans o2⟩

/-- Failures in a row cost the receiver its lock (R290, R295). -/
def loseLockIf (c : Prop) [Decidable c] (a : Nat) (s : State) : State := if c then loseLock a s else s

/-- What a link keeps where it may have lost lock. -/
structure LockKept (c : Prop) [Decidable c] (a : Nat) (s t : State) : Prop where
  lock : (linkOf t a).lock = ((linkOf s a).lock && !decide c)
  rxSeq : (linkOf t a).rxSeq = (linkOf s a).rxSeq
  rxAck : (linkOf t a).rxAck = (linkOf s a).rxAck
  slots : (linkOf t a).slots = (linkOf s a).slots
  want : (linkOf t a).want = (linkOf s a).want
  tries : (linkOf t a).tries = (linkOf s a).tries
  jobs : (linkOf t a).jobs = (linkOf s a).jobs
  state : linkState t a = linkState s a
  regs : RegsOnly (· = oPtStatus (a / 2)) s t
  only : Only [.regs, .links] s t

theorem loseLockIf_keeps (c : Prop) [Decidable c] (a : Nat) (s : State) : LockKept c a s (loseLockIf c a s) := by
  unfold loseLockIf
  by_cases h : c
  · rw [if_pos h]
    obtain ⟨h1, h2, h3, h4⟩ := loseLock_frame a s
    generalize loseLock a s = t at h1 h2 h3 h4
    refine ⟨?_, by rw [h1]; rfl, by rw [h1]; rfl, by rw [h1]; rfl, by rw [h1]; rfl, by rw [h1]; rfl, by rw [h1]; rfl, h2 a, h3, h4⟩
    rw [decide_eq_true h, Bool.not_true, Bool.and_false, h1]
    rfl
  · rw [if_neg h]
    exact ⟨by rw [decide_eq_false h, Bool.not_false, Bool.and_true], rfl, rfl, rfl, rfl, rfl, rfl, rfl, RegsOnly.refl _ s, Only.refl _ s⟩

end Sys2Proof.Machine
end

section
/-! PROOFS. What a link does with the flits it receives, and with requests for replays (R285, R287, R290, R295, R296). -/

namespace Sys2Proof.Machine

/-! ### Requests and replays seen from an earlier state -/

theorem Requested.congr {s u v t : State} {a : Nat} {fr ack : BitVec 12} (h : Requested u v a fr ack) (h1 : u.tx = s.tx)
    (h2 : (linkOf u a).pos = (linkOf s a).pos) (h3 : (linkOf u a).jobs = (linkOf s a).jobs)
    (h4 : (linkOf u a).txSeq = (linkOf s a).txSeq) (h5 : t.tx = v.tx) (h6 : (linkOf t a).jobs = (linkOf v a).jobs) :
    Requested s t a fr ack := by
  obtain ⟨g1, g2⟩ := h
  rw [h1, h2, h4, ← h5] at g1
  rw [h1, h2, h3, ← h5, ← h6] at g2
  exact ⟨g1, g2⟩

theorem Resent.from {s u t : State} {a : Nat} {l : List (BitVec 12 × List (BitVec 128))} (h : Resent u t a l) (h1 : u.tx = s.tx)
    (h2 : (linkOf u a).pos = (linkOf s a).pos) (h3 : (linkOf u a).rxAck = (linkOf s a).rxAck) : Resent s t a l := by
  obtain ⟨fl, g1, g2, g3, g4⟩ := h
  rw [h1] at g1
  rw [h2] at g2 g3 g4
  rw [h3] at g3
  exact ⟨fl, g1, g2, g3, g4⟩

/-! ### LOCK_TIMEOUT, REPLAY and REPLAY_TIMEOUT -/

section
variable {a : Nat} {s : State} (ha : a < 32) (hs : asleep s = false) (hst : linkState s a = 2)
include ha hs hst

theorem lockTimeout_recovers (hz : isZcl s a = true) (hl : (linkOf s a).lock = false) :
    ∃ t, exec (.lockTimeout a) s = .next t ∧ linkState t a = 3 ∧ (linkOf t a).replayBuf = (linkOf s a).replayBuf ∧
      Only [.regs, .links] s t ∧ RegsOnly (· = oPtStatus (a / 2)) s t := by
  obtain ⟨h1, h2, -, h3, h4⟩ := enterRecovery_frame a false s
  have he : opLockTimeout a s = enterRecovery a false s := if_pos (by rw [zclUp, hz, hst, hl]; rfl)
  exact ⟨_, exec_live (f := opLockTimeout a) (decide_eq_true ha) hs he h4.pending h4.aon, h1, by rw [h2]; rfl, h4, h3⟩

theorem replay_resends (fr : BitVec 12) (hz : isZcl s a = true) (hj : ∀ j ∈ (linkOf s a).jobs, ∃ q l, j = .again q l) :
    ∃ t, exec (.replay a fr) s = .next t ∧ Resent s t a ((linkOf s a).replayBuf.dropWhile (fun p => decide (p.1 ≠ fr))) ∧
      (linkOf t a).replayBuf = (linkOf s a).replayBuf ∧ Only [.links, .tx] s t := by
  obtain ⟨h1, fl, h2, -⟩ := resend_sends (fr := fr) hj
  have he : opReplay a fr s = resend a fr s := by
    unfold opReplay
    rw [if_neg (not_not.2 hst), if_pos hz]
  exact ⟨_, exec_live (f := opReplay a fr) (decide_eq_true ha) hs he h2.only.pending h2.only.aon, h1, Link.still_replayBuf h2.still, h2.only⟩

theorem replay_counts (fr : BitVec 12) (hz : isZcl s a = false) :
    exec (.replay a fr) s = .next (wr s (portBase (a / 2) + 0x48) (satInc32 (rd s (portBase (a / 2) + 0x48)))) := by
  have he : opReplay a fr s = wr s (portBase (a / 2) + 0x48) (satInc32 (rd s (portBase (a / 2) + 0x48))) := by
    unfold opReplay
    rw [if_neg (not_not.2 hst), if_neg (by rw [hz]; decide)]
  exact exec_live (f := opReplay a fr) (decide_eq_true ha) hs he rfl rfl

theorem replayTimeout_repeats {w : BitVec 12} (hz : isZcl s a = true) (hw : (linkOf s a).want = some w) :
    let k := linkOf s a
    let tries := rdf s (portBase (a / 2) + 0x18) 16 4
    (k.tries < tries →
      ∃ t, exec (.replayTimeout a) s = .next t ∧ Requested s t a w k.rxAck ∧ (linkOf t a).want = some w ∧
        (linkOf t a).tries = k.tries + 1 ∧ (linkOf t a).replayBuf = k.replayBuf ∧
        rd t (portBase (a / 2) + 0x48) = satInc32 (rd s (portBase (a / 2) + 0x48)) ∧
        Only [.regs, .links, .meter, .tx] s t) ∧
    (tries ≤ k.tries →
      ∃ t, exec (.replayTimeout a) s = .next t ∧ linkState t a = 3 ∧ (linkOf t a).lock = false ∧ t.tx = s.tx ∧
        Only [.regs, .links] s t) := by
  intro k tries
  have he : opReplayTimeout a s = askReplay a w s := by
    unfold opReplayTimeout
    dsimp only
    rw [hw]
    exact if_neg (by rw [zclUp, hz, hst]; exact Bool.false_ne_true)
  have hif : (if (linkOf s a).want = some w then (linkOf s a).tries else 0) = k.tries := if_pos hw
  have hgo : ∀ t, askReplay a w s = t → t.pending = s.pending → t.aon = s.aon → exec (.replayTimeout a) s = .next t :=
    fun t ht => exec_live (f := opReplayTimeout a) (decide_eq_true ha) hs (he.trans ht)
  refine ⟨fun h => ?_, fun h => ?_⟩
  · have h1 := askReplay_asks (a := a) (fr := w) (s := s) (by rw [hif]; exact h)
    have htr := h1.tries
    rw [hif] at htr
    exact ⟨_, hgo _ rfl h1.only.pending h1.only.aon, h1.requested, h1.want, htr, h1.replayBuf, h1.counted, h1.only⟩
  · obtain ⟨h1, h2, -, -, h4⟩ := enterRecovery_frame a false s
    exact ⟨_, hgo _ (askReplay_gives_up (by rw [hif]; exact h)) h4.pending h4.aon, h1, by rw [h2]; rfl, h4.tx, h4⟩

end

/-! ### FLIT_RECEIVE -/

/-- What a flit that passes its checks brings. -/
def flitBody (a : Nat) (bs : List Byte) (s : State) : State :=
  match flitKind bs with
  | .slots l => takeSlots a (BitVec.ofNat 12 (fld (BitVec.ofNat 32 (byteField bs 0 4)) 0 12)) l s
  | .replay fr => resend a fr s
  | _ => s

section
variable {a : Nat} {raw : List Byte} {s : State} (hz : zclUp s a = true) (hraw : raw.length = 256)
include hz hraw

theorem opFlitReceive_unlocked (hl : (linkOf s a).lock = false) :
    opFlitReceive a raw s = setLink a (fun l => { l with candidates := nextPosition l.candidates }) s := by
  unfold opFlitReceive
  rw [if_neg (by rw [hz, hraw]; decide), if_pos (by rw [hl]; rfl)]

theorem opFlitReceive_failed (hl : (linkOf s a).lock = true)
    (hf : crcGood (fecDecode raw).1 = false ∨ flitKind (fecDecode raw).1 = .bad) :
    opFlitReceive a raw s = crcFail a (countFec a (fecDecode raw).2 s) := by
  unfold opFlitReceive
  rw [if_neg (by rw [hz, hraw]; decide), if_neg (by rw [hl]; decide)]
  generalize fecDecode raw = p at hf ⊢
  obtain ⟨bs, fixed⟩ := p
  exact if_pos (by rcases hf with hf | hf <;> simp [hf])

theorem opFlitReceive_passed (hl : (linkOf s a).lock = true)
    (hf : ¬ (crcGood (fecDecode raw).1 = false ∨ flitKind (fecDecode raw).1 = .bad)) :
    opFlitReceive a raw s = flitBody a (fecDecode raw).1
      (flitTaken a (BitVec.ofNat 32 (byteField (fecDecode raw).1 0 4)) (countFec a (fecDecode raw).2 s)) := by
  unfold opFlitReceive
  rw [if_neg (by rw [hz, hraw]; decide), if_neg (by rw [hl]; decide)]
  generalize fecDecode raw = p at hf ⊢
  obtain ⟨bs, fixed⟩ := p
  exact if_neg (by simpa using hf)

end

/-- A flit that passes its checks has been counted and its header taken. -/
structure FlitHeard (a : Nat) (h : BitVec 32) (s t : State) : Prop where
  link : ∃ x, linkOf t a = takenLink h { linkOf s a with laneErrs := x }
  regs : RegsOnly (FecReg a) s t
  noCounter : NoCounter s → NoCounter t
  only : Only [.regs, .links] s t

theorem flitHeard {a : Nat} (ha : a < 32) (fixed : List Nat) (h : BitVec 32) (s : State) :
    FlitHeard a h s (flitTaken a h (countFec a fixed s)) := by
  have h1 := countFec_counts ha fixed s
  generalize countFec a fixed s = u at h1
  obtain ⟨l2, o2⟩ := flitTaken_frame a h u
  obtain ⟨x, hx⟩ := h1.link
  exact ⟨⟨x, by rw [l2, hx]⟩, h1.regs.trans (regsOnly_of_regs o2.regs), fun hn => noCounter_of (h1.noCounter hn) o2,
    h1.only.trans (o2.mono (by simp))⟩

/-- A flit that fails its checks: counted, and asked for again (R295, R296). -/
theorem crcFail_asks {a : Nat} {s v : State} (ha : a < 32) (hv : Counted a s v) (hl : (linkOf s a).lock = true) :
    let k := linkOf s a
    let tries := rdf s (portBase (a / 2) + 0x18) 16 4
    let asked := if k.want.isSome then k.tries else 0
    let t := crcFail a v
    Caused t .crcErr (a / 2) ∧ rd t (portBase (a / 2) + 0x44) = satInc32 (rd s (portBase (a / 2) + 0x44)) ∧
      (linkOf t a).rxSeq = k.rxSeq ∧ (linkOf t a).slots = k.slots ∧
      (asked < tries → Requested s t a (k.want.getD (k.rxSeq + 1)) k.rxAck ∧
        (linkOf t a).want = some (k.want.getD (k.rxSeq + 1)) ∧ (linkOf t a).tries = asked + 1 ∧
        (linkOf t a).lock = decide (k.crcRun + 1 < 8)) ∧
      (tries ≤ asked → t.tx = s.tx ∧ linkState t a = 3) ∧ Only [.regs, .links, .meter, .tx] s t := by
  intro k tries asked t
  have hu : a / 2 < 32 := by omega
  have he : t = (let q := askReplay a ((linkOf (crcCount a v) a).want.getD ((linkOf (crcCount a v) a).rxSeq + 1)) (crcCount a v)
      loseLockIf (8 ≤ (linkOf q a).crcRun) a q) := rfl
  dsimp only at he
  have h1 := crcCount_counts ha v
  generalize crcCount a v = w at h1 he
  obtain ⟨x, hx⟩ := hv.link
  have hlw : linkOf w a = { linkOf s a with laneErrs := x, crcRun := (linkOf s a).crcRun + 1 } := by rw [h1.link, hx]
  have hwant : (linkOf w a).want = k.want := by rw [hlw]
  have hseq : (linkOf w a).rxSeq = k.rxSeq := by rw [hlw]
  have htr : (linkOf w a).tries = k.tries := by rw [hlw]
  have hack : (linkOf w a).rxAck = k.rxAck := by rw [hlw]
  have hpos : (linkOf w a).pos = k.pos := by rw [hlw]
  have hjobs : (linkOf w a).jobs = k.jobs := by rw [hlw]
  have htxs : (linkOf w a).txSeq = k.txSeq := by rw [hlw]
  have hslots : (linkOf w a).slots = k.slots := by rw [hlw]
  have hlock : (linkOf w a).lock = true := by rw [hlw]; exact hl
  have hrun : (linkOf w a).crcRun = k.crcRun + 1 := by rw [hlw]
  have hO : Only [.regs, .links, .meter] s w := (hv.only.mono (by simp)).trans (h1.only.mono (by simp))
  rw [hwant, hseq] at he
  generalize hfr : k.want.getD (k.rxSeq + 1) = fr at he
  have hcount : rd w (portBase (a / 2) + 0x44) = satInc32 (rd s (portBase (a / 2) + 0x44)) := by
    rw [h1.count, hv.regs _ (by unfold FecReg; omega)]
  have htries : rdf w (portBase (a / 2) + 0x18) 16 4 = tries := by
    rw [rdf, h1.regs _ (by unfold portBase; omega), hv.regs _ (by unfold FecReg; omega)]
    rfl
  have hif : (if (linkOf w a).want = some fr then (linkOf w a).tries else 0) = asked := by
    rw [hwant, htr, ← hfr]
    show _ = if k.want.isSome then k.tries else 0
    cases hw : k.want with
    | none => rfl
    | some q => rw [Option.getD_some, if_pos rfl]; rfl
  have hrange := (causeReg_range (c := .crcErr) hu).2
  clear_value t
  by_cases hlt : asked < tries
  · have h2 := askReplay_asks (a := a) (fr := fr) (s := w) (by rw [hif, htries]; exact hlt)
    rw [hif] at h2
    generalize askReplay a fr w = q at h2 he
    have h3 := loseLockIf_keeps (8 ≤ (linkOf q a).crcRun) a q
    rw [← he] at h3
    have hO' : Only [.regs, .links, .meter, .tx] s t := (hO.mono (by simp)).trans (h2.only.trans (h3.only.mono (by simp)))
    refine ⟨(h1.caused.keep h2.regs (by unfold portBase; omega)).keep h3.regs (by unfold oPtStatus portBase; omega), ?_,
      by rw [h3.rxSeq, h2.rxSeq, hseq], by rw [h3.slots, h2.slots, hslots], fun _ => ⟨?_, by rw [h3.want, h2.want], by rw [h3.tries, h2.tries], ?_⟩,
      fun h => absurd hlt (Nat.not_lt.2 h), hO'⟩
    · rw [h3.regs _ (by unfold oPtStatus; omega), h2.regs _ (by omega), hcount]
    · rw [← hack]
      exact h2.requested.congr hO.tx hpos hjobs htxs h3.only.tx h3.jobs
    · rw [h3.lock, h2.lock, hlock, Bool.true_and, ← decide_not, h2.crcRun, hrun]
      exact decide_eq_decide.2 Nat.not_le
  · rw [askReplay_gives_up (by rw [hif, htries]; exact Nat.not_lt.1 hlt)] at he
    obtain ⟨g1, g2, -, g3, g4⟩ := enterRecovery_frame a false w
    generalize enterRecovery a false w = q at g1 g2 g3 g4 he
    have h3 := loseLockIf_keeps (8 ≤ (linkOf q a).crcRun) a q
    rw [← he] at h3
    have hO' : Only [.regs, .links, .meter] s t := hO.trans ((g4.mono (by simp)).trans (h3.only.mono (by simp)))
    refine ⟨(h1.caused.keep g3 (by unfold oPtStatus portBase; omega)).keep h3.regs (by unfold oPtStatus portBase; omega), ?_,
      by rw [h3.rxSeq, g2]; exact hseq, by rw [h3.slots, g2]; exact hslots, fun h => absurd h hlt, fun _ => ⟨hO'.tx, h3.state.trans g1⟩,
      hO'.mono (by simp)⟩
    rw [h3.regs _ (by unfold oPtStatus; omega), g3 _ (by unfold oPtStatus; omega), hcount]

/-! ### The slots of a flit (R285, R295) -/

theorem drainSlots_nil {n a : Nat} {s : State} (h : (linkOf s a).slots = []) : drainSlots n a s = s := by
  cases n with
  | zero => rfl
  | succ n => rw [drainSlots, h]

/-- A flit that is not the one asked for passes; any other ends the request. -/
theorem takeSlots_wanted {a : Nat} {q : BitVec 12} {l : List (BitVec 128)} {s : State}
    (h : (linkOf s a).want = none ∨ (linkOf s a).want = some q) :
    takeSlots a q l s =
      let u := setLink a (fun x => { x with want := none, tries := 0 }) s
      if q = (linkOf s a).rxSeq + 1 then drainSlots 32 a (setLink a (fun x => { x with rxSeq := q, slots := x.slots ++ l }) u)
      else if seqBehind (linkOf s a).rxSeq q < 2048 then u
      else askReplay a ((linkOf s a).rxSeq + 1) u := by
  unfold takeSlots
  refine if_neg ?_
  rcases h with h | h <;> rw [h] <;> simp

theorem msgLength_reserved {m : BitVec 128} (h : fld m 0 6 = 0x15) : msgLength m = 1 := by
  unfold msgLength
  rw [h]
  rfl

/-- A message with a reserved opcode is discarded (R409). -/
theorem takeMsg_reserved {a : Nat} {m : BitVec 128} {s : State} (h : fld m 0 6 = 0x15) (hp : rdf s oPwrStatus 0 3 = 0) :
    takeMsg a m [] s = raiseAt (if detached (received a 1 s) a then .detached else .proto) (a / 2) (received a 1 s) := by
  have hw : wakeStandby s = s := if_pos (by rw [hp]; decide)
  have ht : takeMsg a m [] s = protoMsg a m s := by
    unfold takeMsg
    rw [hw, h]
    rfl
  rw [ht]
  unfold protoMsg
  rw [h]
  dsimp only
  generalize received a 1 s = u
  cases detached u a <;> rfl

/-- A reserved opcode, alone in the slots received (R409). -/
theorem takeSlots_reserved {a : Nat} {q : BitVec 12} {m : BitVec 128} {s : State} (ha : a < 32) (hp : rdf s oPwrStatus 0 3 = 0)
    (hn : NoCounter s) (hw : (linkOf s a).want = none ∨ (linkOf s a).want = some q) (hq : q = (linkOf s a).rxSeq + 1)
    (hs : (linkOf s a).slots = []) (hm : fld m 0 6 = 0x15) : let t := takeSlots a q [m] s
    Caused t (if detached s a then .detached else .proto) (a / 2) ∧ (linkOf t a).rxSeq = q ∧ (linkOf t a).slots = [] ∧
      (linkOf t a).want = none ∧ Only [.regs, .links, .meter] s t := by
  intro t
  have hu : a / 2 < 32 := by omega
  have h1 := only_setLink a (fun x => { x with want := none, tries := 0 }) s
  have l1 := linkOf_setLink_same a (fun x => { x with want := none, tries := 0 }) s
  have he : t = drainSlots 32 a (setLink a (fun x => { x with rxSeq := q, slots := x.slots ++ [m] })
      (setLink a (fun x => { x with want := none, tries := 0 }) s)) := (takeSlots_wanted hw).trans (if_pos hq)
  generalize setLink a (fun x => { x with want := none, tries := 0 }) s = u at h1 l1 he
  have h2 := only_setLink a (fun x => { x with rxSeq := q, slots := x.slots ++ [m] }) u
  have l2 := linkOf_setLink_same a (fun x => { x with rxSeq := q, slots := x.slots ++ [m] }) u
  generalize setLink a (fun x => { x with rxSeq := q, slots := x.slots ++ [m] }) u = v at h2 l2 he
  have hv : (linkOf v a).slots = [m] := by rw [l2, l1, hs]; rfl
  have hd : drainSlots 32 a v = drainSlots 31 a (takeMsg a m [] (setLink a (fun x => { x with slots := [] }) v)) := by
    rw [drainSlots, hv]
    dsimp only
    rw [msgLength_reserved hm]
    rfl
  rw [hd] at he
  have h3 := only_setLink a (fun x => { x with slots := [] }) v
  have l3 := linkOf_setLink_same a (fun x => { x with slots := [] }) v
  generalize setLink a (fun x => { x with slots := [] }) v = w at h3 l3 he
  have hO : Only [.links] s w := h1.trans (h2.trans h3)
  rw [takeMsg_reserved hm ((rdf_congr hO.regs _ _ _).trans hp)] at he
  have h4 := only_received (noCounter_of hn hO) a 1
  generalize received a 1 w = x at h4 he
  have hlx : linkOf x a = linkOf w a := linkOf_congr h4.links a
  have hdet : detached x a = detached s a := by rw [detached, hlx, l3, l2, l1, detached]
  rw [hdet] at he
  have h5 : Only [.regs] x (raiseAt (if detached s a then .detached else .proto) (a / 2) x) :=
    only_raise_regs (by cases detached s a <;> decide) _ _ _
  have c5 : Caused (raiseAt (if detached s a then .detached else .proto) (a / 2) x) (if detached s a then .detached else .proto) (a / 2) :=
    caused_raise _ hu PsRec.none x
  generalize raiseAt (if detached s a then .detached else .proto) (a / 2) x = y at h5 c5 he
  have hly : linkOf y a = linkOf w a := (linkOf_congr h5.links a).trans hlx
  rw [drainSlots_nil (by rw [hly, l3])] at he
  clear_value t
  subst he
  exact ⟨c5, by rw [hly, l3, l2], by rw [hly, l3], by rw [hly, l3, l2, l1],
    (hO.mono (by simp)).trans ((h4.mono (by simp)).trans (h5.mono (by simp)))⟩

/-- A flit out of order: one delivered before is dropped, a gap is asked for again. -/
theorem takeSlots_disordered {a : Nat} {q : BitVec 12} {l : List (BitVec 128)} {s : State}
    (hw : (linkOf s a).want = none ∨ (linkOf s a).want = some q) (hq : q ≠ (linkOf s a).rxSeq + 1) :
    let t := takeSlots a q l s
    (seqBehind (linkOf s a).rxSeq q < 2048 → (linkOf t a).rxSeq = (linkOf s a).rxSeq ∧ (linkOf t a).slots = (linkOf s a).slots ∧
      Only [.links] s t) ∧
    (2048 ≤ seqBehind (linkOf s a).rxSeq q → rdf s (portBase (a / 2) + 0x18) 16 4 ≠ 0 →
      Requested s t a ((linkOf s a).rxSeq + 1) (linkOf s a).rxAck ∧ (linkOf t a).rxSeq = (linkOf s a).rxSeq ∧
      (linkOf t a).slots = (linkOf s a).slots ∧ (linkOf t a).want = some ((linkOf s a).rxSeq + 1) ∧
      Only [.regs, .links, .meter, .tx] s t) := by
  intro t
  have h1 := only_setLink a (fun x => { x with want := none, tries := 0 }) s
  have l1 := linkOf_setLink_same a (fun x => { x with want := none, tries := 0 }) s
  have he := (takeSlots_wanted (l := l) hw).trans (if_neg hq)
  refine ⟨fun hb => ?_, fun hb ht => ?_⟩
  · have he : t = _ := he.trans (if_pos hb)
    rw [he, l1]
    exact ⟨rfl, rfl, h1⟩
  · have he : t = _ := he.trans (if_neg (Nat.not_lt.2 hb))
    generalize setLink a (fun x => { x with want := none, tries := 0 }) s = u at h1 l1 he
    have hif : (if (linkOf u a).want = some ((linkOf s a).rxSeq + 1) then (linkOf u a).tries else 0) = 0 :=
      if_neg (by rw [l1]; exact fun h => by cases h)
    have h2 := askReplay_asks (a := a) (fr := (linkOf s a).rxSeq + 1) (s := u)
      (by rw [hif, rdf_congr h1.regs]; exact Nat.pos_of_ne_zero ht)
    rw [← he] at h2
    have hreq := h2.requested
    have hack : (linkOf u a).rxAck = (linkOf s a).rxAck := by rw [l1]
    rw [hack] at hreq
    exact ⟨hreq.congr h1.tx (by rw [l1]) (by rw [l1]) (by rw [l1]) rfl rfl, by rw [h2.rxSeq, l1], by rw [h2.slots, l1], h2.want,
      (h1.mono (by simp)).trans h2.only⟩

/-! ### The obligation -/

theorem flit_received {a : Nat} {raw : List Byte} {s : State} (ha : a < 32) (hrun : InRun s) (hz : zclUp s a = true)
    (hraw : raw.length = 256) :
    let k := linkOf s a
    let tries := rdf s (portBase (a / 2) + 0x18) 16 4
    let bs := (fecDecode raw).1
    let h := BitVec.ofNat 32 (byteField bs 0 4)
    let q := BitVec.ofNat 12 (fld h 0 12)
    let kept := k.replayBuf.filter (fun p => decide (2048 ≤ seqBehind (BitVec.ofNat 12 (fld h 12 12)) p.1))
    let failed := crcGood bs = false ∨ flitKind bs = .bad
    let asked := if k.want.isSome then k.tries else 0
    (k.lock = false →
      exec (.flitReceive a raw) s = .next (setLink a (fun l => { l with candidates := nextPosition l.candidates }) s)) ∧
    (k.lock = true → failed →
      ∃ t, exec (.flitReceive a raw) s = .next t ∧ Caused t .crcErr (a / 2) ∧
        rd t (portBase (a / 2) + 0x44) = satInc32 (rd s (portBase (a / 2) + 0x44)) ∧ (linkOf t a).rxSeq = k.rxSeq ∧
        (linkOf t a).slots = k.slots ∧
        (asked < tries → Requested s t a (k.want.getD (k.rxSeq + 1)) k.rxAck ∧
          (linkOf t a).want = some (k.want.getD (k.rxSeq + 1)) ∧ (linkOf t a).tries = asked + 1 ∧
          (linkOf t a).lock = decide (k.crcRun + 1 < 8)) ∧
        (tries ≤ asked → t.tx = s.tx ∧ linkState t a = 3) ∧ Only [.regs, .links, .meter, .tx] s t) ∧
    (k.lock = true → ¬ failed → flitKind bs = .idle →
      ∃ t, exec (.flitReceive a raw) s = .next t ∧ (linkOf t a).crcRun = 0 ∧ (linkOf t a).rxSeq = k.rxSeq ∧
        (linkOf t a).replayBuf = kept ∧
        (linkOf t a).cumSnp = (if fld h 26 2 = 2 then (k.cumSnp + fld h 28 4) % 2 ^ 16 else k.cumSnp) ∧
        Only [.regs, .links] s t) ∧
    (∀ fr, k.lock = true → ¬ failed → flitKind bs = .replay fr → (∀ j ∈ k.jobs, ∃ q l, j = .again q l) →
      ∃ t, exec (.flitReceive a raw) s = .next t ∧ Resent s t a (kept.dropWhile (fun p => decide (p.1 ≠ fr))) ∧
        (linkOf t a).replayBuf = kept ∧ Only [.regs, .links, .tx] s t) ∧
    (∀ m l, k.lock = true → ¬ failed → flitKind bs = .slots l → (k.want = none ∨ k.want = some q) →
      (q = k.rxSeq + 1 → k.slots = [] → l = [m] → fld m 0 6 = 0x15 →
        ∃ t, exec (.flitReceive a raw) s = .next t ∧
          Caused t (if detached s a then .detached else .proto) (a / 2) ∧ (linkOf t a).rxSeq = q ∧
          (linkOf t a).slots = [] ∧ (linkOf t a).want = none ∧ Only [.regs, .links, .meter] s t) ∧
      (q ≠ k.rxSeq + 1 → seqBehind k.rxSeq q < 2048 →
        ∃ t, exec (.flitReceive a raw) s = .next t ∧ (linkOf t a).rxSeq = k.rxSeq ∧ (linkOf t a).slots = k.slots ∧
          Only [.regs, .links] s t) ∧
      (q ≠ k.rxSeq + 1 → 2048 ≤ seqBehind k.rxSeq q → tries ≠ 0 →
        ∃ t, exec (.flitReceive a raw) s = .next t ∧ Requested s t a (k.rxSeq + 1) k.rxAck ∧
          (linkOf t a).rxSeq = k.rxSeq ∧ (linkOf t a).slots = k.slots ∧ (linkOf t a).want = some (k.rxSeq + 1) ∧
          Only [.regs, .links, .meter, .tx] s t)) := by
  intro k tries bs h q kept failed asked
  obtain ⟨hs, hp, -, hn⟩ := hrun
  have hgo : ∀ t, opFlitReceive a raw s = t → t.pending = s.pending → t.aon = s.aon → exec (.flitReceive a raw) s = .next t :=
    fun t => exec_live (f := opFlitReceive a raw) (decide_eq_true ha) hs
  have hheard := flitHeard ha (fecDecode raw).2 h s
  have hpass : k.lock = true → ¬ failed → opFlitReceive a raw s = flitBody a bs (flitTaken a h (countFec a (fecDecode raw).2 s)) :=
    fun hl hf => opFlitReceive_passed hz hraw hl hf
  generalize flitTaken a h (countFec a (fecDecode raw).2 s) = u at hheard hpass
  obtain ⟨⟨x, hx⟩, hreg, hcnt, hO⟩ := hheard
  have hbuf : (linkOf u a).replayBuf = kept := by rw [hx]; rfl
  have hpos : (linkOf u a).pos = k.pos := by rw [hx]; rfl
  have hack : (linkOf u a).rxAck = k.rxAck := by rw [hx]; rfl
  have hjobs : (linkOf u a).jobs = k.jobs := by rw [hx]; rfl
  have hseq : (linkOf u a).rxSeq = k.rxSeq := by rw [hx]; rfl
  have hslots : (linkOf u a).slots = k.slots := by rw [hx]; rfl
  have hwant : (linkOf u a).want = k.want := by rw [hx]; rfl
  have htxs : (linkOf u a).txSeq = k.txSeq := by rw [hx]; rfl
  refine ⟨fun hl => hgo _ (opFlitReceive_unlocked hz hraw hl) rfl rfl, fun hl hf => ?_, fun hl hf hkind => ?_, fun fr hl hf hkind hj => ?_,
    fun m l hl hf hkind hw => ⟨fun hq hsl hlm hm => ?_, fun hq hb => ?_, fun hq hb ht => ?_⟩⟩
  · obtain ⟨h1, h2, h3, h4, h5, h6, h7⟩ := crcFail_asks ha (countFec_counts ha (fecDecode raw).2 s) hl
    exact ⟨_, hgo _ (opFlitReceive_failed hz hraw hl hf) h7.pending h7.aon, h1, h2, h3, h4, h5, h6, h7⟩
  · have he : opFlitReceive a raw s = u := (hpass hl hf).trans (by rw [flitBody, hkind])
    exact ⟨u, hgo _ he hO.pending hO.aon, by rw [hx]; rfl, hseq, hbuf, by rw [hx]; rfl, hO⟩
  · have he : opFlitReceive a raw s = resend a fr u := (hpass hl hf).trans (by rw [flitBody, hkind])
    obtain ⟨h1, fl, h2, -⟩ := resend_sends (a := a) (fr := fr) (s := u) (by rw [hjobs]; exact hj)
    rw [hbuf] at h1
    generalize resend a fr u = t at he h1 h2
    have hO' : Only [.regs, .links, .tx] s t := (hO.mono (by simp)).trans (h2.only.mono (by simp))
    exact ⟨t, hgo _ he hO'.pending hO'.aon, h1.from hO.tx hpos hack, (Link.still_replayBuf h2.still).trans hbuf, hO'⟩
  · have he : opFlitReceive a raw s = takeSlots a q [m] u := (hpass hl hf).trans (by rw [flitBody, hkind, hlm])
    have hpu : rdf u oPwrStatus 0 3 = 0 := by
      rw [rdf, hreg _ (by unfold FecReg oPwrStatus portBase; omega)]
      exact hp
    have hdet : detached u a = detached s a := by rw [detached, hx, detached]; rfl
    obtain ⟨h1, h2, h3, h4, h5⟩ := takeSlots_reserved (a := a) (q := q) (m := m) ha hpu (hcnt hn) (by rw [hwant]; exact hw)
      (by rw [hseq]; exact hq) (by rw [hslots]; exact hsl) hm
    rw [hdet] at h1
    generalize takeSlots a q [m] u = t at he h1 h2 h3 h4 h5
    have hO' : Only [.regs, .links, .meter] s t := (hO.mono (by simp)).trans h5
    exact ⟨t, hgo _ he hO'.pending hO'.aon, h1, h2, h3, h4, hO'⟩
  · have he : opFlitReceive a raw s = takeSlots a q l u := (hpass hl hf).trans (by rw [flitBody, hkind])
    obtain ⟨h1, h2, h3⟩ := (takeSlots_disordered (a := a) (q := q) (l := l) (s := u) (by rw [hwant]; exact hw)
      (by rw [hseq]; exact hq)).1 (by rw [hseq]; exact hb)
    generalize takeSlots a q l u = t at he h1 h2 h3
    have hO' : Only [.regs, .links] s t := hO.trans (h3.mono (by simp))
    exact ⟨t, hgo _ he hO'.pending hO'.aon, h1.trans hseq, h2.trans hslots, hO'⟩
  · have he : opFlitReceive a raw s = takeSlots a q l u := (hpass hl hf).trans (by rw [flitBody, hkind])
    have htu : rdf u (portBase (a / 2) + 0x18) 16 4 ≠ 0 := by
      rw [rdf, hreg _ (by unfold FecReg; omega)]
      exact ht
    obtain ⟨h1, h2, h3, h4, h5⟩ := (takeSlots_disordered (a := a) (q := q) (l := l) (s := u) (by rw [hwant]; exact hw)
      (by rw [hseq]; exact hq)).2 (by rw [hseq]; exact hb) htu
    generalize takeSlots a q l u = t at he h1 h2 h3 h4 h5
    rw [hseq, hack] at h1
    rw [hseq] at h4
    have hO' : Only [.regs, .links, .meter, .tx] s t := (hO.mono (by simp)).trans h5
    exact ⟨t, hgo _ he hO'.pending hO'.aon, h1.congr hO.tx hpos hjobs htxs rfl rfl, h2.trans hseq, h3.trans hslots, h4, hO'⟩

/-- Settles O52: LOCK_TIMEOUT, REPLAY and its timeout, and FLIT_RECEIVE by what its checks and header say. -/
theorem flitsAndReplays : Obligations.FlitsAndReplays :=
  ⟨fun _ fr _ ha hs hst => ⟨lockTimeout_recovers ha hs hst, replay_resends ha hs hst fr, replay_counts ha hs hst fr,
    fun _ hz hw => replayTimeout_repeats ha hs hst hz hw⟩, fun _ _ _ ha hrun hz hraw => flit_received ha hrun hz hraw⟩

end Sys2Proof.Machine
end

end
